-- ==== Sys2Proof/Word.lean ====
section
/-! DEFINITION. The word types of the MX32 model. -/

namespace Sys2Proof

/-- One byte. -/
abbrev Byte := BitVec 8

/-- A 32-bit word of a window, a fuse word or an anti-fuse word. -/
abbrev Word32 := BitVec 32

/-- A channel CH00 to CH31 (R2). -/
abbrev Ch := Fin 32

/-- A pseudo-channel PC0 or PC1 (R2). -/
abbrev Pc := Fin 2

/-- A stack ID S0 to S3 (R5). -/
abbrev Sid := Fin 4

/-- A bank group G0 to G3 (00, "Stack organisation and capacity"). -/
abbrev Bg := Fin 4

/-- A bank B0 to B3 of a bank group (00, "Stack organisation and capacity"). -/
abbrev Ba := Fin 4

/-- A row address RA[14:0] (Table 3-1). -/
abbrev Row := BitVec 15

/-- A column C[3:0] (Table 3-3). -/
abbrev Col := BitVec 4

/-- A session slot (R357). -/
abbrev Slot := Fin 16

end Sys2Proof
end

