-- ==== Sys2Proof/Syntax.lean ====
section
/-! DEFINITION. The commands of the MX32: one constructor for each row of spec/opcode_table.json, with the row's
operands, and the types of those operands. -/

namespace Sys2Proof

/-- The two command buses (Tables 3-2, 3-3). -/
inductive Bus where
  | row | col
  deriving DecidableEq, Repr

/-- The two mailbox transports (13): the host role on IEEE 1500, the manager role on I2C. -/
inductive Transport where
  | host | manager
  deriving DecidableEq, Repr

/-- A rail of Table 12-1. -/
inductive Rail where
  | vdd | vddaon | vddpll | vddq | vddsb | vdd2 | vpp
  deriving DecidableEq, Repr

/-- The core whose watchdog expires (R342). -/
inductive Watchdog where
  | lanternAB | lanternC | lanternD
  deriving DecidableEq, Repr

/-- Raw bit errors of a margin read at the program-verify and at the erase-verify level, the worst of the pages read (R437, R438). -/
structure Margin where
  atProgram : Nat
  atErase : Nat
  deriving DecidableEq, Repr

/-- Where the loop's control voltage stands after a band search (R308). -/
inductive RailSide where
  | inRange | low | high
  | neighbourLow | neighbourHigh
  deriving DecidableEq, Repr

/-- How a command's bus cycles are sampled: they pass their parity check; they pass, and the bus's unused spare differs from
its parity lane in some of them (R39); they fail (R75); or the crossing of the command capture leaves its window (R100). -/
inductive Sampled where
  | good
  | spareMismatch (count : Nat)
  | badParity
  | slipped
  deriving DecidableEq, Repr

/-- The parity check of R75 fails. -/
def Sampled.fails (k : Sampled) : Bool := k == .badParity

/-- The content of a BL16 burst on one pseudo-channel (R95): data bit 32 b + n is DQ[n] in beat b, check bit 4 b + m is
ECC[m] in beat b, bit b of dpar is DPAR in beat b. -/
structure Burst where
  data : BitVec 512
  ecc : BitVec 64
  dpar : BitVec 16
  deriving DecidableEq, Repr

/-- What the outside world does to one access while a posted action fires: bits of the 576 that arrive flipped over the TSVs
(the 512 data bits below, the 64 check bits above; R538), bits of the 8 spare TSVs of the four UIs that arrive flipped (bit
8 u + k; R145), stored bits that the core die's array returns in error (R133), the on-die status and its UI that the die
reports where three or more bits of a codeword are in error (Table 5-8), a crossing outside its window (R100), LVI lanes
(training-lane index t) and TSVs (group and position) whose driver stayed in current limit (R345), and mismatches counted on
the unused spare lanes of the burst's groups (R39). -/
structure LineEnv where
  flips : BitVec 576
  spareFlips : BitVec 32 := 0
  cells : BitVec 576 := 0
  ods : BitVec 2
  odsUi : BitVec 2
  slip : Bool
  limited : List (Fin 39)
  tsvLimited : List (Fin 16 × Fin 18)
  spareMism : Nat
  deriving DecidableEq, Repr

/-- One sensor reading: two's complement in 0.02 degC units, the FAULT flag of Table 5-13 and whether the service bus
failed for the layer (R138). -/
structure Reading where
  value : BitVec 16
  fault : Bool
  busFail : Bool
  deriving DecidableEq, Repr

/-- An LVI bump that stage 1 tests (R189): a lane, numbered as Table 7-9 orders the lane records, CK, or the WDQS or RDQS of a
strobe group. -/
inductive Bump where
  | lane (k : Fin 100)
  | ck
  | wdqs (group : Fin 4)
  | rdqs (group : Fin 4)
  deriving DecidableEq, Repr

/-- What stage 1 measures at a bump (R189, R190), in mV: before the source is switched on, with it, twice more, and the least
distance to a neighbour that rises with it; in phase B whether its receiver saw the high and the low level; its settling
time in 0.25 us. -/
structure BumpReading where
  bump : Bump
  quiet : Nat
  first : Nat
  second : Nat
  third : Nat
  near : Nat
  high : Bool
  low : Bool
  settle : BitVec 6
  deriving DecidableEq, Repr

/-- What stages 3, 5, 6 and 7 find for a lane (R189): whether its delay lies within range with its eye edges found, eye width
in 1/256 UI, eye height in mV, and the codes of Table 7-10 at its centre. -/
structure LaneMeasure where
  lane : Fin 100
  found : Bool
  width : Byte
  height : Byte
  rx : BitVec 12
  tx : BitVec 12
  vref : BitVec 10
  ctle : BitVec 3
  dfe : BitVec 5
  deriving DecidableEq, Repr

/-- What a training stage measured (R189). Stage 1: the bumps it found other than plainly connected. Stage 2: the bumps that
received another lane's code, with it (R48), and the levels of WDQS and CK in the static phase (R49). Stage 4: by how much, in
1/64 tCK, the first WDQS edge of a strobe group missed WL, where it did. Stages 3, 5, 6 and 7: the lanes whose measures
are told; the others meet the stage's criterion. warmMet: a warm search met it within its range (R195). path: by how much, in
1/8 tCK, the measured read path of PC0 S0 to S3 and PC1 S0 to S3 exceeds its fixed stages (R104). -/
structure StageReport where
  bumps : List BumpReading := []
  codes : List (Fin 100 × Nat) := []
  wdqsInv : BitVec 4 := 0
  ckInv : Bool := false
  arrival : List (Fin 4 × Int) := []
  eyes : List LaneMeasure := []
  warmMet : Bool := true
  path : List Int := []
  deriving DecidableEq, Repr

/-- Early and late transitions of one lane in a 16 CK window (R197). -/
structure LaneCount where
  lane : Fin 100
  early : Nat
  late : Nat
  deriving DecidableEq, Repr

/-- The result of a re-centring pass for one lane (R204): targets in the codes of Table 7-10, the eye width in
1/256 UI and height in mV at the target. -/
structure EyeResult where
  lane : Fin 100
  rx : BitVec 12
  tx : BitVec 12
  vref : BitVec 10
  ctle : BitVec 3
  dfe : BitVec 5
  width : Byte
  height : Byte
  deriving DecidableEq, Repr

/-- The results of a re-centring pass: of lanes, and the RDQS transmit delays of strobe groups (R203, R204). -/
structure PassResults where
  lanes : List EyeResult := []
  rdqs : List (Fin 4 × BitVec 12) := []
  deriving DecidableEq, Repr

/-- The two moments of PROFILE_VERDICT: the test interval of a step ends; the reads of its rows are decoded (R239, R240). -/
inductive ProfileMoment where
  | intervalEnd
  | readsDecoded
  deriving DecidableEq, Repr

/-- What the counters of one TSV show (R216): its group and position, the SID, whether reads came early or late, the
transition spread in 1/256 UI, and whether the condition of R216 has lasted 1 ms. -/
structure TsvReport where
  group : Fin 16
  pos : Fin 19
  sid : Sid
  early : Bool
  late : Bool
  spread : Byte
  lasted : Bool
  deriving DecidableEq, Repr

/-- What a TSV calibration with loopback finds (R215): the narrowest eye, in 1/256 UI of the TSV data rate, of a data or
check column of a repair group; CA bits that a layer echoes otherwise than they were sent; a fault of a clock or ODS
column (R144). -/
inductive TsvFault where
  | column (ch : Ch) (group : Fin 16) (pos : Fin 18) (width : Byte)
  | echo (ch : Ch) (differs : BitVec 48)
  | shared (ch : Ch)
  deriving DecidableEq, Repr

/-- What the fuse controller senses of a word at the normal and at the tight margin (R459). -/
structure FuseSense where
  word : Fin 512
  normal : BitVec 39
  tight : BitVec 39
  deriving DecidableEq, Repr

/-- How a CAL_RUN run ends (R389): with the pseudo-channels that failed, the columns a TSV spare was assigned to and the
time in ms, or with results outside Table 7-6. -/
inductive CalRunResult where
  | finished (failed : BitVec 2) (spares : List (Fin 16 × Fin 18)) (elapsed : BitVec 16)
  | rejected
  deriving DecidableEq, Repr

/-- How a self-test ends (R408). -/
structure TestReport where
  nfail : Word32
  first : Word32
  progress : Word32
  elapsed : Word32
  deriving DecidableEq, Repr

/-- A register field write without a row of its own (R8). -/
inductive RegTarget where
  | trnCtl (ch : Ch) (word : Word32)
  | i2cCfg (byte : Byte)
  | altAddr (byte : Byte)
  | sdaHold (byte : Byte)
  | i2cStat (byte : Byte)
  | wickStat (t : Transport) (word : Word32)
  | requestWord (t : Transport) (index : Fin 256) (word : Word32)
  deriving DecidableEq, Repr

/-- What the FACTORY instruction is used for (R471, R510): program a raw fuse word, or read an entry of the trace
buffer. -/
inductive FactoryOp where
  | program (word : Fin 512) (bits : BitVec 39)
  | readFuse (word : Fin 512)
  | trace (ch : Ch) (index : Fin 256)
  deriving DecidableEq, Repr

/-- The commands: one constructor for each row of the opcode table. -/
inductive Instr where
  /-- ACT: ACT (Table 3-1). ok: how both cycles are sampled. -/
  | act (ch : Ch) (pc : Pc) (sid : Sid) (bg : Bg) (ba : Ba) (row : Row) (ok : Sampled)
  /-- PRE: PRE (Table 3-2). -/
  | pre (ch : Ch) (pc : Pc) (sid : Sid) (bg : Bg) (ba : Ba) (ok : Sampled)
  /-- PREA: PREA; all is the AS flag. -/
  | prea (ch : Ch) (pc : Pc) (sid : Sid) (all : Bool) (ok : Sampled)
  /-- REFAB: REFab. -/
  | refab (ch : Ch) (pc : Pc) (sid : Sid) (ok : Sampled)
  /-- REFPB: REFpb. -/
  | refpb (ch : Ch) (pc : Pc) (sid : Sid) (bg : Bg) (ba : Ba) (ok : Sampled)
  /-- RFM: RFM. -/
  | rfm (ch : Ch) (pc : Pc) (sid : Sid) (bg : Bg) (ba : Ba) (ok : Sampled)
  /-- PDE: PDE; pcs is PCS[1:0]. -/
  | pde (ch : Ch) (pcs : BitVec 2) (ok : Sampled)
  /-- PDX: PDX. -/
  | pdx (ch : Ch) (pcs : BitVec 2) (ok : Sampled)
  /-- SRE: SRE; managed is the MODE flag. -/
  | sre (ch : Ch) (managed : Bool) (ok : Sampled)
  /-- SRX: SRX. -/
  | srx (ch : Ch) (ok : Sampled)
  /-- NOP: A cycle of a bus whose OP[3:0] names no command of Tables 3-2 and 3-3: 1111b is NOP (R59), the reserved codes are a command error (R61). -/
  | nop (ch : Ch) (bus : Bus) (op : BitVec 4) (ok : Sampled)
  /-- RD: RD (Table 3-3). -/
  | rd (ch : Ch) (pc : Pc) (sid : Sid) (bg : Bg) (ba : Ba) (col : Col) (ok : Sampled)
  /-- RDA: RDA. -/
  | rda (ch : Ch) (pc : Pc) (sid : Sid) (bg : Bg) (ba : Ba) (col : Col) (ok : Sampled)
  /-- WR: WR with the burst the host drives at WL. -/
  | wr (ch : Ch) (pc : Pc) (sid : Sid) (bg : Bg) (ba : Ba) (col : Col) (burst : Burst) (ok : Sampled)
  /-- WRA: WRA. -/
  | wra (ch : Ch) (pc : Pc) (sid : Sid) (bg : Bg) (ba : Ba) (col : Col) (burst : Burst) (ok : Sampled)
  /-- RDT: RDT of training buffer tb. -/
  | rdt (ch : Ch) (pc : Pc) (tb : Fin 16) (ok : Sampled)
  /-- WRT: WRT; bits are 16 beats of lanes t = 0 to 38 (R192), bit 39 b + t. -/
  | wrt (ch : Ch) (pc : Pc) (tb : Fin 16) (bits : BitVec 624) (ok : Sampled)
  /-- MRR: MRR of register ma, data on pc. -/
  | mrr (ch : Ch) (pc : Pc) (ma : Fin 32) (ok : Sampled)
  /-- MRW: MRW of register ma. -/
  | mrw (ch : Ch) (ma : Fin 32) (value : BitVec 16) (ok : Sampled)
  /-- LMW: LMW; len is the LEN code. -/
  | lmw (ch : Ch) (len : BitVec 2) (ok : Sampled)
  /-- RESYNC: RESYNC. -/
  | resync (ch : Ch) (ok : Sampled)
  /-- BIN_REQ_WRITE: MRW of MR01 with BIN_REQ. -/
  | binReqWrite (ch : Ch) (bin : BitVec 2) (ok : Sampled)
  /-- MODE_PC_WRITE: MRW of MR02 with MODE_PC1, MODE_PC0. -/
  | modePcWrite (ch : Ch) (modes : BitVec 2) (ok : Sampled)
  /-- FILL_GO: MRW of MR02 with FILL_GO and FILL_PAT. -/
  | fillGo (ch : Ch) (go : BitVec 2) (pat : BitVec 4) (ok : Sampled)
  /-- ADAPT_EN_WRITE: MRW of MR04 with ADAPT_EN. -/
  | adaptEnWrite (ch : Ch) (en : Bool) (ok : Sampled)
  /-- QUIESCE_WRITE: MRW of MR08 with QUIESCE[1:0]. -/
  | quiesceWrite (ch : Ch) (bits : BitVec 2) (ok : Sampled)
  /-- ALERT_CAUSE_CLEAR: MRW of MR05; each bit written 1 is cleared. -/
  | alertCauseClear (ch : Ch) (mask : BitVec 10) (ok : Sampled)
  /-- SPARE_ERR: MRW of MR12 with SPARE_ERR. -/
  | spareErr (ch : Ch) (ok : Sampled)
  /-- SLIP: MRW of MR12 with SLIP. -/
  | slip (ch : Ch) (ok : Sampled)
  /-- DPAR_ERR: MRW of MR12 with DPAR_ERR. -/
  | dparErr (ch : Ch) (ok : Sampled)
  /-- CA_ERR: MRW of MR12 with CA_ERR. -/
  | caErr (ch : Ch) (ok : Sampled)
  /-- FORCE_HOLD: MRW of MR15 with FORCE_HOLD. -/
  | forceHold (ch : Ch) (on : Bool) (ok : Sampled)
  /-- PRECHARGE_TIMER_EXPIRY: The precharge timer of a bank expires (R155). -/
  | prechargeTimerExpiry (ch : Ch) (pc : Pc) (sid : Sid) (bg : Bg) (ba : Ba)
  /-- BIN_CHANGE: The stack-wide change of bin (R67). -/
  | binChange
  /-- ADAPT_CHANGE_APPLY: A pending change of ADAPT_EN is applied (R69). -/
  | adaptChangeApply (ch : Ch)
  /-- RESERVED_ROW_CLEAR_DONE: The clearing of the reserved rows ends (R117). -/
  | reservedRowClearDone (ch : Ch)
  /-- FILL_COMPLETE: A fill finishes (R112). -/
  | fillComplete (ch : Ch) (pc : Pc)
  /-- LMW_WINDOW_END: End of an LMW window (R87). -/
  | lmwWindowEnd (ch : Ch)
  /-- IDLE_GAP: The 64th idle CK of a pseudo-channel (R199). -/
  | idleGap (ch : Ch) (pc : Pc)
  /-- ISSUE: The thread tid of the Taper runs an ISSUE step (Table 6-2). -/
  | issue (ch : Ch) (tid : Nat)
  /-- ISSUEIF: ISSUEIF step. -/
  | issueif (ch : Ch) (tid : Nat)
  /-- SETCNT: SETCNT step. -/
  | setcnt (ch : Ch) (tid : Nat)
  /-- LOOP: LOOP step. -/
  | loop (ch : Ch) (tid : Nat)
  /-- CALL: CALL step. -/
  | call (ch : Ch) (tid : Nat)
  /-- RET: RET step. -/
  | ret (ch : Ch) (tid : Nat)
  /-- FETCH: FETCH step. -/
  | fetch (ch : Ch) (tid : Nat)
  /-- COUNT: COUNT step. -/
  | count (ch : Ch) (tid : Nat)
  /-- ALERT: ALERT step. -/
  | alert (ch : Ch) (tid : Nat)
  /-- REPORT: REPORT step. -/
  | report (ch : Ch) (tid : Nat)
  /-- STEP_NOP: NOP step. -/
  | stepNop (ch : Ch) (tid : Nat)
  /-- CALENDAR_ACTION: The oldest posted data-path action of the pseudo-channel fires (R156). -/
  | calendarAction (ch : Ch) (pc : Pc) (env : LineEnv)
  /-- TABLE_SWAP: An armed swap meets a boundary (R169). -/
  | tableSwap (ch : Ch)
  /-- OLD_BANK_DRAIN: The last thread on the old bank ends (R170). -/
  | oldBankDrain (ch : Ch)
  /-- TRANSFER_IMAGE_TAKE: The control plane takes the oldest transfer image (R17). -/
  | transferImageTake (ch : Ch)
  /-- LEASE_END: A lease reaches its set end (R164). -/
  | leaseEnd (ch : Ch) (tid : Nat)
  /-- TABLE_SCAN: The 10 ms read of the active bank finds corrected words and perhaps an uncorrectable one: steps by address,
  entry words from 1024 (R177). -/
  | tableScan (ch : Ch) (corrected : List (Fin 1088)) (bad : Option (Fin 1088))
  /-- TRN_GO: TRN_CTL write with GO (R183). -/
  | trnGo (ch : Ch) (word : Word32)
  /-- TRN_ABORT: TRN_CTL ABORT (R184). -/
  | trnAbort (ch : Ch)
  /-- TRN_FINISH: TRN_CTL FINISH (R185). -/
  | trnFinish (ch : Ch)
  /-- STAGE_COMPLETE: A training stage ends with what the PHY measured (R189). -/
  | stageComplete (ch : Ch) (rep : StageReport)
  /-- TRACKING_WINDOW: The end of a 16 CK tracking window with the early and late counts (R197). -/
  | trackingWindow (ch : Ch) (counts : List LaneCount)
  /-- CLAMP_MS: A lane stood at its tracking clamp for 1 ms (R198). -/
  | clampMs (ch : Ch) (lane : Fin 100)
  /-- LMW_DUE: More than 1 ms since the last pass (R201). -/
  | lmwDue (ch : Ch)
  /-- RECENTRING_PASS_COMPLETE: A pass has gathered its 120 cycles (R201). -/
  | recentringPassComplete (ch : Ch)
  /-- RECENTRING_RESULT: Lantern D checks the results of a pass, the RDQS transmit delays of strobe groups among them (R203,
  R204). -/
  | recentringResult (ch : Ch) (results : PassResults)
  /-- TX_SLEW_STEP: 16 CK of transmit-delay slew of a lane or, from 100, of the RDQS of a strobe group (R202). -/
  | txSlewStep (ch : Ch) (lane : Fin 104)
  /-- TSV_CAL_EVAL: The 1 ms TSV calibration thread (R216). -/
  | tsvCalEval (ch : Ch) (reports : List TsvReport)
  /-- TSV_SPARE_MOVE: A marginal TSV is moved to its spare (R217). -/
  | tsvSpareMove (ch : Ch) (group : Fin 16) (pos : Fin 18)
  /-- SERVICE_RESPONSE: A response frame arrives on a service bus (Table 5-12). -/
  | serviceResponse (bus : Fin 2) (frame : BitVec 48)
  /-- SERVICE_TIMEOUT: No response, or a bad one (R138). -/
  | serviceTimeout (bus : Fin 2)
  /-- TREFI_ACCRUAL: A 975 ns tick (R223). -/
  | trefiAccrual (ch : Ch) (pc : Pc) (sid : Sid)
  /-- INTERNAL_REF: An internal REF at tREFI (R251). -/
  | internalRef (ch : Ch) (pc : Pc) (sid : Sid)
  /-- SAMPLE_TICK: The 250 us tick with 64 base-die readings and 64 core-die readings, layer L sensor n at 4 L + n (R287). -/
  | sampleTick (base : List Reading) (core : List Reading)
  /-- PROFILE_BATCH_START: A profiling batch of bank-and-group indices starts (R239). -/
  | profileBatchStart (ch : Ch) (pc : Pc) (sid : Sid) (groups : List Nat)
  /-- PROFILE_VERDICT: The test interval of a profiling step ends, or its decoded reads give a verdict (R239, R240). -/
  | profileVerdict (ch : Ch) (pc : Pc) (moment : ProfileMoment)
  /-- DELTA_LOG_WRITE: The pending demotions become durable (R242). -/
  | deltaLogWrite (ch : Ch) (pc : Pc)
  /-- SNAPSHOT_GENERATION: A new map generation is written (R243). -/
  | snapshotGeneration
  /-- MAP_LOAD: Lantern C loads the retention maps at power-up (R244, R245). -/
  | mapLoad
  /-- DECODER_GAP_DECODE: A captured scrub or profiling read is decoded; reread is what the read after a write-back finds (R267). -/
  | decoderGapDecode (ch : Ch) (pc : Pc) (env : LineEnv) (reread : LineEnv) (leaseLow : Bool)
  /-- SCRUB_CREDIT: One row of scrub credit is earned (R268). -/
  | scrubCredit (ch : Ch) (pc : Pc)
  /-- SCRUB_OVERDUE: The lap passes twice its target (R268). -/
  | scrubOverdue (ch : Ch) (pc : Pc)
  /-- LEAK_INTERVAL: The end of a leak interval (R262). -/
  | leakInterval (ch : Ch) (pc : Pc)
  /-- REMAP_APPLY: A pending remap is applied (R273). -/
  | remapApply (ch : Ch) (pc : Pc) (entry : Fin 8)
  /-- ROW_COPY_TIMEOUT: 2 ms without a release (R273). -/
  | rowCopyTimeout (ch : Ch) (pc : Pc)
  /-- JOURNAL_REPLAY: The repair journal is replayed at power-up (R276); lost: a sequence number without a valid copy, the
  first such. -/
  | journalReplay (lost : Option Word32)
  /-- SRAM_SWEEP: The sweep of the SRAM (R281). -/
  | sramSweep (corrected : Nat) (bad : List Nat)
  /-- TRIP_LATCH_SET: A trip condition; sensors 0 to 63 base die, 64 + 4 L + n core dies; repeatOk: the repeat reading confirms (R296). -/
  | tripLatchSet (sensor : Fin 128) (reading : BitVec 16) (repeatOk : Bool)
  /-- TRIP_RECORD: The trip record (R297). -/
  | tripRecord
  /-- HISTOGRAM_SECOND: One second of the histograms (R302). -/
  | histogramSecond
  /-- HISTOGRAM_FOLD: The hourly fold (R303). -/
  | histogramFold
  /-- WICK_BAND_SEARCH: The counted VCO cycles of each band over 2 us and the rail the control voltage meets (R308). -/
  | wickBandSearch (counts : List Nat) (rail : RailSide)
  /-- BAND_FAIL_RETRY: 1 ms after a failed search (R308). -/
  | bandFailRetry
  /-- LOCK_DECLARED: LOCKCNT cycles within tLKW (R309). -/
  | lockDeclared
  /-- SYNC: A SYNC rising edge; inverted: in the window after the falling edge of the receiver (R52, R312). -/
  | sync (inverted : Bool)
  /-- SETUP_TIMEOUT: 100 ms in SETUP (R312). -/
  | setupTimeout
  /-- LOSS_OF_REFERENCE: R314. -/
  | lossOfReference
  /-- LOSS_OF_LOCK: R314. -/
  | lossOfLock
  /-- REFCK_RESTORED: 64 valid cycles (R318). -/
  | refckRestored
  /-- SPREAD_FOLLOWER_CONVERGED: R315. -/
  | spreadFollowerConverged (period : BitVec 16) (depth : BitVec 16)
  /-- HOLDOVER_LIMIT: tHOLD after the freeze (R319). -/
  | holdoverLimit
  /-- LINKHOLD_RC_MOVE: 1 ms in LINKHOLD (R323). -/
  | linkholdRcMove
  /-- RELOCK_COMPLETE: The channels have left core-die self-refresh (R320). -/
  | relockComplete
  /-- RAIL_GOOD: A power-good detector reports good (R326). -/
  | railGood (rail : Rail)
  /-- RAIL_LOST: A rail is lost (R329). -/
  | railLost (rail : Rail)
  /-- POR_RELEASE: 200 us after the last rail (R326). -/
  | porRelease
  /-- RESET_ASSERT: RESET_n low for widthNs so far (R327). -/
  | resetAssert (widthNs : Nat)
  /-- RESET_RELEASE: Release of stack reset, with the straps (R336, R488). -/
  | resetRelease (saddr : BitVec 2)
  /-- FUSE_SHADOW_LOAD: The sensed words that differ from what is blown (R459). -/
  | fuseShadowLoad (senses : List FuseSense)
  /-- OPTION_SHADOW_LOAD: R454. -/
  | optionShadowLoad
  /-- SRAM_FILL: R336. -/
  | sramFill
  /-- BOOT_VERIFY: The boot ROM's verdict on the two images (R343). -/
  | bootVerify (okA okB : Bool)
  /-- TABLE_LOAD: R179. -/
  | tableLoad
  /-- LAYER_DISCOVERY: R125. -/
  | layerDiscovery
  /-- TSV_TEST: The columns that fail the power-up test (R215). -/
  | tsvTest (faults : List TsvFault)
  /-- POWER_UP_FILL: R113. -/
  | powerUpFill
  /-- CHANNEL_READY: R336. -/
  | channelReady (ch : Ch)
  /-- WATCHDOG_EXPIRY: R342. -/
  | watchdogExpiry (core : Watchdog)
  /-- LOCKSTEP_DISAGREE: R12. -/
  | lockstepDisagree
  /-- FETCH_TRAP: R343. -/
  | fetchTrap
  /-- DATA_LOAD_ERROR: R280. -/
  | dataLoadError (address : BitVec 32)
  /-- MGMT_RESTART: R27. -/
  | mgmtRestart
  /-- WRAPPER_RESET: R339. -/
  | wrapperReset
  /-- TAP_RESET: R339. -/
  | tapReset
  /-- DOMAIN_WAKE: R332. -/
  | domainWake (group : Fin 8)
  /-- QUINCE_IDLE_OFF: R330. -/
  | quinceIdleOff
  /-- MBX_CLAIM: A read of MBX_CLAIM (R350). -/
  | mbxClaim (t : Transport)
  /-- CLAIM_EXPIRY: 500 ms after the grant (R350). -/
  | claimExpiry (t : Transport)
  /-- SUBMIT: Doorbell SUBMIT (R352). -/
  | submit (t : Transport) (tag : BitVec 16)
  /-- COLLECT: Doorbell COLLECT (R353). -/
  | collect (t : Transport) (tag : BitVec 16) (session : Byte)
  /-- RELEASE: Doorbell RELEASE (R353). -/
  | release (t : Transport) (tag : BitVec 16)
  /-- MGMT_RST_CLEAR: W1C of MGMT_RST (R349). -/
  | mgmtRstClear (t : Transport)
  /-- REGISTER_WRITE: A write of a register field without a row of its own (R8). -/
  | registerWrite (target : RegTarget)
  /-- LEASE_EXPIRY: R358. -/
  | leaseExpiry (slot : Slot)
  /-- CHALLENGE_EXPIRY: R370. -/
  | challengeExpiry (slot : Slot)
  /-- UNLOCK_LOCKOUT_END: R371. -/
  | unlockLockoutEnd (slot : Slot)
  /-- SERVICE_TURN_END: R362. -/
  | serviceTurnEnd (slot : Slot)
  /-- TELEMETRY_SNAPSHOT: R363. -/
  | telemetrySnapshot
  /-- ACTIVATION_RESET: R412. -/
  | activationReset
  /-- OPEN: The JMP command OPEN of the session in slot is served. -/
  | open_ (slot : Slot)
  /-- CLOSE: The JMP command CLOSE of the session in slot is served. -/
  | close (slot : Slot)
  /-- KEEPALIVE: The JMP command KEEPALIVE of the session in slot is served. -/
  | keepalive (slot : Slot)
  /-- ABORT: The JMP command ABORT of the session in slot is served. -/
  | abort (slot : Slot)
  /-- LIST: The JMP command LIST of the session in slot is served. -/
  | list (slot : Slot)
  /-- GET_ID: The JMP command GET_ID of the session in slot is served. -/
  | getId (slot : Slot)
  /-- GET_CONFIG: The JMP command GET_CONFIG of the session in slot is served. -/
  | getConfig (slot : Slot)
  /-- GET_CAPS: The JMP command GET_CAPS of the session in slot is served. -/
  | getCaps (slot : Slot)
  /-- GET_HEALTH: The JMP command GET_HEALTH of the session in slot is served. -/
  | getHealth (slot : Slot)
  /-- LEDGER_READ: The JMP command LEDGER_READ of the session in slot is served. -/
  | ledgerRead (slot : Slot)
  /-- LEDGER_MARK: The JMP command LEDGER_MARK of the session in slot is served. -/
  | ledgerMark (slot : Slot)
  /-- GET_THERMAL: The JMP command GET_THERMAL of the session in slot is served. -/
  | getThermal (slot : Slot)
  /-- THERMAL_CFG: The JMP command THERMAL_CFG of the session in slot is served. -/
  | thermalCfg (slot : Slot)
  /-- CAL_STATUS: The JMP command CAL_STATUS of the session in slot is served. -/
  | calStatus (slot : Slot)
  /-- CAL_SAVE: The JMP command CAL_SAVE of the session in slot is served. -/
  | calSave (slot : Slot)
  /-- CAL_RESTORE: The JMP command CAL_RESTORE of the session in slot is served. -/
  | calRestore (slot : Slot)
  /-- CAL_VIS_READ: The JMP command CAL_VIS OP 00h of the session in slot is served. -/
  | calVisRead (slot : Slot)
  /-- CAL_VIS_SET: The JMP command CAL_VIS OP 01h of the session in slot is served. -/
  | calVisSet (slot : Slot)
  /-- CAL_VIS_STORE: The JMP command CAL_VIS OP 02h of the session in slot is served. -/
  | calVisStore (slot : Slot)
  /-- CAL_RUN_MODE0: The JMP command CAL_RUN mode 0 of the session in slot is served. -/
  | calRunMode0 (slot : Slot)
  /-- CAL_RUN_MODE1: The JMP command CAL_RUN mode 1 of the session in slot is served. -/
  | calRunMode1 (slot : Slot)
  /-- CAL_RUN_MODE2: The JMP command CAL_RUN mode 2 of the session in slot is served. -/
  | calRunMode2 (slot : Slot)
  /-- CAL_RUN_END: The CAL_RUN mode 1 or 2 run that holds a pseudo-channel ends (R389). -/
  | calRunEnd (ch : Ch) (pc : Pc) (res : CalRunResult)
  /-- LANE_MAP: The JMP command LANE_MAP of the session in slot is served. -/
  | laneMap (slot : Slot)
  /-- RET_STATUS: The JMP command RET_STATUS of the session in slot is served. -/
  | retStatus (slot : Slot)
  /-- RET_PROFILE_READ: The JMP command RET_PROFILE OP 00h of the session in slot is served. -/
  | retProfileRead (slot : Slot)
  /-- RET_PROFILE_SET: The JMP command RET_PROFILE OP 01h of the session in slot is served. -/
  | retProfileSet (slot : Slot)
  /-- RET_MAP_EXPORT: The JMP command RET_MAP_EXPORT of the session in slot is served. -/
  | retMapExport (slot : Slot)
  /-- RET_MAP_IMPORT: The JMP command RET_MAP_IMPORT of the session in slot is served. -/
  | retMapImport (slot : Slot)
  /-- ADAPTIVE_REF_READ: The JMP command ADAPTIVE_REF OP 00h of the session in slot is served. -/
  | adaptiveRefRead (slot : Slot)
  /-- ADAPTIVE_REF_STORE: The JMP command ADAPTIVE_REF OP 01h of the session in slot is served. -/
  | adaptiveRefStore (slot : Slot)
  /-- RH_CFG_READ: The JMP command RH_CFG OP 00h of the session in slot is served. -/
  | rhCfgRead (slot : Slot)
  /-- RH_CFG_SET: The JMP command RH_CFG OP 01h of the session in slot is served. -/
  | rhCfgSet (slot : Slot)
  /-- ECC_MODE_READ: The JMP command ECC_MODE OP 00h of the session in slot is served. -/
  | eccModeRead (slot : Slot)
  /-- ECC_MODE_STORE: The JMP command ECC_MODE OP 01h of the session in slot is served. -/
  | eccModeStore (slot : Slot)
  /-- ECC_STATUS: The JMP command ECC_STATUS of the session in slot is served. -/
  | eccStatus (slot : Slot)
  /-- LEAKY_CFG: The JMP command LEAKY_CFG of the session in slot is served. -/
  | leakyCfg (slot : Slot)
  /-- SCRUB_CFG: The JMP command SCRUB_CFG of the session in slot is served. -/
  | scrubCfg (slot : Slot)
  /-- SCRUB_STATUS: The JMP command SCRUB_STATUS of the session in slot is served. -/
  | scrubStatus (slot : Slot)
  /-- ECC_INJECT_ARM: The JMP command ECC_INJECT with CANCEL 0 of the session in slot is served. -/
  | eccInjectArm (slot : Slot)
  /-- ECC_INJECT_CANCEL: The JMP command ECC_INJECT with CANCEL 1 of the session in slot is served. -/
  | eccInjectCancel (slot : Slot)
  /-- RAW_WRITE: The JMP command RAW_CHECK OP 00h of the session in slot is served (R282). -/
  | rawWrite (slot : Slot)
  /-- RAW_READ: RAW_CHECK OP 01h (R282). -/
  | rawRead (slot : Slot) (env : LineEnv)
  /-- REMAP_LIST: The JMP command REMAP_LIST of the session in slot is served. -/
  | remapList (slot : Slot)
  /-- REMAP_ADD: The JMP command REMAP_ADD of the session in slot is served. -/
  | remapAdd (slot : Slot)
  /-- REPAIR_PLAN: The JMP command REPAIR_PLAN of the session in slot is served. -/
  | repairPlan (slot : Slot)
  /-- REPAIR_COMMIT_ROW: REPAIR_COMMIT KIND 00h; failBits are the bits that do not program (R277, R279). -/
  | repairCommitRow (slot : Slot) (failBits : Word32)
  /-- REPAIR_COMMIT_LANE: REPAIR_COMMIT KIND 01h (R286). -/
  | repairCommitLane (slot : Slot)
  /-- REPAIR_COMMIT_TSV: REPAIR_COMMIT KIND 02h (R286). -/
  | repairCommitTsv (slot : Slot)
  /-- SPARES: The JMP command SPARES of the session in slot is served. -/
  | spares (slot : Slot)
  /-- SELFTEST_MARCH: The JMP command SELFTEST TEST 00h of the session in slot is served. -/
  | selftestMarch (slot : Slot)
  /-- SELFTEST_TSV_LOOPBACK: The JMP command SELFTEST TEST 01h of the session in slot is served. -/
  | selftestTsvLoopback (slot : Slot)
  /-- SELFTEST_DATAPATH_LOOPBACK: The JMP command SELFTEST TEST 02h of the session in slot is served. -/
  | selftestDatapathLoopback (slot : Slot)
  /-- SELFTEST_END: A self-test completes (R408). -/
  | selftestEnd (ch : Ch) (pc : Pc) (rep : TestReport)
  /-- TEST_END_ON_RELEASE: A test reaches its step boundary after the release of quiesce (R71). -/
  | testEndOnRelease (ch : Ch) (pc : Pc)
  /-- SELFTEST_RESULT: The JMP command SELFTEST_RESULT of the session in slot is served. -/
  | selftestResult (slot : Slot)
  /-- NV_READ: The JMP command NV_READ of the session in slot is served. -/
  | nvRead (slot : Slot)
  /-- NV_WRITE: The JMP command NV_WRITE of the session in slot is served. -/
  | nvWrite (slot : Slot)
  /-- FW_STAGE_IMAGE: The JMP command FW_STAGE KIND 00h of the session in slot is served. -/
  | fwStageImage (slot : Slot)
  /-- FW_STAGE_TABLE: The JMP command FW_STAGE KIND 01h of the session in slot is served. -/
  | fwStageTable (slot : Slot)
  /-- FW_ACTIVATE_IMAGE: FW_ACTIVATE KIND 00h (R412). -/
  | fwActivateImage (slot : Slot)
  /-- FW_ACTIVATE_TABLE: FW_ACTIVATE KIND 01h (R412). -/
  | fwActivateTable (slot : Slot)
  /-- FW_INFO: FW_INFO (R413). -/
  | fwInfo (slot : Slot)
  /-- FUSE_READ: FUSE_READ (R414). -/
  | fuseRead (slot : Slot)
  /-- FUSE_PROGRAM: FUSE_PROGRAM; failBits are the bits of a layer word that do not verify (R415, R473). -/
  | fuseProgram (slot : Slot) (failBits : Word32)
  /-- FUSE_LOCK_WRITE: FUSE_LOCK KIND 00h (R471). -/
  | fuseLockWrite (slot : Slot)
  /-- FUSE_LOCK_READ: FUSE_LOCK KIND 01h (R471). -/
  | fuseLockRead (slot : Slot)
  /-- FUSE_MARGIN: FUSE_MARGIN; sense is what the two margins read (R417). -/
  | fuseMargin (slot : Slot) (sense : FuseSense)
  /-- FUSE_WORD_PROGRAM: The fuse controller programs the next queued word; failBits are the bits that do not verify (R467). -/
  | fuseWordProgram (failBits : BitVec 39)
  /-- CLK_STATUS: CLK_STATUS (R418). -/
  | clkStatus (slot : Slot)
  /-- DITHER_SEED_READ: DITHER_SEED OP 00h (R419). -/
  | ditherSeedRead (slot : Slot)
  /-- DITHER_SEED_STORE: DITHER_SEED OP 01h (R419). -/
  | ditherSeedStore (slot : Slot)
  /-- EVENT_POLL: EVENT_POLL (R421). -/
  | eventPoll (slot : Slot)
  /-- EVENT_MASK: EVENT_MASK (R421). -/
  | eventMask (slot : Slot)
  /-- UNLOCK_CHALLENGE: UNLOCK_CHALLENGE (R370). -/
  | unlockChallenge (slot : Slot)
  /-- UNLOCK_RESPONSE: UNLOCK_RESPONSE (R370). -/
  | unlockResponse (slot : Slot)
  /-- QUINCE_OP_COMPLETE: The running Quince operation ends (R436, R438). -/
  | quinceOpComplete (ok : Bool) (pulses : Nat) (margin : Margin)
  /-- QUINCE_PATROL: A patrol margin read of a page of a physical main sector, from 255 of P0 to P7, from 263 of the option area's
  blocks (R438, R439); young: the data is less than one year old. -/
  | quincePatrol (sector : Fin 266) (corrected : Nat) (margin : Margin) (readable : Bool) (young : Bool)
  /-- WEAR_LEVEL: A wear-levelling move; cold: the 30-day swap (R443). -/
  | wearLevel (cold : Bool)
  /-- JOURNAL_COMPACT: R445. -/
  | journalCompact
  /-- LEDGER_PAGE_PROGRAM: R477. -/
  | ledgerPageProgram
  /-- LEDGER_SCAN: The power-up read of the ledger, with a gap it meets and whether a LIFE snapshot is valid (R479). -/
  | ledgerScan (lost : Option (Word32 × Word32)) (lifeValid : Bool)
  /-- POWER_HOURS_INCREMENT: R261. -/
  | powerHoursIncrement
  /-- I2C_ADDRESS: An address byte after START (R488). -/
  | i2cAddress (address : BitVec 7) (read : Bool)
  /-- I2C_POINTER_SET: Command byte 00h to 7Fh (R489). -/
  | i2cPointerSet (byte : BitVec 7)
  /-- I2C_BYTE_WRITE: A byte-register data byte (R493). -/
  | i2cByteWrite (byte : Byte)
  /-- WINDOW_OFFSET_SET: Command 80h with its two bytes (R492). -/
  | windowOffsetSet (offset : BitVec 16)
  /-- WINDOW_DATA: Window bytes after 80h or 81h; a read returns words (R492, R495). -/
  | windowData (read : Bool) (bytes : List Byte)
  /-- I2C_CLAIM: Command 82h with its requester byte (R492). -/
  | i2cClaim (requester : Byte)
  /-- INVALID_COMMAND_BYTE: Command byte 83h to FFh (R492). -/
  | invalidCommandByte (byte : Byte)
  /-- I2C_STOP: STOP; pec is the last byte of the last write segment where PEC is in use (R494, R502). -/
  | i2cStop (pec : Option Byte)
  /-- I2C_BUS_ERROR: R501. -/
  | i2cBusError
  /-- I2C_LOW_TIMEOUT: SCL or SDA low for tLTO (R498). -/
  | i2cLowTimeout (sda : Bool)
  /-- I2C_STRETCH_TIMEOUT: R497. -/
  | i2cStretchTimeout
  /-- I2C_SLEEP: R496. -/
  | i2cSleep
  /-- I2C_SWAP_DETECT: R503. -/
  | i2cSwapDetect
  /-- I2C_SWAP: R503. -/
  | i2cSwap
  /-- W1500_BYPASS: WIR BYPASS (R504). -/
  | w1500Bypass
  /-- DEVICE_ID: WIR DEVICE_ID (R504). -/
  | deviceId
  /-- EXTEST_RX: WIR EXTEST_RX with the static levels at the bumps (R508). -/
  | extestRx (levels : BitVec 3808)
  /-- EXTEST_TX: WIR EXTEST_TX with the cells of UpdateWR (R508). -/
  | extestTx (cells : BitVec 3808)
  /-- MBX_ACCESS: WIR MBX_ACCESS at UpdateWR (R505). -/
  | mbxAccess (wr : Bool) (offset : BitVec 16) (word : Word32)
  /-- LANE_REPAIR: WIR LANE_REPAIR at UpdateWR (R506). -/
  | laneRepair (wr : Bool) (ch : Ch) (unit : Fin 8) (word : Word32)
  /-- TEMP_READ: WIR TEMP_READ (R507). -/
  | tempRead
  /-- MBIST: WIR MBIST at UpdateWR (R509). -/
  | mbist (word : Word32)
  /-- FACTORY: WIR FACTORY (R510). -/
  | factory (op : FactoryOp)
  /-- TAP_EXTEST: TAP EXTEST (R511). -/
  | tapExtest
  /-- SAMPLE_PRELOAD: TAP SAMPLE/PRELOAD (R511). -/
  | samplePreload (cells : BitVec 24)
  /-- IDCODE: TAP IDCODE (R511). -/
  | idcode
  /-- HIGHZ: TAP HIGHZ (R511). -/
  | highz
  /-- CLAMP: TAP CLAMP (R511). -/
  | clamp
  /-- TAP_BYPASS: TAP BYPASS (R511). -/
  | tapBypass
  /-- ALL_SID_REFRESH_WINDOW_END: R199. -/
  | allSidRefreshWindowEnd (ch : Ch) (pc : Pc)
  /-- QUINCE_WAKE_COMPLETE: R334. -/
  | quinceWakeComplete
  deriving DecidableEq, Repr

end Sys2Proof
end

