-- ==== Sys2Proof/Decode.lean ====
section
/-! DEFINITION. The command that a word spells by the opcode table's bits: spec/opcode_table.json gives no row any bits,
so no word spells a command. The bus encodings of Tables 3-1 to 3-3, 5-5 to 5-7, 6-1 and 13-10 stand in
Machine/Operands.lean. -/

namespace Sys2Proof

/-- The command a table word spells: none, since the table gives its rows no bits. -/
def decodeTableWord (_nbits _w : Nat) : Option Instr := none

end Sys2Proof
end

