-- ==== Sys2Proof/Machine/Codec.lean ====
section
/-! DEFINITION. The codes of the manual: CRC-32C (R355), CRC-8 (R136), parity (R75, R76), the fuse words' extended
Hamming code (R456), the Reed-Solomon code of the Managed mode (R253 to R257), the PRBS sequences (R191, R192), and the
sparse word stores. -/

namespace Sys2Proof.Machine

/-- XOR of the low n bits of a bit vector: 1 for an odd number of ones (R75, R76). -/
def parityOf {w : Nat} (n : Nat) (v : BitVec w) : Bool :=
  (List.range n).foldl (fun acc i => Bool.xor acc (v.getLsbD i)) false

/-- Position of data bit n in the extended Hamming word of R456: the positions 1 to 38 that are not powers of two. -/
def fusePosition (n : Nat) : Nat :=
  if n < 1 then 3 else if n < 4 then n + 4 else if n < 11 then n + 5 else if n < 26 then n + 6 else n + 7

/-- The XOR of the data bits whose position has bit i set (R456). -/
def fuseCheckBit (w : Word32) (i : Nat) : Bool :=
  (List.range 32).foldl (fun acc n => Bool.xor acc (w.getLsbD n && (fusePosition n).testBit i)) false

/-- The 39-bit raw word of a 32-bit value: check bits C[6:0] above the data (R456). C[6] is the XOR of all 38 position
bits. -/
def fuseEncode (w : Word32) : BitVec 39 :=
  let c := (List.range 6).foldl (fun acc i => if fuseCheckBit w i then acc + 2 ^ i else acc) 0
  let ones := (List.range 32).foldl (fun acc n => Bool.xor acc (w.getLsbD n)) false
  let onesC := (List.range 6).foldl (fun acc i => Bool.xor acc (c.testBit i)) ones
  BitVec.ofNat 39 (w.toNat + (if onesC then c + 64 else c) * 2 ^ 32)

/-- One step of CRC-32C over a byte, reflected (R355). -/
def crc32cByte (crc : Word32) (b : Byte) : Word32 :=
  (List.range 8).foldl (fun c _ => if c.getLsbD 0 then (c >>> 1) ^^^ 0x82F63B78#32 else c >>> 1)
    (crc ^^^ b.setWidth 32)

/-- CRC-32C of a byte string (R355). -/
def crc32c (bytes : List Byte) : Word32 :=
  bytes.foldl crc32cByte 0xFFFFFFFF#32 ^^^ 0xFFFFFFFF#32

/-- The four bytes of a word, most significant first (R348). -/
def wordBytes (w : Word32) : List Byte :=
  [w.extractLsb' 24 8, w.extractLsb' 16 8, w.extractLsb' 8 8, w.extractLsb' 0 8]

/-- Insert or replace a word in a sparse store sorted by key. -/
def sparseInsert {w : Nat} (store : List (Nat × BitVec w)) (k : Nat) (v : BitVec w) : List (Nat × BitVec w) :=
  match store with
  | [] => [(k, v)]
  | e :: rest =>
    if e.1 < k then e :: sparseInsert rest k v else if e.1 = k then (k, v) :: rest else (k, v) :: e :: rest

/-- Store a word at a key of a sparse store sorted by key; storing 0 removes the entry. -/
def sparseSet {w : Nat} (store : List (Nat × BitVec w)) (k : Nat) (v : BitVec w) : List (Nat × BitVec w) :=
  if v = 0 then store.filter (fun e => e.1 != k) else sparseInsert store k v

/-- The value of a sparse word store at a key, 0 where nothing is listed. -/
def sparseGet {w : Nat} (store : List (Nat × BitVec w)) (k : Nat) : BitVec w :=
  match store.find? (fun e => e.1 == k) with
  | some e => e.2
  | none => 0

/-- The CRC word of an eFuse region over its other words in ascending order (R457). -/
def regionCrc (words : List (Nat × Word32)) (first last : Nat) : Word32 :=
  crc32c ((List.range (last - first)).flatMap (fun i => wordBytes (sparseGet words (first + i))))

/-- The word of a byte list, most significant byte first; missing bytes read 0 (R348). -/
def bytesToNat (bytes : List Byte) : Nat :=
  bytes.foldl (fun acc b => acc * 256 + b.toNat) 0

/-- n bytes of a number, most significant first (R348, R372). -/
def natBytes (n : Nat) (v : Nat) : List Byte :=
  (List.range n).map (fun i => BitVec.ofNat 8 (v / 256 ^ (n - 1 - i)))

/-- One step of CRC-8 over a byte: x^8 + x^2 + x + 1, MSB first (R136). -/
def crc8Byte (crc : Byte) (b : Byte) : Byte :=
  (List.range 8).foldl (fun c _ => if c.getLsbD 7 then (c <<< 1) ^^^ 0x07#8 else c <<< 1) (crc ^^^ b)

/-- CRC-8 of a byte string, initial value 00h (R136). -/
def crc8 (bytes : List Byte) : Byte :=
  bytes.foldl crc8Byte 0

/-- The number of positions whose check fails in a raw fuse word and the syndrome they form (R456). -/
def fuseSyndrome (raw : BitVec 39) : Nat :=
  (List.range 6).foldl (fun acc i =>
    if Bool.xor (fuseCheckBit (raw.setWidth 32) i) (raw.getLsbD (32 + i)) then acc + 2 ^ i else acc) 0

/-- The data bit of R456 at a codeword position, if the position holds one. -/
def fuseDataAt (p : Nat) : Option Nat :=
  (List.range 32).find? (fun n => fusePosition n == p)

/-- Decode a raw fuse word: the value with one bit in error corrected, none where it is uncorrectable (R456, R460). -/
def fuseDecode (raw : BitVec 39) : Option Word32 :=
  let s := fuseSyndrome raw
  let odd := parityOf 39 raw
  let data : Word32 := raw.setWidth 32
  if s = 0 then some data
  else if odd = false then none
  else match fuseDataAt s with
    | some n => some (data ^^^ (1#32 <<< n))
    | none => if s = 1 ∨ s = 2 ∨ s = 4 ∨ s = 8 ∨ s = 16 ∨ s = 32 then some data else none

/-! ## GF(2^8) and the Managed code (R254 to R256) -/

/-- Multiplication by α in GF(2^8) with x^8 + x^4 + x^3 + x^2 + 1 (R254). -/
def gfTimesX (a : Nat) : Nat :=
  if a < 128 then 2 * a else Nat.xor (2 * a - 256) 0x1D

/-- a times b in GF(2^8), by the bits of b from the highest (R254). -/
def gfMul (a b : Nat) : Nat :=
  [7, 6, 5, 4, 3, 2, 1, 0].foldl (fun acc i =>
    let d := gfTimesX acc
    if b.testBit i then Nat.xor d a else d) 0

/-- α to the power n (R254). -/
def gfExp : Nat → Nat
  | 0 => 1
  | n + 1 => gfTimesX (gfExp n)

/-- The generator's coefficients from x^0 to x^7: the product of x + α^j for j = 0 to 7 (R254). -/
def gfGenerator : List Nat :=
  let step := fun (g : List Nat) (j : Nat) =>
    let scaled := g.map (fun c => gfMul c (gfExp j))
    List.zipWith Nat.xor (0 :: g) (scaled ++ [0])
  ((List.range 8).foldl step [1]).take 8

/-- One division step of the encoder: the feedback of a data symbol against the eight remainders, P_0 first. -/
def gfDivide (rem : List Nat) (d : Nat) : List Nat :=
  let fb := Nat.xor d (rem.getLastD 0)
  List.zipWith Nat.xor (0 :: rem.take 7) (gfGenerator.map (fun g => gfMul fb g))

/-- The check symbols P_0 to P_7 of 64 data symbols, so that c(α^j) = 0 for j = 0 to 7 (R254). -/
def rsCheck (data : List Nat) : List Nat :=
  data.reverse.foldl gfDivide (List.replicate 8 0)

/-- Data symbol i of the 512 data bits: bit 2 u + e is data bit 128 u + 2 i + e (Table 9-1). -/
def dataSymbol (data : BitVec 512) (i : Nat) : Nat :=
  [3, 2, 1, 0].foldl (fun acc u => acc * 4 + (data.extractLsb' (128 * u + 2 * i) 2).toNat) 0

/-- Check symbol 64 + i of the 64 check bits: bit 2 u + e is check bit 16 u + 2 i + e (Table 9-1). -/
def checkSymbol (check : BitVec 64) (i : Nat) : Nat :=
  [3, 2, 1, 0].foldl (fun acc u => acc * 4 + (check.extractLsb' (16 * u + 2 * i) 2).toNat) 0

/-- The 64 check bits of eight check symbols (Table 9-1). -/
def checkBits (syms : List Nat) : BitVec 64 :=
  BitVec.ofNat 64 ((List.range 8).foldl (fun acc i =>
    (List.range 4).foldl (fun a u => a + ((syms.getD i 0 / 4 ^ u) % 4) * 2 ^ (16 * u + 2 * i)) acc) 0)

/-- The bits of data symbol i as a 512-bit mask, to repair it (Table 9-1). -/
def symbolMask (i e : Nat) : BitVec 512 :=
  BitVec.ofNat 512 ((List.range 4).foldl (fun a u => a + ((e / 4 ^ u) % 4) * 2 ^ (128 * u + 2 * i)) 0)

/-- The check field the MX32 computes from 512 data bits (R254). -/
def encodeCheck (data : BitVec 512) : BitVec 64 :=
  checkBits (rsCheck ((List.range 64).map (dataSymbol data)))

/-- The poison mask of Table 9-2. -/
def poisonMask : List Nat := [0x96, 0x2D, 0x5C, 0xE1, 0x3A, 0x87, 0xC4, 0x79]

/-- The never-filled mask of Table 9-2. -/
def neverFilledMask : List Nat := [0x4E, 0xB3, 0x19, 0xD6, 0x72, 0x0B, 0xA8, 0x65]

/-- The code polynomial's symbols in ascending power: P_0 to P_7, then D_0 to D_63 (R254). -/
def codeword (data : BitVec 512) (check : BitVec 64) : List Nat :=
  (List.range 8).map (checkSymbol check) ++ (List.range 64).map (dataSymbol data)

/-- The value of a symbol list as a polynomial at α^j (R256). -/
def evalAt (symbols : List Nat) (j : Nat) : Nat :=
  symbols.reverse.foldl (fun acc s => Nat.xor (gfMul acc (gfExp j)) s) 0

/-- The eight syndromes (R256). -/
def syndromes (symbols : List Nat) : List Nat :=
  (List.range 8).map (evalAt symbols)

/-- The single-symbol error that gives these syndromes: its power and its value (R256). -/
def singleError (s : List Nat) : Option (Nat × Nat) :=
  let e := s.getD 0 0
  if e = 0 then none
  else
    (List.range 72).findSome? (fun p =>
      if (List.range 8).all (fun j => s.getD j 0 == gfMul e (gfExp ((j * p) % 255))) then some (p, e) else none)

/-- Severity codes (Table 4-4). -/
inductive Severity where
  | clean | corrected | poison | neverFilled
  deriving DecidableEq, Repr

/-- SEV[3:0] of a severity (Table 4-4). -/
def Severity.code : Severity → BitVec 4
  | .clean => 0b0101#4
  | .corrected => 0b0110#4
  | .poison => 0b1010#4
  | .neverFilled => 0b1001#4

/-- What the decoder of R256 says of an access: its severity, the SYMIDX of a corrected symbol, whether a symbol error
was met (a masked class keeps its class, R256), whether the decode was uncorrectable. -/
structure Decoded where
  sev : Severity
  symidx : Nat
  data : BitVec 512
  symErr : Bool
  ue : Bool
  deriving DecidableEq, Repr

/-- SYMIDX of a power of the codeword polynomial: check symbols are 64 + i (R253, R254). -/
def symbolOf (p : Nat) : Nat := if p < 8 then 64 + p else p - 8

/-- The decoder of R256 in its order. -/
def decodeManaged (data : BitVec 512) (check : BitVec 64) : Decoded :=
  let s := syndromes (codeword data check)
  let sp := List.zipWith Nat.xor s (syndromes poisonMask)
  let sn := List.zipWith Nat.xor s (syndromes neverFilledMask)
  if s.all (· == 0) then ⟨.clean, 0, data, false, false⟩
  else if sp.all (· == 0) then ⟨.poison, 0, data, false, false⟩
  else if sn.all (· == 0) then ⟨.neverFilled, 0, 0, false, false⟩
  else match singleError s with
    | some (p, e) =>
      ⟨.corrected, symbolOf p, if p < 8 then data else data ^^^ symbolMask (p - 8) e, true, false⟩
    | none => match singleError sp with
      | some (p, e) => ⟨.poison, 0, if p < 8 then data else data ^^^ symbolMask (p - 8) e, true, false⟩
      | none => match singleError sn with
        | some _ => ⟨.neverFilled, 0, 0, true, false⟩
        | none => ⟨.poison, 0, data, false, true⟩

/-- The check field of a stored class: the computed one XOR its mask (R255). -/
def maskedCheck (data : BitVec 512) (mask : List Nat) : BitVec 64 :=
  encodeCheck data ^^^ checkBits mask

/-- The ECC lanes of a Managed read (Table 4-5): SEV in beats 0 to 7, SYMIDX in beats 8 and 9 with CORRECTED. -/
def managedEcc (sev : Severity) (symidx : Nat) : BitVec 64 :=
  let code := sev.code.toNat
  let idx := if sev = .corrected then symidx % 128 else 0
  BitVec.ofNat 64
    ((List.range 8).foldl (fun acc b => acc + code * 16 ^ b) 0 + (idx / 16) * 16 ^ 8 + (idx % 16) * 16 ^ 9)

/-- Even parity of beat b over DQ[31:0] and ECC[3:0] (R76). -/
def beatParity (data : BitVec 512) (ecc : BitVec 64) (b : Nat) : Bool :=
  Bool.xor (parityOf 32 (data.extractLsb' (32 * b) 32)) (parityOf 4 (ecc.extractLsb' (4 * b) 4))

/-- The 16 DPAR bits of a burst (R76). -/
def dparOf (data : BitVec 512) (ecc : BitVec 64) : BitVec 16 :=
  BitVec.ofNat 16 ((List.range 16).foldl (fun acc b => if beatParity data ecc b then acc + 2 ^ b else acc) 0)

/-- One bit of a Fibonacci sequence x^n + x^(n-1) + 1 (R191): the bit and the next state. -/
def prbsStep (n : Nat) (s : Nat) : Bool × Nat :=
  let b := Bool.xor (s.testBit (n - 1)) (s.testBit (n - 2))
  (b, (2 * s + (if b then 1 else 0)) % 2 ^ n)

/-- The state after k steps (R191). -/
def prbsState (n : Nat) : Nat → Nat → Nat
  | 0, s => s
  | k + 1, s => prbsState n k (prbsStep n s).2

/-- Bit k of the sequence from a state (R191). -/
def prbsBit (n k s : Nat) : Bool := (prbsStep n (prbsState n k s)).1

/-- Bit of beat b, lane t of training buffer k at reset (R192). -/
def bufferBit (k b t : Nat) : Bool :=
  if k = 0 then false
  else if k = 1 then b % 2 == 0
  else prbsBit 15 ((16 * k + b + 37 * t) % 32767) 0x7FFF

/-- The reset content of training buffer k, bit 39 b + t (R192). -/
def bufferReset (k : Nat) : BitVec 624 :=
  BitVec.ofNat 624 ((List.range 624).foldl (fun acc i => if bufferBit k (i / 39) (i % 39) then acc + 2 ^ i else acc) 0)

end Sys2Proof.Machine
end

