-- ==== Sys2Proof/Machine/Operands.lean ====
section
/-! DEFINITION. Operand forms: what the bits of a command bus cycle (Tables 3-1 to 3-3), of a core-die frame (Tables 5-5
to 5-7), of a service frame (Tables 5-11, 5-12) and of a Taper step (Tables 6-1, 6-7) say. -/

namespace Sys2Proof.Machine

/-- One CK cycle of a bus: rise bits, fall bits, parity bit (R55, R56). -/
structure BusCycle (w : Nat) where
  rise : BitVec w
  fall : BitVec w
  par : Bool
  deriving DecidableEq, Repr

/-- The parity check of a cycle passes: an even number of ones among the bus bits and the parity bit (R75). -/
def BusCycle.passes {w : Nat} (c : BusCycle w) : Bool :=
  !(Bool.xor (Bool.xor (parityOf w c.rise) (parityOf w c.fall)) c.par)

/-- How a command of cycles that pass or fail their parity check is sampled; a slip is no matter of the bits (R75, R100). -/
def sampledIf (passes : Bool) : Sampled := if passes then .good else .badParity

/-- A field of two bits as a number below four. -/
def field2 {w : Nat} (v : BitVec w) (lo : Nat) : Fin 4 := (v.extractLsb' lo 2).toFin

/-- A bit as a pseudo-channel. -/
def pcBit (b : Bool) : Pc := if b then 1 else 0

/-- The command of a row-bus cycle and, for ACT, the cycle after it (Tables 3-1, 3-2). Bits marked 0 are not decoded
(R59). -/
def decodeRow (ch : Ch) (c1 c2 : BusCycle 10) : Instr :=
  if c1.rise.getLsbD 0 = false then
    .act ch (pcBit (c1.rise.getLsbD 1)) (field2 c1.rise 2) (field2 c1.rise 4) (field2 c1.rise 6)
      (c1.rise.extractLsb' 8 2 ++ c1.fall ++ c2.rise.extractLsb' 0 3) (sampledIf (c1.passes && c2.passes))
  else
    let op := c1.rise.extractLsb' 1 4
    let pc := pcBit (c1.rise.getLsbD 5)
    let sid := field2 c1.rise 6
    let bg := field2 c1.rise 8
    let ba := field2 c1.fall 0
    let flag := c1.fall.getLsbD 2
    let pcs := c1.fall.extractLsb' 3 2
    match op.toNat with
    | 0 => .pre ch pc sid bg ba (sampledIf c1.passes)
    | 1 => .prea ch pc sid flag (sampledIf c1.passes)
    | 2 => .refab ch pc sid (sampledIf c1.passes)
    | 3 => .refpb ch pc sid bg ba (sampledIf c1.passes)
    | 4 => .rfm ch pc sid bg ba (sampledIf c1.passes)
    | 5 => .pde ch pcs (sampledIf c1.passes)
    | 6 => .pdx ch pcs (sampledIf c1.passes)
    | 7 => .sre ch flag (sampledIf c1.passes)
    | 8 => .srx ch (sampledIf c1.passes)
    | _ => .nop ch .row op (sampledIf c1.passes)

/-- The command of a column-bus cycle and, for MRW, the cycle after it (Table 3-3); burst and bits are what the host
drives at WL. -/
def decodeCol (ch : Ch) (c1 c2 : BusCycle 8) (burst : Burst) (bits : BitVec 624) : Instr :=
  let op := c1.rise.extractLsb' 0 4
  let pc := pcBit (c1.rise.getLsbD 4)
  let sid := field2 c1.rise 5
  let bg : Fin 4 := (c1.rise.extractLsb' 7 1 ++ c1.fall.extractLsb' 0 1).toFin
  let ba := field2 c1.fall 1
  let col : Col := c1.fall.extractLsb' 3 4
  let tb : Fin 16 := col.toFin
  let ma : Fin 32 := (c1.fall.extractLsb' 0 5).toFin
  match op.toNat with
  | 0 => .rd ch pc sid bg ba col (sampledIf c1.passes)
  | 1 => .rda ch pc sid bg ba col (sampledIf c1.passes)
  | 2 => .wr ch pc sid bg ba col burst (sampledIf c1.passes)
  | 3 => .wra ch pc sid bg ba col burst (sampledIf c1.passes)
  | 4 => .rdt ch pc tb (sampledIf c1.passes)
  | 5 => .wrt ch pc tb bits (sampledIf c1.passes)
  | 6 => .mrr ch pc ma (sampledIf c1.passes)
  | 7 => .mrw ch ma (c2.rise ++ c2.fall) (sampledIf (c1.passes && c2.passes))
  | 8 => .lmw ch (c1.fall.extractLsb' 0 2) (sampledIf c1.passes)
  | 9 => .resync ch (sampledIf c1.passes)
  | _ => .nop ch .col op (sampledIf c1.passes)

/-- CK cycles of an LMW window by its LEN code (Table 3-3). -/
def lmwLength (len : BitVec 2) : Nat := 32 * 2 ^ len.toNat

/-! ## Core-die command frames -/

/-- The bits of a SID, bank group or bank. -/
def bits2 (x : Fin 4) : BitVec 2 := BitVec.ofNat 2 x.val

/-- The bit of a pseudo-channel. -/
def bit1 (x : Pc) : BitVec 1 := BitVec.ofNat 1 x.val

/-- A column slot (Table 5-5): column, bank, bank group, SID, COP. -/
def columnSlot (col : Col) (ba : Ba) (bg : Bg) (sid : Sid) (cop : BitVec 2) : BitVec 12 :=
  col ++ bits2 ba ++ bits2 bg ++ bits2 sid ++ cop

/-- A row slot in a long form (Table 5-6): the code 10b ACT, 11b ROWREF, 01b GRPREF. -/
def rowSlot (code : BitVec 2) (pc : Pc) (sid : Sid) (bg : Bg) (ba : Ba) (row : Row) : BitVec 24 :=
  code ++ bit1 pc ++ bits2 sid ++ bits2 bg ++ bits2 ba ++ row

/-- A short command of the row slot (Table 5-7). -/
def shortCommand (sop : BitVec 3) (all : Bool) (arg : BitVec 7) : BitVec 11 :=
  sop ++ BitVec.ofBool all ++ arg

/-- The row slot of two short commands (Table 5-6). -/
def shortSlot (h1 h0 : BitVec 11) : BitVec 24 := 0#2 ++ h1 ++ h0

/-- The argument of a short PRE or PREA: PC, SID, BG, BA (Table 5-7). -/
def shortArg (pc : Pc) (sid : Sid) (bg : Bg) (ba : Ba) : BitVec 7 :=
  bit1 pc ++ bits2 sid ++ bits2 bg ++ bits2 ba

/-- A frame from its row slot and its two column slots (R126). -/
def frameOf (row : BitVec 24) (c1 c0 : BitVec 12) : BitVec 48 := row ++ c1 ++ c0

/-- A frame with a column slot of one pseudo-channel (R126). -/
def columnFrame (pc : Pc) (slot : BitVec 12) : BitVec 48 :=
  if pc = 0 then frameOf 0 0 slot else frameOf 0 slot 0

/-- The alignment frame: UI0 all ones, UI1 zero (05, "Command frames"). -/
def alignFrame : BitVec 48 := 0x000000FFFFFF#48

/-! ## Service-bus frames -/

/-- A service command frame with its CRC-8 (Table 5-11). -/
def serviceFrame (lid : Fin 16) (sop : BitVec 4) (addr wdata : BitVec 16) : BitVec 48 :=
  let body : BitVec 40 := BitVec.ofNat 4 lid.val ++ sop ++ addr ++ wdata
  body ++ crc8 (natBytes 5 body.toNat)

/-- The CRC-8 of a response frame holds (Table 5-12). -/
def responseCrcOk (f : BitVec 48) : Bool :=
  crc8 (natBytes 5 (f.extractLsb' 8 40).toNat) == f.extractLsb' 0 8

/-- Fields of a response frame (Table 5-12). -/
def responseLid (f : BitVec 48) : Fin 16 := (f.extractLsb' 44 4).toFin
@[inherit_doc responseLid] def responseStatus (f : BitVec 48) : Nat := (f.extractLsb' 40 4).toNat
@[inherit_doc responseLid] def responseData (f : BitVec 48) : Word32 := f.extractLsb' 8 32

/-- The spare index of an anti-fuse record (Table 5-19): c[2:0], PC, BG, BA, spare. -/
def spareIndex (ch : Ch) (pc : Pc) (bank : Fin 16) (spare : Fin 4) : Nat :=
  (ch.val % 8) * 128 + pc.val * 64 + bank.val * 4 + spare.val

/-! ## Taper words -/

/-- Fields of a step word (Table 6-1). -/
def stepOpc (w : BitVec 64) : Nat := (w.extractLsb' 58 6).toNat
@[inherit_doc stepOpc] def stepTcmd (w : BitVec 64) : BitVec 16 := w.extractLsb' 42 16
@[inherit_doc stepOpc] def stepDpc (w : BitVec 64) : BitVec 12 := w.extractLsb' 30 12
@[inherit_doc stepOpc] def stepWcnt (w : BitVec 64) : BitVec 12 := w.extractLsb' 18 12
@[inherit_doc stepOpc] def stepBcnd (w : BitVec 64) : Nat := (w.extractLsb' 14 4).toNat
@[inherit_doc stepOpc] def stepTgt (w : BitVec 64) : BitVec 10 := w.extractLsb' 4 10
@[inherit_doc stepOpc] def stepFlg (w : BitVec 64) : BitVec 4 := w.extractLsb' 0 4

/-- Fields of TCMD (Table 6-3). -/
def tcmdTop (t : BitVec 16) : Nat := (t.extractLsb' 12 4).toNat
@[inherit_doc tcmdTop] def tcmdAsrc (t : BitVec 16) : Nat := (t.extractLsb' 10 2).toNat
@[inherit_doc tcmdTop] def tcmdSlot (t : BitVec 16) : Nat := (t.extractLsb' 8 2).toNat
@[inherit_doc tcmdTop] def tcmdX (t : BitVec 16) : Bool := t.getLsbD 7
@[inherit_doc tcmdTop] def tcmdDly (t : BitVec 16) : Nat := (t.extractLsb' 0 6).toNat

/-- Fields of DPC (Table 6-4). -/
def dpcDop (d : BitVec 12) : Nat := (d.extractLsb' 8 4).toNat
@[inherit_doc dpcDop] def dpcPcsel (d : BitVec 12) : Nat := (d.extractLsb' 6 2).toNat

/-- A step that R154 treats as one with an uncorrectable table error: a reserved opcode, TOP or DOP code, or a field its
opcode does not use that is not 0: LOOP, CALL and RET test no condition, and RET has no target. -/
def stepReserved (w : BitVec 64) : Bool :=
  let opc := stepOpc w
  let t := stepTcmd w
  let usesIssue := opc == 1 || opc == 2
  decide (0x0B ≤ opc)
    || (usesIssue && (decide (0xC ≤ tcmdTop t) || tcmdSlot t == 3 || t.getLsbD 6 || decide (0xE ≤ dpcDop (stepDpc w))
        || (tcmdX t && !(tcmdTop t == 1 || tcmdTop t == 2 || tcmdTop t == 5 || tcmdTop t == 9 || tcmdTop t == 10))))
    || (!usesIssue && stepDpc w != 0)
    || ((opc == 0 || opc == 3 || opc == 4 || opc == 5 || opc == 6) && t != 0)
    || ((opc == 4 || opc == 5 || opc == 6) && stepBcnd w != 0)
    || (opc == 6 && stepTgt w != 0)
    || (opc == 7 && (t &&& 0xF3FF#16) != 0)
    || ((opc == 8 || opc == 10) && (t &&& 0xFF00#16) != 0)
    || (opc == 9 && (t &&& 0xFFF0#16) != 0)

/-- Fields of an entry-point word (Table 6-7). -/
def entryValid (w : BitVec 16) : Bool := w.getLsbD 15
@[inherit_doc entryValid] def entryClass (w : BitVec 16) : Nat := (w.extractLsb' 13 2).toNat
@[inherit_doc entryValid] def entryAddr (w : BitVec 16) : BitVec 10 := w.extractLsb' 0 10

/-! ## Mailbox address words -/

/-- Fields of an ADDR word (Table 14-1): CH, PC, SID, bank, row, column. -/
def addrCh (w : Word32) : Ch := (w.extractLsb' 27 5).toFin
@[inherit_doc addrCh] def addrPc (w : Word32) : Pc := (w.extractLsb' 26 1).toFin
@[inherit_doc addrCh] def addrSid (w : Word32) : Sid := (w.extractLsb' 24 2).toFin
@[inherit_doc addrCh] def addrBank (w : Word32) : Fin 16 := (w.extractLsb' 20 4).toFin
@[inherit_doc addrCh] def addrRow (w : Word32) : Row := w.extractLsb' 5 15
@[inherit_doc addrCh] def addrCol (w : Word32) : Col := w.extractLsb' 1 4

end Sys2Proof.Machine
end

