-- ==== Sys2Proof/Config.lean ====
section
/-! DEFINITION. What the manual leaves open for the MX32: values without a body. Nothing in Lean can evaluate them or
prove a value of them. -/

namespace Sys2Proof.Config

/-- The value of w bits that the n-th open choice of a run takes (assumption 2). The manual states no value: the
content of a cell never written (Table 4-8), the random nonce (R370), a page left indeterminate (R448). -/
opaque freeBits (w : Nat) (n : Nat) : BitVec w

/-- The content of a core-die byte that nothing has written since the epoch began (Table 4-8, assumption 3). -/
opaque freeCell (epoch : Nat) (address : Nat) : BitVec 8

/-- The units of REF capacity that a profiling step takes of one row: 0 a copy, 1 a restore, 2 a check. Table 8-5 places the
steps and gives no cost (assumption 115). -/
opaque profileUnits (kind : Nat) : Nat

/-- A snapshot generation that does not fit its slot is reduced in this group of a pseudo-channel: the manual gives neither the
compression nor the order (R243, assumption 117). -/
opaque snapshotReduced (generation unit group : Nat) : Bool

/-- The generator polynomial of the BCH code over GF(2^13), of degree 156: the manual names the field and what the code
corrects, and prints no polynomial (R426, assumption 123). -/
opaque bchGenerator : BitVec 157

/-- Area code and write sequence in the metadata of a page, by logical page (Table 15-2, assumption 123). -/
opaque areaCode (page : Nat) : BitVec 8
@[inherit_doc areaCode] opaque writeSequence (page : Nat) : BitVec 32

/-- The level at an SNS_ bump, which the board sets (R34, assumption 128). -/
opaque senseLevel (bump n : Nat) : BitVec 16

/-- The fine delay of an output of Wick, which the Trims words of the fuse shadow hold at places the manual does not give (R306,
Table 16-2, assumption 129). -/
opaque fineDelay (trims : List (BitVec 32)) (output : Nat) : BitVec 6

/-- The logical byte address at which the boot ROM enters an image of a version (R343, R431); the manual does not give the image's
layout (assumption 5). -/
opaque entryPoint (version : BitVec 32) : Nat

/-- A measured TSV trim of w bits: the n-th measurement's value of trim ix (R215; assumption 2). -/
opaque freeTrim (w : Nat) (n : Nat) (ix : Nat) : BitVec w

/-- The address in the entry-point word and the step word of the Baltil table of a TVER, where the manual does not print
them (Tables 6-11 and 6-12; assumption 5). -/
opaque tableEntry (tver : BitVec 16) (entry : Nat) : BitVec 10
@[inherit_doc tableEntry] opaque tableStep (tver : BitVec 16) (address : Nat) : BitVec 64

/-- SHA-384 of a byte string (R173, R370); the function is a standard one that the manual does not define
(assumption 4). -/
opaque sha384 (bytes : List (BitVec 8)) : List (BitVec 8)

/-- The verdict of the ECDSA P-384 check of a signature over a message with a key (R174, R370, R412; assumption 4). -/
opaque ecdsaVerify (key message signature : List (BitVec 8)) : Bool

/-- The Baltil public key of an index of KEYSEL, held in the boot ROM (Table 16-2, assumption 4). -/
opaque baltilKey (index : Nat) : List (BitVec 8)

/-- The version of the Dzixia release a stack is shipped with, which the manual leaves to a release notice (Table 19-8). -/
opaque shippedVersion : BitVec 32

/-- The version and the security version in the header of a Dzixia image; the manual does not give the image's layout
(R412, R413, assumption 5). -/
opaque imageVersion (bytes : List (BitVec 8)) : BitVec 32
@[inherit_doc imageVersion] opaque imageSvn (bytes : List (BitVec 8)) : Nat

/-- The execute-only ranges in the header of a Dzixia image, base and length in 4 KB units (R446; assumption 5). -/
opaque imageRanges (version : BitVec 32) : List (Nat × Nat)

/-- TVER of the Taper table a Dzixia image carries, by the image's version (R179, R180; assumption 5). -/
opaque imageTver (version : BitVec 32) : BitVec 16

end Sys2Proof.Config
end

