-- ==== Sys2Proof/Machine/State.lean ====
section
/-! DEFINITION. The state of the MX32: every register, buffer, counter, queue and store the manual gives it, as plain
data. A field's default is its value at reset; the docstring names the rule and, where the manual gives no value, the log
entry. -/

namespace Sys2Proof.Machine

/-! ## Core-die cells, banks and posted actions -/

/-- What a core-die byte that no command wrote since holds (Table 4-8): content nobody knows, of the epoch in which
it arose, or the fill pattern of Table 4-7 written in the mode at the fill. -/
inductive Background where
  | unwritten (epoch : Nat)
  | pattern (pat : BitVec 4) (managed : Bool)
  deriving DecidableEq, Repr

/-- The state of one bank as the fixed decoder keeps it (R60, R537): the open row and whether it can be served. -/
inductive BankPhase where
  | closed
  | opened (row : Row) (served : Bool)
  | closing (row : Row) (served : Bool)
  deriving DecidableEq, Repr

/-- One activation-tracker entry (R247): its number 0 to 31, the row, its count, whether it is queued at half threshold (R249), and which
neighbours the cursor has refreshed since the entry was set. -/
structure TrackEntry where
  slot : Nat
  row : Row
  count : Nat
  queued : Bool := false
  lowDone : Bool := false
  highDone : Bool := false
  deriving DecidableEq, Repr

/-- A posted RFM request of a bank (R249, Table 3-11): ACT_LEFT, the order of posting, the row of its entry. -/
structure RfmReq where
  left : Nat
  stamp : Nat
  row : Row
  deriving DecidableEq, Repr

/-- A row of owed refresh work (R129): its bank, and whether its refresh counts as the cursor's under the row's bin (R247). -/
structure OwedRow where
  bank : Fin 64
  row : Nat
  bin : Bool
  deriving DecidableEq, Repr

/-- One bank of a pseudo-channel and SID. -/
structure Bank where
  /-- open, closed or closing (R60, R537); reset closed -/
  phase : BankPhase := .closed
  /-- posted-precharge register (R155); reset empty -/
  postedPre : Bool := false
  /-- refresh cursor, the next row (R222); reset 0 DESIGN CHOICE, log 10 -/
  cursor : Nat := 0
  /-- windows completed since reset, w of Table 8-3 (R227); reset 0 -/
  window : Nat := 0
  /-- rows left of the lap in which every group is bin N (R229); reset one full window (power-up) -/
  blind : Nat := 24576
  /-- refresh debt in rows (R223); reset 0 (R186) -/
  debt : Int := 0
  /-- repayment credit in half rows (R236); reset 0 -/
  credit : Nat := 0
  /-- carried-over rows, the oldest first (R129, R237); reset none -/
  carried : List OwedRow := []
  /-- activation tracker, at most 32 entries (R247); reset empty -/
  tracker : List TrackEntry := []
  /-- posted RFM request, at most one (R249); reset none -/
  rfm : Option RfmReq := none
  /-- scrub cursor, the next row of the lap, the number of rows once it has passed the last (R266); reset 0 DESIGN CHOICE,
  log 10 -/
  scrubRow : Nat := 0
  deriving DecidableEq, Repr

/-- A burst in the read return FIFO or on the lanes (R97): data, ECC and DPAR lanes, and the two spare lanes (R39), bit 2 b + g
of beat b on DSPRg. -/
structure OutBurst where
  data : BitVec 512
  ecc : BitVec 64
  dpar : BitVec 16
  spare : BitVec 32
  deriving DecidableEq, Repr

/-- What the MX32 drives over a time: nothing; RDQS_t high and RDQS_c low in the static phase of stage 2 (R48); the maintenance
pattern with RDQS in the second half of an LMW window, which has this many CK cycles in all (R86, R191). -/
inductive LaneDrive where
  | idle
  | rdqsStatic
  | pattern (cycles : Nat)
  deriving DecidableEq, Repr

/-- A data-path action waiting in the calendar (R156): the chains of Table 6-4a as the steps post them, with the thread whose
step posted it where its status goes to one (R149). -/
inductive Posted where
  | read (sid : Sid) (bank : Fin 16) (row : Row) (col : Col) (owner : Option Nat)
  | unservable
  | decode
  | launch
  | modeRead (value : BitVec 16) (ext : List (BitVec 16))
  | bufRead (tb : Fin 16)
  | bufWrite (tb : Fin 16) (bits : BitVec 624)
  | write (sid : Sid) (bank : Fin 16) (row : Row) (col : Col) (burst : Burst) (served : Bool) (owner : Option Nat)
  | unload
  | commit (sid : Sid) (bank : Fin 16) (row : Row) (col : Col) (data : BitVec 512) (check : BitVec 64)
  | scrubRead (sid : Sid) (bank : Fin 16) (row : Row) (col : Col) (owner : Option Nat)
  | copyRead (sid : Sid) (bank : Fin 16) (row : Row) (owner : Option Nat)
  | copyWrite (sid : Sid) (bank : Fin 16) (row : Row)
  | maintenance
  | fillSource (sid : Sid) (bank : Fin 16) (row : Row) (col : Col)
  deriving DecidableEq, Repr

/-- The operation that holds the quiesce of a pseudo-channel (Table 14-5, R378). -/
inductive QuiesceOp where
  | fill
  | clearing
  | rowCopy (entry : Fin 8)
  | hardRepair (entry : Fin 8)
  | test (handle : BitVec 16)
  | calRun (mode : Nat) (slot : Slot) (seq : BitVec 16)
  deriving DecidableEq, Repr

/-- The states of a retention map (Table 8-7). -/
inductive MapState where
  | loaded | imported | fallback | disabled
  deriving DecidableEq, Repr

/-- A group of a profiling batch (R239): its map index, its copy rows 4 slot to 4 slot + 3, the rows copied so far, the rows
read so far after the test interval, the reads still to be decoded, the rows found in error. -/
structure ProfileGroup where
  index : Nat
  slot : Fin 16
  copied : Nat := 0
  read : Nat := 0
  awaited : Nat := 0
  bad : BitVec 4 := 0
  deriving DecidableEq, Repr

/-- A profiling batch (R239): its SID, the step 0 N, 1 S, 2 V, the groups in test, T0, and whether the test interval has
ended. -/
structure ProfileBatch where
  sid : Sid
  step : Nat
  groups : List ProfileGroup
  t0 : Int
  ended : Bool := false
  deriving DecidableEq, Repr

/-- A row to be rewritten from its profiling copy (R240, R241): bank and row, and the copy row 4 slot + r. -/
structure Restore where
  bank : Fin 64
  row : Nat
  copy : Fin 64
  deriving DecidableEq, Repr

/-- An access in TSV read capture (Table 4-1): its number, the 576 bits, the on-die status and its UI (Table 5-8), the thread
whose chain it is. -/
structure TsvRead where
  access : Nat
  data : BitVec 512
  check : BitVec 64
  ods : BitVec 2
  odsUi : BitVec 2
  owner : Option Nat
  deriving DecidableEq, Repr

/-- A read that waits for a decoder gap (R265): its access, whether it is the profiler's, the thread whose chain it is. -/
structure Captured where
  access : Nat
  profiling : Bool := false
  owner : Option Nat := none
  deriving DecidableEq, Repr

/-- A write burst in the write FIFOs of its two strobe groups, two entries of each (R97): its access, the lanes, whether its
row is served (R60), its thread. -/
structure WriteEntry where
  access : Nat
  burst : Burst
  served : Bool
  owner : Option Nat
  deriving DecidableEq, Repr

/-- An armed error injection (R283). -/
structure Inject where
  access : Option Nat
  write : Bool
  counted : Bool
  syms : List (Nat × Byte)
  deriving DecidableEq, Repr

/-- An access in write staging (Table 4-1, R103): the thread whose write it is (none for a write of the Baltil table, which is
whole in its command and its actions, log 5), its number, data and check bits, the DPAR verdict. -/
structure Staged where
  owner : Option Nat
  access : Nat
  data : BitVec 512
  check : BitVec 64
  verdict : Bool
  deriving DecidableEq, Repr

/-- A row of a bank that a core die serves from a spare (R141, R142): by a repair record, or by a soft mapping. -/
structure SpareMap where
  bank : Fin 64
  spare : Fin 4
  row : Row
  hard : Bool
  deriving DecidableEq, Repr

/-- The row held in the row-copy buffer for a remap or a hard repair (R273, R277): its 16 accesses as the core dies
store them. -/
structure RowCopy where
  entry : Fin 8
  cells : List (BitVec 512 × BitVec 64)
  deriving DecidableEq, Repr

/-- The error counters of Table 9-4 (R259); reset 0. -/
structure ErrCounters where
  ce : Nat := 0
  ue : Nat := 0
  poisonRd : Nat := 0
  nfRd : Nat := 0
  rsvRd : Nat := 0
  slip : Nat := 0
  odsCe : Nat := 0
  odsUe : Nat := 0
  inj : Nat := 0
  deriving DecidableEq, Repr

/-- The leaky bucket of a pseudo-channel (R260, R262). -/
structure Bucket where
  /-- count; reset 0 -/
  count : Nat := 0
  /-- leak exponent; reset 10 (R262) -/
  k : Nat := 10
  /-- threshold; reset 64 (R262) -/
  thr : Nat := 64
  /-- the last event added in this leak interval: access and SYMIDX (R260); reset none -/
  last : Option (Nat × Nat) := none
  deriving DecidableEq, Repr

/-- The scrubber's settings and figures of a pseudo-channel (R266 to R269, Table 9-5). -/
structure Scrub where
  /-- enabled; reset 1 DESIGN CHOICE, log 11 -/
  enable : Bool := true
  /-- lap target in hours; reset 24 (R268) -/
  target : Nat := 24
  /-- rows of credit, at most 64 (R268); reset 0 -/
  credit : Nat := 0
  /-- overdue flag (R268); reset 0 -/
  overdue : Bool := false
  /-- laps since reset; reset 0 -/
  laps : Nat := 0
  /-- rows done in the lap; reset 0 -/
  progress : Nat := 0
  /-- duration of the last lap in seconds; reset 0 -/
  lastLap : Nat := 0
  /-- timebase at the lap's begin, in us; while the lap clock stands, what it shows (R268); reset 0 -/
  lapStart : Nat := 0
  ceCur : Nat := 0
  ueCur : Nat := 0
  ceLast : Nat := 0
  ueLast : Nat := 0
  writebacks : Nat := 0
  hard : Nat := 0
  deferred : Nat := 0
  /-- column that the address generator hands out next to a step (Table 6-2, FETCH 10b); reset 0 -/
  col : Nat := 0
  /-- units of REF capacity that write-backs have cost and no refresh command has yet given (R266); reset 0 -/
  owedUnits : Nat := 0
  deriving DecidableEq, Repr

/-- One pseudo-channel: its data-path buffers, its core-die contents, its refresh and integrity state. -/
structure PseudoChannel where
  /-- the 64 banks, index 16 SID + 4 BG + BA -/
  banks : Vector Bank 64 := Vector.replicate 64 {}
  /-- core-die bytes written, in canonical form (R95, R130); reset nothing listed -/
  dram : List Host.Cell := []
  /-- what an unlisted byte of each SID holds (Table 4-8); reset never written -/
  back : Vector Background 4 := Vector.replicate 4 (.unwritten 0)
  /-- the same for the 16 reserved rows of S0 (R6) -/
  backRsv : Background := .unwritten 0
  /-- the same for the cells that no row reaches, at rows 32,764 and up of a bank: those of a spare that is not in use, or of
  the row that a spare replaces (R141, R142) -/
  backSpare : Background := .unwritten 0
  /-- rows that the layers serve from spares (R141, R142); reset none, the records apply at the dies' power-up -/
  spares : List SpareMap := []
  /-- soft-repair changes made in self-refresh, which take effect at SREF_EXIT (R139): set or clear; reset none -/
  sparesDue : List (Bool × SpareMap) := []
  /-- action calendar, oldest first (R156, 64 cycles); reset empty -/
  calendar : List Posted := []
  /-- write staging, at most 4 accesses (Table 4-1, R103); reset empty -/
  staging : List Staged := []
  /-- write FIFO, at most 8 bursts: 16 entries of each group (Table 4-1); reset empty -/
  writeFifo : List WriteEntry := []
  /-- TSV read capture of host reads, at most 8 accesses (Table 4-1); reset empty -/
  tsvCapture : List TsvRead := []
  /-- reads of the scrubber and the profiler that wait for a decoder gap, the oldest first (R265, R266); reset none -/
  captured : List Captured := []
  /-- read return FIFO, at most 32 accesses (Table 4-1); reset empty -/
  returns : List OutBurst := []
  /-- the last burst launched on the lanes; reset none -/
  lanes : Option OutBurst := none
  /-- what the MX32 holds on the lanes and on RDQS over a time (R48, R86); reset nothing -/
  drive : LaneDrive := .idle
  /-- the crossings of the write path and of the read path stand outside their window (R98, R100); reset 0 -/
  writeOutside : Bool := false
  readOutside : Bool := false
  /-- training buffers TB0 to TB15: bit 39 b + t (R192); the reset contents are set by the reset of R192 -/
  buffers : Vector (Option (BitVec 624)) 16 := Vector.replicate 16 none
  /-- MODE_PCn of MR02: 1 Managed (Table 3-7); reset option, 0 until the load (R9) -/
  managed : Bool := false
  /-- FILLED of MR02; reset 0 -/
  filled : Bool := false
  /-- FILL_BUSY of MR02; reset 0 -/
  fillBusy : Bool := false
  /-- pattern of the running fill; reset 0 -/
  fillPat : BitVec 4 := 0
  /-- PD_ACT of MR08; reset 0 -/
  powerDown : Bool := false
  /-- QACT of MR08; reset 0 -/
  qact : Bool := false
  /-- QUIESCE of MR08; reset 0 -/
  quiesce : Bool := false
  /-- a quiesce release held until the operation ends (R71, R115); reset 0 -/
  releaseHeld : Bool := false
  /-- RDY_PCn of MR16; reset 0 -/
  ready : Bool := false
  /-- FAIL_PCn of MR16; reset 0 -/
  failed : Bool := false
  /-- failed at the power-up TSV test (R144); reset 0 -/
  tsvFailed : Bool := false
  /-- the operation that holds the quiesce (R378); reset none -/
  op : Option QuiesceOp := none
  /-- 975 ns ticks of each SID since the obligation began (R223); reset 0 -/
  ticks : Vector Nat 4 := Vector.replicate 4 0
  /-- map state (Table 8-7); reset FALLBACK until the load (R244, log 12) -/
  mapState : MapState := .fallback
  /-- bin codes of groups that differ from N, keyed by map index (Table 8-3, R233); reset none -/
  bins : List (Nat × BitVec 2) := []
  /-- weak-row list, at most 8,192 entries of Table 8-4, sorted (R230); reset empty -/
  weak : List (BitVec 32) := []
  /-- profiling batch (R239); reset none -/
  batch : Option ProfileBatch := none
  /-- verdicts not yet durable (R242): a demotion or weak-row addition; reset 0 -/
  undurable : Bool := false
  /-- promotions not yet logged (R242); reset 0 -/
  promoted : Bool := false
  /-- groups that completed their sequence since the generation in use, each once (R245, R390); reset none -/
  profiled : List Nat := []
  /-- tracker entries spilled to rows L - 2 of S0, by bank (R252, Table 8-4a; the manual does not give their layout there);
  reset none -/
  spill : List (Fin 64 × List TrackEntry) := []
  /-- rows to be rewritten from profiling copies, the oldest first (R240, R241); reset none -/
  restores : List Restore := []
  /-- accesses of the map rows, and of the list rows from 1,536, whose read was uncorrectable (R234); reset none -/
  lostMap : List Nat := []
  bucket : Bucket := {}
  scrub : Scrub := {}
  errs : ErrCounters := {}
  /-- uncorrectable accesses of the current hour (R261); reset none -/
  ueNow : List Nat := []
  /-- tallies of the 23 hours before (R261); reset none -/
  ueHours : List Nat := []
  /-- accesses with corrected events and the timebase of the last, of the last 24 hours (R270); reset none -/
  ceSeen : List (Nat × Nat) := []
  /-- SYMIDX, row (access number over 16) and timebase of Managed corrections within the hour (R258); reset none -/
  symRows : List (Nat × Nat × Nat) := []
  /-- accesses whose stored content a RAW_CHECK or a write-path injection made, and its COUNT flag (Table 9-4); reset
  none -/
  injected : List (Nat × Bool) := []
  /-- the 8 remap entries (Table 9-6); reset free -/
  remap : Vector (BitVec 32) 8 := Vector.replicate 8 0
  /-- candidates held in SRAM, ADDR word and source (R270); reset none -/
  cands : List (BitVec 32 × BitVec 2) := []
  /-- spares marked bad, as spare index (R274); reset none -/
  badSpares : List Nat := []
  /-- row-copy buffer (R273); reset empty -/
  copy : Option RowCopy := none
  /-- armed injection (R283); reset none -/
  inject : Option Inject := none
  /-- echo data of LB_MODE 10b (Table 3-16a); reset none -/
  echo : Option (BitVec 512 × BitVec 64) := none
  /-- a gap for re-centring is open (R199): idle gap, all-SID window; reset 0 -/
  idleGap : Bool := false
  refWindow : Bool := false
  /-- SIDs within tRFCab of a REFab (Table 7-5); reset none -/
  inRefab : BitVec 4 := 0
  deriving DecidableEq, Repr

/-! ## Channel registers -/

/-- The mode registers of a channel, field by field (Tables 3-5 to 3-16a). Fields kept per pseudo-channel stand in
PseudoChannel. -/
structure ModeRegs where
  /-- BIN_REQ, 2 bits (Table 3-6); reset option, 0 until the load (R9) -/
  binReq : BitVec 2 := 0
  /-- BIN_DENIED (Table 3-6); reset 0 -/
  binDenied : Bool := false
  /-- FILL_PAT, 4 bits (Table 3-7); reset 0 -/
  fillPat : BitVec 4 := 0
  /-- ALERT_MASK, ALERT_EN, DPAR_EN, CAPAR_EN, 13 bits (Table 3-8); reset option, 0 until the load -/
  mr03 : BitVec 13 := 0
  /-- POST_LIM, 4 bits (Table 3-9); reset 8 -/
  postLim : BitVec 4 := 8
  /-- ADAPT_EN (Table 3-9); reset option, 0 until the load -/
  adaptEn : Bool := false
  /-- ADAPT_ACT (Table 3-9); reset option, 0 until the load -/
  adaptAct : Bool := false
  /-- the clearing of the reserved rows runs for this PC (R117); reset 0 -/
  clearing : BitVec 2 := 0
  /-- MR05 causes, 10 bits (Table 3-10); reset 0 -/
  causes : BitVec 10 := 0
  /-- TSNS_FAULT and TCODE of MR06 (Table 3-12); reset 0 and 100b -/
  tsnsFault : Bool := false
  tcode : BitVec 3 := 4
  /-- REFWIN_EN, IDLEGAP_EN (Table 3-13); reset option, 0 until the load -/
  policy : BitVec 2 := 0
  /-- LMW_DUE (Table 3-13); reset 0 -/
  lmwDue : Bool := false
  /-- SR_MODE: managed; SR_ACT (Table 3-14); reset 0 -/
  srManaged : Bool := false
  srAct : Bool := false
  /-- ERR_IDX, SEQ_CNT, 8 bits each (Table 3-15); reset 0 -/
  errIdx : BitVec 8 := 0
  seqCnt : BitVec 8 := 0
  /-- MR10, MR11, MR13, MR14, MR15 in lab mode (Table 3-16a); reset 0 -/
  mr10 : BitVec 16 := 0
  mr11 : BitVec 16 := 0
  mr13 : BitVec 16 := 0
  mr14 : BitVec 16 := 0
  mr15 : BitVec 16 := 0
  /-- the one-shot controls of MR12 that wait to act (Table 3-16a); reset 0 -/
  nextSpareErr : Bool := false
  nextSlip : Bool := false
  nextDparErr : Bool := false
  nextCaErr : Bool := false
  deriving DecidableEq, Repr

/-- Command intake of a channel. -/
structure Intake where
  /-- a discard is in force (R78); reset 0 -/
  discard : Bool := false
  /-- link hold discards commands (R84, R319); reset 0 -/
  held : Bool := false
  /-- the crossing of the command capture stands outside its window (R98, R100); reset 0 -/
  outside : Bool := false
  /-- consecutive CK cycles of column NOP, up to 8 (R80); reset 0 -/
  colNops : Nat := 0
  /-- the LMW window in force: its LEN code (R86); reset none -/
  lmw : Option (BitVec 2) := none
  /-- LMW half-window CK cycles gathered toward a pass (R201); reset 0 -/
  gathered : Nat := 0
  deriving DecidableEq, Repr

/-- The lane map of a channel (Tables 2-8, 2-9). Armed writes wait for the end of an LMW (R45). -/
structure LaneMap where
  /-- LMAP_SG of PC0-SG0, PC0-SG1, PC1-SG0, PC1-SG1, 32 bits each; reset 0, fuse fields after the load -/
  sg : Vector Word32 4 := Vector.replicate 4 0
  /-- LMAP_CA, 32 bits; reset 0, fuse fields after the load -/
  ca : Word32 := 0
  armedSg : Vector (Option Word32) 4 := Vector.replicate 4 none
  armedCa : Option Word32 := none
  /-- an LMW has been granted since the armed write of the register (R45); reset 0 -/
  grantedSg : Vector Bool 4 := Vector.replicate 4 false
  grantedCa : Bool := false
  deriving DecidableEq, Repr

/-- The trims and the calibration record of one lane (Table 7-10, R197 to R205). -/
structure Lane where
  /-- live receive delay, 12 bits; reset 0 (Table 7-10) -/
  live : BitVec 12 := 0
  /-- reference values: receive delay, transmit delay, Vref, CTLE, DFE; reset 0 (Table 7-10) -/
  refRx : BitVec 12 := 0
  refTx : BitVec 12 := 0
  refVref : BitVec 10 := 0
  refCtle : BitVec 3 := 0
  refDfe : BitVec 5 := 0
  /-- live transmit delay, Vref, CTLE, DFE; reset 0 -/
  liveTx : BitVec 12 := 0
  liveVref : BitVec 10 := 0
  liveCtle : BitVec 3 := 0
  liveDfe : BitVec 5 := 0
  /-- pending target (R20), discarded at a management-plane reset (R22); reset none -/
  pending : Option EyeResult := none
  /-- transmit target toward which the live value slews (R202); reset none -/
  txTarget : Option (BitVec 12) := none
  /-- net tracking steps since the capture of the pending target (R21); reset 0 -/
  net : Int := 0
  /-- net tracking steps since the last eye measurement was captured (R21, R201); reset 0 -/
  since : Int := 0
  /-- the last result, as the LANE_MARGINAL record holds it (R205); reset zeros DESIGN CHOICE, log 116 -/
  lastResult : List Byte := List.replicate 7 0
  /-- steps from the target last applied (R198); reset 0 -/
  drift : Int := 0
  /-- consecutive rejects (R205), 3 bits in the record; reset 0 -/
  rejects : Nat := 0
  /-- marked marginal (R205); reset 0 -/
  marginal : Bool := false
  /-- driver disabled (R345); reset 0 -/
  disabled : Bool := false
  /-- settling time, 6 bits (Table 7-10); reset 0 -/
  settle : BitVec 6 := 0
  /-- eye width and height of the last accepted pass (R386); reset 0 -/
  width : Byte := 0
  height : Byte := 0
  deriving DecidableEq, Repr

/-- The RDQS transmit delay of a strobe group (R202): live, pending target, and the target toward which it slews; its reference
stands in the group word (Table 7-9). -/
structure RdqsTrim where
  live : BitVec 12 := 0
  pending : Option (BitVec 12) := none
  target : Option (BitVec 12) := none
  deriving DecidableEq, Repr

/-- A training baseline of a channel (R208, R212): BIN, LMSIG, TCAP, the lane records, CKPH, OCC and group words of its section
(Table 7-9), and the open choice and the offsets of its TSV trims (R212). -/
structure Baseline where
  bin : BitVec 2
  lmsig : Word32
  tcap : BitVec 16
  lanes : List (BitVec 64)
  ckPhase : BitVec 16
  occ : List Byte
  groups : List (BitVec 64)
  measured : Vector (Option Nat) 2 := Vector.replicate 2 none
  tsv : List (Nat × Int)
  deriving DecidableEq, Repr

/-- Training control and status of a channel (Tables 7-1, 7-2). -/
structure Training where
  pcsel : BitVec 2 := 3
  warm : Bool := true
  stage : BitVec 3 := 0
  txeq : Vector (BitVec 3) 2 := Vector.replicate 2 0
  busy : Bool := false
  /-- the pseudo-channels the running stage acts on; reset none -/
  acting : BitVec 2 := 0
  done : Bool := false
  last : BitVec 3 := 0
  warmUsed : Bool := false
  resCa : BitVec 2 := 3
  resPc : Vector (BitVec 2) 2 := Vector.replicate 2 3
  aborted : Bool := false
  elapsed : BitVec 16 := 0
  /-- the result of each stage since power-up or change of bin: units CA, PC0, PC1 of stage n at index n (R183);
  reset 11b -/
  res : Vector (Vector (BitVec 2) 3) 8 := Vector.replicate 8 (Vector.replicate 3 3)
  /-- stages and units that failed and have not passed since (R185); reset none -/
  fails : List (Nat × Nat) := []
  /-- stage 7 has been passed since power-up or change of bin (R201), and since power-up (R210); reset 0 -/
  passed7 : Bool := false
  ever7 : Bool := false
  /-- timebase at which the running stage began, in us (Table 7-2 ELAPSED); reset 0 -/
  startAt : Nat := 0
  /-- bumps that stage 1 found failing (R41, Table 2-7); reset none -/
  failed1 : List (Fin 100) := []
  /-- groups whose assignment by training stage 2 has turned to the host's code (R51); reset none -/
  turned : BitVec 4 := 0
  /-- LMSIG of the lane map as stage 2 left it (R194); reset none -/
  lmsig : Option Word32 := none
  /-- stage 3 has been started since power-up or change of bin (R211); reset 0 -/
  started3 : Bool := false
  /-- the trims before the running stage, to which an abort returns (R184); reset none -/
  saved : Option (Vector Lane 100) := none
  /-- the baseline a CAL_RESTORE gave the channel (R194, R211); reset none -/
  restored : Option Baseline := none
  deriving DecidableEq, Repr

/-- The TSV side of a channel (R143, R214 to R217). -/
structure TsvPort where
  /-- spare of repair group g in use: the position it replaces (Table 5-18); reset none -/
  repair : Vector (Option (Fin 18)) 16 := Vector.replicate 16 none
  /-- the repair came from eFuse; reset 0 -/
  fused : BitVec 16 := 0
  /-- marked marginal: group and position, 18 the spare (R216); reset none -/
  marginal : List (Fin 16 × Fin 19) := []
  /-- a move in progress, one layer at a time (R217): group, position, the SIDs whose layers have switched, the newest first,
  and whether it is being undone; reset none -/
  move : Option (Fin 16 × Fin 18 × List Sid × Bool) := none
  /-- the open choice that numbers the trims of each pseudo-channel that its last full TSV calibration found (R215); reset
  none -/
  measured : Vector (Option Nat) 2 := Vector.replicate 2 none
  /-- codes by which fine delays and capture phases stand off what was measured, by trim index (Table 7-11, R216);
  reset none listed, 0 DESIGN CHOICE, log 13 -/
  trims : List (Nat × Int) := []
  /-- bit mismatches counted on spares (R145); reset 0 -/
  spareMism : Nat := 0
  /-- the last frame on the command group, F[47:0] (R126); reset 0 -/
  frame : BitVec 48 := 0
  /-- CKA and CKB run (R147); reset 0 -/
  clocks : Bool := false
  /-- SIDs whose core dies are in self-refresh (R146); reset none -/
  coreSr : BitVec 4 := 0
  /-- items of frames that the layer of each SID ignored for this channel (R127); reset 0 -/
  ignored : Vector Nat 4 := Vector.replicate 4 0
  /-- channel switched to native self-refresh for link hold or a change of bin (R322, R324); reset 0 -/
  switched : Bool := false
  deriving DecidableEq, Repr

/-! ## Taper -/

/-- A table bank (R158, R173, R177): words listed by address, 0 elsewhere; addresses whose word is uncorrectable. -/
structure TableBank where
  verified : Bool := false
  signed : Bool := false
  complete : Bool := false
  tver : BitVec 16 := 0
  /-- the table of the running image, whose words the manual gives only in Tables 6-11 and 6-12 (log 5); reset 0 -/
  baltil : Bool := false
  steps : List (Nat × BitVec 64) := []
  entries : List (Nat × BitVec 16) := []
  /-- words with an uncorrectable error and words with a single-bit error (R177): a step by its address, entry word n as
  1024 + n; reset none -/
  bad : List Nat := []
  single : List Nat := []
  deriving DecidableEq, Repr

/-- A class of Table 6-7. -/
inductive ThreadClass where
  | host | refresh | maintenance
  deriving DecidableEq, Repr

/-- A lease (R164): its banks as PC and bank index, whether it has a set end, whether it is low or revoked. -/
structure Lease where
  banks : List (Fin 2 × Fin 64)
  setEnd : Bool
  low : Bool := false
  revoked : Bool := false
  deriving DecidableEq, Repr

/-- The address a thread works on (R149). -/
structure ThreadAddr where
  pc : Pc
  sid : Sid
  bg : Bg
  ba : Ba
  row : Row
  col : Col
  deriving DecidableEq, Repr

/-- What a host thread's chains move besides the core dies' content (Table 6-4a): the burst of a WR, whether the row is
served (R60), the value of an MRR, the training buffer of RDT, and of WRT with its bits. -/
inductive HostData where
  | none
  | write (burst : Burst) (served : Bool)
  | mode (value : BitVec 16) (ext : List (BitVec 16))
  | readBuffer (tb : Fin 16)
  | writeBuffer (tb : Fin 16) (bits : BitVec 624)
  deriving DecidableEq, Repr

/-- A thread context (R149). -/
structure Thread where
  tid : Nat
  /-- the entry of Table 6-8 at which it started -/
  entry : Nat := 0
  cls : ThreadClass
  ptr : BitVec 10
  ret : BitVec 10 := 0
  loops : BitVec 12 := 0
  wait : BitVec 12 := 0
  addr : ThreadAddr
  ce : Bool := false
  ue : Bool := false
  ods : Bool := false
  empty : Bool := false
  late : Bool := false
  verdict : Option Bool := none
  lease : Option Lease := none
  opened : List (Fin 2 × Fin 64) := []
  oldBank : Bool := false
  /-- rows of owed refresh work, with their banks, that its steps have still to place (R129) -/
  owed : List OwedRow := []
  /-- what its host command brings -/
  data : HostData := .none
  /-- one of its steps has posted a chain (R178) -/
  chained : Bool := false
  /-- it has reported its work complete (R169) -/
  reported : Bool := false
  deriving DecidableEq, Repr

/-- The kinds of transfer image (R17). -/
inductive Transfer where
  | leaky (pc : Pc) (k thr : Nat)
  | scrub (pc : Pc) (enable : Bool) (target : Nat)
  | threshold (th : Nat)
  | inject (pc : Pc) (arm : Option Inject)
  | rawWrite (pc : Pc) (access : Nat) (data : BitVec 512) (check : BitVec 64)
  | rawRead (pc : Pc) (access : Nat)
  | test (pc : Pc) (handle : BitVec 16) (kind : BitVec 2) (sids : BitVec 4)
  | release (pc : Pc)
  | map (pc : Pc) (row : Nat) (bytes : List Byte)
  | mapDone (pc : Pc) (old : Option MapState)
  | calRun (pc : Pc) (mode : Nat)
  | copyRow (pc : Pc) (entry : Fin 8)
  deriving DecidableEq, Repr

/-- The Taper of a channel (06). -/
structure Taper where
  active : TableBank := {}
  shadow : TableBank := {}
  /-- a swap is armed (R169); reset 0 -/
  armed : Bool := false
  /-- the old bank drains (R170); reset 0 -/
  draining : Bool := false
  /-- threads alive, oldest first, at most 48 (R150); reset none -/
  threads : List Thread := []
  /-- number of the next thread; reset 0 -/
  nextTid : Nat := 0
  /-- the safe sequence of a trip has run: no thread starts (R161); reset 0 -/
  stopped : Bool := false
  /-- trace buffer of lab mode, at most 256 entries: step address, thread, cycle (R175); reset empty -/
  trace : List (BitVec 10 × Nat × Nat) := []
  /-- Taper cycles counted (R175): of each step its own cycle and the wait after it, and what passes besides, a free value
  at each trace entry (log 104); reset 0 -/
  cycles : Nat := 0
  /-- images whose write to the full transfer area is held, oldest first (R17); reset none -/
  held : List Transfer := []
  /-- transfer images waiting, oldest first, at most 16 (R17); reset none -/
  images : List (Nat × Transfer) := []
  /-- sequence number of the next image, and the last one taken (R17); reset 0 -/
  imageSeq : Nat := 0
  imageTaken : Nat := 0
  /-- result of the last raw access (R282); reset none -/
  rawDone : Bool := false
  /-- the last completion code of REPORT (Table 6-2); reset 0 -/
  reported : Byte := 0
  deriving DecidableEq, Repr

/-- The counters of the channel's counter and status bank that the rules name (R18; each saturates); reset 0. -/
structure ChanCounters where
  commands : Nat := 0
  parityErr : Nat := 0
  cmdErr : Nat := 0
  dparFail : Nat := 0
  slips : Nat := 0
  mrwIgnored : Nat := 0
  fillIgnored : Nat := 0
  bankWrites : Nat := 0
  leaseRefused : Nat := 0
  tableCe : Nat := 0
  tableUe : Nat := 0
  steps : Nat := 0
  rfmReqs : Nat := 0
  laneMism : Nat := 0
  goIgnored : Nat := 0
  trackSteps : Nat := 0
  echoMism : Nat := 0
  /-- counters by index: those of COUNT steps 0 to 255 (Table 6-2), TSV commands by TOP from 256 (Table 6-6), host commands by
  entry of Table 6-8 from 512 ("commands by type", 01) -/
  indexed : List (Nat × Nat) := []
  deriving DecidableEq, Repr

/-- One channel. -/
structure Channel where
  regs : ModeRegs := {}
  intake : Intake := {}
  pcs : Vector PseudoChannel 2 := Vector.replicate 2 {}
  map : LaneMap := {}
  /-- 100 lanes in the order of Table 7-9 -/
  lanes : Vector Lane 100 := Vector.replicate 100 {}
  /-- CK receiver delay, group words, occupancies (Table 7-9); reset 0 -/
  ckPhase : BitVec 16 := 0
  groups : Vector (BitVec 64) 4 := Vector.replicate 4 0
  occ : List Byte := []
  /-- RDQS transmit delays of the strobe groups (R202); reset 0 -/
  rdqs : Vector RdqsTrim 4 := Vector.replicate 4 {}
  /-- the open choice that numbers the receiver offsets and Vref DAC trims of each pseudo-channel that its last internal
  recalibration found (R218, Table 7-12); reset none -/
  internal : Vector (Option Nat) 2 := Vector.replicate 2 none
  trn : Training := {}
  tsv : TsvPort := {}
  taper : Taper := {}
  cnt : ChanCounters := {}
  /-- activation threshold TH (R247, R395); reset 2,000 -/
  th : Nat := 2000
  /-- order of the next RFM posting (R70); reset 0 -/
  stamp : Nat := 0
  /-- ready bit in HW_READY (Table 13-6); reset 0 -/
  ready : Bool := false
  deriving DecidableEq, Repr

/-! ## Core dies and service buses -/

/-- A core die (05). Not part of the MX32 but what its ports act on. FRMERR stands by channel in TsvPort.ignored, the row
mappings in PseudoChannel.spares. -/
structure CoreDie where
  present : Bool := true
  dens : Bool := false
  maker : BitVec 11 := 0
  coreRl : BitVec 6 := 0
  tsvTest : BitVec 4 := 0
  /-- TSVREP by register 16 c + g: EN and POS, 6 bits (Table 5-18) -/
  tsvRep : List (Nat × BitVec 6) := []
  /-- anti-fuse words that are not 0 (Table 5-19) -/
  antifuse : List (Nat × Word32) := []
  /-- a pending operation and its result (R137): the STATUS and RDATA that a POLL will return -/
  pend : Option (Nat × Word32) := none
  /-- on-die corrected and uncorrectable counts by channel-local index and PC (Table 5-13, ODECC_STAT) -/
  odecc : List (Nat × Nat × Nat) := []
  deriving DecidableEq, Repr

/-- What a service-bus operation is for, so that its response can be used (R136 to R138). -/
inductive SvcPurpose where
  | config
  | softRepair (ch : Ch) (pc : Pc) (entry : Fin 8)
  | tsvMove (ch : Ch)
  deriving DecidableEq, Repr

/-- The command a service bus waits on (Table 5-11). -/
structure SvcCmd where
  lid : Fin 16
  sop : BitVec 4
  addr : BitVec 16
  wdata : BitVec 16
  purpose : SvcPurpose
  repeats : Nat := 0
  pendingOp : Bool := false
  deriving DecidableEq, Repr

/-- A layer service bus engine (R136 to R140). -/
structure SvcBus where
  cmd : Option SvcCmd := none
  queue : List SvcCmd := []
  /-- the last command frame sent (Table 5-11) -/
  sent : BitVec 48 := 0
  deriving DecidableEq, Repr

/-! ## Shared hardware: Wick, thermal hub, power -/

/-- The states of Wick (Table 11-3). -/
inductive WickState where
  | off | search | acquire | setup | run | holdover | linkhold
  deriving DecidableEq, Repr

/-- Wick and its status (11). -/
structure Wick where
  state : WickState := .off
  lock : Bool := false
  /-- REFCK present and in range (REF_OK of Table 11-4); reset 0 -/
  refOk : Bool := false
  rcMgmt : Bool := true
  refInv : Bool := false
  syncDone : Bool := false
  syncIgn : Vector Bool 2 := Vector.replicate 2 false
  syncMissed : Bool := false
  spread : Bool := false
  followOk : Bool := false
  bandFail : Bool := false
  band : BitVec 5 := 0
  holdCnt : BitVec 6 := 0
  lastHold : BitVec 8 := 0
  /-- duration of the last episode in us, episodes, link holds (R418); reset 0 -/
  lastHoldUs : Nat := 0
  holds : Nat := 0
  linkHolds : Nat := 0
  /-- timebase at the first freeze of the episode (R318); reset none -/
  frozenAt : Option Nat := none
  /-- the loop is closed during an episode (R318, R320); reset 0 -/
  closed : Bool := false
  /-- a first lock since reset has been declared (Table 11-3); reset 0 -/
  locked : Bool := false
  /-- the search runs for a change of bin (R324); reset 0 -/
  binChange : Bool := false
  frac : BitVec 24 := 0
  frozen : BitVec 24 := 0
  sscPeriod : BitVec 16 := 0
  sscDepth : BitVec 16 := 0
  seed : BitVec 24 := 0
  /-- BIN_ACT, 2 bits, of the whole stack (R67); reset option, 0 until the load -/
  binAct : BitVec 2 := 0
  /-- outputs O0 to O3 run (Table 11-3); reset 0 -/
  outputs : Bool := false
  deriving DecidableEq, Repr

/-- One sensor (R289): the last reading, the reference reading, faulty, good ticks in a row. -/
structure Sensor where
  reading : BitVec 16 := 0x8000
  reference : Option Int := none
  valid : Bool := false
  good : Nat := 0
  /-- a fault episode has been recorded (R289); reset 0 -/
  counted : Bool := false
  /-- up to 16 preceding readings (R297) -/
  past : List (BitVec 16) := []
  deriving DecidableEq, Repr

/-- The refresh mode of a SID (Table 8-1). -/
inductive RefMode where
  | x1 | x2 | x4
  deriving DecidableEq, Repr

/-- The thermal hub and the trip latch (10). -/
structure Thermal where
  /-- 64 base-die and 64 core-die sensors (layer L sensor n at 64 + 4 L + n) -/
  sensors : Vector Sensor 128 := Vector.replicate 128 {}
  /-- a tick has read every sensor since reset (R294); reset 0 -/
  ticked : Bool := false
  /-- TEMP[2:0]; reset 100b (R294) -/
  temp : BitVec 3 := 4
  /-- the codes TEMP[2:0] passed through at its last update, in order, without the last (R293); reset none -/
  tempVia : List (BitVec 3) := []
  /-- refresh mode of each SID, and whether its sensors read above 105 degC (R220); reset 1x DESIGN CHOICE, log 14 -/
  mode : Vector RefMode 4 := Vector.replicate 4 .x1
  over105 : Vector Bool 4 := Vector.replicate 4 false
  /-- highest reading since reset of S0 to S3 and the base die (R302); reset none -/
  peak : Vector (Option Int) 5 := Vector.replicate 5 none
  /-- highest valid reading of the current second (R302); reset none -/
  second : Vector (Option Int) 5 := Vector.replicate 5 none
  /-- histogram counters, bin and count, of the five units (R302, R303), 16 bits each; reset 0 -/
  hist : Vector (List (Nat × Nat)) 5 := Vector.replicate 5 []
  /-- sensor-fault episodes counted (R289); reset 0 -/
  faults : Nat := 0
  /-- trip latch (R296); reset 0 -/
  trip : Bool := false
  /-- CATTRIP pin (R297); reset 0 -/
  cattrip : Bool := false
  /-- the sensor that tripped and its reading, while the trip record waits (R297, R298); reset none -/
  tripBy : Option (Fin 128 × BitVec 16) := none
  deriving DecidableEq, Repr

/-- Rails, reset and switched domains (12). -/
structure Power where
  /-- rails good, in the order of Table 12-1; reset good -/
  rails : Vector Bool 7 := Vector.replicate 7 true
  /-- RESET_n asserted; reset released -/
  resetN : Bool := false
  /-- the internal power-on reset (R326); reset released -/
  por : Bool := false
  /-- SADDR sampled at the release (R488); reset 0 -/
  saddr : BitVec 2 := 0
  /-- SNS_ bumps that the integrator has connected to their rails, in the order of Table 2-3 (R34); reset all DESIGN CHOICE, log
  128 -/
  sense : BitVec 14 := BitVec.allOnes 14
  /-- power-gated channel groups (R91); reset none -/
  gated : BitVec 8 := 0
  /-- TSV halves switched off, north and south (Table 12-2); reset on -/
  tsvOff : BitVec 2 := 0
  /-- QUINCE domain switched off, and its wake in progress (Table 12-2, R334); reset on -/
  quinceOff : Bool := false
  quinceWaking : Bool := false
  /-- steps of Table 12-6 that have ended; reset none -/
  fuseLoaded : Bool := false
  optionLoaded : Bool := false
  /-- the boot ROM has built the sector table (R430) -/
  scanned : Bool := false
  sramFilled : Bool := false
  booted : Bool := false
  tables : Bool := false
  discovered : Bool := false
  journal : Bool := false
  tsvTested : Bool := false
  fillDone : Bool := false
  deriving DecidableEq, Repr

/-! ## Non-volatile stores -/

/-- The option record of a channel (Table 15-12). -/
structure ChanOption where
  mode : BitVec 2 := 3
  waive : Bool := false
  adapt : Bool := true
  mr07 : BitVec 2 := 3
  txeq0 : BitVec 3 := 0
  txeq1 : BitVec 3 := 0
  mr03 : BitVec 13 := 0x1FFF
  deriving DecidableEq, Repr

/-- An option image (Table 15-12); the defaults are those of Table 15-13. -/
structure OptionImage where
  seq : Nat := 0
  binDef : BitVec 2 := 3
  calVis : Bool := false
  lockCnt : BitVec 3 := 2
  syncEn : Bool := false
  seed : BitVec 24 := 0
  chans : Vector ChanOption 32 := Vector.replicate 32 {}
  deriving DecidableEq, Repr

/-- A ledger record (Table 17-1) without its CRC. -/
structure LedgerRec where
  seq : Nat
  phours : Nat
  ms : Nat
  cls : Nat
  typ : Byte
  count : Nat := 1
  body : List Byte
  /-- it is in the parameter part (Table 17-3) -/
  param : Bool
  /-- programmed, not only in SRAM (R477) -/
  stored : Bool
  /-- where it is stored: of the main part the logical sector less 52 (R477), of the parameter part the pair, 0 for P2/P3 (R478) -/
  place : Nat := 0
  deriving DecidableEq, Repr

/-- A record of the Quince journal (Table 15-7); a commit names each logical sector with the physical one that takes it. -/
inductive JournalRec where
  | retire (sector : Nat) (reason ecnt : Nat)
  | ecnt (counts : List Nat)
  | commit (tag : Nat) (places : List (Nat × Nat))
  | active (slotB : Bool)
  | arcPend (value : Nat)
  deriving DecidableEq, Repr

/-- The use of a physical main sector (R423, R440). -/
inductive SectorUse where
  | mapped (logical : Fin 70)
  | spare
  | pool (erased : Bool)
  | retired
  | factoryBad
  deriving DecidableEq, Repr

/-- A physical main sector and its place in the controller's sector table (R423, R427, Table 15-3). -/
structure Sector where
  use : SectorUse
  ecnt : Nat := 0
  /-- pulses of the last erase, in the erase header -/
  epulse : Byte := 0
  aseq : Nat := 0
  ctag : Nat := 0
  /-- what page 257 names: a logical sector, or FFh for a retired one; none while it is blank or does not decode -/
  assigned : Option (Option (Fin 70)) := none
  /-- pages programmed since the last erase, bit p for page p (R428) -/
  prog : BitVec 264 := 0
  /-- pages left indeterminate or suspect (R448) -/
  weak : BitVec 264 := 0
  deriving DecidableEq, Repr

/-- What a Quince program or erase makes valid when it completes (R380, R410, R449 rule 2). -/
inductive NvCont where
  | nothing
  | options (image : OptionImage)
  | userWrite (addr : Nat) (bytes : List Byte) (tag : Nat)
  | retProfile (pace limit : Nat)
  | mark (tag : Word32) (text : List Byte) (manager : Bool) (session : Byte)
  | imageChunk (slotB : Bool) (complete : Bool)
  | imageActive (slotB : Bool)
  | mapImport (bytes : List Byte)
  | eraseSector (sector : Fin 255)
  | baseErase (sector : Fin 255)
  | baseline (record : List (Ch × Baseline)) (sector : Fin 255)
  deriving DecidableEq, Repr

/-- The kinds of Quince operation (Table 15-6). -/
inductive NvKind where
  | single | lower | upper | eraseMain | eraseParam
  deriving DecidableEq, Repr

/-- The status an operation of Quince ends with (R428, R436). -/
inductive NvStatus where
  | ok | pfail | efail | seqErr
  deriving DecidableEq, Repr

/-- A page that the controller holds decoded, or of which it holds a 32-byte unit (R431): the physical main sector, or 255 + n
for Pn, and the page. -/
structure PageLine where
  sector : Nat
  page : Nat
  unit : Nat := 0
  deriving DecidableEq, Repr

/-- The Quince operation that runs (R435): its kind, the main sector and page, what it makes valid, the command it serves. -/
structure NvOp where
  kind : NvKind
  sector : Option (Fin 255)
  page : Option (Fin 264) := none
  cont : NvCont
  owner : Option (Slot × BitVec 16)
  deriving DecidableEq, Repr

/-- A pseudo-channel's retention map and weak-row list, and whether it was imported (08, "Where the map lives", Table 8-7). -/
structure MapImage where
  bins : List (Nat × BitVec 2) := []
  weak : List (BitVec 32) := []
  imported : Bool := false
  deriving DecidableEq, Repr

/-- A snapshot generation in its slot of Quince: its sequence number, the delta record it includes last, the maps it holds by
2 ch + pc (R243). -/
structure Generation where
  number : Nat
  seq : Nat
  maps : List (Fin 64 × MapImage)
  deriving DecidableEq, Repr

/-- The action of a record of the repair journal (R272). -/
inductive RemapAction where
  | add | applied | hardStart | hardDone | spareBad | move
  deriving DecidableEq, Repr

/-- A record of the repair journal: its sequence number, the entry it changes and the new entry word (R272). -/
structure RemapRec where
  seq : Nat
  ch : Ch
  pc : Pc
  entry : Fin 8
  action : RemapAction
  word : BitVec 32
  deriving DecidableEq, Repr

/-- What a delta record changes: the code of a group, an entry of the weak-row list added; the journal record of an import
stands in the same order (R242, R244, R393). -/
inductive DeltaItem where
  | code (group : Nat) (code : BitVec 2)
  | entry (word : BitVec 32)
  | image (map : MapImage)
  deriving DecidableEq, Repr

/-- A delta record: its sequence number, the pseudo-channel as 2 ch + pc (R242). -/
structure DeltaRec where
  seq : Nat
  unit : Fin 64
  item : DeltaItem
  deriving DecidableEq, Repr

/-- An image slot (R411 to R413). -/
structure ImageSlot where
  ver : Word32 := 0
  svn : Nat := 0
  /-- 0 valid, 1 invalid, 2 staging, 3 staged and complete (R413) -/
  status : Nat := 0
  /-- the staged bytes (R411) -/
  bytes : List Byte := []
  deriving DecidableEq, Repr

/-- Everything that keeps its contents without power: eFuse, Quince, ledger, and what the core dies hold in
anti-fuses stands in CoreDie. -/
structure NonVolatile where
  /-- blown raw words, 39 bits, listed where not 0 (R456); as shipped (Table 19-8), log 15 -/
  efuse : List (Nat × BitVec 39) := []
  /-- option images stored, the newest first (R453); as shipped none (Table 19-8) -/
  options : List OptionImage := []
  /-- erased pages left in the block in use (R453); as shipped 6 -/
  optionPages : Nat := 6
  /-- the 255 physical main sectors (R423); as shipped 70 mapped, 8 spares, the rest in the pool -/
  sectors : List Sector := []
  /-- user-area bytes that are not FFh (R409, R450); as shipped empty -/
  user : List Host.Cell := []
  /-- user sectors that have been programmed (R409 BLANK); as shipped none -/
  userProg : BitVec 8 := 0
  /-- commit tag of the newest user write (Table 15-3); as shipped 0 -/
  ctag : Nat := 0
  /-- commit tags that a valid COMMIT record names (R430, Table 15-7); as shipped none -/
  commits : List Nat := []
  /-- newest journal record names image B active (Table 15-7 ACTIVE); as shipped A -/
  activeB : Bool := false
  /-- the Quince journal, the oldest record first (R444); as shipped empty -/
  journal : List JournalRec := []
  /-- erases since the ECNT record of the journal (Table 15-7); as shipped 0 -/
  erases : Nat := 0
  /-- field-bad sectors in the journal (R441); as shipped none -/
  fieldBad : List (Fin 255) := []
  imageA : ImageSlot := {}
  imageB : ImageSlot := {}
  /-- the three slots of snapshot generations (R243); as shipped none -/
  slots : Vector (Option Generation) 3 := Vector.replicate 3 none
  /-- the delta log, oldest first, and the sequence number given last (R242); as shipped empty and 0 -/
  deltaLog : List DeltaRec := []
  deltaSeq : Nat := 0
  /-- the last delta record that is missing in both copies (R244); as shipped none -/
  mapGap : Option Nat := none
  /-- power-on hours of each pseudo-channel in FALLBACK, none while it is not (R245); as shipped none -/
  fbHours : Vector (Option Nat) 64 := Vector.replicate 64 none
  /-- PACE and RLIMIT (R391); as shipped 60 and 168 -/
  pace : Nat := 60
  rlimit : Nat := 168
  /-- training baselines by channel of the newest valid record and its sequence number (R212); as shipped none -/
  baselines : List (Ch × Baseline) := []
  baseSeq : Nat := 0
  /-- the record before it, in the other sector, and its sequence number (R212); as shipped none -/
  oldBaselines : List (Ch × Baseline) := []
  oldBaseSeq : Nat := 0
  /-- the ledger, the oldest record first (R475); as shipped empty -/
  ledger : List LedgerRec := []
  nextSeq : Nat := 1
  /-- the sector of the main part in use, of logical 52 to 59 (R477); the pair of the parameter part in use and its pages programmed
  (R478); as shipped the first ones, 0 pages -/
  mainSector : Fin 8 := 0
  pair : Fin 3 := 0
  pairPages : Nat := 0
  /-- lifetime counters of the newest LIFE snapshot (Table 17-4); as shipped 0 -/
  powerHours : Nat := 0
  lifeHist : Vector (List (Nat × Nat)) 5 := Vector.replicate 5 []
  lifePeak : Vector (Option Int) 5 := Vector.replicate 5 none
  resets : Nat := 0
  trips : Nat := 0
  holds : Nat := 0
  /-- the repair journal, the oldest record first (R272); as shipped empty -/
  repairs : List RemapRec := []
  deriving DecidableEq, Repr

/-- The fuse shadow (R459 to R465). -/
structure FuseShadow where
  loaded : Bool := false
  /-- resolved words that are not 0 -/
  words : List (Nat × Word32) := []
  invalid : BitVec 7 := 0
  slotsUsed : BitVec 8 := 0
  slotsFree : BitVec 8 := 0
  /-- marginal words found -/
  marginal : List (Fin 512) := []
  /-- words whose lock or slot state counts (R462): unresolved words of region 6 -/
  unresolved : List (Fin 512) := []
  /-- repair records ignored (R458) -/
  ignored : Nat := 0
  /-- anti-rollback count: ARC words that read non-zero at either margin (R466) -/
  arc : Nat := 0
  deriving DecidableEq, Repr

/-- A word queued for the fuse controller (R467): the word, its data bits, raw bits for FACTORY, the command it
serves. -/
structure FuseJob where
  word : Fin 512
  bits : BitVec 39
  owner : Option (Slot × BitVec 16)
  deriving DecidableEq, Repr

/-- The Quince controller outside its stored contents (15). -/
structure QuinceCtl where
  op : Option NvOp := none
  /-- status and pulses kept until Lantern C reads them (Table 15-8); reset none -/
  result : Option (Bool × Nat) := none
  /-- status of the last operation (R428, R436); reset none -/
  status : Option NvStatus := none
  /-- page lines, at most 4, the newest first, and the branch-target cache, at most 16 entries (R431); reset empty -/
  lines : List PageLine := []
  targets : List PageLine := []
  /-- bus errors returned for the unmapped range, and a DMA channel halted by one (R424); reset 0 -/
  busErrors : Nat := 0
  dmaHalted : Bool := false
  /-- outcomes counted (R433); reset 0 -/
  reads : Nat := 0
  corrected : Nat := 0
  uncorrectable : Nat := 0
  /-- execute-only ranges set by the boot ROM, base and length in 4 KB units (R446); reset none -/
  xo : List (Nat × Nat) := []
  /-- XO_VIOL (R446); reset 0 -/
  xoViol : Bool := false
  /-- option shadow (R454); reset defaults not in force until loaded -/
  shadow : OptionImage := {}
  deriving DecidableEq, Repr

/-! ## Mailbox -/

/-- A JMP response (Table 13-11) without the echoed fields. -/
structure Response where
  status : Byte
  detail : Byte := 0
  snap : Bool := false
  age : BitVec 16 := 0
  cont : Bool := false
  payload : List Byte := []
  /-- the capture of which it returns the end (R375); none elsewhere -/
  ends : Option Nat := none
  deriving DecidableEq, Repr

/-- The states of a command in the completion log (R367). -/
inductive CmdState where
  | queued | started | committed | done
  deriving DecidableEq, Repr

/-- An outstanding command of a session (Table 13-10, R366, R367). -/
structure Cmd where
  seq : BitVec 16
  opcode : BitVec 16
  cont : Bool
  payload : List Byte
  state : CmdState := .queued
  reserved : Bool := false
  resp : Option Response := none
  deriving DecidableEq, Repr

/-- A download capture (R375): its number in the session, opcode, command-specific bytes, the object. -/
structure Capture where
  no : Nat
  opcode : BitVec 16
  spec : List Byte
  object : List Byte
  deriving DecidableEq, Repr

/-- An incomplete upload (R376): opcode, command-specific bytes, total, the bytes taken. -/
structure Upload where
  opcode : BitVec 16
  spec : List Byte
  total : Nat
  bytes : List Byte
  deriving DecidableEq, Repr

/-- An event record (R421). -/
structure Event where
  typ : Nat
  unit : Byte
  ch : Byte
  pc : Byte
  time : Nat
  seq : Nat
  data : Word32
  deriving DecidableEq, Repr

/-- A session slot (R357 to R361, R420). -/
structure Session where
  live : Bool := false
  gen : BitVec 4 := 0
  transport : Transport := .host
  /-- lease in seconds and the timebase at which it began, in us (R358); reset 10 -/
  lease : Nat := 10
  leaseAt : Nat := 0
  /-- outstanding commands in acceptance order, done ones until released (R359) -/
  cmds : List Cmd := []
  /-- classes unlocked (R370) -/
  scope : BitVec 5 := 0
  challenge : Option (BitVec 256) := none
  fails : Nat := 0
  lockout : Bool := false
  mask : Word32 := 0
  events : List Event := []
  lost : Nat := 0
  captures : List Capture := []
  /-- captures made, which number them (R375); reset 0 -/
  capNo : Nat := 0
  upload : Option Upload := none
  /-- commands that the CLOSE has cancelled so far (R361) -/
  cancelled : Nat := 0
  /-- CLOSE has been accepted (R361) -/
  closing : Bool := false
  /-- the OPEN payload failed its test (R539) -/
  refused : Bool := false
  /-- SEQs of the completed, unreleased commands in the order of their completion (R353) -/
  done : List (BitVec 16) := []
  /-- the turn has ended and a long command is parked (R362) -/
  parked : Bool := false
  deriving DecidableEq, Repr

/-- A mailbox window pair (R348 to R353). -/
structure Window where
  /-- request window, 256 words; reset 0 DESIGN CHOICE, log 16 -/
  req : Vector Word32 256 := Vector.replicate 256 0
  /-- response window bytes; reset 0 DESIGN CHOICE, log 16 -/
  resp : List Byte := []
  /-- current claim's tag; reset none -/
  claim : Option (BitVec 16) := none
  /-- last tag granted (R350); reset 0 DESIGN CHOICE, log 17 -/
  lastTag : BitVec 16 := 0
  /-- timebase at the grant in us -/
  grantAt : Nat := 0
  accValid : Bool := false
  accCode : Byte := 0
  accSess : Byte := 0
  respValid : Bool := false
  /-- the command whose response was collected -/
  collected : Option (Slot × BitVec 16) := none
  /-- MGMT_RST of this window (Table 13-5); reset 0 -/
  mgmtRst : Bool := false
  deriving DecidableEq, Repr

/-- A test result kept in the stack status bank (R408). -/
structure TestResult where
  handle : BitVec 16
  ch : Ch
  pc : Pc
  kind : BitVec 2
  sids : BitVec 4
  /-- 0 running, 1 passed, 2 failed, 3 ended by the release of quiesce -/
  status : Byte := 0
  progress : Word32 := 0
  nfail : Word32 := 0
  first : Word32 := 0
  elapsed : Word32 := 0
  deriving DecidableEq, Repr

/-- The management plane (01, 12, 13, 17). -/
structure Mgmt where
  /-- MGMT_READY, RECOVERY, CORE_STALL (Table 13-5); reset 0 -/
  ready : Bool := false
  recovery : Bool := false
  stall : Bool := false
  /-- HEALTH, REPLACE_REQ (Table 13-5); reset 0 -/
  health : BitVec 2 := 0
  replace : Bool := false
  /-- TRIGGERS (Table 17-5); reset 0 -/
  triggers : BitVec 32 := 0
  changeSeq : Nat := 0
  /-- RST_CAUSE, 3 bits; reset 000b -/
  rstCause : BitVec 3 := 0
  /-- HBEAT, 8 bits; reset 0 -/
  hbeat : Byte := 0
  /-- timebase at the last snapshot, in us (R363) -/
  snapAt : Nat := 0
  /-- the telemetry snapshot: payloads by opcode and unit (R363); reset none -/
  snap : List (Nat × List Byte) := []
  /-- lab mode (R175); reset 0 -/
  lab : Bool := false
  /-- timebase of the resets within 60 s, in us (R343); reset none -/
  recent : List Nat := []
  /-- the last reset was an uncorrectable fetch (R343); reset 0 -/
  otherImage : Bool := false
  /-- image B runs; reset 0 -/
  runsB : Bool := false
  /-- ledger events totalled while the plane was down, type and body, oldest first (R12, Table 1-3); reset none -/
  owed : List (Byte × List Byte) := []
  /-- map loads whose transfer images a management-plane reset discarded, with the state from which a change is to be recorded
  (R17, R244); reset none -/
  loads : List (Ch × Pc × Option MapState) := []
  /-- an activated image waits for its reset (R412); reset 0 -/
  activation : Option (Slot × BitVec 16) := none
  /-- staged table image, owner, completeness (R411); reset none -/
  table : Option (List Byte) := none
  tableOwner : Option Slot := none
  imageOwner : Option Slot := none
  /-- owners of the import, restore and NV write buffers (Table 14-5); reset none -/
  importOwner : Option Slot := none
  restoreOwner : Option Slot := none
  nvOwner : Option Slot := none
  /-- current visibility: coefficients (R207); reset option -/
  visible : Bool := false
  /-- a baseline record is to be written once Quince is free (R212); reset 0 -/
  baseDue : Bool := false
  /-- event thresholds of S0 to S3 and the base die, and their sides (R295, R385); reset 85.00 degC, no side -/
  thr : Vector Int 5 := Vector.replicate 5 4250
  side : Vector (Option Bool) 5 := Vector.replicate 5 none
  /-- test results, at most 8, and the last handle (R408) -/
  tests : List TestResult := []
  lastHandle : BitVec 16 := 0
  /-- coefficient blobs captured since power-up (Table 7-8 SEQ); reset 0 -/
  calCaptures : Nat := 0
  /-- the last slot served (R362); reset 15 DESIGN CHOICE, log 18 -/
  turn : Slot := 15
  /-- corrected SRAM words counted and words found uncorrectable (R281); reset 0 -/
  sramCe : Nat := 0
  sramBad : List Nat := []
  /-- doorbells ignored (R351); reset 0 -/
  doorbells : Nat := 0
  /-- LIFE_UNKNOWN, REMAP_LOST conditions (Table 17-5) -/
  lifeUnknown : Bool := false
  remapLost : Bool := false
  deriving DecidableEq, Repr

/-! ## Sideband and test ports -/

/-- Where the I2C target stands on the bus (R487 to R503): idle; ignoring the bus until the next START; a command byte, a
byte-register byte, a window byte is due; a claim has been asked for; it is read from the pointer or the offset; it returns
the MBX_CLAIM word, none once it has been captured; it returns FFh. -/
inductive I2cPhase where
  | idle | ignore | command | bytes | window | claimed | reading
  | claimRead (word : Option Word32)
  | mute
  deriving DecidableEq, Repr

/-- A write held until STOP (R494, R502). -/
inductive Held where
  | register (address : BitVec 7) (value : Byte)
  | word (offset : BitVec 16) (value : Word32)
  | doorbell (value : Word32)
  deriving DecidableEq, Repr

/-- The I2C target (18). -/
structure I2c where
  /-- where it stands; reset idle -/
  phase : I2cPhase := .idle
  /-- a START has been seen and no STOP since (R494); reset 0 -/
  active : Bool := false
  /-- byte pointer and window offset (R492); reset 0 -/
  pointer : BitVec 7 := 0
  offset : BitVec 16 := 0
  /-- the window offset was set last, by 80h or 81h (R489); reset 0 -/
  windowLast : Bool := false
  /-- SWAPPED of I2C_STAT (Table 18-2); reset 0 -/
  swapped : Bool := false
  /-- WAKE_NACK, STRETCH_TO, PEC_ERR, SDA_STUCK, SCL_STUCK, BUS_ERR as bits 6 to 1 of I2C_STAT (Table 18-2); reset 0 -/
  stat : Byte := 0
  /-- I2C_CFG[2:0] and ALT_ADDR as written (Tables 18-3, 18-4); reset 0 -/
  cfg : BitVec 3 := 0
  alt : BitVec 7 := 0
  /-- I2C_CFG[2:0] and ALT_ADDR in force since the START of the transaction (R491); reset 0 -/
  cfgLive : BitVec 3 := 0
  altLive : BitVec 7 := 0
  /-- SDA_HOLD (Table 18-5); reset 20 -/
  hold : BitVec 6 := 20
  /-- the target sleeps (R496); reset 0 -/
  asleep : Bool := false
  /-- SWAP_SUSPECT (Table 18-8); reset 0 -/
  suspect : Bool := false
  /-- a swap has been declared and is to be made (R503); reset 0 -/
  swapDue : Bool := false
  /-- timebase of the last swap, in us (R503); reset none -/
  swapAt : Option Nat := none
  /-- writes held until STOP, oldest first (R494, R502); reset none -/
  held : List Held := []
  /-- every byte on the bus since START, for the PEC (R502); reset none -/
  trace : List Byte := []
  /-- bytes of a window word that is not complete (R493, R501); reset none -/
  part : List Byte := []
  /-- the last segment is a write (R502); reset 0 -/
  lastWrite : Bool := false
  /-- the MBX_CLAIM word of a claim of this transaction, for the read that follows (R492); reset none -/
  claimWord : Option Word32 := none
  /-- bytes captured and still to send, each with the pointer and the offset after it (R490, R495); reset none -/
  sending : List (Byte × BitVec 7 × BitVec 16) := []
  /-- acknowledge of the last byte; reset 0 -/
  ack : Bool := false
  /-- the bytes the target last returned; reset none -/
  out : List Byte := []
  deriving DecidableEq, Repr

/-- The IEEE 1500 wrapper (R504 to R510). -/
structure Wrapper where
  /-- instruction in force, code of Table 18-7; reset 00h, BYPASS (R504) -/
  wir : Byte := 0
  /-- REFUSED of the instruction last updated (R504); reset 0 -/
  refused : Bool := false
  /-- what the selected data register captures next; reset 0 -/
  capture : BitVec 64 := 0
  /-- boundary register of the 3,808 LVI bumps (R508); reset 0 -/
  wbr : BitVec 3808 := 0
  /-- selection of LANE_REPAIR (R506); reset 0 -/
  selCh : Ch := 0
  selUnit : Fin 8 := 0
  /-- last selection of MBIST, bits 28 to 16 (R509); reset 0 -/
  mbistSel : BitVec 13 := 0
  /-- STATE of MBIST (R509): 0 none, 5 to 7 refused, 1 started; reset 0 -/
  mbistState : BitVec 3 := 0
  /-- handle of the test MBIST started last (R509); reset 0 -/
  mbistHandle : BitVec 16 := 0
  /-- EXTEST_RX or EXTEST_TX is in force (R508); reset 0 -/
  extest : Bool := false
  deriving DecidableEq, Repr

/-- The IEEE 1149.1 TAP (R511 to R513). -/
structure Tap where
  /-- instruction; reset IDCODE 0010b -/
  ir : BitVec 4 := 2
  /-- boundary register, 24 cells; reset 0 DESIGN CHOICE, log 19 -/
  cells : BitVec 24 := 0
  /-- the 32-bit value the selected data register captures; reset 0 -/
  capture : Word32 := 0
  deriving DecidableEq, Repr

/-! ## The machine -/

/-- The whole block. -/
structure State where
  /-- commands waiting, first in first out -/
  pending : List Instr := []
  /-- the always-on timebase since the last stack reset, in us (R475 MS, R323); reset 0 -/
  timeUs : Nat := 0
  /-- the model's own counter of open choices (assumption 2); reset 0 DESIGN CHOICE -/
  fresh : Nat := 0
  chans : Vector Channel 32 := Vector.replicate 32 {}
  dies : Vector CoreDie 16 := Vector.replicate 16 {}
  buses : Vector SvcBus 2 := Vector.replicate 2 {}
  /-- layers whose service bus failed (R138); reset none -/
  busFailed : BitVec 16 := 0
  /-- LAYERS and DENS of MR16 as found (R125); reset 0 -/
  layers : BitVec 2 := 0
  dens : Bool := false
  wick : Wick := {}
  thermal : Thermal := {}
  power : Power := {}
  nv : NonVolatile := {}
  fuse : FuseShadow := {}
  fuseQueue : List FuseJob := []
  quince : QuinceCtl := {}
  host : Window := {}
  manager : Window := {}
  sessions : Vector Session 16 := Vector.replicate 16 {}
  mgmt : Mgmt := {}
  i2c : I2c := {}
  wrapper : Wrapper := {}
  tap : Tap := {}
  deriving DecidableEq, Repr

/-- Why the machine stops. -/
inductive Fault where
  /-- RESET_ASSERT: a RESET_n pulse from 100 ns up to 1 us, whose outcome the manual calls undefined (R327). Safe: the
  model stops where the hardware does something unknown. -/
  | resetPulseUndefined
  deriving DecidableEq, Repr

/-- Why a command has no meaning. -/
inductive Refusal where
  /-- A command not modelled yet; safe. -/
  | notModelled (mnemonic : String)
  deriving DecidableEq, Repr

/-! ## Reset -/

/-- The eFuse of a shipped part, raw 39-bit words with their check bits (Table 19-8, R456, R457, log 15): stepping B1
at 000h, CFG0 at 080h, the CRC words of regions 0, 1 and 4, their write locks, FACTORY_CLOSE. -/
def shippedEfuse : List (Nat × BitVec 39) :=
  [(0x000, 0x1900004201#39),
   (0x07F, 0x5E84CAA9B6#39),
   (0x080, 0x4000000007#39),
   (0x0BF, 0x5B17587F13#39),
   (0x17F, 0x7867E65321#39),
   (0x1C0, 0x624C4B0000#39),
   (0x1C2, 0x274C4B0002#39),
   (0x1C8, 0x654C4B0008#39),
   (0x1CC, 0x4300000001#39)]

/-- Page 256, the two service pages, and the data pages of a main sector (R427). -/
def erasePage : BitVec 264 := BitVec.ofNat 264 (2 ^ 256)
@[inherit_doc erasePage] def servicePages : BitVec 264 := BitVec.ofNat 264 (3 * 2 ^ 256)
@[inherit_doc erasePage] def dataPages : BitVec 264 := BitVec.ofNat 264 (2 ^ 256 - 1)

/-- The physical sectors of a shipped part (R440, Table 19-8): 70 mapped, 8 spares, the rest the pool. -/
def shippedSectors : List Sector :=
  (List.range 255).map (fun i =>
    if h : i < 70 then
      { use := .mapped ⟨i, h⟩, assigned := some (some ⟨i, h⟩)
        prog := if i < 24 then servicePages ||| dataPages else servicePages }
    else { use := if i < 78 then .spare else .pool true, prog := erasePage })

/-- The channels at a stack reset: what the core dies hold is unknown from then on, in each pseudo-channel a content of its
own (Table 12-9, Table 4-8, log 3). -/
def chansAt (epoch : Nat) : Vector Channel 32 :=
  Vector.ofFn (fun (c : Fin 32) =>
    { pcs := Vector.ofFn (fun (p : Fin 2) =>
        { back := Vector.replicate 4 (.unwritten (64 * epoch + 2 * c.val + p.val))
          backRsv := .unwritten (64 * epoch + 2 * c.val + p.val)
          backSpare := .unwritten (64 * epoch + 2 * c.val + p.val) }) })

/-- The machine right after reset: RESET_n just released with every rail good, before the first step of Table 12-6, the
stores as shipped (Table 19-8, log 15). -/
def State.reset : State :=
  { nv := { efuse := shippedEfuse, sectors := shippedSectors
            imageA := { ver := Config.shippedVersion }, imageB := { ver := Config.shippedVersion } }
    chans := chansAt 0 }

end Sys2Proof.Machine
end

