-- ==== Sys2Proof/Machine/Ops.lean ====
section
/-! DEFINITION. The named operations on the state: access to channels, pseudo-channels and banks, core-die memory, alert
causes, discards, counters, ledger, events and free values. -/

namespace Sys2Proof.Machine

open Host (Outcome)

/-- The outcome of every command of the block. -/
abbrev Result := Outcome State Fault Refusal

/-! ## Access -/

/-- Change one channel. -/
def State.updCh (s : State) (c : Ch) (f : Channel → Channel) : State :=
  { s with chans := s.chans.set c (f s.chans[c]) }

/-- Change every channel. -/
def State.updAll (s : State) (f : Channel → Channel) : State :=
  { s with chans := s.chans.map f }

/-- Change one pseudo-channel of a channel. -/
def Channel.updPc (h : Channel) (p : Pc) (f : PseudoChannel → PseudoChannel) : Channel :=
  { h with pcs := h.pcs.set p (f h.pcs[p]) }

/-- Change both pseudo-channels of a channel. -/
def Channel.updPcs (h : Channel) (f : PseudoChannel → PseudoChannel) : Channel :=
  { h with pcs := h.pcs.map f }

/-- Change one pseudo-channel of the stack. -/
def State.updPc (s : State) (c : Ch) (p : Pc) (f : PseudoChannel → PseudoChannel) : State :=
  s.updCh c (fun h => h.updPc p f)

/-- Change the mode registers of a channel. -/
def Channel.updRegs (h : Channel) (f : ModeRegs → ModeRegs) : Channel := { h with regs := f h.regs }

/-- Change the counters of a channel. -/
def Channel.updCnt (h : Channel) (f : ChanCounters → ChanCounters) : Channel := { h with cnt := f h.cnt }

/-- Change the Taper of a channel. -/
def Channel.updTaper (h : Channel) (f : Taper → Taper) : Channel := { h with taper := f h.taper }

/-- Index of a bank in its pseudo-channel. -/
def bankIx (sid : Sid) (bg : Bg) (ba : Ba) : Fin 64 :=
  ⟨16 * sid.val + 4 * bg.val + ba.val, by omega⟩

/-- The 4 BG + BA number of a bank (R232). -/
def bankNo (bg : Bg) (ba : Ba) : Fin 16 := ⟨4 * bg.val + ba.val, by omega⟩

/-- Index of a bank from its SID and 4 BG + BA number. -/
def bankAt (sid : Sid) (b : Fin 16) : Fin 64 := ⟨16 * sid.val + b.val, by omega⟩

/-- The SID of a bank index. -/
def bankSid (i : Fin 64) : Sid := ⟨i.val / 16, by omega⟩

/-- Change one bank. -/
def PseudoChannel.updBank (p : PseudoChannel) (i : Fin 64) (f : Bank → Bank) : PseudoChannel :=
  { p with banks := p.banks.set i (f p.banks[i]) }

/-- Change every bank. -/
def PseudoChannel.updBanks (p : PseudoChannel) (f : Bank → Bank) : PseudoChannel :=
  { p with banks := p.banks.map f }

/-- Change the banks of one SID. -/
def PseudoChannel.updSid (p : PseudoChannel) (sid : Sid) (f : Bank → Bank) : PseudoChannel :=
  { p with banks := p.banks.mapFinIdx (fun i b h => if bankSid ⟨i, h⟩ = sid then f b else b) }

/-- Change one session. -/
def State.updSession (s : State) (k : Slot) (f : Session → Session) : State :=
  { s with sessions := s.sessions.set k (f s.sessions[k]) }

/-- The window of a transport (R348). -/
def State.window (s : State) : Transport → Window
  | .host => s.host
  | .manager => s.manager

/-- Change the window of one transport; the other is untouched (R348). -/
def State.updWindow (s : State) (t : Transport) (f : Window → Window) : State :=
  match t with
  | .host => { s with host := f s.host }
  | .manager => { s with manager := f s.manager }

/-- Change the management plane's record. -/
def State.updMgmt (s : State) (f : Mgmt → Mgmt) : State := { s with mgmt := f s.mgmt }

/-- Change Wick. -/
def State.updWick (s : State) (f : Wick → Wick) : State := { s with wick := f s.wick }

/-- Change the stores. -/
def State.updNv (s : State) (f : NonVolatile → NonVolatile) : State := { s with nv := f s.nv }

/-- Change the I2C target. -/
def State.updI2c (s : State) (f : I2c → I2c) : State := { s with i2c := f s.i2c }

/-! ## The stack as built -/

/-- Rows of a bank (R4). -/
def State.rows (s : State) : Nat := if s.dens then 16384 else 24576

/-- Rows of one cursor advance (R222). -/
def State.advance (s : State) : Nat := if s.dens then 2 else 3

/-- SIDs present (R5). -/
def State.sids (s : State) : Nat := s.layers.toNat + 1

/-- A SID is present (R5). -/
def State.sidPresent (s : State) (sid : Sid) : Bool := sid.val < s.sids

/-- The layer that serves a channel in a SID (R123). -/
def layerOf (c : Ch) (sid : Sid) : Fin 16 := ⟨4 * sid.val + c.val / 8, by omega⟩

/-- The channel group of a channel (R28). -/
def groupOf (c : Ch) : Nat := c.val / 4

/-- The channel's group is power-gated (R91). -/
def State.isGated (s : State) (c : Ch) : Bool := s.power.gated.getLsbD (groupOf c)

/-- A channel is failed when both of its pseudo-channels are, or LMAP_CA reads FAILED = 1 (R536). -/
def Channel.isFailed (h : Channel) : Bool := (h.pcs[0].failed && h.pcs[1].failed) || h.map.ca.getLsbD 31

/-- A rail is missing or RESET_n or the power-on reset is asserted (R326, R341). -/
def State.inReset (s : State) : Bool :=
  s.power.resetN || s.power.por || !(s.power.rails.toList.all id)

/-- Row r is one of the reserved rows of S0 while adaptive refresh is in effect (R6). -/
def State.reservedRow (s : State) (h : Channel) (sid : Sid) (row : Row) : Bool :=
  h.regs.adaptAct && sid == 0 && decide (s.rows - 16 ≤ row.toNat) && decide (row.toNat < s.rows)

/-- An ACT to the row is served only as an unservable row (R60). -/
def State.unservable (s : State) (h : Channel) (sid : Sid) (row : Row) : Bool :=
  !s.sidPresent sid || decide (s.rows ≤ row.toNat) || s.reservedRow h sid row

/-! ## Counters, causes and discards -/

/-- Counters of the status banks saturate (R18); the model takes 32 bits, the width ECC_STATUS reports (R397). -/
def bump (n : Nat) (k : Nat := 1) : Nat := min (n + k) 0xFFFFFFFF

/-- Add counts to counters keyed by number; each saturates. -/
def addCounts (into more : List (Nat × Nat)) : List (Nat × Nat) :=
  more.foldl (fun acc (k, v) =>
    if acc.any (fun e => e.1 == k) then acc.map (fun e => if e.1 == k then (k, min (e.2 + v) 0xFFFFFFFF) else e)
    else acc ++ [(k, v)]) into

/-- Set MR05 cause n (Table 3-10). -/
def Channel.setCause (h : Channel) (n : Nat) : Channel :=
  h.updRegs (fun r => { r with causes := r.causes ||| (1#10 <<< n) })

/-- Set MR05 cause n of a channel unless its group is power-gated (R93). -/
def State.setCause (s : State) (c : Ch) (n : Nat) : State :=
  if s.isGated c then s else s.updCh c (fun h => h.setCause n)

/-- Set MR05 cause n in every channel that is not power-gated (R316, R484). -/
def State.setCauseAll (s : State) (n : Nat) : State :=
  { s with chans := s.chans.mapFinIdx (fun i h hi => if s.isGated ⟨i, hi⟩ then h else h.setCause n) }

/-- Cause bits of MR05 by name (Table 3-10). -/
def causeCaParity : Nat := 0
@[inherit_doc causeCaParity] def causeDparWrite : Nat := 1
@[inherit_doc causeCaParity] def causeRefUrgent : Nat := 2
@[inherit_doc causeCaParity] def causeRfmReq : Nat := 3
@[inherit_doc causeCaParity] def causeCeRate : Nat := 4
@[inherit_doc causeCaParity] def causeThermalStep : Nat := 5
@[inherit_doc causeCaParity] def causeHoldover : Nat := 6
@[inherit_doc causeCaParity] def causeHealth : Nat := 7
@[inherit_doc causeCaParity] def causeLinkMarginal : Nat := 8
@[inherit_doc causeCaParity] def causeRsvRow : Nat := 9

/-- Start a discard: CA_PARITY is set, ERR_IDX takes the index the command would have received (R72, R78). -/
def Channel.startDiscard (h : Channel) : Channel :=
  { (h.setCause causeCaParity) with
    regs := { (h.setCause causeCaParity).regs with errIdx := h.regs.seqCnt }
    intake := { h.intake with discard := true } }

/-! ## Free values -/

/-- A free value of w bits and the state with the next open choice (assumption 2). -/
def State.free (s : State) (w : Nat) : BitVec w × State :=
  (Config.freeBits w s.fresh, { s with fresh := s.fresh + 1 })

/-! ## Core-die memory -/

/-- Number of an access within its pseudo-channel: SID, bank, row, column. -/
def accessNo (sid : Sid) (bank : Fin 16) (row : Row) (col : Col) : Nat :=
  ((sid.val * 16 + bank.val) * 32768 + row.toNat) * 16 + col.toNat

/-- SID, bank, row and column of an access number. -/
def accessOf (n : Nat) : Sid × Fin 16 × Row × Col :=
  (⟨(n / 8388608) % 4, by omega⟩, ⟨(n / 524288) % 16, by omega⟩, BitVec.ofNat 15 (n / 16), BitVec.ofNat 4 n)

/-- Address of byte k of an access: 64 data bytes, then 8 check bytes (R95, R130). -/
def byteAddr (n k : Nat) : Nat := n * 72 + k

/-- Insert or replace a cell in an address-sorted list. -/
def memInsert (m : List Host.Cell) (a : Nat) (b : Byte) : List Host.Cell :=
  match m with
  | [] => [(a, b)]
  | e :: rest => if e.1 < a then e :: memInsert rest a b else if e.1 = a then (a, b) :: rest else (a, b) :: e :: rest

/-- Remove the cell at an address. -/
def memErase (m : List Host.Cell) (a : Nat) : List Host.Cell := m.filter (fun e => e.1 != a)

/-- The byte listed at an address. -/
def memFind (m : List Host.Cell) (a : Nat) : Option Byte :=
  match m.find? (fun e => e.1 == a) with
  | some e => some e.2
  | none => none

/-- Store a byte, keeping the canonical form: a byte equal to what the address reads as unlisted is not listed. -/
def memPut (unlisted : Nat → Option Byte) (m : List Host.Cell) (a : Nat) (b : Byte) : List Host.Cell :=
  if unlisted a = some b then memErase m a else memInsert m a b

/-- Store bytes at rising addresses. -/
def memPutAll (unlisted : Nat → Option Byte) (m : List Host.Cell) (a : Nat) : List Byte → List Host.Cell
  | [] => m
  | b :: rest => memPutAll unlisted (memPut unlisted m a b) (a + 1) rest

/-- The canonical form: strictly rising addresses, and no entry equal to what its address reads as unlisted. -/
def memWf (unlisted : Nat → Option Byte) : List Host.Cell → Bool
  | [] => true
  | [e] => decide (unlisted e.1 ≠ some e.2)
  | e :: f :: rest => decide (unlisted e.1 ≠ some e.2) && decide (e.1 < f.1) && memWf unlisted (f :: rest)

/-- Data bits of a fill pattern for one access (Table 4-7); word w is beat w, its bit n on DQ[n] (log 20). -/
def patternData (pat : BitVec 4) (n : Nat) : BitVec 512 :=
  let (sid, bank, row, col) := accessOf n
  if pat = 1 then BitVec.allOnes 512
  else if pat = 3 then
    BitVec.ofNat 512 ((List.range 16).foldl (fun acc w =>
      acc + (sid.val * 2 ^ 30 + (bank.val / 4) * 2 ^ 28 + (bank.val % 4) * 2 ^ 26 + row.toNat * 2 ^ 11
        + col.toNat * 2 ^ 7 + w * 2 ^ 3) * 2 ^ (32 * w)) 0)
  else if pat = 4 then
    BitVec.ofNat 512 ((List.range 16).foldl (fun acc w =>
      acc + (if w % 2 = 0 then 0x55555555 else 0xAAAAAAAA) * 2 ^ (32 * w)) 0)
  else 0

/-- Check bits of a fill pattern (Table 4-7): computed or the marker field in Managed mode, zeros in Pass-through. -/
def patternCheck (pat : BitVec 4) (managed : Bool) (n : Nat) : BitVec 64 :=
  if managed then
    (if pat = 0 then 0
     else if pat = 2 then checkBits neverFilledMask
     else encodeCheck (patternData pat n))
  else 0

/-- Byte k of an access given as data and check bits. -/
def accessByte (data : BitVec 512) (check : BitVec 64) (k : Nat) : Byte :=
  if k < 64 then data.extractLsb' (8 * k) 8 else check.extractLsb' (8 * (k - 64)) 8

/-- What a byte of an access holds under a background, none where nobody knows (Table 4-8). -/
def Background.byte (b : Background) (n k : Nat) : Option Byte :=
  match b with
  | .unwritten _ => none
  | .pattern pat managed => some (accessByte (patternData pat n) (patternCheck pat managed n) k)

/-- An access lies in cells that no row reaches: spare k of a bank, or the row it replaces, at row 32,764 + k (R141, R142). -/
def accessSpare (n : Nat) : Bool := decide (32764 ≤ (accessOf n).2.2.1.toNat)

/-- The background of an access: the reserved rows of S0 have their own (R112, R117, R232), and cells no row reaches. -/
def PseudoChannel.background (p : PseudoChannel) (rows : Nat) (n : Nat) : Background :=
  let (sid, _, row, _) := accessOf n
  if accessSpare n then p.backSpare
  else if sid = 0 ∧ rows - 16 ≤ row.toNat then p.backRsv else p.back[sid]

/-- What an unlisted core-die byte reads as, none where its content is not known. -/
def PseudoChannel.unlisted (p : PseudoChannel) (rows : Nat) (a : Nat) : Option Byte :=
  (p.background rows (a / 72)).byte (a / 72) (a % 72)

/-- Read one core-die byte; a byte never written is a free value (Table 4-8, assumption 3). -/
def PseudoChannel.readByte (p : PseudoChannel) (rows : Nat) (a : Nat) : Byte :=
  match memFind p.dram a with
  | some b => b
  | none =>
    match p.background rows (a / 72) with
    | .unwritten epoch => Config.freeCell epoch a
    | .pattern pat managed =>
      accessByte (patternData pat (a / 72)) (patternCheck pat managed (a / 72)) (a % 72)

/-- The data bits of an access as stored. -/
def PseudoChannel.readData (p : PseudoChannel) (rows : Nat) (n : Nat) : BitVec 512 :=
  BitVec.ofNat 512 ((List.range 64).foldl (fun acc k => acc + (p.readByte rows (byteAddr n k)).toNat * 2 ^ (8 * k)) 0)

/-- The check bits of an access as stored. -/
def PseudoChannel.readCheck (p : PseudoChannel) (rows : Nat) (n : Nat) : BitVec 64 :=
  BitVec.ofNat 64
    ((List.range 8).foldl (fun acc k => acc + (p.readByte rows (byteAddr n (64 + k))).toNat * 2 ^ (8 * k)) 0)

/-- Replace all 64 data bytes and the whole check field of an access (R96). -/
def PseudoChannel.writeAccess (p : PseudoChannel) (rows : Nat) (n : Nat) (data : BitVec 512) (check : BitVec 64) :
    PseudoChannel :=
  { p with dram := memPutAll (p.unlisted rows) p.dram (byteAddr n 0) ((List.range 72).map (accessByte data check)) }

/-- An access lies in the reserved rows of S0. -/
def accessReserved (rows : Nat) (n : Nat) : Bool :=
  let (sid, _, row, _) := accessOf n
  sid == 0 && decide (rows - 16 ≤ row.toNat) && !accessSpare n

/-- Give the accesses of the named SIDs a new background; rows reserved under R6 are kept where skip holds (R112,
R515). -/
def PseudoChannel.fillAll (p : PseudoChannel) (rows : Nat) (sids : BitVec 4) (b : Background) (skip : Bool) :
    PseudoChannel :=
  { p with
    back := p.back.mapFinIdx (fun i old _ => if sids.getLsbD i then b else old)
    backRsv := if sids.getLsbD 0 && !skip then b else p.backRsv
    dram := p.dram.filter (fun e =>
      !(sids.getLsbD (accessOf (e.1 / 72)).1.val) || (skip && accessReserved rows (e.1 / 72)) || accessSpare (e.1 / 72)) }

/-- Give the reserved rows a new background (R117, R232). -/
def PseudoChannel.fillReserved (p : PseudoChannel) (rows : Nat) (b : Background) : PseudoChannel :=
  { p with backRsv := b, dram := p.dram.filter (fun e => !accessReserved rows (e.1 / 72)) }

/-- Put bytes at rising addresses in place of what is listed there, keeping the canonical form. -/
def memSetRange (unlisted : Nat → Option Byte) (m : List Host.Cell) (a : Nat) (bytes : List Byte) : List Host.Cell :=
  m.filter (fun e => decide (e.1 < a))
    ++ (bytes.zipIdx.map (fun x => (a + x.2, x.1))).filter (fun e => decide (unlisted e.1 ≠ some e.2))
    ++ m.filter (fun e => decide (a + bytes.length ≤ e.1))

/-- The first byte of a row of a bank, and the bytes of a row: 16 accesses of 72 (R95, R130). -/
def rowAddr (bank : Fin 64) (row : Nat) : Nat := byteAddr ((bank.val * 32768 + row) * 16) 0
@[inherit_doc rowAddr] def rowBytes : Nat := 1152

/-- What a row's bytes hold. -/
def PseudoChannel.rowContent (p : PseudoChannel) (rows : Nat) (bank : Fin 64) (row : Nat) : List Byte :=
  (List.range rowBytes).map (fun k => p.readByte rows (rowAddr bank row + k))

/-- The cells of a row and of a spare of its bank change places: from now on the row's address reaches the other's cells
(R141, R142). -/
def PseudoChannel.swapCells (p : PseudoChannel) (rows : Nat) (bank : Fin 64) (row : Nat) (spare : Fin 4) : PseudoChannel :=
  let spareRow := 32764 + spare.val
  let m1 := memSetRange (p.unlisted rows) p.dram (rowAddr bank row) (p.rowContent rows bank spareRow)
  { p with dram := memSetRange (p.unlisted rows) m1 (rowAddr bank spareRow) (p.rowContent rows bank row) }

/-! ## Ledger and events -/

/-- Milliseconds of the timebase (R475). -/
def State.ms (s : State) : Nat := s.timeUs / 1000

/-- Classes of Table 17-2. -/
inductive LedgerClass where
  | health | dramErr | repair | link | refresh | thermal | clock | store | fuse | mgmt | security | session | mark | life
  deriving DecidableEq, Repr

/-- Bit number of a class (Table 17-2). -/
def LedgerClass.bit : LedgerClass → Nat
  | .health => 0 | .dramErr => 1 | .repair => 2 | .link => 3 | .refresh => 4 | .thermal => 5 | .clock => 6
  | .store => 7 | .fuse => 8 | .mgmt => 9 | .security => 10 | .session => 11 | .mark => 12 | .life => 13

/-- Class and part of a record type (Table 17-3): the class, parameter part, mergeable. -/
def ledgerKind (typ : Byte) : LedgerClass × Bool × Bool :=
  match typ.toNat with
  | 0x01 => (.health, true, false) | 0x02 => (.dramErr, false, false) | 0x03 => (.dramErr, false, true)
  | 0x04 => (.repair, false, false) | 0x05 => (.repair, true, false) | 0x06 => (.link, false, true)
  | 0x07 => (.link, false, true) | 0x08 => (.link, false, false) | 0x09 => (.refresh, true, true)
  | 0x0A => (.refresh, false, false) | 0x0B => (.thermal, true, false) | 0x0C => (.thermal, false, true)
  | 0x0D => (.clock, false, true) | 0x0E => (.store, true, false) | 0x0F => (.fuse, true, false)
  | 0x10 => (.mgmt, true, false) | 0x11 => (.mgmt, false, true) | 0x12 => (.security, true, false)
  | 0x13 => (.security, false, false) | 0x14 => (.security, true, false) | 0x15 => (.session, false, false)
  | 0x16 => (.mark, false, false) | 0x17 => (.life, true, false) | _ => (.health, true, false)

/-- Count an occurrence in a record still in SRAM (R476). -/
def LedgerRec.merge (r : LedgerRec) : LedgerRec := { r with count := min (r.count + 1) 255 }

/-- A record that a new occurrence of a mergeable type joins: same type and unit (the first two body bytes), less than
60 s old, still in SRAM (R476). -/
def LedgerRec.joins (r : LedgerRec) (typ : Byte) (body : List Byte) (ms : Nat) : Bool :=
  r.typ == typ && r.body.take 2 == body.take 2 && decide (ms < r.ms + 60000) && !r.stored

/-- Pages of a pair that a parameter-part record takes: a LIFE snapshot seven and the page of its commit record, the others one
(R478; DESIGN CHOICE, log 131). -/
def paramPages (typ : Byte) : Nat := if typ = 0x17 then 8 else 1

/-- The entry a record of the repair journal changes, as 8 (2 ch + pc) + index. -/
def RemapRec.key (r : RemapRec) : Nat := 8 * (2 * r.ch.val + r.pc.val) + r.entry.val

/-- The record gives its entry a word: every record but SPARE_BAD (R272). -/
def RemapRec.sets (r : RemapRec) : Bool := r.action != .spareBad

/-- The remap entries that the repair journal builds, by key; a free one is not listed (R272, R276). -/
def NonVolatile.remaps (n : NonVolatile) : List (Nat × BitVec 32) :=
  n.repairs.foldl (fun acc r => if r.sets then sparseSet acc r.key r.word else acc) []

/-- The records of the repair journal still needed under R276: of each entry that is not free the newest, and every SPARE_BAD
(R478). -/
def NonVolatile.repairsNeeded (n : NonVolatile) : List RemapRec :=
  n.repairs.filter (fun r => match r.action with
    | .spareBad => true
    | .hardDone => false
    | _ => !n.repairs.any (fun y => y.sets && y.key == r.key && decide (r.seq < y.seq)))

/-- A new pair of the parameter part is erased and takes the summary: the newest LIFE snapshot, the newest HEALTH_CHANGE record and
what is needed of the repair journal; the other records the pair held are lost (R478; its pages, log 131). -/
def NonVolatile.rotate (n : NonVolatile) : NonVolatile :=
  let next := n.pair + 1
  let newest (typ : Byte) : Nat := n.ledger.foldl (fun acc r => if r.typ == typ then max acc r.seq else acc) 0
  let summed (r : LedgerRec) : Bool := (r.typ == 0x17 && r.seq == newest 0x17) || (r.typ == 0x01 && r.seq == newest 0x01)
  { n with
    ledger := (n.ledger.filter (fun r => !r.param || r.place != next.val || summed r)).map (fun r =>
      if summed r then { r with place := next.val } else r)
    repairs := n.repairsNeeded
    pair := next
    pairPages := 9 + (n.repairsNeeded.length + 6) / 7 }

/-- Room in the pair in use for a record of some pages: where there is none the next pair is taken (R478). -/
def NonVolatile.roomFor (n : NonVolatile) (pages : Nat) : NonVolatile :=
  if n.pairPages + pages ≤ 32 then n else n.rotate

/-- A record of the parameter part is programmed (R478). -/
def NonVolatile.storeParam (n : NonVolatile) (typ : Byte) : NonVolatile :=
  let m := n.roomFor (paramPages typ)
  { m with pairPages := m.pairPages + paramPages typ }

/-- A record of the repair journal is programmed, in two parameter sectors (R272, R478). -/
def NonVolatile.storeRepair (n : NonVolatile) (c : Ch) (p : Pc) (e : Fin 8) (action : RemapAction) (w : BitVec 32) : NonVolatile :=
  let m := n.roomFor 1
  { m with
    repairs := m.repairs ++ [{ seq := n.repairs.foldl (fun acc r => max acc (r.seq + 1)) 1, ch := c, pc := p, entry := e
                               action := action, word := w }]
    pairPages := m.pairPages + 1 }

/-- Record a ledger event: merged where R476 says so. Parameter-part records are programmed within 2 ms (R478), main-part
ones wait for their page (R477). -/
def State.record (s : State) (typ : Byte) (body : List Byte) : State :=
  let (cls, param, mergeable) := ledgerKind typ
  if mergeable && s.nv.ledger.any (fun r => r.joins typ body s.ms) then
    s.updNv (fun n => { n with ledger := n.ledger.map (fun r => if r.joins typ body s.ms then r.merge else r) })
  else
    s.updNv (fun old =>
      let n := if param then old.storeParam typ else old
      { n with
        ledger := n.ledger ++ [{ seq := n.nextSeq, phours := n.powerHours, ms := s.ms, cls := cls.bit, typ := typ,
                                 body := body.take 48, param := param, stored := param, place := n.pair.val }]
        nextSeq := n.nextSeq + 1 })

/-- Write a ledger record, or total it while the management plane is down (Table 1-3). -/
def State.ledger (s : State) (typ : Byte) (body : List Byte) : State :=
  if s.power.booted then s.record typ body
  else { s with mgmt := { s.mgmt with owed := s.mgmt.owed ++ [(typ, body)] } }

/-- The sequence number of the newest record of a type and unit, 0 if there is none (R421). -/
def State.seqOf (s : State) (typ : Byte) (body : List Byte) : Nat :=
  s.nv.ledger.foldl (fun acc r => if r.typ == typ && r.body.take 2 == body.take 2 then r.seq else acc) 0

/-- Queue an event to every open session whose mask has its bit (R420). -/
def Session.addEvent (k : Session) (e : Event) : Session :=
  if k.live && k.mask.getLsbD e.typ then
    (if k.events.length < 32 then { k with events := k.events ++ [e] } else { k with lost := min (k.lost + 1) 255 })
  else k

/-- Queue an event to the sessions (R420, Table 14-11). -/
def State.event (s : State) (typ : Nat) (unit ch pc : Byte := 0) (data : Word32 := 0) (seq : Nat := 0) : State :=
  { s with sessions := s.sessions.map (fun k =>
      k.addEvent { typ := typ, unit := unit, ch := ch, pc := pc, time := s.ms, seq := seq, data := data }) }

/-- Write a ledger record and queue the event that goes with it (R420, R421). -/
def State.ledgerEvent (s : State) (rec : Byte) (body : List Byte) (typ : Nat) (unit ch pc : Byte := 0)
    (data : Word32 := 0) : State :=
  let s1 := s.ledger rec body
  s1.event typ unit ch pc data (s1.seqOf rec body)

/-- One byte of a number. -/
def byteOf (n : Nat) : Byte := BitVec.ofNat 8 n

/-- The ADDR word of an access (Table 14-1). -/
def addrWord (c : Ch) (p : Pc) (n : Nat) : Word32 :=
  let (sid, bank, row, col) := accessOf n
  BitVec.ofNat 32 (c.val * 2 ^ 27 + p.val * 2 ^ 26 + sid.val * 2 ^ 24 + bank.val * 2 ^ 20 + row.toNat * 2 ^ 5
    + col.toNat * 2)

/-- The raw content of an eFuse word (R456). -/
def State.rawFuse (s : State) (w : Nat) : BitVec 39 := sparseGet s.nv.efuse w

/-- Blow the bits of a raw word, but those that do not verify (R467). -/
def State.blow (s : State) (w : Nat) (bits failBits : BitVec 39) : State :=
  s.updNv (fun n => { n with efuse := sparseSet n.efuse w (sparseGet n.efuse w ||| (bits &&& ~~~failBits)) })

/-- A stack reset or a trip stops the pulses of the fuse controller: which bits of the word it was to program stand blown is a free
value (R297, R468; whether a pulse had begun, log 130). A word that is not 0 takes none. -/
def State.cutFuse (s : State) : State :=
  match s.fuseQueue with
  | [] => s
  | j :: _ =>
    if s.rawFuse j.word.val ≠ 0 then s
    else
      let (stopped, s1) := s.free 39
      s1.blow j.word.val j.bits stopped

/-- The leases do not run: a Quince program or erase runs, or a Lantern stalls (R358). -/
def State.stalled (s : State) : Bool := s.quince.op.isSome || s.mgmt.stall

/-- The idle step: the timebase advances by 1 us (assumption 1); leases stand still while the plane stalls (R358). -/
def idle (s : State) : State :=
  { s with
    timeUs := s.timeUs + 1
    sessions := if s.stalled then s.sessions.map (fun k => { k with leaseAt := k.leaseAt + 1 }) else s.sessions }

/-- A command that changes nothing. -/
def unchanged (s : State) : Result := .next s

end Sys2Proof.Machine
end

