-- ==== Sys2Proof/Machine/Flags.lean ====
section
/-! DEFINITION. What the mode registers read (Tables 3-5 to 3-16a), the counts of a bin (Table 3-18), the RFM request
slots (R70), ALERT_n (R77) and the limits derived from a register (R69, R223). -/

namespace Sys2Proof.Machine

/-! ## Counts by bin (Table 3-18); codes of Table 3-6 -/

/-- A count of Table 3-18 by the bin code: 6.4, 8.0, 10.0, 12.8 Gb/s. -/
def byBin (bin : BitVec 2) (b64 b80 b100 b128 : Nat) : Nat :=
  match bin.toNat with
  | 0 => b64 | 1 => b80 | 2 => b100 | _ => b128

/-- RL in tCK. -/
def rlOf (bin : BitVec 2) : Nat := byBin bin 28 35 44 56
/-- WL in tCK. -/
def wlOf (bin : BitVec 2) : Nat := byBin bin 7 9 11 14
/-- CORE_RL in tCK (Table 5-10). -/
def coreRlOf (bin : BitVec 2) : Nat := byBin bin 9 12 15 18
/-- The nominal read-return occupancy in tCK (Table 4-2). -/
def occOf (bin : BitVec 2) : Nat := byBin bin 3 4 8 14

/-! ## Refresh modes and limits -/

/-- MR06 code of a SID (Table 3-12). -/
def State.modeCode (s : State) (sid : Sid) : BitVec 2 :=
  if !s.sidPresent sid then 0
  else match s.thermal.mode[sid] with
    | .x1 => 0
    | .x2 => 1
    | .x4 => if s.thermal.over105[sid] then 3 else 2

/-- The spacing of accruals in ticks (R223). -/
def RefMode.ticks : RefMode → Nat
  | .x1 => 4
  | .x2 => 2
  | .x4 => 1

/-- POST_LIM as it acts: 0 and 9 to 15 act as 8 (Table 3-9). -/
def postLimit (v : BitVec 4) : Nat := if v = 0 ∨ 8 < v.toNat then 8 else v.toNat

/-- The postponement limit in force in a refresh mode (R69). -/
def limitIn (v : BitVec 4) : RefMode → Nat
  | .x1 => postLimit v
  | .x2 => (postLimit v + 1) / 2
  | .x4 => (postLimit v + 3) / 4

/-- The limit of a SID in rows (R223, R224). -/
def State.limitRows (s : State) (h : Channel) (sid : Sid) : Int :=
  ((limitIn h.regs.postLim s.thermal.mode[sid] * s.advance : Nat) : Int)

/-! ## RFM request slots -/

/-- A posted request with its place. -/
structure Slotted where
  pc : Pc
  bank : Fin 64
  req : RfmReq
  deriving DecidableEq, Repr

/-- Order of R70: ACTs left, then the older. -/
def Slotted.before (a b : Slotted) : Bool :=
  decide (a.req.left < b.req.left) || (a.req.left == b.req.left && decide (a.req.stamp ≤ b.req.stamp))

/-- Insert into a list in the order of R70. -/
def slotInsert (x : Slotted) : List Slotted → List Slotted
  | [] => [x]
  | y :: rest => if x.before y then x :: y :: rest else y :: slotInsert x rest

/-- The posted requests of a pseudo-channel. -/
def PseudoChannel.requests (p : PseudoChannel) (pc : Pc) : List Slotted :=
  (List.finRange 64).filterMap (fun i => match p.banks[i].rfm with
    | some r => some ⟨pc, i, r⟩
    | none => none)

/-- The posted requests of a channel in the order of R70. -/
def Channel.requests (h : Channel) : List Slotted :=
  (h.pcs[0].requests 0 ++ h.pcs[1].requests 1).foldr slotInsert []

/-- An RFM request slot (Table 3-11). -/
def slotWord (x : Slotted) : BitVec 16 :=
  BitVec.ofNat 16 (2 ^ 15 + (x.bank.val / 16) * 2 ^ 13 + x.pc.val * 2 ^ 12 + (x.bank.val % 16) * 2 ^ 8
    + min x.req.left 64)

/-- The 16 extension words of MR05 (R70). -/
def Channel.slots (h : Channel) : List (BitVec 16) :=
  ((h.requests.map slotWord) ++ List.replicate 16 0).take 16

/-! ## Mode registers -/

/-- Bits from the highest given to the lowest, as one number. -/
def bitsToNat (bits : List Bool) : Nat := bits.foldl (fun acc b => 2 * acc + b.toNat) 0

/-- CAPAR_EN, DPAR_EN, ALERT_EN and ALERT_MASK of MR03 (Table 3-8). -/
def ModeRegs.caparEn (r : ModeRegs) : Bool := r.mr03.getLsbD 0
@[inherit_doc ModeRegs.caparEn] def ModeRegs.dparEn (r : ModeRegs) : Bool := r.mr03.getLsbD 1
@[inherit_doc ModeRegs.caparEn] def ModeRegs.alertEn (r : ModeRegs) : Bool := r.mr03.getLsbD 2
@[inherit_doc ModeRegs.caparEn] def ModeRegs.alertMask (r : ModeRegs) : BitVec 10 := r.mr03.extractLsb' 3 10

/-- The value MRR returns for a register (Tables 3-5 to 3-16a; R65: what is not described reads 0). -/
def State.mrRead (s : State) (c : Ch) (ma : Fin 32) : BitVec 16 :=
  let h := s.chans[c]
  let r := h.regs
  let p0 := h.pcs[0]
  let p1 := h.pcs[1]
  let lab (v : BitVec 16) : BitVec 16 := if s.mgmt.lab then v else 0
  match ma.val with
  | 0 => BitVec.ofNat 16 (rlOf s.wick.binAct * 32 + wlOf s.wick.binAct)
  | 1 => BitVec.ofNat 16 (bitsToNat [r.binDenied, decide (r.binReq ≠ s.wick.binAct)] * 16
      + s.wick.binAct.toNat * 4 + r.binReq.toNat)
  | 2 => BitVec.ofNat 16 (r.fillPat.toNat * 256
      + bitsToNat [p1.filled, p0.filled, p1.fillBusy, p0.fillBusy, p1.managed, p0.managed])
  | 3 => r.mr03.setWidth 16
  | 4 => BitVec.ofNat 16 (r.postLim.toNat * 4 + bitsToNat [r.adaptAct, r.adaptEn])
  | 5 => r.causes.setWidth 16
  | 6 => BitVec.ofNat 16 (r.tsnsFault.toNat * 2 ^ 11 + r.tcode.toNat * 2 ^ 8 + (s.modeCode 3).toNat * 64
      + (s.modeCode 2).toNat * 16 + (s.modeCode 1).toNat * 4 + (s.modeCode 0).toNat)
  | 7 => BitVec.ofNat 16 (r.lmwDue.toNat * 4 + r.policy.toNat)
  | 8 => BitVec.ofNat 16 (bitsToNat [r.srManaged, r.srAct, p1.powerDown, p0.powerDown, p1.qact, p0.qact, p1.quiesce,
      p0.quiesce])
  | 9 => BitVec.ofNat 16 (r.errIdx.toNat * 256 + r.seqCnt.toNat)
  | 10 => lab r.mr10
  | 11 => lab r.mr11
  | 13 => lab r.mr13
  | 14 => lab r.mr14
  | 15 => lab r.mr15
  | 16 => BitVec.ofNat 16 (s.dens.toNat * 64 + s.layers.toNat * 16
      + bitsToNat [p1.failed, p0.failed, p1.ready, p0.ready])
  | _ => 0

/-- The extension words of a register: only MR05 has them (R65). -/
def Channel.mrExt (h : Channel) (ma : Fin 32) : List (BitVec 16) :=
  if ma.val = 5 then h.slots else List.replicate 16 0

/-- ALERT_n is driven low (R77, Table 3-10): an enabled, unmasked cause is set. Released while the group is power-gated
(R93), in reset (R341) and after a trip (R297). -/
def State.alertLow (s : State) (c : Ch) : Bool :=
  let r := s.chans[c].regs
  !s.isGated c && !s.inReset && !s.thermal.trip && r.alertEn && (r.causes &&& r.alertMask) != 0

/-- Every bank of a pseudo-channel is closed in every SID; a closing bank is not closed (R71, R537). -/
def PseudoChannel.allClosed (p : PseudoChannel) : Bool := p.banks.toList.all (fun b => b.phase == .closed)

/-- A fill pattern that FILL_PAT codes (Table 4-7, R114). -/
def fillLegal (pat : BitVec 4) (managed : Bool) : Bool := decide (pat.toNat ≤ 4) && (pat != 2 || managed)

/-- A lab control at a value other than 0 acts (Table 3-16a). -/
def State.lbMode (s : State) (c : Ch) (p : Pc) : Nat :=
  if s.mgmt.lab && s.chans[c].regs.mr10.getLsbD (2 + p.val) then (s.chans[c].regs.mr10.extractLsb' 0 2).toNat else 0

/-- HALT_MAINT of MR13 and NO_MAINT_SLACK, FORCE_N of MR14 (Table 3-16a). -/
def State.haltMaint (s : State) (c : Ch) : Bool := s.mgmt.lab && s.chans[c].regs.mr13.getLsbD 0
@[inherit_doc State.haltMaint] def State.noMaintSlack (s : State) (c : Ch) : Bool :=
  s.mgmt.lab && s.chans[c].regs.mr14.getLsbD 1
@[inherit_doc State.haltMaint] def State.forceN (s : State) (c : Ch) : Bool :=
  s.mgmt.lab && s.chans[c].regs.mr14.getLsbD 0

end Sys2Proof.Machine
end

