-- ==== Sys2Proof/Machine/Cells.lean ====
section
/-! DEFINITION. Whole accesses and rows of the core dies: storing one, copying a row, and what the reserved rows hold (Table
8-4a, R232 to R234). -/

namespace Sys2Proof.Machine

/-! ## Accesses and rows -/

/-- An access is written anew: it no longer carries injected content. -/
def PseudoChannel.clearInjected (q : PseudoChannel) (n : Nat) : PseudoChannel :=
  { q with injected := q.injected.filter (fun x => x.1 != n) }

/-- Store an access, as a host or scrub write does (R96). -/
def PseudoChannel.storeAccess (q : PseudoChannel) (rows n : Nat) (data : BitVec 512) (check : BitVec 64) : PseudoChannel :=
  (q.writeAccess rows n data check).clearInjected n

/-- An access is decoded with the Managed code: Managed mode, or a reserved row (R234). -/
def PseudoChannel.decodes (q : PseudoChannel) (rows n : Nat) (adapt : Bool) : Bool :=
  q.managed || (adapt && accessReserved rows n)

/-- What a copy carries of an access that the Managed code holds: corrected, an uncorrectable one as POISON (R273, Table 9-7). -/
def carriedCell (data : BitVec 512) (check : BitVec 64) : BitVec 512 × BitVec 64 :=
  let d := decodeManaged data check
  if d.ue then (data, maskedCheck data poisonMask)
  else match d.sev with
    | .poison => (d.data, maskedCheck d.data poisonMask)
    | .neverFilled => (0, maskedCheck 0 neverFilledMask)
    | _ => (d.data, encodeCheck d.data)

/-- The 16 accesses of a row as stored, decoded and corrected where the Managed code holds them (R234, R273); wrong are bits of
the first access that arrive in error. -/
def PseudoChannel.copyCells (q : PseudoChannel) (rows : Nat) (adapt : Bool) (sid : Sid) (bank : Fin 16) (row : Row)
    (wrong : BitVec 576 := 0) : List (BitVec 512 × BitVec 64) :=
  (List.range 16).map (fun k =>
    let n := accessNo sid bank row (BitVec.ofNat 4 k)
    let e := if k = 0 then wrong else 0
    let data := q.readData rows n ^^^ e.extractLsb' 0 512
    let check := q.readCheck rows n ^^^ e.extractLsb' 512 64
    if q.decodes rows n adapt then carriedCell data check else (data, check))

/-- Write a row from copied cells (R273). -/
def PseudoChannel.pasteCells (q : PseudoChannel) (rows : Nat) (sid : Sid) (bank : Fin 16) (row : Row)
    (cells : List (BitVec 512 × BitVec 64)) : PseudoChannel :=
  (List.range 16).foldl (fun (acc : PseudoChannel) k =>
    match cells[k]? with
    | some (d, e) => acc.storeAccess rows (accessNo sid bank row (BitVec.ofNat 4 k)) d e
    | none => acc) q

/-! ## The retention map in the reserved rows -/

/-- The map index of a group: SID, bank and group (R233). -/
def mapIndex (rows : Nat) (sid : Sid) (bank : Fin 16) (group : Nat) : Nat :=
  (16 * sid.val + bank.val) * (rows / 4) + group

/-- Access k of a run of rows over the 16 banks of S0 that begins at a row: row k / 16 of the run lies in bank (k / 16) mod 16
(Table 8-4a). -/
def reservedAccess (first k : Nat) : Nat :=
  accessNo 0 ⟨k / 16 % 16, Nat.mod_lt _ (by decide)⟩ (BitVec.ofNat 15 (first + k / 256)) (BitVec.ofNat 4 k)

/-- Access a of the bin map, map bytes 64 a to 64 a + 63 (R233, Table 8-4a, rows L - 15 to L - 10). -/
def mapAccess (rows a : Nat) : Nat := reservedAccess (rows - 16) a

/-- Access j of the weak-row list, entries 16 j to 16 j + 15 (Table 8-4a, rows L - 9 and L - 8). -/
def listAccess (rows j : Nat) : Nat := reservedAccess (rows - 10) j

/-- The data of access a of the bin map: 256 groups of two bits (R233). -/
def mapData (bins : List (Nat × BitVec 2)) (a : Nat) : BitVec 512 :=
  BitVec.ofNat 512 (bins.foldl (fun acc e => if e.1 / 256 = a then acc + e.2.toNat * 4 ^ (e.1 % 256) else acc) 0)

/-- The data of access j of the weak-row list; entry e of an access in data bits 32 e + 31 to 32 e (DESIGN CHOICE, log 114). -/
def listData (weak : List (BitVec 32)) (j : Nat) : BitVec 512 :=
  BitVec.ofNat 512 ((((weak.drop (16 * j)).take 16).zipIdx).foldl (fun acc x => acc + x.1.toNat * 2 ^ (32 * x.2)) 0)

/-- Store data in a reserved row, always with the Managed code (R234). -/
def PseudoChannel.storeReserved (q : PseudoChannel) (rows n : Nat) (data : BitVec 512) : PseudoChannel :=
  q.storeAccess rows n data (encodeCheck data)

/-- Map access a as the live map has it, written to its row. -/
def PseudoChannel.writeMapAccess (q : PseudoChannel) (rows a : Nat) : PseudoChannel :=
  q.storeReserved rows (mapAccess rows a) (mapData q.bins a)

/-- The weak-row list as it stands, written to its rows; the entries after the last are invalid (08, "Weak rows"). -/
def PseudoChannel.writeList (q : PseudoChannel) (rows : Nat) : PseudoChannel :=
  (List.range 512).foldl (fun (k : PseudoChannel) j => k.storeReserved rows (listAccess rows j) (listData q.weak j)) q

/-- A group takes a code in the live map, which its map row holds while the reserved rows are in use (R232, R240). -/
def PseudoChannel.setCode (q : PseudoChannel) (rows : Nat) (adapt : Bool) (g : Nat) (code : BitVec 2) : PseudoChannel :=
  let q1 := { q with bins := sparseSet q.bins g code }
  if adapt then q1.writeMapAccess rows (g / 256) else q1

/-- The weak-row list changes (R230, R232). -/
def PseudoChannel.setWeak (q : PseudoChannel) (rows : Nat) (adapt : Bool) (weak : List (BitVec 32)) : PseudoChannel :=
  let q1 := { q with weak := weak }
  if adapt then q1.writeList rows else q1

/-- The map or list access at an access number, as lostMap numbers them. -/
def mapPlace (rows n : Nat) : Option Nat :=
  let (sid, bank, row, col) := accessOf n
  let place (first : Nat) : Nat := 256 * (row.toNat - first) + 16 * bank.val + col.toNat
  if sid ≠ 0 then none
  else if rows - 16 ≤ row.toNat ∧ row.toNat < rows - 10 then some (place (rows - 16))
  else if rows - 10 ≤ row.toNat ∧ row.toNat < rows - 8 then some (1536 + place (rows - 10))
  else none

/-! ## Profiling copies -/

/-- The copy row 4 slot + r of a profiling batch: bank slot of S0, row L - 7 + r (Table 8-4a). -/
def copyBank (k : Fin 64) : Fin 16 := ⟨k.val / 4, by omega⟩
@[inherit_doc copyBank] def copyRowOf (rows : Nat) (k : Fin 64) : Row := BitVec.ofNat 15 (rows - 8 + k.val % 4)

/-- A row is copied to a profiling copy row (R239). The copy holds what the row's accesses carry, its check field with it
(DESIGN CHOICE, log 114). -/
def PseudoChannel.copyOut (q : PseudoChannel) (rows : Nat) (adapt : Bool) (bank : Fin 64) (row : Nat) (k : Fin 64) : PseudoChannel :=
  q.pasteCells rows 0 (copyBank k) (copyRowOf rows k)
    (q.copyCells rows adapt (bankSid bank) ⟨bank.val % 16, by omega⟩ (BitVec.ofNat 15 row))

/-- A row is rewritten from its profiling copy (R240, R241). -/
def PseudoChannel.copyIn (q : PseudoChannel) (rows : Nat) (r : Restore) : PseudoChannel :=
  q.pasteCells rows (bankSid r.bank) ⟨r.bank.val % 16, by omega⟩ (BitVec.ofNat 15 r.row)
    ((List.range 16).map (fun c =>
      let n := accessNo 0 (copyBank r.copy) (copyRowOf rows r.copy) (BitVec.ofNat 4 c)
      (q.readData rows n, q.readCheck rows n)))

end Sys2Proof.Machine
end

