-- ==== Sys2Proof/Machine/MapStore.lean ====
section
/-! DEFINITION. The transfer area of a channel (R17), the durable copy of the retention maps in Quince (R242 to R245), and
their way into the reserved rows. -/

namespace Sys2Proof.Machine

/-! ## The transfer area -/

/-- An image in the transfer area, which holds 16; a write to the full area is held (R17). -/
def Taper.placeImage (t : Taper) (x : Transfer) : Taper :=
  if t.images.length < 16 then
    { t with images := t.images ++ [(t.imageSeq + 1, x)], imageSeq := t.imageSeq + 1 }
  else { t with held := t.held ++ [x] }

/-- Place a transfer image in the channel's transfer area (R17). -/
def State.postImage (s : State) (c : Ch) (x : Transfer) : State := s.updCh c (·.updTaper (·.placeImage x))

/-- The oldest image is taken and its sequence number reported; a held write then goes on (R17). -/
def Taper.takeOldest (t : Taper) : Taper :=
  match t.images with
  | [] => t
  | (seq, _) :: rest =>
    let t1 := { t with images := rest, imageTaken := seq, held := t.held.drop 1 }
    match t.held with
    | [] => t1
    | x :: _ => t1.placeImage x

/-- Transfer images that have not been taken are discarded at a management-plane reset, and writes that were held with them
(R17). -/
def Taper.dropImages (t : Taper) : Taper := { t with images := [], held := [] }

/-! ## The weak-row list -/

/-- Order of the weak-row list: RA, then SID, BG and BA (08, "Weak rows"). -/
def weakKey (w : BitVec 32) : Nat := (w.extractLsb' 10 15).toNat * 64 + (w.extractLsb' 25 6).toNat

/-- Insert an entry into the sorted list. -/
def weakInsert (w : BitVec 32) : List (BitVec 32) → List (BitVec 32)
  | [] => [w]
  | x :: rest => if weakKey w ≤ weakKey x then w :: x :: rest else x :: weakInsert w rest

/-! ## The durable copy -/

/-- The newest generation held by a slot (R244). -/
def NonVolatile.generation (n : NonVolatile) : Option Generation :=
  n.slots.toList.foldl (fun acc g => match acc, g with
    | none, y => y
    | x, none => x
    | some x, some y => if x.number < y.number then some y else some x) none

/-- The sequence number of the newest generation, 0 without one. -/
def NonVolatile.gen (n : NonVolatile) : Nat := (n.generation.map (·.number)).getD 0

/-- The delta record that the newest generation includes last. -/
def NonVolatile.mapSeq (n : NonVolatile) : Nat := (n.generation.map (·.seq)).getD 0

/-- A delta record is replayed on a map; an entry with VALID = 0 takes its row off the list (DESIGN CHOICE, log 117). -/
def MapImage.replay (m : MapImage) : DeltaItem → MapImage
  | .code g code => { m with bins := sparseSet m.bins g code }
  | .entry w =>
    let rest := m.weak.filter (fun x => weakKey x != weakKey w)
    { m with weak := if w.getLsbD 31 then weakInsert w rest else rest }
  | .image x => x

/-- The delta records of a pseudo-channel after a sequence number. -/
def NonVolatile.deltasAfter (n : NonVolatile) (u : Fin 64) (seq : Nat) : List DeltaRec :=
  n.deltaLog.filter (fun d => d.unit == u && decide (seq < d.seq))

/-- The durable map of a pseudo-channel: the newest generation's with every later delta record replayed; none where there is none
or a record is missing, unless a whole map was imported after it (R244, R246). -/
def NonVolatile.durable (n : NonVolatile) (u : Fin 64) : Option MapImage :=
  let stored := n.generation.bind (fun g => (g.maps.find? (fun x => x.1 == u)).map (·.2))
  (n.deltasAfter u (max n.mapSeq (n.mapGap.getD 0))).foldl (fun (m : Option MapImage) d =>
    match m, d.item with
    | some x, i => some (x.replay i)
    | none, .image x => some x
    | none, _ => none) (if n.mapGap.isSome then none else stored)

/-- What the delta log holds of a pseudo-channel without a durable map. -/
def NonVolatile.logged (n : NonVolatile) (u : Fin 64) : MapImage :=
  (n.durable u).getD ((n.deltasAfter u (n.mapGap.getD 0)).foldl (fun (m : MapImage) d => m.replay d.item) {})

/-- What a map has that an older copy has not, as delta records: codes, entries added, entries taken off. -/
def MapImage.delta (new old : MapImage) : List DeltaItem :=
  (new.bins.filter (fun e => sparseGet old.bins e.1 != e.2)).map (fun e => .code e.1 e.2)
    ++ (old.bins.filter (fun e => sparseGet new.bins e.1 == 0)).map (fun e => .code e.1 0)
    ++ (new.weak.filter (fun w => !old.weak.contains w)).map .entry
    ++ (old.weak.filter (fun w => !new.weak.contains w)).map (fun w => .entry (w &&& 0x7FFFFFFF))

/-- Records are written to the delta log, each with the next sequence number (R242). -/
def NonVolatile.logDeltas (n : NonVolatile) (u : Fin 64) (items : List DeltaItem) : NonVolatile :=
  items.foldl (fun (m : NonVolatile) i =>
    { m with deltaSeq := m.deltaSeq + 1, deltaLog := m.deltaLog ++ [{ seq := m.deltaSeq + 1, unit := u, item := i }] }) n

/-- Records that the delta log holds when it is three-quarters full: in two copies on the 130 lower data pages of each of 16
sectors, 32 records of 16 bytes a page (R242, R243, R427). -/
def deltaMark : Nat := 24960

/-- The number of a pseudo-channel in the stack. -/
def pcUnit (c : Ch) (p : Pc) : Fin 64 := ⟨2 * c.val + p.val, by omega⟩

/-- The durable map of a pseudo-channel. -/
def State.durable (s : State) (c : Ch) (p : Pc) : Option MapImage := s.nv.durable (pcUnit c p)

/-- The map as the pseudo-channel lives on it. -/
def PseudoChannel.liveMap (q : PseudoChannel) : MapImage := { bins := q.bins, weak := q.weak }

/-! ## Map states -/

/-- Code of a map state in the MAP_STATE record and RET_STATUS, in the order of Table 8-7. -/
def MapState.code : MapState → Nat
  | .loaded => 0
  | .imported => 1
  | .fallback => 2
  | .disabled => 3

/-- The state that a durable map gives (Table 8-7). -/
def mapStateOf : Option MapImage → MapState
  | none => .fallback
  | some m => if m.imported then .imported else .loaded

/-- A change of map state is recorded: MAP_STATE record and event type 11 (Tables 17-3, 14-11). -/
def State.reportMapState (s : State) (c : Ch) (p : Pc) (old new : MapState) : State :=
  if old = new then s
  else s.ledgerEvent 0x0A [byteOf c.val, byteOf p.val, byteOf old.code, byteOf new.code] 11 0 (byteOf c.val) (byteOf p.val)

/-- A map state is taken up, and the hours in FALLBACK end with it (R245). -/
def State.takeMapState (s : State) (c : Ch) (p : Pc) (m : MapState) : State :=
  let s1 := s.updPc c p (fun q => { q with mapState := m })
  match m with
  | .loaded | .imported => s1.updNv (fun n => { n with fbHours := n.fbHours.set (pcUnit c p) none })
  | .fallback => s1.updNv (fun n => { n with fbHours := n.fbHours.set (pcUnit c p) (some ((n.fbHours[pcUnit c p]).getD 0)) })
  | .disabled => s1

/-- A map state changes. -/
def State.setMapState (s : State) (c : Ch) (p : Pc) (m : MapState) : State :=
  let old := s.chans[c].pcs[p].mapState
  if old = m then s else (s.takeMapState c p m).reportMapState c p old m

/-! ## The way into the reserved rows -/

/-- The bytes of data bits, byte k from bits 8 k + 7 to 8 k (R95, R233). -/
def dataBytes (d : BitVec 512) : List Byte := (List.range 64).map (fun k => d.extractLsb' (8 * k) 8)

/-- Data bits from bytes. -/
def dataOf (bytes : List Byte) : BitVec 512 :=
  BitVec.ofNat 512 (bytes.zipIdx.foldl (fun acc x => acc + x.1.toNat * 2 ^ (8 * x.2)) 0)

/-- The 1,024 bytes of a map row, and from 96 of a row of the weak-row list (R233, Table 8-4a). -/
def MapImage.rowBytes (m : MapImage) (row : Nat) : List Byte :=
  (List.range 16).flatMap (fun k =>
    if row < 96 then dataBytes (mapData m.bins (16 * row + k)) else dataBytes (listData m.weak (16 * (row - 96) + k)))

/-- The codes other than N that a map row's bytes hold (R233). -/
def rowCodes (row : Nat) (bytes : List Byte) : List (Nat × BitVec 2) :=
  bytes.zipIdx.flatMap (fun x => (List.range 4).filterMap (fun j =>
    let code := x.1.extractLsb' (2 * j) 2
    if code = 0 then none else some (4 * (1024 * row + x.2) + j, code)))

/-- The valid entries that a list row's bytes hold (Table 8-4, log 114). -/
def rowEntries (bytes : List Byte) : List (BitVec 32) :=
  (List.range 256).filterMap (fun e =>
    let byte (k : Nat) : Nat := (bytes.getD (4 * e + k) 0).toNat
    let w := BitVec.ofNat 32 (byte 0 + byte 1 * 2 ^ 8 + byte 2 * 2 ^ 16 + byte 3 * 2 ^ 24)
    if w.getLsbD 31 then some w else none)

/-- A map or list row is written from its bytes: the live map takes what it holds, and accesses of it that were uncorrectable are
readable again (R234, R244). -/
def PseudoChannel.writeMapRow (q : PseudoChannel) (rows row : Nat) (bytes : List Byte) : PseudoChannel :=
  let stored := (List.range 16).foldl (fun (k : PseudoChannel) j =>
    k.storeReserved rows (if row < 96 then mapAccess rows (16 * row + j) else listAccess rows (16 * (row - 96) + j))
      (dataOf ((bytes.drop (64 * j)).take 64))) q
  let v := 256 * (row - 96)
  { stored with
    bins := if row < 96 then q.bins.filter (fun e => decide (e.1 < 4096 * row)) ++ rowCodes row bytes
        ++ q.bins.filter (fun e => decide (4096 * (row + 1) ≤ e.1)) else q.bins
    weak := if row < 96 then q.weak else q.weak.take v ++ rowEntries bytes ++ q.weak.drop (v + 256)
    lostMap := q.lostMap.filter (fun a => a / 16 != row) }

/-- Lantern C loads a durable map into the reserved rows through the transfer area; until the load ends each group counts as N
(R244, "Where the map lives"). Old is the state from which a change is to be recorded. -/
def State.startMapLoad (s : State) (c : Ch) (p : Pc) (m : MapImage) (old : Option MapState) : State :=
  ((List.range 128).foldl (fun (t : State) row => t.postImage c (.map p row (m.rowBytes row)))
    (s.updPc c p (fun q => { q with mapState := .fallback, bins := [], weak := [], lostMap := [] }))).postImage c (.mapDone p old)

/-- The pseudo-channel takes up what its durable map says (R244, Table 8-7): a load, or FALLBACK, whose entry is recorded where
no hours in it have been counted (R245). -/
def State.takeUpMap (s : State) (c : Ch) (p : Pc) (old : Option MapState) : State :=
  match s.durable c p with
  | some m => s.startMapLoad c p m old
  | none =>
    let s1 := (s.updPc c p (fun q => { q with bins := [], weak := [], lostMap := [] })).takeMapState c p .fallback
    if (s.nv.fbHours[pcUnit c p]).isNone then s1.reportMapState c p (old.getD .loaded) .fallback else s1

/-- Lantern C rewrites a map or list row that cannot be read from its Quince copy (R234). -/
def State.rewriteMapRow (s : State) (c : Ch) (p : Pc) (access : Nat) : State :=
  match s.durable c p with
  | some m => s.postImage c (.map p (access / 16) (m.rowBytes (access / 16)))
  | none => s

end Sys2Proof.Machine
end

