-- ==== Sys2Proof/Machine/RefreshOps.lean ====
section
/-! DEFINITION. The refresh manager's operations (08): which rows a cursor owes, the work of a REF in the order of
Table 8-5, the activation tracker, refresh debt, and the host's obligation. -/

namespace Sys2Proof.Machine

/-- What a refresh command needs to know of the stack and the channel. -/
structure RefCtx where
  /-- rows of a bank (R4), rows of an advance (R222) -/
  rows : Nat
  adv : Nat
  /-- SIDs present (R5) -/
  sids : Nat
  /-- weak rows are in use: ADAPT_ACT is 1 and the map is loaded or imported (R228, R230, Table 8-7) -/
  weak : Bool
  /-- retention bins are in use: as weak rows, and the SID is not above 105 degC (R220), FORCE_N not set (Table 3-16a) -/
  bins : Bool
  /-- the limit of the SID in rows (R224) -/
  limit : Int
  th : Nat
  stamp : Nat
  /-- the reserved rows of S0 are in use: ADAPT_ACT is 1 (R6, R232) -/
  adapt : Bool
  /-- order 6 is done: not in managed self-refresh (R251, Table 8-8) -/
  profile : Bool
  /-- orders 5 to 7 are not done (MR14 NO_MAINT_SLACK) -/
  noMaint : Bool
  /-- orders 6 and 7 stop: the scrubber is excluded (R119, R268) -/
  scrubOff : Bool
  deriving DecidableEq, Repr

/-- The context of a channel and SID. -/
def State.refCtx (s : State) (c : Ch) (p : Pc) (sid : Sid) : RefCtx :=
  let h := s.chans[c]
  let q := h.pcs[p]
  let weak := h.regs.adaptAct && (q.mapState == .loaded || q.mapState == .imported)
  { rows := s.rows, adv := s.advance, sids := s.sids
    weak := weak
    bins := weak && !s.thermal.over105[sid] && !s.forceN c
    adapt := h.regs.adaptAct, profile := !h.regs.srAct
    limit := s.limitRows h sid, th := h.th, stamp := h.stamp, noMaint := s.noMaintSlack c
    scrubOff := !q.scrub.enable || (q.managed && !q.filled) }

/-! ## Retention bins and weak rows -/

/-- A weak-row entry lists the row (Table 8-4). -/
def weakRow (w : BitVec 32) (i : Fin 64) (row : Nat) : Bool :=
  w.getLsbD 31 && (w.extractLsb' 25 6).toNat == i.val && (w.extractLsb' 10 15).toNat == row

/-- The row is one of the reserved rows of S0, refreshed as bin N (R234). -/
def rowReserved (rows : Nat) (i : Fin 64) (row : Nat) : Bool := decide (i.val < 16) && decide (rows - 16 ≤ row)

/-- A row at the cursor is owed under its bin: Table 8-3, R227 to R229; a group whose map access was uncorrectable counts as
N (R234). -/
def PseudoChannel.binDue (p : PseudoChannel) (x : RefCtx) (i : Fin 64) (row : Nat) : Bool :=
  let b := p.banks[i]
  let g := mapIndex x.rows (bankSid i) ⟨i.val % 16, by omega⟩ (row / 4)
  let code := if p.lostMap.contains (g / 256) then 0 else sparseGet p.bins g
  if !x.bins || decide (0 < b.blind) || rowReserved x.rows i row then true
  else if code = 1 then (b.window + row / 4) % 2 == 0
  else if code = 2 then (b.window + row / 4) % 4 == 0
  else true

/-- The row's group is under a profiling step, which leaves it out of cursor and weak-row refresh (R239). -/
def PseudoChannel.rowInTest (p : PseudoChannel) (rows : Nat) (i : Fin 64) (row : Nat) : Bool :=
  match p.batch with
  | some t => t.groups.any (fun g =>
      g.index == mapIndex rows (bankSid i) ⟨i.val % 16, by omega⟩ (row / 4) && g.copied == 4 && (g.read < 4 || g.awaited != 0))
  | none => false

/-- The row is listed by an entry that its list access holds readably (R230, R234). -/
def PseudoChannel.listed (p : PseudoChannel) (i : Fin 64) (row : Nat) : Bool :=
  p.weak.zipIdx.any (fun w => weakRow w.1 i row && !p.lostMap.contains (1536 + w.2 / 16))

/-- The row is listed as weak, weak rows are in use and no profiling step leaves it out (R230, R239). -/
def PseudoChannel.weakDue (p : PseudoChannel) (x : RefCtx) (i : Fin 64) (row : Nat) : Bool :=
  x.weak && p.listed i row && !p.rowInTest x.rows i row

/-- A row at the cursor is owed: by its bin, or because it is listed (R227, R230). -/
def PseudoChannel.rowDue (p : PseudoChannel) (x : RefCtx) (i : Fin 64) (row : Nat) : Bool :=
  (p.binDue x i row && !p.rowInTest x.rows i row) || p.weakDue x i row

/-- The row whose second refresh falls where the cursor stands: the one that it passed 4,096 REFs before (R230). -/
def weakBehind (x : RefCtx) (cursor : Nat) : Nat := (cursor + 4096 * x.adv) % x.rows

/-! ## Neighbours and the activation tracker -/

/-- The spare that serves a row, by a repair record or a soft mapping (R141, R142). -/
def PseudoChannel.servedBy (p : PseudoChannel) (bank : Fin 64) (row : Nat) : Option (Fin 4) :=
  (p.spares.find? (fun m => m.bank == bank && m.row.toNat == row)).map (·.spare)

/-- The row that a spare of a bank serves, if it is in use. -/
def PseudoChannel.spareRow (p : PseudoChannel) (i : Fin 64) (spare : Nat) : Option Nat :=
  (p.spares.find? (fun m => m.bank == i && m.spare.val == spare)).map (·.row.toNat)

/-- The lower and the upper neighbour of a row, as the rows that reach them (R248): those beside it, or those of the spares
beside the one that serves it. -/
def PseudoChannel.neighbours (p : PseudoChannel) (rows : Nat) (i : Fin 64) (row : Nat) : Option Nat × Option Nat :=
  match p.servedBy i row with
  | some s => (if s.val = 0 then none else p.spareRow i (s.val - 1), if s.val = 3 then none else p.spareRow i (s.val + 1))
  | none => (if row = 0 then none else some (row - 1), if row + 1 < rows then some (row + 1) else none)

/-- Units of the neighbour refresh of a row (R248). -/
def PseudoChannel.neighbourCost (p : PseudoChannel) (rows : Nat) (i : Fin 64) (row : Nat) : Nat :=
  let n := p.neighbours rows i row
  n.1.isSome.toNat + n.2.isSome.toNat

/-- Take a cursor refresh of a row into the tracker: entries whose neighbours are all refreshed are freed (R247). -/
def PseudoChannel.trackRefreshed (p : PseudoChannel) (rows : Nat) (i : Fin 64) (row : Nat) : PseudoChannel :=
  p.updBank i (fun b => { b with tracker := b.tracker.filterMap (fun e =>
    let n := p.neighbours rows i e.row.toNat
    let e' := { e with lowDone := e.lowDone || n.1 == some row, highDone := e.highDone || n.2 == some row }
    if (e'.lowDone || n.1.isNone) && (e'.highDone || n.2.isNone) && (n.1.isSome || n.2.isSome) then none else some e') })

/-- Free the tracker entry of a row whose neighbour refresh is done (R247). -/
def Bank.freeEntry (b : Bank) (row : Row) : Bank := { b with tracker := b.tracker.filter (fun e => e.row != row) }

/-- The lowest-numbered entry that is free. -/
def trackFree (t : List TrackEntry) : Option Nat := (List.range 32).find? (fun k => t.all (fun e => e.slot != k))

/-- Insert an entry in the order of the entries' numbers. -/
def trackInsert (x : TrackEntry) : List TrackEntry → List TrackEntry
  | [] => [x]
  | e :: rest => if x.slot < e.slot then x :: e :: rest else e :: trackInsert x rest

/-- Count an ACT of a row in the tracker (R247): its own entry, a free one, or in place of the lowest count's lowest-numbered
entry. -/
def trackAct (t : List TrackEntry) (row : Row) : List TrackEntry :=
  if t.any (fun e => e.row == row) then t.map (fun e => if e.row == row then { e with count := e.count + 1 } else e)
  else match trackFree t, t with
    | some k, _ => trackInsert { slot := k, row := row, count := 1 } t
    | none, [] => t
    | none, e :: rest =>
      let low := rest.foldl (fun (acc : TrackEntry) x => if x.count < acc.count then x else acc) e
      t.map (fun x => if x.slot == low.slot then { slot := x.slot, row := row, count := low.count + 1 } else x)

/-- Queue the entries at half threshold or above (R249). -/
def trackQueue (th : Nat) (t : List TrackEntry) : List TrackEntry :=
  t.map (fun e => if th ≤ 2 * e.count then { e with queued := true } else e)

/-- The entry with the highest count at TH or above, if any. -/
def trackOver (th : Nat) (t : List TrackEntry) : Option TrackEntry :=
  t.foldl (fun acc e => if e.count < th then acc else match acc with
    | none => some e
    | some a => if a.count < e.count then some e else some a) none

/-- The most urgent entry of a tracker: the highest count, the lowest number among equals (Table 8-2). -/
def trackUrgent (t : List TrackEntry) : Option TrackEntry := trackOver 0 t

/-- Post an RFM request for a bank where an entry stands at TH and none is posted (R249); true if one was posted. -/
def Bank.postRfm (b : Bank) (th stamp : Nat) : Bank × Bool :=
  match b.rfm with
  | some _ => (b, false)
  | none => match trackOver th b.tracker with
    | some e => ({ b with rfm := some { left := 64, stamp := stamp, row := e.row } }, true)
    | none => (b, false)

/-- The bank and the first row of a group of a map index (R233). -/
def groupBank (rows g : Nat) : Fin 64 := ⟨g / (rows / 4) % 64, Nat.mod_lt _ (by decide)⟩
@[inherit_doc groupBank] def groupRow (rows g : Nat) : Nat := 4 * (g % (rows / 4))

/-- The restores of a group from its copies, but for a row the host has activated (R241). -/
def ProfileGroup.restores (g : ProfileGroup) (rows : Nat) (host : Option Nat) : List Restore :=
  (List.range g.copied).filterMap (fun r =>
    if host = some (groupRow rows g.index + r) then none
    else some { bank := groupBank rows g.index, row := groupRow rows g.index + r
                copy := ⟨(4 * g.slot.val + r) % 64, Nat.mod_lt _ (by decide)⟩ })

/-- End the profiling step of the groups chosen without a verdict: they leave the batch with the reads not yet decoded, and
their rows are restored from the copies (R241). -/
def PseudoChannel.cancelWhere (p : PseudoChannel) (rows : Nat) (host : Option Nat) (f : ProfileGroup → Bool) : PseudoChannel :=
  match p.batch with
  | none => p
  | some t =>
    let gone := t.groups.filter f
    let stay := t.groups.filter (fun g => !f g)
    if gone.isEmpty then p
    else
      { p with
        batch := if stay.isEmpty then none else some { t with groups := stay }
        restores := p.restores ++ gone.flatMap (fun g => g.restores rows host)
        captured := p.captured.filter (fun x => !(x.profiling && gone.any (fun g =>
          decide (x.access / 16 / 4 = ((groupBank rows g.index).val * 32768 + groupRow rows g.index) / 4)))) }

/-- The step of the group that holds a row ends without a verdict; host tells that the host activated the row (R241). -/
def PseudoChannel.cancelRow (p : PseudoChannel) (rows : Nat) (i : Fin 64) (row : Nat) (host : Bool) : PseudoChannel :=
  p.cancelWhere rows (if host then some row else none) (fun g =>
    g.index == mapIndex rows (bankSid i) ⟨i.val % 16, by omega⟩ (row / 4))

/-- Neighbour refresh of a row: its entry is freed, and a group under test that holds a neighbour ends its step (R241,
R247, R248). -/
def PseudoChannel.neighbourRefresh (p : PseudoChannel) (rows : Nat) (i : Fin 64) (row : Row) : PseudoChannel :=
  let n := p.neighbours rows i row.toNat
  let cancel (q : PseudoChannel) (r : Option Nat) : PseudoChannel := match r with
    | some k => q.cancelRow rows i k false
    | none => q
  (cancel (cancel p n.1) n.2).updBank i (fun b => b.freeEntry row)

/-- Post a bank's request where R249 calls for one: RFM_REQ is set and the posting counted (Table 3-10, R18). -/
def Channel.postRequest (h : Channel) (p : Pc) (i : Fin 64) : Channel :=
  let (b, posted) := h.pcs[p].banks[i].postRfm h.th h.stamp
  let h1 := h.updPc p (fun q => q.updBank i (fun _ => b))
  if posted then { (h1.setCause causeRfmReq).updCnt (fun c => { c with rfmReqs := bump c.rfmReqs }) with
    stamp := h1.stamp + 1 } else h1

/-- The units of the neighbour refresh of a bank's most urgent entry, 0 with none. -/
def PseudoChannel.urgentCost (p : PseudoChannel) (rows : Nat) (i : Fin 64) : Nat :=
  match trackUrgent p.banks[i].tracker with
  | some e => p.neighbourCost rows i e.row.toNat
  | none => 0

/-- Neighbour refresh of a bank's most urgent entry (Table 8-2): the entry is freed, a posted request leaves the list, and a
new one is posted at once where another entry stands at TH (R70, R249). -/
def Channel.serveRfm (h : Channel) (rows : Nat) (p : Pc) (i : Fin 64) : Channel :=
  let q1 := match trackUrgent h.pcs[p].banks[i].tracker with
    | some e => h.pcs[p].neighbourRefresh rows i e.row
    | none => h.pcs[p]
  (h.updPc p (fun _ => q1.updBank i (fun b => { b with rfm := none }))).postRequest p i

/-! ## The work of a REF -/

/-- Advance the cursor of a bank by one row (R222); the window count rises at its end (R227), a blind lap shortens
(R229). -/
def Bank.step (b : Bank) (rows : Nat) : Bank :=
  { b with
    cursor := if b.cursor + 1 < rows then b.cursor + 1 else 0
    window := if b.cursor + 1 < rows then b.window else b.window + 1
    blind := b.blind - 1 }

/-- The rows owed where a bank's cursor stands: the row there, and the listed row whose second refresh falls there (R227,
R230). -/
def PseudoChannel.cursorOwes (p : PseudoChannel) (x : RefCtx) (i : Fin 64) : List OwedRow :=
  let row := p.banks[i].cursor
  (if p.rowDue x i row then [{ bank := i, row := row, bin := p.binDue x i row }] else [])
    ++ (if p.weakDue x i (weakBehind x row) then [{ bank := i, row := weakBehind x row, bin := false }] else [])

/-- The cursor of a bank passes n rows; the rows owed on its way (R222, R227, R230). -/
def PseudoChannel.passRows (p : PseudoChannel) (x : RefCtx) (i : Fin 64) : Nat → PseudoChannel × List OwedRow
  | 0 => (p, [])
  | n + 1 =>
    let owed := p.cursorOwes x i
    let (q, more) := (p.updBank i (·.step x.rows)).passRows x i n
    (q, owed ++ more)

/-- Order 1 for one bank as the rows it owes: a counted REF at the floor advances nothing; otherwise a full advance, the debt
lowered to the floor at most (R223). An internal REF (count false) advances and leaves the debt. -/
def PseudoChannel.cursorWork (p : PseudoChannel) (x : RefCtx) (count : Bool) (i : Fin 64) :
    PseudoChannel × List OwedRow :=
  let b := p.banks[i]
  if count && decide (b.debt ≤ -x.limit) then (p, [])
  else
    let (p1, rows) := p.passRows x i x.adv
    (if count then p1.updBank i (fun b => { b with debt := max (b.debt - x.adv) (-x.limit) }) else p1, rows)

/-- The rows that the refresh manager hands out under a REF: order 1 for each of its banks (R223, R226). -/
def PseudoChannel.handOut (p : PseudoChannel) (x : RefCtx) (banks : List (Fin 64)) (count : Bool) :
    PseudoChannel × List OwedRow :=
  banks.foldl (fun (acc : PseudoChannel × List OwedRow) i =>
    let (q, rows) := acc.1.cursorWork x count i
    (q, acc.2 ++ rows)) (p, [])

/-- Rows are refreshed, one unit each (R226); those the cursor refreshes under their bin may free tracker entries (R247). -/
def PseudoChannel.refreshRows (p : PseudoChannel) (rows : Nat) (list : List OwedRow) : PseudoChannel :=
  list.foldl (fun q r => if r.bin then q.trackRefreshed rows r.bank r.row else q) p

/-- Rows carried over in a SID. -/
def PseudoChannel.carriedIn (p : PseudoChannel) (sid : Sid) : Nat :=
  (List.finRange 16).foldl (fun acc b => acc + (p.banks[bankAt sid b]).carried.length) 0

/-- Work is carried over in its banks (R129, R237): all of it is kept; each 3 rows that stand beyond 48 units in a SID add one
row to the debt of each bank concerned, those whose rows now stand there. -/
def PseudoChannel.carry (p : PseudoChannel) (list : List OwedRow) : PseudoChannel :=
  list.foldl (fun (q : PseudoChannel) r =>
    let n := q.carriedIn (bankSid r.bank) + 1
    q.updBank r.bank (fun b =>
      { b with carried := b.carried ++ [r], debt := if 48 < n ∧ (n - 48) % 3 = 0 then b.debt + 1 else b.debt })) p

/-- Restores of a bank's rows from profiling copies, the oldest first, while units allow (R240, R241). -/
def PseudoChannel.restoreWork (p : PseudoChannel) (x : RefCtx) (units : Nat) (i : Fin 64) : PseudoChannel × Nat :=
  p.restores.foldl (fun (acc : PseudoChannel × Nat) r =>
    if r.bank = i ∧ Config.profileUnits 1 ≤ acc.2 then
      ({ acc.1.copyIn x.rows r with restores := acc.1.restores.erase r }, acc.2 - Config.profileUnits 1)
    else acc) (p, units)

/-- Order 2 for one bank: carried-over rows, the oldest first, then restores from profiling copies (R129, R240). A restore is
carried by a refresh command that names the bank of its row, whatever the copy's bank is (DESIGN CHOICE, log 103). -/
def PseudoChannel.carriedWork (p : PseudoChannel) (x : RefCtx) (units : Nat) (i : Fin 64) : PseudoChannel × Nat :=
  let now := (p.banks[i].carried).take units
  ((p.refreshRows x.rows now).updBank i (fun b => { b with carried := b.carried.drop units })).restoreWork x
    (units - now.length) i

/-- Order 4 for one bank (R236): rows while credit and units allow, and the units left. -/
def PseudoChannel.repay (p : PseudoChannel) (x : RefCtx) (i : Fin 64) : Nat → Nat → PseudoChannel × Nat
  | 0, units => (p, units)
  | fuel + 1, units =>
    let b := p.banks[i]
    let rows := p.cursorOwes x i
    if 2 ≤ b.credit ∧ x.limit < b.debt ∧ rows.length ≤ units then
      (((p.refreshRows x.rows rows).updBank i (·.step x.rows)).updBank i (fun b =>
        { b with credit := b.credit - 2, debt := b.debt - 1 })).repay x i fuel (units - rows.length)
    else (p, units)

/-- Order 4 with its credit (R236). -/
def PseudoChannel.repayWork (p : PseudoChannel) (x : RefCtx) (units : Nat) (i : Fin 64) : PseudoChannel × Nat :=
  if x.limit < p.banks[i].debt then
    let (p1, u) := (p.updBank i (fun b => { b with credit := b.credit + x.adv })).repay x i 4 units
    (p1.updBank i (fun b => { b with credit := if x.limit < b.debt then min b.credit x.adv else 0 }), u)
  else (p.updBank i (fun b => { b with credit := 0 }), units)

/-- Order 5 for one bank: neighbour refresh of queued entries in the order of their numbers (R249). -/
def PseudoChannel.halfWork (p : PseudoChannel) (x : RefCtx) (units : Nat) (i : Fin 64) : PseudoChannel × Nat :=
  (p.banks[i].tracker).foldl (fun (acc : PseudoChannel × Nat) e =>
    let cost := p.neighbourCost x.rows i e.row.toNat
    if (e.queued || decide (x.th ≤ 2 * e.count)) && decide (cost ≤ acc.2)
    then ((acc.1.neighbourRefresh x.rows i e.row).updBank i (fun b => { b with
      rfm := match b.rfm with | some r => if r.row == e.row then none else some r | none => none }), acc.2 - cost)
    else acc) (p, units)

/-- The leased bank whose scrub cursor is furthest behind (R266); a cursor that has passed its last row waits for the lap's
end. -/
def PseudoChannel.scrubBank (p : PseudoChannel) (rows : Nat) (banks : List (Fin 64)) : Option (Fin 64) :=
  (banks.filter (fun i => decide (p.banks[i].scrubRow < rows))).foldl (fun acc i => match acc with
    | none => some i
    | some j => if p.banks[i].scrubRow < p.banks[j].scrubRow then some i else some j) none

/-- The accesses of a row of a bank are read for the scrubber or the profiler; they wait for decoder gaps (R265). -/
def PseudoChannel.readRow (p : PseudoChannel) (i : Fin 64) (row : Nat) (profiling : Bool) : PseudoChannel :=
  let first := accessNo (bankSid i) ⟨i.val % 16, by omega⟩ (BitVec.ofNat 15 row) 0
  { p with captured := p.captured ++ (List.range 16).map (fun k => { access := first + k, profiling := profiling }) }

/-- Order 6 for one group: its next row is copied, or read once the test interval has ended (R239). -/
def PseudoChannel.profileStep (p : PseudoChannel) (x : RefCtx) (ended : Bool) (g : ProfileGroup) : PseudoChannel × ProfileGroup :=
  let i := groupBank x.rows g.index
  if g.copied < 4 then
    (p.copyOut x.rows x.adapt i (groupRow x.rows g.index + g.copied) ⟨(4 * g.slot.val + g.copied) % 64, Nat.mod_lt _ (by decide)⟩,
      { g with copied := g.copied + 1 })
  else if ended && g.read < 4 then
    (p.readRow i (groupRow x.rows g.index + g.read) true, { g with read := g.read + 1, awaited := g.awaited + 16 })
  else (p, g)

/-- The units that order 6 spends on a group's next step, none where it has none. -/
def ProfileGroup.cost (g : ProfileGroup) (ended : Bool) : Option Nat :=
  if g.copied < 4 then some (Config.profileUnits 0) else if ended && g.read < 4 then some (Config.profileUnits 2) else none

/-- Order 6: copies and checks of the batch's groups in the banks of the command, while units allow (R235, R239, R251). -/
def PseudoChannel.profileWork (p : PseudoChannel) (x : RefCtx) (banks : List (Fin 64)) (units : Nat) : PseudoChannel × Nat :=
  match p.batch with
  | none => (p, units)
  | some t =>
    if x.noMaint || !x.profile then (p, units)
    else
      let one (acc : PseudoChannel × Nat × List ProfileGroup) (g : ProfileGroup) : PseudoChannel × Nat × List ProfileGroup :=
        match g.cost t.ended with
        | some n =>
          if n ≤ acc.2.1 && banks.contains (groupBank x.rows g.index) then
            let (q, g1) := acc.1.profileStep x t.ended g
            (q, acc.2.1 - n, acc.2.2 ++ [g1])
          else (acc.1, acc.2.1, acc.2.2 ++ [g])
        | none => (acc.1, acc.2.1, acc.2.2 ++ [g])
      let (q, u, groups) := (List.range 4).foldl (fun (acc : PseudoChannel × Nat × List ProfileGroup) _ =>
        acc.2.2.foldl one (acc.1, acc.2.1, [])) (p, units, t.groups)
      ({ q with batch := some { t with groups := groups } }, u)

/-- Order 7: scrub rows of 6 units while units and credit allow; their accesses wait for decoder gaps, and none is begun while
some of an earlier command still wait (R163, R265, R266). -/
def PseudoChannel.scrubRows (p : PseudoChannel) (x : RefCtx) (banks : List (Fin 64)) : Nat → Nat → PseudoChannel × Nat
  | 0, units => (p, units)
  | fuel + 1, units =>
    match p.scrubBank x.rows banks with
    | none => (p, units)
    | some i =>
      if p.scrub.credit == 0 || decide (units < 6) then (p, units)
      else
        let row := p.banks[i].scrubRow
        let p1 := (p.updBank i (fun b => { b with scrubRow := row + 1 })).readRow i row false
        ({ p1 with scrub := { p1.scrub with credit := p1.scrub.credit - 1, progress := p1.scrub.progress + 1 } }).scrubRows x
          banks fuel (units - 6)

/-- Order 7 with the units that write-backs have cost since (R266). -/
def PseudoChannel.scrubWork (p : PseudoChannel) (x : RefCtx) (banks : List (Fin 64)) (units : Nat) :
    PseudoChannel × Nat :=
  if x.scrubOff || x.noMaint || p.captured.any (fun c => !c.profiling) then (p, units)
  else
    let paid := min units p.scrub.owedUnits
    ({ p with scrub := { p.scrub with owedUnits := p.scrub.owedUnits - paid } }).scrubRows x banks 8 (units - paid)

/-- Order 3 on a channel: the posted requests of the banks named, most urgent first (R70, R249). -/
def Channel.rfmWork (h : Channel) (x : RefCtx) (p : Pc) (banks : List (Fin 64)) (units : Nat) : Channel × Nat :=
  (h.requests.filter (fun r => r.pc == p && banks.contains r.bank)).foldl (fun (acc : Channel × Nat) r =>
    let cost := acc.1.pcs[p].urgentCost x.rows r.bank
    if cost ≤ acc.2 then (acc.1.serveRfm x.rows p r.bank, acc.2 - cost) else acc) (h, units)

/-- Fold a work function over the banks, handing the units on. -/
def foldBanks (f : PseudoChannel → Nat → Fin 64 → PseudoChannel × Nat) (banks : List (Fin 64)) (p : PseudoChannel)
    (units : Nat) : PseudoChannel × Nat :=
  banks.foldl (fun acc i => f acc.1 acc.2 i) (p, units)

/-- The slack of a refresh command, orders 2 to 7 of Table 8-5. Only a REF that counts, or an internal one, repays debt (R71,
R85, R186, R236); an entry left at TH whose bank's request was served in order 5 posts one at once (R249). -/
def Channel.slackWork (h : Channel) (x : RefCtx) (p : Pc) (banks : List (Fin 64)) (units : Nat) (repays : Bool) : Channel :=
  let (p2, u2) := foldBanks (fun q u i => q.carriedWork x u i) banks h.pcs[p] units
  let (h3, u3) := (h.updPc p (fun _ => p2)).rfmWork x p banks u2
  let (p4, u4) := if repays then foldBanks (fun q u i => q.repayWork x u i) banks h3.pcs[p] u3 else (h3.pcs[p], u3)
  let (p5, u5) := if x.noMaint then (p4, u4) else foldBanks (fun q u i => q.halfWork x u i) banks p4 u4
  let (p6, u6) := p5.profileWork x banks u5
  banks.foldl (fun (k : Channel) i => k.postRequest p i) (h3.updPc p (fun _ => (p6.scrubWork x banks u6).1))

/-- A refresh command with its capacity: owed cursor rows (count: a received REF; otherwise an internal one), then the
slack (R235, Table 8-5). What the capacity does not hold is carried over (R226, R237). -/
def Channel.refreshWork (h : Channel) (x : RefCtx) (p : Pc) (banks : List (Fin 64)) (cap : Nat) (count : Bool) : Channel :=
  let (p1, owed) := h.pcs[p].handOut x banks count
  (h.updPc p (fun _ => (p1.refreshRows x.rows (owed.take cap)).carry (owed.drop cap))).slackWork x p banks (cap - owed.length)
    true

/-- The banks of a SID. -/
def sidBanks (sid : Sid) : List (Fin 64) := (List.finRange 16).map (bankAt sid)

/-! ## Debt and obligation -/

/-- The host's refresh obligation for a pseudo-channel holds (R221, R71, R186, R94, R319). -/
def Channel.obliged (h : Channel) (p : Pc) : Bool :=
  h.pcs[p].ready && !h.pcs[p].qact && !h.regs.srAct && !h.intake.held

/-- A bank stands above its SID's limit while the host is obliged (R224). -/
def State.aboveLimit (s : State) (c : Ch) (p : Pc) (i : Fin 64) : Bool :=
  s.chans[c].obliged p && decide (s.limitRows s.chans[c] (bankSid i) < s.chans[c].pcs[p].banks[i].debt)

/-- REF_URGENT for every bank that has come to stand above the limit in force since the state old (R224, Table 3-10). -/
def State.raiseUrgent (s old : State) (c : Ch) : State :=
  if (List.finRange 2).any (fun p => (List.finRange 64).any (fun i => s.aboveLimit c p i && !old.aboveLimit c p i))
  then s.setCause c causeRefUrgent else s

/-- The obligation begins or restarts: debt zero, the grid of 975 ns ticks starts (R186, R71, R94, R321, R223). -/
def PseudoChannel.restartObligation (p : PseudoChannel) : PseudoChannel :=
  { (p.updBanks (fun b => { b with debt := 0, credit := 0 })) with ticks := Vector.replicate 4 0 }

/-- Some bank of a SID stands above a limit in rows. -/
def PseudoChannel.anyAbove (p : PseudoChannel) (sid : Sid) (limit : Int) : Bool :=
  (sidBanks sid).any (fun i => decide (limit < p.banks[i].debt))

/-- Every bank begins a lap in which each group counts as bin N (R229). -/
def PseudoChannel.blindLap (p : PseudoChannel) (rows : Nat) : PseudoChannel :=
  p.updBanks (fun b => { b with blind := rows })

/-- The tracker's entries go to the spill rows before native self-refresh, and come back at SRX (R252). -/
def PseudoChannel.spillTracker (p : PseudoChannel) : PseudoChannel :=
  { (p.updBanks (fun b => { b with tracker := [] })) with
    spill := (List.finRange 64).filterMap (fun i =>
      if (p.banks[i]).tracker.isEmpty then none else some (i, (p.banks[i]).tracker)) }
@[inherit_doc PseudoChannel.spillTracker] def PseudoChannel.loadTracker (p : PseudoChannel) : PseudoChannel :=
  { (p.spill.foldl (fun (q : PseudoChannel) x => q.updBank x.1 (fun b => { b with tracker := x.2 })) p) with spill := [] }

/-- End every profiling step without a verdict (R241, Table 8-8). -/
def PseudoChannel.cancelBatch (p : PseudoChannel) (rows : Nat) : PseudoChannel := p.cancelWhere rows none (fun _ => true)

/-! ## The lap clock -/

/-- The lap clock of a pseudo-channel runs: scrub enabled and not excluded under R119 (R268). -/
def PseudoChannel.lapRuns (q : PseudoChannel) : Bool := q.scrub.enable && (!q.managed || q.filled)

/-- After a change of what the lap clock depends on: it stops with what it shows, and goes on from there (R268). -/
def PseudoChannel.lapAfter (q old : PseudoChannel) (now : Nat) : PseudoChannel :=
  if q.lapRuns = old.lapRuns then q else { q with scrub := { q.scrub with lapStart := now - q.scrub.lapStart } }

/-- The lap clocks of a channel's pseudo-channels after a change (R268). -/
def Channel.lapsAfter (h old : Channel) (now : Nat) : Channel :=
  { h with pcs := h.pcs.mapFinIdx (fun i q hi => q.lapAfter old.pcs[i] now) }

end Sys2Proof.Machine
end

