-- ==== Sys2Proof/Machine/Intake.lean ====
section
/-! DEFINITION. What every LVI command passes: the discards, the parity check, the command errors, the sequence index,
the Taper entry, the training stage it may end (03, 06, 07), and thread starts and leases (R149, R150, R164). -/

namespace Sys2Proof.Machine

/-! ## Table words and threads -/

/-- The entry-point word n of a table bank (R158). Of the Baltil table the manual gives entries 12 to 14 (Table 6-11);
the others are valid, in the class of Table 6-8, at an address it does not give (assumption 5). -/
def TableBank.entryWord (b : TableBank) (n : Nat) : BitVec 16 :=
  if b.baltil then
    (if n = 12 then 0x80C0#16 else if n = 13 then 0x80C1#16 else if n = 14 then 0x80C2#16
     else BitVec.ofNat 16 (0x8000 + (if n < 32 then 0 else if n < 40 then 0x2000 else 0x4000)
       + (Config.tableEntry b.tver n).toNat))
  else sparseGet b.entries n

/-- The manual gives the words this entry leads to, so that its threads run step by step (assumption 5). -/
def TableBank.entryKnown (b : TableBank) (n : Nat) : Bool := !b.baltil || n == 12 || n == 13 || n == 14

/-- The step word at an address (R152); of the Baltil table the manual gives 0C0h to 0C2h (Table 6-12). -/
def TableBank.stepWord (b : TableBank) (a : BitVec 10) : BitVec 64 :=
  if b.baltil then
    (if a = 0x0C0#10 then 0x044000400003C00A#64 else if a = 0x0C1#10 then 0x044200400003C00A#64
     else if a = 0x0C2#10 then 0x040000800003C008#64 else Config.tableStep b.tver a.toNat)
  else sparseGet b.steps a.toNat

/-- A thread started at the entry meets an uncorrectable entry word or first step, or one treated as such (R154, R178). -/
def TableBank.entryFault (b : TableBank) (n : Nat) : Bool :=
  let a := entryAddr (b.entryWord n)
  b.bad.contains (1024 + n) || (b.entryKnown n && (b.bad.contains a.toNat || stepReserved (b.stepWord a)))

/-- The class of a thread is the one its entry word names, also where Table 6-8 gives its event another; CLASS 11b, which
Table 6-7 reserves, counts as maintenance (DESIGN CHOICE, assumption 101). -/
def classOf (w : BitVec 16) : ThreadClass :=
  match entryClass w with
  | 0 => .host
  | 1 => .refresh
  | _ => .maintenance

/-- A thread of the class may start: the limits of R150, and HALT_MAINT of lab mode. -/
def Taper.mayStart (t : Taper) (halt : Bool) (cls : ThreadClass) : Bool :=
  let n := t.threads.length
  let of (k : ThreadClass) : Nat := (t.threads.filter (fun x => x.cls == k)).length
  !t.stopped && match cls with
    | .host => decide (n < 48)
    | .refresh => decide (of .refresh < 10) && decide (n < 16)
    | .maintenance => decide (of .maintenance < 6) && decide (n < 16) && !halt

/-- A thread at an entry as it starts, with what its event brings (R149, R158). A thread of the Baltil table places its work
whole (assumption 5). -/
def Taper.newThread (t : Taper) (n : Nat) (addr : ThreadAddr) (lease : Option Lease) (owed : List OwedRow)
    (data : HostData) : Thread :=
  { tid := t.nextTid, entry := n, cls := classOf (t.active.entryWord n), ptr := entryAddr (t.active.entryWord n)
    addr := addr, lease := lease, owed := if t.active.baltil then [] else owed, data := data, reported := t.active.baltil }

/-- Start a thread at an entry (R159, R160): nothing where the entry is invalid, no context is free, or a trip has
stopped the Taper (R161). -/
def Taper.start (t : Taper) (halt : Bool) (n : Nat) (addr : ThreadAddr) (lease : Option Lease) (owed : List OwedRow)
    (data : HostData := .none) : Taper :=
  if entryValid (t.active.entryWord n) && t.mayStart halt (classOf (t.active.entryWord n)) then
    { t with threads := t.threads ++ [t.newThread n addr lease owed data], nextTid := t.nextTid + 1 }
  else t

/-- The entry word of an event is read with a single-bit error, which is corrected and counted (R177). -/
def Taper.readsSingle (t : Taper) (n : Nat) : Nat := (t.active.single.contains (1024 + n)).toNat

/-- A bank stands in no lease; a revoked lease has ended (R165). -/
def Taper.unleased (t : Taper) (p : Pc) (i : Fin 64) : Bool :=
  t.threads.all (fun x => match x.lease with
    | some l => l.revoked || !l.banks.contains (p, i)
    | none => true)

/-- The event of an entry starts its thread where the active table marks it VALID and its banks are in no other lease (R159,
R164, R165). What a thread of the Baltil table does is whole in the command of its event, as the manual prints none of its
steps (assumption 5), so none starts from it here. -/
def Channel.eventThread (h : Channel) (halt : Bool) (n : Nat) (addr : ThreadAddr) (lease : Option Lease)
    (owed : List OwedRow) : Channel :=
  let free := match lease with
    | some l => l.banks.all (fun b => h.taper.unleased b.1 b.2)
    | none => true
  if h.taper.active.baltil || !free then h
  else { h with taper := h.taper.start halt n addr lease owed
                cnt := { h.cnt with tableCe := bump h.cnt.tableCe (h.taper.readsSingle n) } }

/-- A lease without a set end on every bank of a pseudo-channel (R164, QACT), and on the whole channel (managed
self-refresh). -/
def pcLease (p : Pc) : Lease := { banks := (List.finRange 64).map (fun i => (p, i)), setEnd := false }
@[inherit_doc pcLease] def channelLease : Lease :=
  { banks := ((List.finRange 64).map (fun i => ((0 : Fin 2), i))) ++ ((List.finRange 64).map (fun i => ((1 : Fin 2), i)))
    setEnd := false }

/-- A thread ends with its event's operation (R165). -/
def Taper.endEntry (t : Taper) (n : Nat) (p : Pc) : Taper :=
  { t with threads := t.threads.filter (fun x => !(x.entry == n && x.addr.pc == p)) }

/-- A thread's lease depends on quiesce of a pseudo-channel named, or on self-refresh (R167). -/
def Thread.dependsOn (x : Thread) (pcs : BitVec 2) : Bool :=
  match x.lease with
  | some l => !l.setEnd && l.banks.any (fun b => pcs.getLsbD b.1.val)
  | none => false

/-- Revoke the leases that depend on quiesce of a pseudo-channel, or on self-refresh (R167): a thread ends unless it has still to
close banks. -/
def Taper.revoke (t : Taper) (pcs : BitVec 2) : Taper :=
  { t with threads := t.threads.filterMap (fun x =>
      if x.dependsOn pcs then
        (if x.opened.isEmpty then none
         else some { x with owed := [], lease := x.lease.map (fun l => { l with revoked := true, low := true }) })
      else some x) }

/-- The same on a channel: what the threads had still to place is carried over (R129). -/
def Channel.revoke (h : Channel) (pcs : BitVec 2) : Channel :=
  ((h.taper.threads.filter (·.dependsOn pcs)).foldl (fun (k : Channel) x => k.updPc x.addr.pc (fun q => q.carry x.owed)) h).updTaper
    (·.revoke pcs)

/-! ## The training stage -/

/-- The results of a stage: CA, PC0, PC1. -/
def Training.stageRes (t : Training) (n : Nat) : Vector (BitVec 2) 3 := t.res[n]?.getD (Vector.replicate 3 3)

/-- A lane's trims are trims of the stage that ran last: the command-bus lanes of stage 3, the data lanes of the pseudo-channels
that stages 5 to 7 act on (Table 7-3). -/
def Training.trims (t : Training) (k : Fin 100) : Bool :=
  if k.val < 78 then decide (5 ≤ t.last.toNat) && t.acting.getLsbD (k.val / 39) else t.last == 3

/-- A lane's trims return to what they were; its marks, rejects and pending target stand (R184, R205). -/
def Lane.returnTo (l old : Lane) : Lane :=
  { l with
    live := old.live, liveTx := old.liveTx, liveVref := old.liveVref, liveCtle := old.liveCtle, liveDfe := old.liveDfe
    refRx := old.refRx, refTx := old.refTx, refVref := old.refVref, refCtle := old.refCtle, refDfe := old.refDfe
    txTarget := old.txTarget, net := old.net, since := old.since, drift := old.drift }

/-- The duration of a stage that ends now, in us (Table 7-2 ELAPSED). -/
def Training.duration (t : Training) (now : Nat) : BitVec 16 := BitVec.ofNat 16 (min 0xFFFF (now - t.startAt))

/-- End the running stage as R184 and R188 say: its trims return, DONE is set, results as given. -/
def Channel.stageEnd (h : Channel) (now : Nat) (aborted : Bool) (hit : BitVec 2) : Channel :=
  { (h.updPcs (fun p => { p with drive := .idle })) with
    lanes := match h.trn.saved with
      | some old => h.lanes.mapFinIdx (fun i l hi => if h.trn.trims ⟨i, hi⟩ then l.returnTo old[i] else l)
      | none => h.lanes
    trn := { h.trn with
      busy := false, done := true, aborted := aborted, saved := none, elapsed := h.trn.duration now, resCa := 3
      resPc := h.trn.resPc.mapFinIdx (fun i _ _ => if hit.getLsbD i then 2 else 3)
      res := h.trn.res.set! h.trn.last.toNat ((h.trn.stageRes h.trn.last.toNat).mapFinIdx (fun u r _ =>
        if u = 0 then r else if hit.getLsbD (u - 1) then 2 else r))
      fails := h.trn.fails ++ ([1, 2].filter (fun u => hit.getLsbD (u - 1))).map (fun u => (h.trn.last.toNat, u)) } }

/-- A command other than those of R188 to pseudo-channels ends a stage that runs on one of them. -/
def Channel.stageBreak (h : Channel) (now : Nat) (pcs : BitVec 2) : Channel :=
  if h.trn.busy && (pcs &&& h.trn.acting) != 0 then h.stageEnd now false (pcs &&& h.trn.acting) else h

/-! ## Intake -/

/-- What the common part needs to know of a command. -/
structure HostCmd where
  bus : Bus
  /-- entry of Table 6-8 -/
  entry : Nat
  /-- pseudo-channels it names (R63, R199) -/
  pcs : BitVec 2
  /-- the SID it names, if it names one -/
  sid : Option Sid := none
  /-- pseudo-channels to which it counts under R188; 0 for the commands that R188 allows -/
  trains : BitVec 2 := 0
  addr : ThreadAddr
  /-- it meets a condition of Table 3-4 of its own -/
  error : Bool
  /-- it is SRX, the one command of self-refresh -/
  srx : Bool := false
  /-- what its chains move -/
  data : HostData := .none
  /-- it is a WR or WRA, whose data the host drives even where it is discarded (R79) -/
  isWrite : Bool := false
  deriving DecidableEq, Repr

/-- The bit of a pseudo-channel in a select field (Table 3-2). -/
def pcMask (p : Pc) : BitVec 2 := if p = 0 then 1 else 2

/-- LVI inputs are ignored: reset (R341) or a trip (Table 10-4). -/
def State.lviDead (s : State) : Bool := s.inReset || s.thermal.trip

/-- A pseudo-channel named by a select field, and not failed (R63), is in power-down. -/
def Channel.namesPowerDown (h : Channel) (pcs : BitVec 2) : Bool :=
  (pcs.getLsbD 0 && h.pcs[0].powerDown && !h.pcs[0].failed) || (pcs.getLsbD 1 && h.pcs[1].powerDown && !h.pcs[1].failed)

/-- The command is a command error whatever its kind: an LMW window is open, self-refresh, or an entry that starts no
thread (Table 3-4, R159). -/
def Channel.commonError (h : Channel) (k : HostCmd) : Bool :=
  h.intake.lmw.isSome || (h.regs.srAct && !k.srx) || !entryValid (h.taper.active.entryWord k.entry)

/-- A thread address with only a pseudo-channel. -/
def pcAddr (p : Pc) : ThreadAddr := { pc := p, sid := 0, bg := 0, ba := 0, row := 0, col := 0 }

/-- Start a discard, and the thread of its event (R78, Table 6-8, entry 25). -/
def Channel.beginDiscard (h : Channel) : Channel := (h.startDiscard).eventThread false 25 (pcAddr 0) none []

/-- A slip: counted, and the channel discards from the next command onward (R100). -/
def Channel.slipped (h : Channel) : Channel :=
  (if h.intake.discard then h else h.beginDiscard).updCnt (fun c => { c with slips := bump c.slips })

/-- Begin a discard and count its cause: a parity failure or a command error (R61, R78). -/
def Channel.refuse (h : Channel) (parity : Bool) : Channel :=
  (h.beginDiscard).updCnt (fun c => if parity then { c with parityErr := bump c.parityErr }
    else { c with cmdErr := bump c.cmdErr })

/-- What a command's sampling leaves: mismatches on the bus's unused spare are counted (R39); a slip of the command capture
leaves its crossing outside its window (R98, R100). -/
def Channel.sampled (h : Channel) (k : Sampled) (bus : Bus) : Channel :=
  match k with
  | .spareMismatch n =>
    let used := match bus with
      | .row => h.map.ca.getLsbD 18
      | .col => h.map.ca.getLsbD 13
    if used then h else h.updCnt (fun c => { c with laneMism := bump c.laneMism n })
  | .slipped => { h with intake := { h.intake with outside := true } }
  | _ => h

/-- Column NOP count after a column command other than NOP (R80). -/
def Channel.sawCommand (h : Channel) (bus : Bus) : Channel :=
  match bus with
  | .col => { h with intake := { h.intake with colNops := 0 } }
  | .row => h

/-- The gaps of a named pseudo-channel end (Table 7-5). -/
def PseudoChannel.endGaps (p : PseudoChannel) (sid : Option Sid) : PseudoChannel :=
  { p with idleGap := false, refWindow := false, inRefab := match sid with
      | some x => p.inRefab &&& ~~~(1#4 <<< x.val)
      | none => p.inRefab }

/-- Number a command (R72) and count it, by its entry too (R18, "commands by type"); its gaps end (R199). -/
def Channel.number (h : Channel) (k : HostCmd) : Channel :=
  { h with
    regs := { h.regs with seqCnt := h.regs.seqCnt + 1 }
    cnt := { h.cnt with commands := bump h.cnt.commands, indexed := addCounts h.cnt.indexed [(512 + k.entry, 1)] }
    pcs := h.pcs.mapFinIdx (fun i p _ => if k.pcs.getLsbD i then p.endGaps k.sid else p) }

/-- Start the host thread of a command (R159). A thread of the Baltil table lives no longer than its command and the actions
it posts (R150, assumption 5), so none is kept; the steps that the manual prints of it, those of entries 12 to 14, are
executed and counted (R157, Table 6-12). -/
def Channel.hostThread (h : Channel) (k : HostCmd) : Channel :=
  if h.taper.active.baltil then
    (if h.taper.active.entryKnown k.entry then
      h.updCnt (fun n => { n with
        steps := bump n.steps
        indexed := if k.entry = 14 then n.indexed else addCounts n.indexed [(257, 1)] })
    else h)
  else { h with taper := h.taper.start false k.entry k.addr none [] k.data
                cnt := { h.cnt with tableCe := bump h.cnt.tableCe (h.taper.readsSingle k.entry) } }

/-- Take a command in: it is numbered, its host thread starts, and a training stage may end (R72, R159, R188). -/
def Channel.accept (h : Channel) (now : Nat) (k : HostCmd) : Channel := ((h.number k).hostThread k).stageBreak now k.trains

/-- Every pseudo-channel the command names is failed: it is accepted and numbered whatever state they are in, and has no
effect (R63). -/
def Channel.allFailed (h : Channel) (pcs : BitVec 2) : Bool :=
  pcs != 0 && (!pcs.getLsbD 0 || h.pcs[0].failed) && (!pcs.getLsbD 1 || h.pcs[1].failed)

/-- A command of the bus that a discard or link hold takes away: a WR or WRA starts the thread that takes its data off the
lanes (R78, R79, R84, Table 6-8, entry 18). -/
def Channel.discarded (h : Channel) (k : HostCmd) : Channel :=
  if k.isWrite then (h.sawCommand k.bus).eventThread false 18 k.addr none [] else h.sawCommand k.bus

/-- A failing cycle begins a discard: as a parity failure, or as a slip of the command capture, also while that crossing stands
outside its window (R78, R98, R100). -/
def Channel.failCapture (h : Channel) (bus : Bus) (parity : Bool) : Channel :=
  if parity then ((h.sawCommand bus).refuse true).updRegs (fun r => { r with nextCaErr := false })
  else (h.sawCommand bus).slipped

/-- The command capture slips (R100): now, or since an earlier slip no RESYNC has restored the crossing (R98, R101). -/
def Channel.captureSlips (h : Channel) (ok : Sampled) : Bool := ok == .slipped || h.intake.outside

/-- The common part of every numbered LVI command: what stops it, and its own effect where nothing does. -/
def State.intake (s0 : State) (c : Ch) (k : HostCmd) (ok : Sampled) (body : State → State) : State :=
  if s0.lviDead || s0.isGated c then s0
  else
    let s := s0.updCh c (·.sampled ok k.bus)
    let h := s.chans[c]
    if h.intake.discard || h.intake.held then s.updCh c (·.discarded k)
    else if h.captureSlips ok then s.updCh c (·.failCapture k.bus false)
    else if (h.regs.caparEn && ok.fails) || (s.mgmt.lab && h.regs.nextCaErr) then s.updCh c (·.failCapture k.bus true)
    else if (k.error && !h.allFailed k.pcs) || h.commonError k then s.updCh c (fun h => (h.sawCommand k.bus).refuse false)
    else if h.taper.active.entryFault k.entry then
      s.updCh c (fun h => ((h.sawCommand k.bus).slipped).updCnt (fun n => { n with tableUe := bump n.tableUe }))
    else if h.allFailed k.pcs then s.updCh c (fun h => ((h.sawCommand k.bus).number k).stageBreak s.timeUs k.trains)
    else body (s.updCh c (fun h => (h.sawCommand k.bus).accept s.timeUs k))

/-! ## Quiesce -/

/-- QACT follows once quiesce is requested, the pseudo-channel is in power-down and all its banks are closed (R71); from then
on its debt is zero (R251). -/
def PseudoChannel.settleQact (p : PseudoChannel) : PseudoChannel :=
  if p.quiesce && p.powerDown && p.allClosed && !p.qact then { p.restartObligation with qact := true } else p

/-- An operation that is never ended early holds the quiesce of a pseudo-channel (R71). -/
def PseudoChannel.holdsQuiesce (p : PseudoChannel) : Bool :=
  match p.op with
  | some .fill | some .clearing | some (.rowCopy _) | some (.hardRepair _) => true
  | _ => false

/-- A test that a release of quiesce ends at its next step boundary holds it (R71). -/
def PseudoChannel.testRuns (p : PseudoChannel) : Bool :=
  match p.op with
  | some (.test _) | some (.calRun _ _ _) => true
  | _ => false

/-- The release of quiesce takes effect: QACT returns to 0 with debt zero, and the leases that depended on it are revoked
(R71, R167); where the host has set QUIESCE again meanwhile, QACT follows anew. -/
def Channel.releaseQact (h : Channel) (p : Pc) : Channel :=
  (h.updPc p (fun q => { q.restartObligation with qact := false, releaseHeld := false }.settleQact)).revoke
    (pcMask p)

/-- The operation that held the quiesce ends; a release that waited for it takes effect (R71, R115, R117). -/
def Channel.opEnds (h : Channel) (p : Pc) : Channel :=
  let h1 := h.updPc p (fun q => { q with op := none })
  if h.pcs[p].releaseHeld then h1.releaseQact p else h1

end Sys2Proof.Machine
end

