-- ==== Sys2Proof/Machine/CorePort.lean ====
section
/-! DEFINITION. The channel port to the core dies (05): the frames the MX32 sends and where it places a command in them, what
the layers ignore, self-refresh of the layers, and the rows they serve from spares. -/

namespace Sys2Proof.Machine

/-! ## Frames -/

/-- The frame of one short command (Tables 5-6, 5-7). -/
def shortFrame (sop : BitVec 3) (all : Bool) (arg : BitVec 7) : BitVec 48 :=
  frameOf (shortSlot (shortCommand sop all arg) 0) 0 0

/-- The frame of a PRE: in its pseudo-channel's column slot, which is free in a frame that carries no other command, else in
the row slot (R128, Tables 5-5, 5-7). -/
def preFrame (p : Pc) (sid : Sid) (bg : Bg) (ba : Ba) (columnFree : Bool) : BitVec 48 :=
  if columnFree then columnFrame p (columnSlot 0 ba bg sid 3) else shortFrame 1 false (shortArg p sid bg ba)

/-- A frame leaves on the channel's command group (R126). -/
def Channel.send (h : Channel) (f : BitVec 48) : Channel := { h with tsv := { h.tsv with frame := f } }

/-- The frame of a host command of the Baltil table, whose TSV step is whole in it (log 5); a staged table's own steps send
theirs (R10, Table 6-3). -/
def Channel.sendHost (h : Channel) (f : BitVec 48) : Channel := if h.taper.active.baltil then h.send f else h

/-- The levels on CA: 0 while CKA is stopped (R146). -/
def TsvPort.onCa (t : TsvPort) : BitVec 48 := if t.clocks then t.frame else 0

/-! ## What a layer ignores -/

/-- The SIDs whose layer ignores a column slot (R127): a PRE with a column other than 0. -/
def columnIgnored (slot : BitVec 12) : BitVec 4 :=
  if slot.extractLsb' 0 2 = 3 ∧ slot.extractLsb' 8 4 ≠ 0 then 1#4 <<< (slot.extractLsb' 2 2).toNat else 0

/-- The SIDs whose layer ignores the row slot's long form: a row above the last valid one (R127). -/
def rowIgnored (rows : Nat) (r : BitVec 24) : BitVec 4 :=
  if r.extractLsb' 22 2 ≠ 0 ∧ rows ≤ (r.extractLsb' 0 15).toNat then 1#4 <<< (r.extractLsb' 19 2).toNat else 0

/-- A half-slot of the row slot holds a reserved SOP (R127, Table 5-7); it names no SID, so that every layer ignores it. -/
def halfIgnored (r : BitVec 24) (lo : Nat) : Bool := r.extractLsb' 22 2 = 0 && decide (5 ≤ (r.extractLsb' (lo + 8) 3).toNat)

/-- The items of a frame that the layer of a SID ignores (R127); an alignment frame is none (05, "Command frames"). -/
def frameIgnored (rows : Nat) (f : BitVec 48) (sid : Sid) : Nat :=
  if f = alignFrame then 0
  else
    let r : BitVec 24 := f.extractLsb' 24 24
    ((columnIgnored (f.extractLsb' 0 12)).getLsbD sid.val).toNat + ((columnIgnored (f.extractLsb' 12 12)).getLsbD sid.val).toNat
      + ((rowIgnored rows r).getLsbD sid.val).toNat + (halfIgnored r 11).toNat + (halfIgnored r 0).toNat

/-- A frame reaches the layers: those that are not in self-refresh count what they ignore of it, up to FFFFh (R127, R146,
Table 5-17). -/
def Channel.deliver (h : Channel) (rows : Nat) (f : BitVec 48) : Channel :=
  let h1 := h.send f
  { h1 with tsv := { h1.tsv with ignored := h1.tsv.ignored.mapFinIdx (fun i n hi =>
      if h.tsv.coreSr.getLsbD i then n else min (n + frameIgnored rows f ⟨i, hi⟩) 0xFFFF) } }

/-- FRMERR of a layer: what it ignored on the channels it serves (Table 5-17). -/
def State.frmErr (s : State) (layer : Fin 16) : Nat :=
  min ((List.finRange 8).foldl (fun acc c =>
    acc + (s.chans[8 * (layer.val % 4) + c.val]'(by omega)).tsv.ignored[layer.val / 4]) 0) 0xFFFF

/-! ## Self-refresh of the layers -/

/-- SIDs that an SREF_ENTER or SREF_EXIT names: every SID present, or one (Table 6-3 X). -/
def srefMask (sids : Nat) (all : Bool) (sid : Sid) : BitVec 4 := if all then BitVec.ofNat 4 (2 ^ sids - 1) else 1#4 <<< sid.val

/-- SREF_ENTER: the layers named enter self-refresh (R146). -/
def Channel.srefEnter (h : Channel) (mask : BitVec 4) : Channel := { h with tsv := { h.tsv with coreSr := h.tsv.coreSr ||| mask } }

/-- A row comes to be served from a spare, or ceases to be: its address and the spare's change places (R142). A mapping to
the same spare replaces an earlier one; a clear of a spare that has none has no effect. -/
def PseudoChannel.remapCells (p : PseudoChannel) (rows : Nat) (set : Bool) (m : SpareMap) : PseudoChannel :=
  let old := p.spares.find? (fun x => x.bank == m.bank && x.spare == m.spare && !x.hard)
  let p1 := match old with
    | some x => { p.swapCells rows x.bank x.row.toNat x.spare with spares := p.spares.filter (fun y => y != x) }
    | none => p
  if set then { p1.swapCells rows m.bank m.row.toNat m.spare with spares := m :: p1.spares } else p1

/-- SREF_EXIT: the layers named leave self-refresh, and soft-repair changes made meanwhile take effect (R139, R146). -/
def Channel.srefExit (h : Channel) (rows : Nat) (mask : BitVec 4) : Channel :=
  let left := h.tsv.coreSr &&& mask
  { (h.updPcs (fun p =>
      let due := p.sparesDue.filter (fun x => left.getLsbD (bankSid x.2.bank).val)
      { due.foldl (fun (q : PseudoChannel) x => q.remapCells rows x.1 x.2) p with
        sparesDue := p.sparesDue.filter (fun x => !left.getLsbD (bankSid x.2.bank).val) })) with
    tsv := { h.tsv with coreSr := h.tsv.coreSr &&& ~~~mask } }

/-- Every layer of the channel is in self-refresh. -/
def TsvPort.asleep (t : TsvPort) (sids : Nat) : Bool := (List.range sids).all (fun s => t.coreSr.getLsbD s)

/-- At its own power-up a core die serves from spares the rows of its repair records, and no others: of a channel and
pseudo-channel, the records of a layer (Table 5-19) that are valid and name a row there is (R141). -/
def recordMaps (words : List (Nat × Word32)) (rows : Nat) (sid : Sid) (ch : Ch) (pc : Pc) : List SpareMap :=
  words.filterMap (fun w =>
    let i := w.1
    if i < 1024 ∧ i / 128 = ch.val % 8 ∧ i / 64 % 2 = pc.val ∧ w.2.getLsbD 31 ∧ (w.2.extractLsb' 0 15).toNat < rows then
      some { bank := bankAt sid ⟨i / 4 % 16, Nat.mod_lt _ (by decide)⟩, spare := ⟨i % 4, Nat.mod_lt _ (by decide)⟩
             row := w.2.extractLsb' 0 15, hard := true }
    else none)

end Sys2Proof.Machine
end

