-- ==== Sys2Proof/Machine/LinkOps.lean ====
section
/-! DEFINITION. The lanes of a channel: the order of the lane records (Table 7-9), lane codes (Tables 2-5, 2-6), the lane
map's fields (Tables 2-8, 2-9), proposals (R46), lane-map writes (R44, R45), and the application of calibration targets
(R21, R202, R203). -/

namespace Sys2Proof.Machine

/-- Replace n bits of a word from bit lo. -/
def setBits (w : Word32) (lo n v : Nat) : Word32 :=
  (w &&& ~~~(BitVec.ofNat 32 ((2 ^ n - 1) * 2 ^ lo))) ||| BitVec.ofNat 32 ((v % 2 ^ n) * 2 ^ lo)

/-- The unit of a lane record: 0 to 3 the strobe groups PC0-SG0, PC0-SG1, PC1-SG0, PC1-SG1, 4 the row bus, 5 the column
bus (Tables 7-9, 2-8). -/
def laneUnit (k : Fin 100) : Fin 6 :=
  if k.val < 78 then
    let t := k.val % 39
    let sg := if t < 16 then 0 else if t < 32 then 1 else if t < 34 then 0 else if t < 36 then 1
      else if t = 36 then 0 else if t = 37 then 0 else 1
    ⟨(2 * (k.val / 39) + sg) % 6, Nat.mod_lt _ (by decide)⟩
  else if k.val < 90 then 4 else 5

/-- The lane code of a lane in its unit: Table 2-5, or the position code of Table 2-6 with 15 for a bus spare (R48). -/
def laneCode (k : Fin 100) : Nat :=
  if k.val < 78 then
    let t := k.val % 39
    if t < 16 then t else if t < 32 then t - 16 else if t < 34 then 16 + (t - 32) else if t < 36 then 16 + (t - 34)
    else if t = 36 then 18 else 19
  else if k.val < 89 then k.val - 78 else if k.val = 89 then 15 else if k.val < 99 then k.val - 90 else 15

/-- The lane is the spare of its unit. -/
def laneSpare (k : Fin 100) : Bool := k.val == 37 || k.val == 38 || k.val == 76 || k.val == 77 || k.val == 89 || k.val == 99

/-- The pseudo-channels a unit belongs to: a CA bus serves both. -/
def unitPcs (u : Fin 6) : BitVec 2 := if u.val < 2 then 1 else if u.val < 4 then 2 else 3

/-- SPARE_EN, the spare's BAD bit, PEND_VALID and the assigned position of a unit (Tables 2-8, 2-9). -/
structure UnitMap where
  en : Bool
  bad : Bool
  pend : Bool
  pos : Nat
  src : Nat
  deriving DecidableEq, Repr

/-- The lane-map fields of a unit. -/
def LaneMap.unit (m : LaneMap) (u : Fin 6) : UnitMap :=
  if h : u.val < 4 then
    let w := m.sg[u.val]
    ⟨w.getLsbD 18, w.getLsbD 12, w.getLsbD 29, (w.extractLsb' 13 5).toNat, (w.extractLsb' 19 2).toNat⟩
  else if u.val = 4 then
    ⟨m.ca.getLsbD 18, m.ca.getLsbD 8, m.ca.getLsbD 28, (m.ca.extractLsb' 14 4).toNat, (m.ca.extractLsb' 5 2).toNat⟩
  else ⟨m.ca.getLsbD 13, m.ca.getLsbD 7, m.ca.getLsbD 23, (m.ca.extractLsb' 9 4).toNat, (m.ca.extractLsb' 3 2).toNat⟩

/-- The lane's bump is replaced by the spare of its unit: it is neither driven nor sampled (R38). -/
def LaneMap.replaced (m : LaneMap) (k : Fin 100) : Bool :=
  !laneSpare k && (m.unit (laneUnit k)).en && (m.unit (laneUnit k)).pos == laneCode k

/-- Change the word that holds a unit's fields. -/
def LaneMap.updWord (m : LaneMap) (u : Fin 6) (f : Word32 → Word32) : LaneMap :=
  if h : u.val < 4 then { m with sg := m.sg.set u.val (f m.sg[u.val]) } else { m with ca := f m.ca }

/-- Assign the spare of a unit to a position with a source (R43); a standing proposal of the unit is cleared (R46). -/
def LaneMap.assign (m : LaneMap) (u : Fin 6) (pos src : Nat) : LaneMap :=
  m.updWord u (fun w =>
    if u.val < 4 then setBits (setBits (setBits (setBits w 13 5 pos) 18 1 1) 19 2 src) 24 6 0
    else if u.val = 4 then setBits (setBits (setBits (setBits w 14 4 pos) 18 1 1) 5 2 src) 24 5 0
    else setBits (setBits (setBits (setBits w 9 4 pos) 13 1 1) 3 2 src) 19 5 0)

/-- Set the proposal fields of a unit (R46). -/
def LaneMap.setPend (m : LaneMap) (u : Fin 6) (pos : Nat) : LaneMap :=
  m.updWord u (fun w =>
    if u.val < 4 then setBits (setBits w 24 5 pos) 29 1 1
    else if u.val = 4 then setBits (setBits w 24 4 pos) 28 1 1
    else setBits (setBits w 19 4 pos) 23 1 1)

/-- Mark the spare of a unit bad (R193). -/
def LaneMap.spareBad (m : LaneMap) (u : Fin 6) : LaneMap :=
  m.updWord u (fun w => if u.val < 4 then setBits w 12 1 1 else if u.val = 4 then setBits w 8 1 1 else setBits w 7 1 1)

/-- The spare of a unit is free: not in use and not bad (R46, R193). -/
def LaneMap.spareFree (m : LaneMap) (u : Fin 6) : Bool := !(m.unit u).en && !(m.unit u).bad

/-- Propose the spare for a lane where it is free and no proposal stands (R46). -/
def LaneMap.propose (m : LaneMap) (k : Fin 100) : LaneMap :=
  let u := laneUnit k
  if !laneSpare k && m.spareFree u && !(m.unit u).pend then m.setPend u (laneCode k) else m

/-! ## Lane-map writes -/

/-- Position codes a host write may name (Table 2-6). -/
def positionOk (u : Fin 6) (pos : Nat) : Bool :=
  if u.val < 4 then decide (pos ≤ (if u.val % 2 = 0 then 18 else 17)) else decide (pos ≤ (if u.val = 4 then 10 else 8))

/-- A unit's enable and position as a written word names them. -/
def writtenUnit (u : Fin 6) (w : Word32) : Bool × Nat :=
  if u.val < 4 then (w.getLsbD 18, (w.extractLsb' 13 5).toNat)
  else if u.val = 4 then (w.getLsbD 18, (w.extractLsb' 14 4).toNat)
  else (w.getLsbD 13, (w.extractLsb' 9 4).toNat)

/-- A write to a unit may stand: its position is in Table 2-6 and its spare is not bad where it enables it (R44); a repair
from eFuse is neither cleared nor moved (R41). -/
def LaneMap.writeOk (m : LaneMap) (u : Fin 6) (w : Word32) : Bool :=
  let (en, pos) := writtenUnit u w
  let now := m.unit u
  (!en || (positionOk u pos && !now.bad)) && (!(now.en && now.src == 1) || (en && pos == now.pos))

/-- Store the RW fields of a host write to a unit (R43, R44): source 11b for a host's assignment, 00b for none; a
standing proposal is cleared when the spare goes into use (R46). -/
def LaneMap.store (m : LaneMap) (u : Fin 6) (w : Word32) : LaneMap :=
  let (en, pos) := writtenUnit u w
  let now := m.unit u
  let src := if !en then 0 else if now.en && now.src == 1 then 1 else 3
  m.updWord u (fun old =>
    if u.val < 4 then
      let x := setBits (setBits (setBits old 13 5 pos) 18 1 en.toNat) 19 2 src
      let y := setBits x 23 1 (w.getLsbD 23).toNat
      if en then setBits y 24 6 0 else y
    else if u.val = 4 then
      let x := setBits (setBits (setBits old 14 4 pos) 18 1 en.toNat) 5 2 src
      if en then setBits x 24 5 0 else x
    else
      let x := setBits (setBits (setBits old 9 4 pos) 13 1 en.toNat) 3 2 src
      if en then setBits x 19 5 0 else x)

/-- The record a unit's lane of a code has, the spare's where the code names it: the lane number (Table 7-9). -/
def laneAt (u : Fin 6) (code : Nat) : Option (Fin 100) :=
  (List.finRange 100).find? (fun k => laneUnit k == u && laneCode k == code)

/-- A lane that leaves service under a spare loses its marginal mark and a target not yet applied (R203, R205). -/
def Channel.dropLane (h : Channel) (u : Fin 6) (code : Nat) : Channel :=
  match laneAt u code with
  | some k => { h with lanes := h.lanes.set k { h.lanes[k] with marginal := false, rejects := 0, pending := none } }
  | none => h

/-- Apply a lane-map write to a strobe-group word or the CA word (R45): the whole write is dropped unless it may stand
(R44). Unit 4 of the register number is LMAP_CA. -/
def Channel.applyMap (h : Channel) (reg : Fin 5) (w : Word32) : Channel :=
  if reg.val < 4 then
    let u : Fin 6 := ⟨reg.val, by omega⟩
    let h1 := { h with map := h.map.store u w }
    if (writtenUnit u w).1 then h1.dropLane u (writtenUnit u w).2 else h1
  else
    let h1 := { h with map := (h.map.store 4 w).store 5 w }
    let h2 := if (writtenUnit 4 w).1 then h1.dropLane 4 (writtenUnit 4 w).2 else h1
    if (writtenUnit 5 w).1 then h2.dropLane 5 (writtenUnit 5 w).2 else h2

/-- Every unit of a register admits the write (R41, R44). -/
def LaneMap.regOk (m : LaneMap) (reg : Fin 5) (w : Word32) : Bool :=
  if reg.val < 4 then m.writeOk ⟨reg.val, by omega⟩ w else m.writeOk 4 w && m.writeOk 5 w

/-- A register of the lane map holds no armed write: ARMED reads 0 (Tables 2-8, 2-9). -/
def LaneMap.disarm (m : LaneMap) (reg : Fin 5) : LaneMap :=
  if hr : reg.val < 4 then
    { m with armedSg := m.armedSg.set reg.val none, grantedSg := m.grantedSg.set reg.val false
             sg := m.sg.set reg.val (setBits m.sg[reg.val] 30 1 0) }
  else { m with armedCa := none, grantedCa := false, ca := setBits m.ca 30 1 0 }

/-- A write of a register is armed, in place of one armed before (R45). -/
def LaneMap.arm (m : LaneMap) (reg : Fin 5) (w : Word32) : LaneMap :=
  if hr : reg.val < 4 then
    { m with armedSg := m.armedSg.set reg.val (some w), grantedSg := m.grantedSg.set reg.val false
             sg := m.sg.set reg.val (setBits m.sg[reg.val] 30 1 1) }
  else { m with armedCa := some w, grantedCa := false, ca := setBits m.ca 30 1 1 }

/-- A host write to the lane map: refused whole under R44; applied at once in training or quiesce, when an armed write of the
register ends with it; else armed (R45). -/
def Channel.writeMap (h : Channel) (reg : Fin 5) (w : Word32) : Channel :=
  let pcs : BitVec 2 := if reg.val < 2 then 1 else if reg.val < 4 then 2 else 3
  let free (i : Fin 2) : Bool := !pcs.getLsbD i.val || !h.pcs[i].ready || h.pcs[i].qact
  if !h.map.regOk reg w then h
  else if free 0 && free 1 then { h with map := h.map.disarm reg }.applyMap reg w
  else { h with map := h.map.arm reg w }

/-- The armed write of a register that an LMW has been granted since (R45). -/
def LaneMap.due (m : LaneMap) (reg : Fin 5) : Option Word32 :=
  if hr : reg.val < 4 then (if m.grantedSg[reg.val] then m.armedSg[reg.val] else none)
  else (if m.grantedCa then m.armedCa else none)

/-- Apply the armed writes at the end of the first LMW granted after each of them (R45). -/
def Channel.applyArmed (h : Channel) : Channel :=
  (List.finRange 5).foldl (fun (k : Channel) reg =>
    match h.map.due reg with
    | some w => { k with map := k.map.disarm reg }.applyMap reg w
    | none => k) h

/-! ## Calibration targets -/

/-- Apply a pending target: the live value becomes the target plus the net steps since the capture (R21); transmit delay
slews (R202). -/
def Lane.applyTarget (l : Lane) : Lane :=
  match l.pending with
  | none => l
  | some e =>
    { l with
      live := BitVec.ofInt 12 (max 0 (min 4095 ((e.rx.toNat : Int) + l.net)))
      refRx := e.rx, refTx := e.tx, refVref := e.vref, refCtle := e.ctle, refDfe := e.dfe
      liveVref := e.vref, liveCtle := e.ctle, liveDfe := e.dfe
      txTarget := if e.tx = l.liveTx then none else some e.tx
      pending := none, drift := l.net, net := 0 }

/-- Apply a strobe group's pending RDQS transmit delay: it becomes the reference, and the live value slews toward it (R202). -/
def RdqsTrim.applyTarget (r : RdqsTrim) : RdqsTrim :=
  match r.pending with
  | none => r
  | some v => { r with pending := none, target := if v = r.live then none else some v }

/-- A group word with another RDQS transmit delay (Table 7-9). -/
def groupRdqs (w : BitVec 64) (v : BitVec 12) : BitVec 64 := w.extractLsb' 56 8 ++ v ++ (0 : BitVec 44)

/-- Apply the pending targets of a pseudo-channel's lanes and strobe groups at a boundary, in RUN only (R202, R316). -/
def Channel.applyTargets (h : Channel) (run : Bool) (pcs : BitVec 2) : Channel :=
  if run then
    { h with
      lanes := h.lanes.mapFinIdx (fun i l hi => if (unitPcs (laneUnit ⟨i, hi⟩) &&& pcs) != 0 then l.applyTarget else l)
      groups := h.groups.mapFinIdx (fun g w hg =>
        if pcs.getLsbD (g / 2) then (match h.rdqs[g].pending with
          | some v => groupRdqs w v
          | none => w) else w)
      rdqs := h.rdqs.mapFinIdx (fun g r _ => if pcs.getLsbD (g / 2) then r.applyTarget else r) }
  else h

/-- One step of a live delay code toward later or earlier, within ±64 codes of the target last applied (R197, R198). -/
def Lane.track (l : Lane) (up : Bool) : Lane :=
  let d : Int := if up then 1 else -1
  let v : Int := l.live.toNat + d
  if l.drift + d ≤ 64 ∧ -64 ≤ l.drift + d ∧ 0 ≤ v ∧ v ≤ 4095 then
    { l with live := BitVec.ofInt 12 v, net := l.net + d, since := l.since + d, drift := l.drift + d }
  else l

end Sys2Proof.Machine
end

