-- ==== Sys2Proof/Machine/Health.lean ====
section
/-! DEFINITION. Health (17): spare rows and remap entries (R271), design life (R480), the triggers of Table 17-5 and the
signalling of a change of state (R481 to R484). -/

namespace Sys2Proof.Machine

/-! ## Remap entries and spare rows -/

/-- Fields of a remap entry (Table 9-6). -/
def remapState (w : BitVec 32) : Nat := (w.extractLsb' 30 2).toNat
@[inherit_doc remapState] def remapBank (w : BitVec 32) : Fin 64 := (w.extractLsb' 24 6).toFin
@[inherit_doc remapState] def remapSpare (w : BitVec 32) : Fin 4 := (w.extractLsb' 22 2).toFin
@[inherit_doc remapState] def remapSrc (w : BitVec 32) : BitVec 2 := w.extractLsb' 20 2
@[inherit_doc remapState] def remapRow (w : BitVec 32) : Row := w.extractLsb' 0 15

/-- A remap entry word (Table 9-6). -/
def remapWord (state : Nat) (bank : Fin 64) (spare : Fin 4) (src : BitVec 2) (row : Row) : BitVec 32 :=
  BitVec.ofNat 32 (state * 2 ^ 30 + bank.val * 2 ^ 24 + spare.val * 2 ^ 22 + src.toNat * 2 ^ 20 + row.toNat)

/-- The entry word with another state. -/
def remapSetState (w : BitVec 32) (state : Nat) : BitVec 32 :=
  remapWord state (remapBank w) (remapSpare w) (remapSrc w) (remapRow w)

/-- The spare index of a bank's spare in its pseudo-channel's bad list: bank and spare. -/
def spareKey (bank : Fin 64) (spare : Fin 4) : Nat := 4 * bank.val + spare.val

/-- The anti-fuse word of a spare in its layer (Table 5-19). -/
def antifuseWord (c : Ch) (p : Pc) (bank : Fin 64) (spare : Fin 4) : Nat :=
  spareIndex c p ⟨bank.val % 16, by omega⟩ spare

/-- The state of a spare row as SPARES codes it (R406): 0 free, 1 soft-mapped, 2 hard-repaired, 3 bad. A spare of a
pending entry is not yet mapped. -/
def State.spareState (s : State) (c : Ch) (p : Pc) (bank : Fin 64) (spare : Fin 4) : Nat :=
  let q := s.chans[c].pcs[p]
  if q.badSpares.contains (spareKey bank spare) then 3
  else if (sparseGet (s.dies[layerOf c (bankSid bank)]).antifuse (antifuseWord c p bank spare)).getLsbD 31 then 2
  else if q.remap.toList.any (fun w => decide (2 ≤ remapState w) && remapBank w == bank && remapSpare w == spare) then 1
  else 0

/-- Free spare rows of a bank (Table 17-5). -/
def State.freeSpares (s : State) (c : Ch) (p : Pc) (bank : Fin 64) : Nat :=
  ((List.finRange 4).filter (fun k => s.spareState c p bank k == 0)).length

/-- Some bank of a SID present has at most n free spare rows. -/
def State.sparesAtMost (s : State) (n : Nat) : Bool :=
  (List.finRange 32).any (fun c => (List.finRange 2).any (fun p => (List.finRange 64).any (fun b =>
    s.sidPresent (bankSid b) && decide (s.freeSpares c p b ≤ n))))

/-- Quince spare sectors that remain (R440). -/
def State.nvSpares (s : State) : Nat := (s.nv.sectors.filter (fun x => x.use == .spare)).length

/-! ## Design life -/

/-- 2^(k/10) for k = 0 to 9, in units of 2^-40, rounded down. -/
def tenthPowers : List Nat :=
  [1099511627776, 1178427384400, 1263007198126, 1353657597944, 1450814290837, 1554944255987, 1666547989290,
    1786161908965, 1914360933822, 2051761246586]

/-- The weight of a histogram bin (R302, R480) in units of 2^-44: 2^((T - 85)/10) with T the bin's lower edge, 1/16 below
45 degC. -/
def binWeight (bin : Nat) : Nat :=
  if bin < 86 then 2 ^ 40 else tenthPowers.getD ((bin - 86) % 10) 0 * 2 ^ ((bin - 86) / 10)

/-- The design life a unit has consumed, in 0.1% units rounded down (R480). -/
def lifeUsed (hist : List (Nat × Nat)) : Nat :=
  hist.foldl (fun acc x => acc + x.2 * binWeight x.1) 0 * 1000 / (3600 * 61320 * 2 ^ 44)

/-- LIFE_USED: the highest of the five units (R480). -/
def NonVolatile.life (n : NonVolatile) : Nat := n.lifeHist.toList.foldl (fun acc h => max acc (lifeUsed h)) 0

/-- Seconds a unit has spent above 105 degC (R480). -/
def secondsAbove105 (hist : List (Nat × Nat)) : Nat :=
  hist.foldl (fun acc x => if 146 ≤ x.1 then acc + x.2 else acc) 0

/-! ## Triggers -/

/-- A record lies within the last 24 whole power-on hours (Table 17-5). -/
def State.within24 (s : State) (r : LedgerRec) : Bool :=
  decide (r.phours ≤ s.nv.powerHours) && decide (s.nv.powerHours - r.phours < 24)

/-- Lanes and TSVs marked marginal in the stack. -/
def State.marginals (s : State) : Nat :=
  s.chans.toList.foldl (fun acc h => acc + (h.lanes.toList.filter (·.marginal)).length + h.tsv.marginal.length) 0

/-- A marginal lane or TSV of the channel has no free spare. -/
def Channel.marginalNoSpare (h : Channel) : Bool :=
  (List.finRange 100).any (fun k => h.lanes[k].marginal && !h.map.spareFree (laneUnit k))
    || h.tsv.marginal.any (fun x => (h.tsv.repair[x.1]).isSome)

/-- Some pseudo-channel reached 64 distinct uncorrectable accesses in an hour of the last 24, or a HEALTH_CHANGE record
of that time carries the trigger (Table 17-5). -/
def State.ueRate (s : State) : Bool :=
  s.chans.toList.any (fun h => h.pcs.toList.any (fun q => decide (64 ≤ q.ueNow.length) || q.ueHours.any (fun n => decide (64 ≤ n))))
    || s.nv.ledger.any (fun r => r.typ == 0x01 && s.within24 r && (r.body.getD 6 0).getLsbD 4)

/-- Some pseudo-channel with ADAPT_ACT = 1 has stayed in FALLBACK longer than its rebuild limit (R245). -/
def State.mapLost (s : State) : Bool :=
  (List.finRange 32).any (fun c => (List.finRange 2).any (fun p =>
    s.chans[c].regs.adaptAct && s.chans[c].pcs[p].mapState == .fallback
      && decide (s.nv.rlimit < (s.nv.fbHours[pcUnit c p]).getD 0)))

/-- The triggers in force, bit n for trigger n (Table 17-5). -/
def State.findTriggers (s : State) : BitVec 32 :=
  let on (b : Bool) (n : Nat) : BitVec 32 := if b then 1#32 <<< n else 0
  on (s.sparesAtMost 1) 0 ||| on (decide (s.nvSpares < 2)) 1
    ||| on (decide (8 ≤ s.marginals) || s.chans.toList.any (·.marginalNoSpare)) 2
    ||| on (decide (4 < s.fuse.marginal.length)) 3
    ||| on (s.nv.ledger.any (fun r => r.typ == 0x09 && s.within24 r)) 4
    ||| on (s.fuse.invalid != 0) 5
    ||| on (decide (1000 < s.nv.life) || s.nv.lifeHist.toList.any (fun h => decide (3600000 < secondsAbove105 h))) 6
    ||| on s.mgmt.lifeUnknown 7 ||| on s.mgmt.remapLost 8
    ||| on (s.chans.toList.any (fun h => h.pcs.toList.any (·.failed))) 9
    ||| on (s.sparesAtMost 0) 10 ||| on (decide (s.nvSpares = 0)) 11
    ||| on s.ueRate 12 ||| on s.mapLost 13

/-- The state of a trigger word: 0 GOOD, 1 ADVISE, 2 DEGRADED, 3 CRITICAL (R481, Table 17-5). -/
def stateOfTriggers (t : BitVec 32) : BitVec 2 :=
  if (t &&& 0x3000) != 0 then 3 else if (t &&& 0x0E00) != 0 then 2 else if (t &&& 0x01FF) != 0 then 1 else 0

/-- Body of a HEALTH_CHANGE record (Table 17-3). -/
def healthBody (old new : BitVec 2) (replace : Bool) (t : BitVec 32) : List Byte :=
  [old.setWidth 8, new.setWidth 8, byteOf replace.toNat, 0] ++ wordBytes t

/-- Take up an evaluated trigger word (R481, R484): a change of HEALTH or REPLACE_REQ reserves CHANGE_SEQ, updates the
status, sets HEALTH everywhere, queues event type 2 and writes the record; a change of TRIGGERS alone writes the record. -/
def State.signalHealth (s : State) (t : BitVec 32) : State :=
  let new := stateOfTriggers t
  let replace := decide (2 ≤ new.toNat)
  if t = s.mgmt.triggers then s
  else if new = s.mgmt.health && replace = s.mgmt.replace then
    (s.updMgmt (fun m => { m with triggers := t })).ledger 0x01 (healthBody new new replace t)
  else
    let seq := s.nv.nextSeq
    let s1 := s.updMgmt (fun m => { m with triggers := t, changeSeq := seq, health := new, replace := replace })
    ((s1.setCauseAll causeHealth).event 2 0 0 0 0 seq).ledger 0x01 (healthBody s.mgmt.health new replace t)

/-- Lantern A/B evaluates the triggers, where it runs (R482, R483). -/
def State.evalHealth (s : State) : State := if s.mgmt.ready then s.signalHealth s.findTriggers else s

/-! ## The hourly fold -/

/-- The greater of two readings, none standing below every reading. -/
def maxReading (a b : Option Int) : Option Int :=
  match a, b with
  | none, y => y
  | x, none => x
  | some x, some y => some (max x y)

/-- Lantern C adds the hub's histogram counts and peaks to the lifetime counters, takes them from the hub (R303), stores
the LIFE snapshot (Table 17-4) and evaluates the triggers (R482). -/
def State.foldHistograms (s : State) : State :=
  if !s.mgmt.ready then s
  else
    let s1 := { s with
      nv := { s.nv with
        lifeHist := s.nv.lifeHist.mapFinIdx (fun i l h => addCounts l (s.thermal.hist[i]))
        lifePeak := s.nv.lifePeak.mapFinIdx (fun i l h => maxReading l (s.thermal.peak[i])) }
      thermal := { s.thermal with hist := Vector.replicate 5 [] } }
    (s1.ledger 0x17 (natBytes 4 s1.nv.powerHours ++ natBytes 2 s1.nv.life ++ natBytes 4 s1.nv.resets
      ++ natBytes 4 s1.nv.trips ++ natBytes 4 s1.nv.holds)).evalHealth

end Sys2Proof.Machine
end

