-- ==== Sys2Proof/Machine/Lvi.lean ====
section
/-! DEFINITION. The row and column commands of an LVI channel (03), apart from the mode register writes. -/

namespace Sys2Proof.Machine

/-- A thread address of a bank. -/
def bankAddr (p : Pc) (sid : Sid) (bg : Bg) (ba : Ba) (row : Row) (col : Col) : ThreadAddr :=
  { pc := p, sid := sid, bg := bg, ba := ba, row := row, col := col }

/-- Set MR05 causes on a channel for an event that arises in it. -/
def Channel.causeIf (h : Channel) (b : Bool) (n : Nat) : Channel := if b then h.setCause n else h

/-! ## ACT -/

/-- What an ACT does beyond opening the row: the RFM countdown (R250), the tracker (R247, R249) and a profiling step of
the row's group (R241); the count of the bank's most urgent entry when the budget runs out. -/
def Channel.track (h : Channel) (x : RefCtx) (p : Pc) (i : Fin 64) (row : Row) : Channel × Option Nat :=
  let b0 := h.pcs[p].banks[i]
  let counted := match b0.rfm with
    | some r => { b0 with rfm := some { r with left := r.left - 1 } }
    | none => b0
  let spent := match b0.rfm with
    | some r => r.left == 1
    | none => false
  let b1 := { counted with tracker := trackQueue h.th (trackAct b0.tracker row) }
  ((h.updPc p (fun q => (q.updBank i (fun _ => b1)).cancelRow x.rows i row.toNat true)).postRequest p i,
    if spent then some (((trackUrgent b1.tracker).map (·.count)).getD 0) else none)

/-- The effect of an accepted ACT (R57, R60, R247 to R250). An ACT served under R60 reaches no row: it lowers no ACT_LEFT and is
tracked in no entry (DESIGN CHOICE, log 102). -/
def State.openRow (s : State) (c : Ch) (p : Pc) (sid : Sid) (bg : Bg) (ba : Ba) (row : Row) : State :=
  let i := bankIx sid bg ba
  let bad := s.unservable s.chans[c] sid row
  let s1 := s.updPc c p (fun q => q.updBank i (fun b => { b with phase := .opened row (!bad) }))
  if bad then s1.updCh c (·.setCause causeRsvRow)
  else
    let (h, spent) := s1.chans[c].track (s.refCtx c p sid) p i row
    let s2 := s1.updCh c (fun _ => h.sendHost (frameOf (rowSlot 2 p sid bg ba row) 0 0))
    match spent with
    | some n => (s2.ledgerEvent 0x09 (wordBytes (addrWord c p (accessNo sid (bankNo bg ba) 0 0)) ++ natBytes 2 n) 10
        (byteOf sid.val) (byteOf c.val) (byteOf p.val)).evalHealth
    | none => s2

/-- ACT. -/
def execAct (c : Ch) (p : Pc) (sid : Sid) (bg : Bg) (ba : Ba) (row : Row) (ok : Sampled) (s : State) : Result :=
  let h := s.chans[c]
  .next (s.intake c
    { bus := .row, entry := if s.unservable h sid row then 1 else 0, pcs := pcMask p, sid := some sid,
      trains := pcMask p, addr := bankAddr p sid bg ba row 0,
      error := h.pcs[p].powerDown || h.pcs[p].banks[bankIx sid bg ba].phase != .closed }
    ok (fun t => t.openRow c p sid bg ba row))

/-! ## Precharge -/

/-- PRE of a bank: an open bank closes; a closed one is left, and the posted precharge of a closing one stands (R61,
R537). -/
def Bank.precharge (b : Bank) : Bank :=
  match b.phase with
  | .opened _ _ => { b with phase := .closed, postedPre := false }
  | .closed => b
  | .closing _ _ => b

/-- PRE. -/
def execPre (c : Ch) (p : Pc) (sid : Sid) (bg : Bg) (ba : Ba) (ok : Sampled) (s : State) : Result :=
  .next (s.intake c
    { bus := .row, entry := 2, pcs := pcMask p, sid := some sid, trains := pcMask p,
      addr := bankAddr p sid bg ba 0 0, error := s.chans[c].pcs[p].powerDown }
    ok (fun t => t.updCh c (fun h =>
      (h.updPc p (fun q => q.updBank (bankIx sid bg ba) (·.precharge))).sendHost (preFrame p sid bg ba true))))

/-- PREA; it is one of the commands R188 allows. -/
def execPrea (c : Ch) (p : Pc) (sid : Sid) (all : Bool) (ok : Sampled) (s : State) : Result :=
  .next (s.intake c
    { bus := .row, entry := 3, pcs := pcMask p, sid := if all then none else some sid, addr := bankAddr p sid 0 0 0 0,
      error := s.chans[c].pcs[p].powerDown }
    ok (fun t => t.updCh c (fun h =>
      (h.updPc p (fun q => if all then q.updBanks (·.precharge) else q.updSid sid (·.precharge))).sendHost
        (shortFrame 2 all (shortArg p (if all then 0 else sid) 0 0)))))

/-! ## Refresh commands -/

/-- The leased banks of a refresh command as pairs of pseudo-channel and bank. -/
def leaseOn (p : Pc) (banks : List (Fin 64)) : Lease := { banks := banks.map (fun i => (p, i)), setEnd := true }

/-- A fill, a test or a row copy holds a quiesced pseudo-channel, so that a refresh command is a NOP (R71); the clearing of the
reserved rows is none of them. -/
def PseudoChannel.refreshNop (p : PseudoChannel) : Bool :=
  p.qact && (match p.op with
    | some .clearing | none => false
    | some _ => true)

/-- The cursor rows of a received REF count (R223): the obligation holds. While quiesced and before RDY the command counts
toward nothing and is slack from order 2 (R71, R186). -/
def PseudoChannel.refCounts (p : PseudoChannel) : Bool := p.ready && !p.qact

/-- The refresh threads of a staged table for a refresh command with its leased banks: the command's own entry with the rows
that the refresh manager hands out, then those of carried-over work, weak rows, neighbours and the map (Table 6-8, entries 32
to 38). One thread holds the banks (R165); what no thread takes is carried over (R129). -/
def Channel.refThreads (h : Channel) (x : RefCtx) (entry : Nat) (addr : ThreadAddr) (lease : Lease)
    (owed : List OwedRow) : Channel :=
  let p := addr.pc
  let banks := lease.banks.map (·.2)
  let before := h.taper.nextTid
  let h1 := h.eventThread false entry addr (some lease) owed
  let taken := h1.taper.nextTid != before
  let q := h1.pcs[p]
  let other (k : Channel) (n : Nat) (due : Bool) : Channel := if due then k.eventThread false n addr (some lease) [] else k
  let h2 := if taken then h1 else h1.updPc p (fun q => q.carry owed)
  let h3 := other h2 35 (banks.any (fun i => !(h2.pcs[p].banks[i]).carried.isEmpty))
  let h4 := other h3 36 (x.weak && !q.weak.isEmpty)
  let h5 := other h4 37 (banks.any (fun i => (q.banks[i]).rfm.isSome || (q.banks[i]).tracker.any (·.queued)))
  let h6 := other h5 38 x.bins
  other h6 40 (!x.noMaint && !x.scrubOff && q.scrub.credit != 0)

/-- Work owed under a received REF with its lease: with the Baltil table the refresh manager's work is whole in the command,
and its thread holds the lease to its end (R164, R223, R226, R235, log 5); with a staged table the threads' steps place it
(R10). -/
def Channel.refWork (h : Channel) (x : RefCtx) (entry : Nat) (addr : ThreadAddr) (banks : List (Fin 64)) (cap : Nat) : Channel :=
  let p := addr.pc
  let q := h.pcs[p]
  if q.refreshNop then h
  else if h.taper.active.baltil then
    let h1 := if q.refCounts then h.refreshWork x p banks cap true else h.slackWork x p banks cap false
    if banks.all (h1.taper.unleased p) then h1.updTaper (·.start false entry addr (some (leaseOn p banks)) []) else h1
  else
    let (q1, rows) := if q.refCounts then q.handOut x banks true else (q, [])
    (h.updPc p (fun _ => q1)).refThreads x entry addr (leaseOn p banks) rows

/-- REFab; with every SID within its tRFCab it opens the all-SID refresh window, a boundary for targets (R199, R202). -/
def execRefab (c : Ch) (p : Pc) (sid : Sid) (ok : Sampled) (s : State) : Result :=
  let h := s.chans[c]
  let banks := sidBanks sid
  .next (s.intake c
    { bus := .row, entry := 4, pcs := pcMask p, sid := some sid, trains := pcMask p, addr := bankAddr p sid 0 0 0 0,
      error := banks.any (fun i => h.pcs[p].banks[i].phase != .closed) }
    ok (fun t =>
      let t1 := t.updCh c (fun k => k.refWork (s.refCtx c p sid) 32 (bankAddr p sid 0 0 0 0) banks 48)
      t1.updCh c (fun k =>
        let flags := k.pcs[p].inRefab ||| (1#4 <<< sid.val)
        let opens := h.regs.policy.getLsbD 1 && (List.range s.sids).all (fun j => flags.getLsbD j)
        let k1 := k.updPc p (fun q => { q with inRefab := flags, refWindow := opens })
        if opens then (k1.applyTargets (s.wick.state == .run) (pcMask p)).eventThread (s.haltMaint c) 46 (pcAddr p) none []
        else k1)))

/-- REFpb. -/
def execRefpb (c : Ch) (p : Pc) (sid : Sid) (bg : Bg) (ba : Ba) (ok : Sampled) (s : State) : Result :=
  .next (s.intake c
    { bus := .row, entry := 5, pcs := pcMask p, sid := some sid, trains := pcMask p, addr := bankAddr p sid bg ba 0 0,
      error := s.chans[c].pcs[p].banks[bankIx sid bg ba].phase != .closed }
    ok (fun t => t.updCh c (fun k => k.refWork (s.refCtx c p sid) 33 (bankAddr p sid bg ba 0 0) [bankIx sid bg ba] 3)))

/-- The work of an RFM: neighbour refresh for the bank's most urgent tracker entry, which serves a posted request, then
slack (R85, R226, R235, R249). It counts as no REF. While quiesced it serves a posted request and is slack otherwise (R71). -/
def Channel.rfmWhole (h : Channel) (x : RefCtx) (p : Pc) (i : Fin 64) : Channel :=
  let q := h.pcs[p]
  if q.qact && q.banks[i].rfm.isNone then h.slackWork x p [i] 2 false
  else (h.serveRfm x.rows p i).slackWork x p [i] (2 - q.urgentCost x.rows i) false

/-- The neighbours of a bank's most urgent tracker entry, as the rows that an RFM owes (Table 8-2). -/
def PseudoChannel.urgentRows (p : PseudoChannel) (rows : Nat) (i : Fin 64) : List OwedRow :=
  match trackUrgent p.banks[i].tracker with
  | some e =>
    let n := p.neighbours rows i e.row.toNat
    (n.1.toList ++ n.2.toList).map (fun r => { bank := i, row := r, bin := true })
  | none => []

/-- An RFM, whole with the Baltil table and by its threads' steps with a staged one (R10, R164); a NOP while a fill, test or
row copy holds the pseudo-channel (R71). -/
def Channel.rfmCommand (h : Channel) (x : RefCtx) (addr : ThreadAddr) (i : Fin 64) : Channel :=
  let p := addr.pc
  if h.pcs[p].refreshNop then h
  else if h.taper.active.baltil then
    let h1 := h.rfmWhole x p i
    if h1.taper.unleased p i then h1.updTaper (·.start false 34 addr (some (leaseOn p [i])) []) else h1
  else h.refThreads x 34 addr (leaseOn p [i]) (h.pcs[p].urgentRows x.rows i)

/-- RFM. -/
def execRfm (c : Ch) (p : Pc) (sid : Sid) (bg : Bg) (ba : Ba) (ok : Sampled) (s : State) : Result :=
  .next (s.intake c
    { bus := .row, entry := 6, pcs := pcMask p, sid := some sid, trains := pcMask p, addr := bankAddr p sid bg ba 0 0,
      error := s.chans[c].pcs[p].banks[bankIx sid bg ba].phase != .closed }
    ok (fun t => t.updCh c (fun k => k.rfmCommand (s.refCtx c p sid) (bankAddr p sid bg ba 0 0) (bankIx sid bg ba))))

/-! ## Power-down and self-refresh -/

/-- A pseudo-channel of the select field that is not failed changes (R63). -/
def Channel.updNamed (h : Channel) (pcs : BitVec 2) (f : PseudoChannel → PseudoChannel) : Channel :=
  { h with pcs := h.pcs.mapFinIdx (fun i p _ => if pcs.getLsbD i && !p.failed then f p else p) }

/-- PDE. -/
def execPde (c : Ch) (pcs : BitVec 2) (ok : Sampled) (s : State) : Result :=
  .next (s.intake c
    { bus := .row, entry := 7, pcs := pcs, trains := pcs, addr := pcAddr 0,
      error := pcs == 0 || s.chans[c].namesPowerDown pcs }
    ok (fun t => t.updCh c (fun h => h.updNamed pcs (fun p => { p with powerDown := true }.settleQact))))

/-- PDX. -/
def execPdx (c : Ch) (pcs : BitVec 2) (ok : Sampled) (s : State) : Result :=
  let h := s.chans[c]
  .next (s.intake c
    { bus := .row, entry := 8, pcs := pcs, trains := pcs, addr := pcAddr 0,
      error := pcs == 0 || (pcs.getLsbD 0 && !h.pcs[0].failed && (!h.pcs[0].powerDown || h.pcs[0].qact))
        || (pcs.getLsbD 1 && !h.pcs[1].failed && (!h.pcs[1].powerDown || h.pcs[1].qact)) }
    ok (fun t => t.updCh c (fun h => h.updNamed pcs (fun p => { p with powerDown := false }))))

/-- Every channel of a group that is not failed is in native self-refresh (R91), or all four are failed (Table 12-2). -/
def State.groupIdle (s : State) (g : Fin 8) : Bool :=
  (List.finRange 4).all (fun j =>
    let h := s.chans[4 * g.val + j.val]
    h.isFailed || (h.regs.srAct && !h.regs.srManaged))

/-- Every channel of a TSV half that is not failed is in native self-refresh (Table 12-2). -/
def State.halfIdle (s : State) (k : Fin 2) : Bool :=
  (List.finRange 16).all (fun j =>
    let h := s.chans[16 * k.val + j.val]
    h.isFailed || (h.regs.srAct && !h.regs.srManaged))

/-- The power controllers of a channel's group and TSV half switch off where Table 12-2 says so (R91, R330). -/
def State.settleGates (s : State) (c : Ch) : State :=
  { s with power := { s.power with
      gated := if s.groupIdle ⟨c.val / 4, by omega⟩ then s.power.gated ||| (1#8 <<< (c.val / 4)) else s.power.gated
      tsvOff := if s.halfIdle ⟨c.val / 16, by omega⟩ then s.power.tsvOff ||| (1#2 <<< (c.val / 16))
        else s.power.tsvOff } }

/-- What SRE does to the channel: native self-refresh sends SREF_ENTER to every SID and stops the clocks, after the tracker has
been spilled (R91, R146, R252); managed self-refresh keeps the clocks (R121), and its debt is zero (R251). The frames of a staged table are its steps'. -/
def Channel.enterSr (h : Channel) (rows sids : Nat) (managed : Bool) : Channel :=
  let h1 := (h.updRegs (fun r => { r with srAct := true, srManaged := managed })).updPcs (fun p =>
    if managed then (p.cancelBatch rows).restartObligation else (p.cancelBatch rows).spillTracker)
  let h2 : Channel := { h1 with tsv := { h1.tsv with clocks := managed, switched := false } }
  if managed || !h.taper.active.baltil then h2
  else (h2.send (shortFrame 3 false ((srefMask sids true 0).setWidth 7))).srefEnter (srefMask sids true 0)

/-- The effect of an accepted SRE (R90, R91, R252, R303, R330). -/
def State.enterSelfRefresh (s : State) (c : Ch) (managed : Bool) : State :=
  let s1 := s.updCh c (·.enterSr s.rows s.sids managed)
  let s2 := s1.settleGates c
  if !managed && (List.finRange 32).all (fun k => s2.chans[k].isFailed || (s2.chans[k].regs.srAct && !s2.chans[k].regs.srManaged))
  then s2.foldHistograms else s2

/-- SRE. -/
def execSre (c : Ch) (managed : Bool) (ok : Sampled) (s : State) : Result :=
  let h := s.chans[c]
  .next (s.intake c
    { bus := .row, entry := if managed then 10 else 9, pcs := 0, trains := 3, addr := pcAddr 0,
      error := !h.pcs[0].allClosed || !h.pcs[1].allClosed || h.pcs[0].qact || h.pcs[1].qact }
    ok (fun t => t.enterSelfRefresh c managed))

/-- The effect of SRX: self-refresh and power-down end, the obligation restarts with debt zero, leases that depended on
self-refresh are revoked, and native self-refresh is followed by a blind lap (R90, R94, R167, R229, R332). -/
def State.leaveSelfRefresh (s : State) (c : Ch) : State :=
  let s1 := s.updCh c (fun h =>
    let native := !h.regs.srManaged || h.tsv.switched
    let h1 := ((h.updRegs (fun r => { r with srAct := false })).updPcs (fun p =>
        let p1 := { p.restartObligation with powerDown := false }
        if native then (p1.blindLap s.rows).loadTracker else p1)).revoke 3
    let h2 : Channel := { h1 with tsv := { h1.tsv with clocks := true, switched := false }
                                  intake := { h1.intake with discard := h1.intake.discard && !s.isGated c } }
    if native && (h.taper.active.baltil || h.tsv.switched) then
      (h2.srefExit s.rows (srefMask s.sids true 0)).send (shortFrame 4 false ((srefMask s.sids true 0).setWidth 7))
    else h2)
  { s1 with power := { s1.power with
      gated := s1.power.gated &&& ~~~(1#8 <<< (c.val / 4))
      tsvOff := s1.power.tsvOff &&& ~~~(1#2 <<< (c.val / 16)) } }

/-- SRX. In a power-gated group the wake slice takes only a correct SRX, unnumbered (R332). In link hold an SRX is
discarded and the channel then needs RESYNC (R322). -/
def execSrx (c : Ch) (ok : Sampled) (s : State) : Result :=
  let h := s.chans[c]
  if s.lviDead then .next s
  else if s.isGated c then
    (if h.regs.srAct && !(ok.fails && h.regs.caparEn) && ok != .slipped then .next (s.leaveSelfRefresh c) else .next s)
  else if h.regs.srAct && s.wick.state == .linkhold && !h.intake.discard && !h.isFailed then
    .next (s.updCh c (fun k => { k with intake := { k.intake with held := true } }))
  else
    .next (s.intake c
      { bus := .row, entry := 11, pcs := 0, trains := 3, addr := pcAddr 0, error := !h.regs.srAct, srx := true }
      ok (fun t => t.leaveSelfRefresh c))

/-! ## NOP and reserved opcodes -/

/-- A bus cycle whose OP[3:0] names no command: NOP fails only parity (R59); a reserved opcode is a command error (R61).
NOP takes no index (R72). Eight column NOPs admit a RESYNC (R80). -/
def execNop (c : Ch) (bus : Bus) (op : BitVec 4) (ok : Sampled) (s : State) : Result :=
  let h := s.chans[c]
  let isNop := op == 15
  let count (k : Channel) : Channel := match bus with
    | .row => k
    | .col => { k with intake := { k.intake with colNops := if isNop then min (k.intake.colNops + 1) 8 else 0 } }
  .next (if s.lviDead || s.isGated c then s
    else if h.intake.discard || h.intake.held then s.updCh c (fun k => count (k.sampled ok bus))
    else if h.captureSlips ok then s.updCh c (fun k => (count (k.sampled ok bus)).slipped)
    else if h.regs.caparEn && ok.fails then s.updCh c (fun k => (count k).refuse true)
    else if s.mgmt.lab && h.regs.nextCaErr && !isNop then
      s.updCh c (fun k => ((count k).refuse true).updRegs (fun r => { r with nextCaErr := false }))
    else if isNop then s.updCh c (fun k => count (k.sampled ok bus))
    else s.updCh c (fun k => (count (k.sampled ok bus)).refuse false))

/-! ## Column commands -/

/-- Post an action of a pseudo-channel's calendar (R156). -/
def PseudoChannel.post (p : PseudoChannel) (a : Posted) : PseudoChannel := { p with calendar := p.calendar ++ [a] }

/-- The row of an open bank and whether it is served. -/
def openRowOf (b : Bank) : Option (Row × Bool) :=
  match b.phase with
  | .opened r v => some (r, v)
  | _ => none

/-- The bank closes by auto-precharge: closing until its precharge timer expires (R155, R537). -/
def Bank.autoClose (b : Bank) : Bank :=
  match b.phase with
  | .opened r v => { b with phase := .closing r v, postedPre := true }
  | _ => b

/-- The decoder's part of an auto-precharge with a staged table, whose step posts the PRE itself (R155). -/
def Bank.autoCloseBy (b : Bank) (whole : Bool) : Bank := { b.autoClose with postedPre := whole || b.postedPre }

/-- The effect of an accepted read with the Baltil table, whose step is whole in the command (R60, R74, R102, Table 6-12): the
read chain of the open row. -/
def PseudoChannel.read (p : PseudoChannel) (sid : Sid) (bg : Bg) (ba : Ba) (col : Col) : PseudoChannel :=
  match openRowOf p.banks[bankIx sid bg ba] with
  | some (row, true) => p.post (.read sid (bankNo bg ba) row col none)
  | _ => p.post .unservable

/-- A column access to a bank meets Table 3-4 unless the bank is open and the pseudo-channel is out of power-down. -/
def Channel.accessError (h : Channel) (p : Pc) (sid : Sid) (bg : Bg) (ba : Ba) : Bool :=
  h.pcs[p].powerDown || (openRowOf h.pcs[p].banks[bankIx sid bg ba]).isNone

/-- The open row of the bank is served (Table 6-8, entries 14 and 17). -/
def Channel.served (h : Channel) (p : Pc) (sid : Sid) (bg : Bg) (ba : Ba) : Bool :=
  match openRowOf h.pcs[p].banks[bankIx sid bg ba] with
  | some (_, v) => v
  | none => false

/-- The record of a column access. -/
def accessCmd (h : Channel) (p : Pc) (sid : Sid) (bg : Bg) (ba : Ba) (col : Col) (entry unserved : Nat) : HostCmd :=
  { bus := .col, entry := if h.served p sid bg ba then entry else unserved, pcs := pcMask p, sid := some sid,
    trains := pcMask p,
    addr := bankAddr p sid bg ba (((openRowOf h.pcs[p].banks[bankIx sid bg ba]).map (·.1)).getD 0) col,
    error := h.accessError p sid bg ba }

/-- A read of a channel: with the Baltil table its read chain, whose TSV RD leaves in the order of the pseudo-channel's
commands (R74, R82, R102); with a staged table its thread's steps issue both (R10). -/
def Channel.readCmd (h : Channel) (p : Pc) (sid : Sid) (bg : Bg) (ba : Ba) (col : Col) (close : Bool) : Channel :=
  let whole := h.taper.active.baltil
  let h1 := if whole then h.updPc p (fun q => q.read sid bg ba col) else h
  if close then h1.updPc p (fun q => q.updBank (bankIx sid bg ba) (·.autoCloseBy (whole && h.served p sid bg ba))) else h1

/-- RD. -/
def execRd (c : Ch) (p : Pc) (sid : Sid) (bg : Bg) (ba : Ba) (col : Col) (ok : Sampled) (s : State) : Result :=
  .next (s.intake c (accessCmd s.chans[c] p sid bg ba col 12 14) ok
    (fun t => t.updCh c (·.readCmd p sid bg ba col false)))

/-- RDA. -/
def execRda (c : Ch) (p : Pc) (sid : Sid) (bg : Bg) (ba : Ba) (col : Col) (ok : Sampled) (s : State) : Result :=
  .next (s.intake c (accessCmd s.chans[c] p sid bg ba col 13 14) ok
    (fun t => t.updCh c (·.readCmd p sid bg ba col true)))

/-- The effect of an accepted write with the Baltil table (R29, R60, R79): the write chain with the burst the host drives at
WL. -/
def PseudoChannel.write (p : PseudoChannel) (sid : Sid) (bg : Bg) (ba : Ba) (col : Col) (burst : Burst) : PseudoChannel :=
  match openRowOf p.banks[bankIx sid bg ba] with
  | some (row, v) => p.post (.write sid (bankNo bg ba) row col burst v none)
  | none => p

/-- A write of a channel: with the Baltil table its write chain; with a staged table its thread's steps post it (R10, R29). -/
def Channel.writeCmd (h : Channel) (p : Pc) (sid : Sid) (bg : Bg) (ba : Ba) (col : Col) (burst : Burst) (close : Bool) :
    Channel :=
  let whole := h.taper.active.baltil
  let h1 := if whole then h.updPc p (fun q => q.write sid bg ba col burst) else h
  if close then h1.updPc p (fun q => q.updBank (bankIx sid bg ba) (·.autoCloseBy (whole && h.served p sid bg ba))) else h1

/-- The record of a write: its data, and that the host drives it whatever becomes of the command (R79). -/
def writeRecord (h : Channel) (p : Pc) (sid : Sid) (bg : Bg) (ba : Ba) (col : Col) (burst : Burst) (entry : Nat) : HostCmd :=
  { accessCmd h p sid bg ba col entry 17 with data := .write burst (h.served p sid bg ba), isWrite := true }

/-- WR. -/
def execWr (c : Ch) (p : Pc) (sid : Sid) (bg : Bg) (ba : Ba) (col : Col) (burst : Burst) (ok : Sampled) (s : State) : Result :=
  .next (s.intake c (writeRecord s.chans[c] p sid bg ba col burst 15) ok
    (fun t => t.updCh c (·.writeCmd p sid bg ba col burst false)))

/-- WRA. -/
def execWra (c : Ch) (p : Pc) (sid : Sid) (bg : Bg) (ba : Ba) (col : Col) (burst : Burst) (ok : Sampled) (s : State) :
    Result :=
  .next (s.intake c (writeRecord s.chans[c] p sid bg ba col burst 16) ok
    (fun t => t.updCh c (·.writeCmd p sid bg ba col burst true)))

/-- A chain of the Baltil table, which is whole in the command; a staged table's steps post theirs (R10). -/
def Channel.postHost (h : Channel) (p : Pc) (a : Posted) : Channel :=
  if h.taper.active.baltil then h.updPc p (·.post a) else h

/-- The pseudo-channel that an RDT or WRT ends a training stage on: in stages 4 to 7 they are the stage's own commands, in
stages 1 to 3 they are none of those that R188 allows. -/
def Channel.bufferTrains (h : Channel) (p : Pc) : BitVec 2 := if h.trn.last.toNat ≤ 3 then pcMask p else 0

/-- RDT: it reads a base-die training buffer (R192). -/
def execRdt (c : Ch) (p : Pc) (tb : Fin 16) (ok : Sampled) (s : State) : Result :=
  .next (s.intake c { bus := .col, entry := 19, pcs := pcMask p, addr := pcAddr p, error := s.chans[c].pcs[p].powerDown,
                      trains := s.chans[c].bufferTrains p, data := .readBuffer tb }
    ok (fun t => t.updCh c (·.postHost p (.bufRead tb))))

/-- WRT: it overwrites a training buffer with the lanes the host drives (R192). -/
def execWrt (c : Ch) (p : Pc) (tb : Fin 16) (bits : BitVec 624) (ok : Sampled) (s : State) : Result :=
  .next (s.intake c { bus := .col, entry := 20, pcs := pcMask p, addr := pcAddr p, error := s.chans[c].pcs[p].powerDown,
                      trains := s.chans[c].bufferTrains p, data := .writeBuffer tb bits }
    ok (fun t => t.updCh c (·.postHost p (.bufWrite tb bits))))

/-- MRR: the register as it stood when the command issued (R65, R72). -/
def execMrr (c : Ch) (p : Pc) (ma : Fin 32) (ok : Sampled) (s : State) : Result :=
  .next (s.intake c { bus := .col, entry := 21, pcs := pcMask p, addr := pcAddr p, error := s.chans[c].pcs[p].powerDown,
                      data := .mode (s.mrRead c ma) (s.chans[c].mrExt ma) }
    ok (fun t => t.updCh c (·.postHost p (.modeRead (s.mrRead c ma) (s.chans[c].mrExt ma)))))

/-- Each pseudo-channel not in power-down drives the maintenance pattern in the second half of an LMW window (R86, R191). -/
def Channel.drivePattern (h : Channel) (len : BitVec 2) : Channel :=
  h.updPcs (fun p => if p.powerDown then p else { p with drive := .pattern (lmwLength len) })

/-- The armed writes that the LMW now granted is the first to follow (R45). -/
def LaneMap.grant (m : LaneMap) : LaneMap :=
  { m with grantedSg := m.grantedSg.mapFinIdx (fun i g hi => g || m.armedSg[i].isSome), grantedCa := m.grantedCa || m.armedCa.isSome }

/-- LMW: the window opens for LEN CK (R86), a gap for re-centring (R199); the MX32 drives its half of it (R86, R191). -/
def execLmw (c : Ch) (len : BitVec 2) (ok : Sampled) (s : State) : Result :=
  .next (s.intake c { bus := .col, entry := 23, pcs := 0, trains := 3, addr := pcAddr 0, error := false }
    ok (fun t => t.updCh c (fun h =>
      ({ h with intake := { h.intake with lmw := some len }, map := h.map.grant }.drivePattern len).eventThread
        (s.haltMaint c) 47 (pcAddr 0) none [])))

/-- The effect of a recognised RESYNC (R81, R101, R126, R229, R321): the banks close, which may let quiesce follow (R71); every
crossing returns to its trained phase (R101); the alignment frames leave. -/
def Channel.resynced (h : Channel) (rows : Nat) : Channel :=
  let h1 := (h.updRegs (fun r => { r with seqCnt := 0 })).updPcs (fun p =>
    { (p.updBanks (·.precharge)).settleQact with writeOutside := false, readOutside := false })
  let h2 := if h.intake.held then
      h1.updPcs (fun p => ((p.restartObligation).blindLap rows))
    else h1
  { h2 with intake := { h2.intake with discard := false, held := false, outside := false, colNops := 0 }
            tsv := { h2.tsv with frame := alignFrame } }

/-- RESYNC. It is recognised with correct parity, whatever CAPAR_EN holds, after eight column NOPs (R80); in link hold
before the relock it is discarded (R84). It takes no index (R72). -/
def execResync (c : Ch) (ok : Sampled) (s : State) : Result :=
  let h := s.chans[c]
  .next (if s.lviDead || s.isGated c then s
    else if h.intake.held && s.wick.state == .linkhold then s.updCh c (·.sawCommand .col)
    else if !ok.fails && ok != .slipped && decide (8 ≤ h.intake.colNops) && (h.intake.lmw.isNone || h.intake.discard || h.intake.held) && entryValid (h.taper.active.entryWord 24)
        && (!h.regs.srAct || h.intake.discard || h.intake.held) && !(s.mgmt.lab && h.regs.nextCaErr && !h.intake.discard) then
      s.updCh c (fun k => ((k.resynced s.rows).eventThread false 24 (pcAddr 0) none []).stageBreak s.timeUs 3)
    else if h.intake.discard || h.intake.held then s.updCh c (·.sawCommand .col)
    else if h.captureSlips ok then s.updCh c (fun k => ((k.sampled ok .col).sawCommand .col).slipped)
    else if (ok.fails && h.regs.caparEn) || (s.mgmt.lab && h.regs.nextCaErr) then
      s.updCh c (fun k => ((k.sawCommand .col).refuse true).updRegs (fun r => { r with nextCaErr := false }))
    else s.updCh c (fun k => (k.sawCommand .col).refuse false))

end Sys2Proof.Machine
end

