-- ==== Sys2Proof/Machine/Wick.lean ====
section
/-! DEFINITION. Wick: band search, lock, SYNC, holdover, link hold and relock (11), and the change of bin (R67). -/

namespace Sys2Proof.Machine

/-- A channel's core dies enter self-refresh, CKA and CKB stop (R146, R147); every bank closes. -/
def Channel.coreSleep (h : Channel) (sids : Nat) : Channel :=
  let h1 := ((h.updPcs (fun p => p.updBanks (fun b => { b with phase := .closed, postedPre := false }))).send
    (shortFrame 3 false ((srefMask sids true 0).setWidth 7))).srefEnter (srefMask sids true 0)
  { h1 with tsv := { h1.tsv with clocks := false } }

/-- A channel's core dies leave self-refresh, with the soft-repair changes made meanwhile (R139); the last frames are alignment
frames (R320). -/
def Channel.coreWake (h : Channel) (rows : Nat) : Channel :=
  let h1 := (h.srefExit rows 15).send alignFrame
  { h1 with tsv := { h1.tsv with clocks := true } }

/-- A channel in managed self-refresh is switched to native for link hold or a change of bin (R322, R324). -/
def Channel.switchNative (h : Channel) (sids : Nat) : Channel :=
  let h1 := h.coreSleep sids
  { h1 with tsv := { h1.tsv with switched := true } }

/-- A channel meets the start of link hold (R319, R322): one out of self-refresh discards and runs safe-sequence entry 60,
one in managed self-refresh is switched to native. -/
def Channel.linkHold (h : Channel) (sids : Nat) : Channel :=
  if h.regs.srAct then (if h.regs.srManaged then h.switchNative sids else h)
  else { h.coreSleep sids with intake := { h.intake with held := true } }

/-- Every channel that is not failed enters link hold (R147, R319, R536); after a trip nothing further is sent (R147). -/
def State.enterLinkHold (s : State) : State :=
  (if s.thermal.trip then s else s.updAll (fun h => if h.isFailed then h else h.linkHold s.sids)).updWick (fun w =>
    { w with state := .linkhold, outputs := false, linkHolds := bump w.linkHolds })

/-- A freeze of the control word (R314 to R316, R318): the first of an episode counts it, records the frozen word, which is
a free value, and queues event type 3; each sets PLL_HOLDOVER in every channel that is not power-gated. -/
def State.freeze (s : State) : State :=
  let s1 := s.setCauseAll causeHoldover
  if s.wick.frozenAt.isSome then s1.updWick (fun w => { w with lock := false, closed := false, frac := w.frozen })
  else
    let (word, s2) := s1.free 24
    let s3 := (s2.updWick (fun w =>
      { w with state := .holdover, lock := false, closed := false, frozen := word, frac := word, frozenAt := some s.timeUs
               holdCnt := if w.holdCnt = 63 then 63 else w.holdCnt + 1, holds := bump w.holds })).updNv
        (fun n => { n with holds := bump n.holds })
    let s4 := s3.event 3
    if s.wick.spread && !s.wick.followOk then s4.enterLinkHold else s4

/-- Wick returns to SEARCH: O0 to O3 stop, the management clocks run from the RC oscillator (R314, R323). -/
def Wick.search (w : Wick) : Wick :=
  { w with state := .search, lock := false, closed := false, outputs := false, rcMgmt := true }

/-- Loss of reference or of lock: a freeze in RUN and, with the loop closed, in an episode (R314, R318, R320); a return to
SEARCH in ACQUIRE and SETUP, from which the next lock enters SETUP anew. -/
def State.loseLock (s : State) : State :=
  match s.wick.state with
  | .run => s.freeze
  | .holdover | .linkhold => if s.wick.closed then s.freeze else s
  | .acquire => s.updWick (·.search)
  | .setup => s.updWick (fun w => { w.search with locked := false })
  | .off | .search => s

/-- LOSS_OF_REFERENCE. -/
def execLossOfReference (s : State) : Result :=
  .next ((s.loseLock).updWick (fun w => { w with refOk := false }))

/-- LOSS_OF_LOCK: in HOLDOVER and LINKHOLD it needs a closed loop (R318); with REFCK present the loop closes again at
once from the frozen word (R318). -/
def execLossOfLock (s : State) : Result :=
  if (s.wick.state == .holdover || s.wick.state == .linkhold) && !s.wick.closed then .next s
  else .next ((s.loseLock).updWick (fun w =>
    if (w.state == .holdover || w.state == .linkhold) && w.refOk then { w with closed := true } else w))

/-- The loop closes from the frozen word; the fraction it then steers to is a free value. -/
def State.closeLoop (s : State) : State :=
  let (word, s1) := s.free 24
  s1.updWick (fun w => { w with closed := true, frac := word })

/-- FORCE_HOLD of MR15 stands at 1 on some channel in lab mode (Table 3-16a). -/
def State.holdForced (s : State) : Bool :=
  s.mgmt.lab && s.chans.toList.any (fun h => h.regs.mr15.getLsbD 0)

/-- REFCK_RESTORED: REFCK valid for 64 cycles (R318); in HOLDOVER the loop closes from the frozen word unless FORCE_HOLD
keeps it open, in LINKHOLD with the loop open a band search follows (R320). -/
def execRefckRestored (s : State) : Result :=
  let s1 := s.updWick (fun w => { w with refOk := true })
  .next (if s.wick.state == .holdover && !s.wick.closed && !s.holdForced then s1.closeLoop else s1)

/-- SPREAD_FOLLOWER_CONVERGED (R315). -/
def execSpreadFollowerConverged (period depth : BitVec 16) (s : State) : Result :=
  .next (if s.wick.state == .run then
    s.updWick (fun w => { w with spread := true, followOk := true, sscPeriod := period, sscDepth := depth }) else s)

/-- HOLDOVER_LIMIT: tHOLD after the freeze (R319). -/
def execHoldoverLimit (s : State) : Result :=
  .next (if s.wick.state == .holdover then s.enterLinkHold else s)

/-- LINKHOLD_RC_MOVE: after 1 ms in LINKHOLD the management clocks move to the RC oscillator (R323). -/
def execLinkholdRcMove (s : State) : Result :=
  .next (if s.wick.state == .linkhold && !s.wick.lock then s.updWick (fun w => { w with rcMgmt := true }) else s)

/-! ## Band search and lock -/

/-- The feedback integer of a bin (Table 11-2): VCO cycles per REFCK cycle. -/
def feedbackInteger (bin : BitVec 2) : Nat := byBin bin 128 120 100 128

/-- REFCK cycles for which the phase error stays within its limit before lock is declared: 64 times 2 to the code, a code of 7 acting
as 2 (R309). -/
def State.lockCycles (s : State) : Nat :=
  64 * 2 ^ (if s.quince.shadow.lockCnt = 7 then 2 else s.quince.shadow.lockCnt.toNat)

/-- The five steps of the band search of R308; a band's count over 2 us divided by 200 is compared with the target. -/
def bandSteps (counts : List Nat) (target : Nat) : Nat → Nat → Nat → Nat
  | 0, lo, _ => lo
  | fuel + 1, lo, hi =>
    if lo < hi then
      (if counts.getD ((lo + hi) / 2) 0 < target * 200 then bandSteps counts target fuel ((lo + hi) / 2 + 1) hi
       else bandSteps counts target fuel lo ((lo + hi) / 2))
    else lo

/-- The band the search ends in, none where the neighbour's control voltage stands at a rail too (R308). At a rail beyond the
last band there is no neighbour, and the search fails (DESIGN CHOICE, log 110). -/
def bandFound (counts : List Nat) (target : Nat) (rail : RailSide) : Option Nat :=
  let lo := bandSteps counts target 5 0 31
  match rail with
  | .inRange => some lo
  | .low => if lo = 0 then none else some (lo - 1)
  | .high => if lo = 31 then none else some (lo + 1)
  | .neighbourLow => none
  | .neighbourHigh => none

/-- The seed in use (R310). -/
def State.ditherSeed (s : State) : BitVec 24 :=
  if s.quince.shadow.seed ≠ 0 then s.quince.shadow.seed
  else
    let hi := sparseGet s.fuse.words 0x140
    let lo := sparseGet s.fuse.words 0x141
    let id : BitVec 64 := hi ++ lo
    let x := id.extractLsb' 0 24 ^^^ id.extractLsb' 24 24 ^^^ (id.extractLsb' 48 16).setWidth 24
    if x = 0 then 1 else x

/-- WICK_BAND_SEARCH: it runs in SEARCH, and in LINKHOLD with the loop open; a search that finds its band ends in ACQUIRE
with REFCK present (R307, R308, R310), LINKHOLD keeps its state (R320). -/
def execWickBandSearch (counts : List Nat) (rail : RailSide) (s : State) : Result :=
  let w := s.wick
  if w.state == .search || (w.state == .linkhold && !w.closed) then
    match bandFound counts (feedbackInteger w.binAct) rail with
    | none => .next (s.updWick (fun w => { w with bandFail := true }))
    | some b =>
      .next ((s.closeLoop).updWick (fun w =>
        { w with refOk := true, bandFail := false, band := BitVec.ofNat 5 b, seed := s.ditherSeed
                 state := if w.state == .search then .acquire else .linkhold }))
  else .next s

/-- BAND_FAIL_RETRY: 1 ms after a failed search Wick searches again (R308); the search itself is the next
WICK_BAND_SEARCH. -/
def execBandFailRetry (s : State) : Result :=
  .next (if s.wick.bandFail && s.wick.state == .search then s.updWick (·.search) else s)

/-- Microseconds since the first freeze of the episode. -/
def Wick.episode (w : Wick) (now : Nat) : Nat := now - w.frozenAt.getD now

/-- The episode ends: LAST_HOLD in units of 4 us, rounded up, the HOLDOVER record and event type 4 (R318, Table 17-3,
Table 14-11). -/
def State.endEpisode (s : State) (held : Bool) : State :=
  let us := s.wick.episode s.timeUs
  let s1 := s.updWick (fun w =>
    { w with state := .run, frozenAt := none, closed := true, outputs := true, rcMgmt := false
             lastHold := BitVec.ofNat 8 (min 255 ((us + 3) / 4)), lastHoldUs := us })
  s1.ledgerEvent 0x0D (natBytes 4 us ++ [byteOf held.toNat]) 4 0 0 0 (BitVec.ofNat 32 us)

/-- A channel switched for a change of bin returns to managed refresh, with a blind lap (R324). -/
def Channel.unswitch (h : Channel) (rows : Nat) : Channel :=
  if h.tsv.switched then
    let h1 := (h.coreWake rows).updPcs (fun p => p.blindLap rows)
    { h1 with tsv := { h1.tsv with switched := false } }
  else h

/-- LOCK_DECLARED (R309): from ACQUIRE to SETUP at the first lock after reset, which a SYNC_EN of 0 passes in one cycle
(R312); to RUN after a change of bin (R324); in HOLDOVER it ends the episode (R318); in LINKHOLD it sets LOCK, the
management clocks return to Wick (Table 11-6) and the outputs run again (Table 11-3). -/
def execLockDeclared (s : State) : Result :=
  match s.wick.state with
  | .acquire =>
    if s.wick.locked then
      .next ((s.updWick (fun w => { w with state := .run, lock := true, outputs := true, rcMgmt := false
                                           binChange := false })).updAll (fun h =>
          if s.thermal.trip then h else h.unswitch s.rows))
    else if s.quince.shadow.syncEn then
      .next (s.updWick (fun w => { w with state := .setup, lock := true, rcMgmt := false, locked := true }))
    else .next (s.updWick (fun w => { w with state := .run, lock := true, rcMgmt := false, locked := true, outputs := true }))
  | .holdover =>
    if s.wick.closed then .next ((s.updWick (fun w => { w with lock := true })).endEpisode false) else .next s
  | .linkhold =>
    if s.wick.closed then .next (s.updWick (fun w => { w with lock := true, rcMgmt := false, outputs := true })) else .next s
  | .off | .search | .setup | .run => .next s

/-- A channel leaves core-die self-refresh at the relock (R320, R322): a switched channel returns to managed refresh, with
a blind lap; one in native self-refresh stays. -/
def Channel.relock (h : Channel) (rows : Nat) : Channel :=
  if h.regs.srAct then h.unswitch rows else h.coreWake rows

/-- RELOCK_COMPLETE: after the lock, every channel has left core-die self-refresh and Wick enters RUN (R320); after a trip
the channels stay stopped (Table 11-6). -/
def execRelockComplete (s : State) : Result :=
  if s.wick.state == .linkhold && s.wick.lock then
    .next ((if s.thermal.trip then s else s.updAll (·.relock s.rows)).endEpisode true)
  else .next s

/-! ## SYNC -/

/-- SYNC: in SETUP with SYNC_EN it realigns the dividers and Wick enters RUN with SYNC_DONE, after the polarity check of
R52; elsewhere it sets SYNC_IGN in both windows (R312, R313). -/
def execSync (inverted : Bool) (s : State) : Result :=
  if s.wick.state == .setup && s.quince.shadow.syncEn then
    .next (s.updWick (fun w => { w with refInv := w.refInv || inverted, syncDone := true, state := .run, outputs := true }))
  else .next (s.updWick (fun w => { w with syncIgn := Vector.replicate 2 true }))

/-- SETUP_TIMEOUT (R312). -/
def execSetupTimeout (s : State) : Result :=
  .next (if s.wick.state == .setup then
    s.updWick (fun w => { w with state := .run, syncMissed := true, outputs := true }) else s)

/-! ## The change of bin -/

/-- The part's maximum bin from the fuse shadow (CFG0, Table 16-5). -/
def State.maxBin (s : State) : BitVec 2 := (sparseGet s.fuse.words 0x080).extractLsb' 0 2

/-- The channels that are not failed are all in self-refresh (R67, R536). -/
def State.allAsleep (s : State) : Bool := s.chans.toList.all (fun h => h.isFailed || h.regs.srAct)

/-- BIN_REQ of the first channel that is not failed, and whether all of those agree (R67). -/
def State.binAsked (s : State) : Option (BitVec 2) × Bool :=
  let asked := (s.chans.toList.filter (fun h => !h.isFailed)).map (·.regs.binReq)
  (asked.head?, asked.all (fun b => some b == asked.head?))

/-- The training records at a change of bin: the results of stages 1 and 2 are kept (R185, R196, R201, R211). -/
def Training.newBin (t : Training) : Training :=
  { t with
    passed7 := false, started3 := false
    res := t.res.mapFinIdx (fun n r _ => if 3 ≤ n then Vector.replicate 3 3 else r) }

/-- A channel at a change of bin: managed self-refresh is switched to native (R324), the ready bits fall (R186). -/
def Channel.binChanged (h : Channel) (sids : Nat) : Channel :=
  let h1 := if h.regs.srAct && h.regs.srManaged && !h.isFailed then h.switchNative sids else h
  { (h1.updRegs (fun r => { r with binDenied := false, lmwDue := false })).updPcs (fun p => { p with ready := false }) with
    trn := h1.trn.newBin }

/-- Every core die present takes the CORE_RL of a bin (Table 5-10, R134). -/
def State.setCoreRl (s : State) (bin : BitVec 2) : State :=
  { s with dies := s.dies.map (fun d => if d.present then { d with coreRl := BitVec.ofNat 6 (coreRlOf bin) } else d) }

/-- BIN_CHANGE (R67, R316, R324): with every channel that is not failed in self-refresh and a BIN_REQ other than BIN_ACT;
denied above the maximum bin or where the requests differ. -/
def execBinChange (s : State) : Result :=
  let pend := s.chans.toList.any (fun h => !h.isFailed && h.regs.binReq != s.wick.binAct)
  if !s.allAsleep || !pend || s.wick.state != .run then .next s
  else match s.binAsked with
    | (some b, true) =>
      if s.maxBin.toNat < b.toNat then .next (s.updAll (fun h => h.updRegs (fun r => { r with binDenied := true })))
      else .next (((s.updAll (·.binChanged s.sids)).setCoreRl b).updWick (fun w => { w.search with binAct := b, binChange := true }))
    | (some _, false) => .next (s.updAll (fun h => h.updRegs (fun r => { r with binDenied := true })))
    | (none, _) => .next s

end Sys2Proof.Machine
end

