-- ==== Sys2Proof/Machine/ModeWrite.lean ====
section
/-! DEFINITION. MRW and the mode-register fields with a row of their own (R64 to R73), and the channel events that follow
from them: the adaptive-refresh change, the clearing of the reserved rows, fills, LMW windows and idle gaps. -/

namespace Sys2Proof.Machine

/-! ## Effects of register fields -/

/-- An MRW to a register that ignores it is counted (R64). -/
def Channel.ignoreMrw (h : Channel) : Channel := h.updCnt (fun n => { n with mrwIgnored := bump n.mrwIgnored })

/-- MODE_PCn takes a new value only while QACT is 1; a change clears FILLED (R68, R116). -/
def PseudoChannel.setMode (p : PseudoChannel) (managed : Bool) : PseudoChannel :=
  if p.qact && p.managed != managed then { p with managed := managed, filled := false } else p

/-- FILL_GO for one pseudo-channel (R68, R114): ignored without quiesce; ignored and counted with a pattern not available
or while another operation holds the pseudo-channel. The fill runs as a thread of entry 44 (Table 6-8). -/
def Channel.fillGo (h : Channel) (halt : Bool) (p : Pc) (pat : BitVec 4) : Channel :=
  let q := h.pcs[p]
  if !q.qact then h
  else if !fillLegal pat q.managed || q.op.isSome then h.updCnt (fun n => { n with fillIgnored := bump n.fillIgnored })
  else (h.updPc p (fun q => { q with op := some .fill, fillBusy := true, fillPat := pat })).eventThread halt 44 (pcAddr p)
    (some (pcLease p)) []

/-- MRW of MR02 (Table 3-7). -/
def Channel.writeMr02 (h : Channel) (halt : Bool) (pat : BitVec 4) (go modes : BitVec 2) : Channel :=
  let h1 := { (h.updRegs (fun r => { r with fillPat := pat })) with
    pcs := h.pcs.mapFinIdx (fun i q _ => q.setMode (modes.getLsbD i)) }
  let h2 := if go.getLsbD 0 then h1.fillGo halt 0 pat else h1
  if go.getLsbD 1 then h2.fillGo halt 1 pat else h2

/-- MRW of MR04 (Table 3-9): POST_LIM acts at once, ADAPT_EN waits (R69); a change of ADAPT_EN ends the profiling steps
(R241). -/
def Channel.writeMr04 (h : Channel) (rows : Nat) (lim : BitVec 4) (en : Bool) : Channel :=
  let h1 := h.updRegs (fun r => { r with postLim := lim, adaptEn := en })
  if en != h.regs.adaptEn then h1.updPcs (·.cancelBatch rows) else h1

/-- QUIESCE bit n written 1 (R71). -/
def Channel.askQuiesce (h : Channel) (p : Pc) : Channel := h.updPc p (fun q => { q with quiesce := true }.settleQact)

/-- QUIESCE bit n written 0 (R71, R115, R117, R167): leases that depend on it are revoked at once; QACT returns to 0 at
once, or when the operation on the pseudo-channel has ended. -/
def Channel.releaseQuiesce (h : Channel) (p : Pc) : Channel :=
  let h1 := h.updPc p (fun q => { q with quiesce := false })
  if !h.pcs[p].qact then h1
  else if h.pcs[p].op.isSome then
    (h1.updPc p (fun q => { q with releaseHeld := true })).revoke (pcMask p)
  else h1.releaseQact p

/-- MRW of MR08 (Table 3-14). -/
def Channel.writeMr08 (h : Channel) (bits : BitVec 2) : Channel :=
  let one (k : Channel) (p : Pc) : Channel :=
    if bits.getLsbD p.val then k.askQuiesce p else k.releaseQuiesce p
  one (one h 0) 1

/-- MRW of MR05: each bit written 1 is cleared (R24). -/
def Channel.clearCauses (h : Channel) (mask : BitVec 10) : Channel :=
  h.updRegs (fun r => { r with causes := r.causes &&& ~~~mask })

/-- MRW of MR12 in lab mode: the one-shot controls are armed (Table 3-16a). -/
def Channel.writeMr12 (h : Channel) (bits : BitVec 4) : Channel :=
  h.updRegs (fun r => { r with
    nextSpareErr := r.nextSpareErr || bits.getLsbD 3, nextSlip := r.nextSlip || bits.getLsbD 2
    nextDparErr := r.nextDparErr || bits.getLsbD 1, nextCaErr := r.nextCaErr || bits.getLsbD 0 })

/-- MRW of MR15 in lab mode: FORCE_HOLD set freezes Wick as a loss of reference does; written 0 on the last channel, the
loop closes again (Table 3-16a, R318). -/
def State.writeMr15 (s : State) (c : Ch) (v : BitVec 16) : State :=
  let was := s.chans[c].regs.mr15.getLsbD 0
  let s1 := s.updCh c (fun h => h.updRegs (fun r => { r with mr15 := v &&& 3 }))
  if !was && v.getLsbD 0 then s1.loseLock
  else if was && !v.getLsbD 0 && s1.wick.state == .holdover && !s1.wick.closed && s1.wick.refOk && !s1.holdForced then
    s1.closeLoop
  else s1

/-- The effect of an accepted MRW (R64): RW fields take the value, RO and RSV fields are ignored. -/
def State.mrWrite (s : State) (c : Ch) (ma : Fin 32) (v : BitVec 16) : State :=
  let lab (f : ModeRegs → ModeRegs) : State :=
    if s.mgmt.lab then s.updCh c (·.updRegs f) else s.updCh c (·.ignoreMrw)
  match ma.val with
  | 1 => s.updCh c (·.updRegs (fun r => { r with binReq := v.extractLsb' 0 2 }))
  | 2 => s.updCh c (fun h => (h.writeMr02 (s.haltMaint c) (v.extractLsb' 8 4) (v.extractLsb' 6 2) (v.extractLsb' 0 2)).lapsAfter h s.timeUs)
  | 3 => s.updCh c (·.updRegs (fun r => { r with mr03 := v.extractLsb' 0 13 }))
  | 4 => (s.updCh c (·.writeMr04 s.rows (v.extractLsb' 2 4) (v.getLsbD 0))).raiseUrgent s c
  | 5 => s.updCh c (·.clearCauses (v.extractLsb' 0 10))
  | 7 => s.updCh c (·.updRegs (fun r => { r with policy := v.extractLsb' 0 2 }))
  | 8 => s.updCh c (·.writeMr08 (v.extractLsb' 0 2))
  | 10 => lab (fun r => { r with mr10 := v &&& 0x0F })
  | 11 => lab (fun r => { r with mr11 := v &&& 0x1F })
  | 12 => if s.mgmt.lab then s.updCh c (·.writeMr12 (v.extractLsb' 0 4)) else s.updCh c (·.ignoreMrw)
  | 13 => lab (fun r => { r with mr13 := v &&& 7 })
  | 14 => lab (fun r => { r with mr14 := v &&& 3 })
  | 15 => if s.mgmt.lab then s.writeMr15 c v else s.updCh c (·.ignoreMrw)
  | 0 | 6 | 9 | 16 => s
  | _ => s.updCh c (·.ignoreMrw)

/-- An MRW: it names no pseudo-channel, and is one of the commands R188 allows (entry 22). -/
def State.mrwCommand (s : State) (c : Ch) (ma : Fin 32) (v : BitVec 16) (ok : Sampled) : State :=
  s.intake c { bus := .col, entry := 22, pcs := 0, addr := pcAddr 0, error := false } ok (fun t => t.mrWrite c ma v)

/-- MRW. -/
def execMrw (c : Ch) (ma : Fin 32) (v : BitVec 16) (ok : Sampled) (s : State) : Result := .next (s.mrwCommand c ma v ok)

/-! ## The fields with a row of their own -/

/-- The value of MR02 that keeps MODE_PC1, MODE_PC0 and FILL_PAT. -/
def State.mr02Kept (s : State) (c : Ch) : BitVec 16 := s.mrRead c 2 &&& 0x0F03

/-- BIN_REQ_WRITE. -/
def execBinReqWrite (c : Ch) (bin : BitVec 2) (ok : Sampled) (s : State) : Result :=
  .next (s.mrwCommand c 1 (bin.setWidth 16) ok)

/-- MODE_PC_WRITE. -/
def execModePcWrite (c : Ch) (modes : BitVec 2) (ok : Sampled) (s : State) : Result :=
  .next (s.mrwCommand c 2 ((s.mr02Kept c &&& 0x0F00) ||| modes.setWidth 16) ok)

/-- FILL_GO. -/
def execFillGo (c : Ch) (go : BitVec 2) (pat : BitVec 4) (ok : Sampled) (s : State) : Result :=
  .next (s.mrwCommand c 2 ((s.mr02Kept c &&& 3) ||| (go.setWidth 16 <<< 6) ||| (pat.setWidth 16 <<< 8)) ok)

/-- ADAPT_EN_WRITE. -/
def execAdaptEnWrite (c : Ch) (en : Bool) (ok : Sampled) (s : State) : Result :=
  .next (s.mrwCommand c 4 (BitVec.ofNat 16 (s.chans[c].regs.postLim.toNat * 4 + en.toNat)) ok)

/-- QUIESCE_WRITE. -/
def execQuiesceWrite (c : Ch) (bits : BitVec 2) (ok : Sampled) (s : State) : Result :=
  .next (s.mrwCommand c 8 (bits.setWidth 16) ok)

/-- ALERT_CAUSE_CLEAR. -/
def execAlertCauseClear (c : Ch) (mask : BitVec 10) (ok : Sampled) (s : State) : Result :=
  .next (s.mrwCommand c 5 (mask.setWidth 16) ok)

/-- SPARE_ERR. -/
def execSpareErr (c : Ch) (ok : Sampled) (s : State) : Result := .next (s.mrwCommand c 12 8 ok)

/-- SLIP. -/
def execSlip (c : Ch) (ok : Sampled) (s : State) : Result := .next (s.mrwCommand c 12 4 ok)

/-- DPAR_ERR. -/
def execDparErr (c : Ch) (ok : Sampled) (s : State) : Result := .next (s.mrwCommand c 12 2 ok)

/-- CA_ERR. -/
def execCaErr (c : Ch) (ok : Sampled) (s : State) : Result := .next (s.mrwCommand c 12 1 ok)

/-- FORCE_HOLD. -/
def execForceHold (c : Ch) (on : Bool) (ok : Sampled) (s : State) : Result :=
  .next (s.mrwCommand c 15 ((s.mrRead c 15 &&& 2) ||| BitVec.ofNat 16 on.toNat) ok)

/-! ## Channel events -/

/-- A bank that threads opened is precharged: a thread whose lease was revoked ends with its last one (R167). -/
def Taper.bankClosed (t : Taper) (p : Pc) (i : Fin 64) : Taper :=
  { t with threads := t.threads.filterMap (fun x =>
      if x.opened.contains (p, i) then
        let y := { x with opened := x.opened.filter (fun b => b != (p, i)) }
        if y.opened.isEmpty && (match y.lease with
            | some l => l.revoked
            | none => false) then none else some y
      else some x) }

/-- PRECHARGE_TIMER_EXPIRY: a closing bank is closed and its posted precharge is placed, as is one that a thread posted
(R155, R537); quiesce may follow (R71). -/
def execPrechargeTimerExpiry (c : Ch) (p : Pc) (sid : Sid) (bg : Bg) (ba : Ba) (s : State) : Result :=
  match s.chans[c].pcs[p].banks[bankIx sid bg ba].phase with
  | .closing _ _ =>
    .next (s.updCh c (fun h =>
      let posted := h.pcs[p].banks[bankIx sid bg ba].postedPre
      let h1 := h.updPc p (fun q =>
        (q.updBank (bankIx sid bg ba) (fun b => { b with phase := .closed, postedPre := false })).settleQact)
      if posted then h1.send (preFrame p sid bg ba true) else h1))
  | .closed =>
    .next (if s.chans[c].pcs[p].banks[bankIx sid bg ba].postedPre then
        s.updCh c (fun h =>
          (((h.updPc p (fun q => q.updBank (bankIx sid bg ba) (fun b => { b with postedPre := false }))).updTaper
            (·.bankClosed p (bankIx sid bg ba))).send (preFrame p sid bg ba true)))
      else s)
  | .opened _ _ =>
    .next (if s.chans[c].pcs[p].banks[bankIx sid bg ba].postedPre then
        s.updCh c (fun h => (h.updPc p (fun q => q.updBank (bankIx sid bg ba) (fun b => { b with postedPre := false }))).send
          (preFrame p sid bg ba true))
      else s)

/-- ADAPT_CHANGE_APPLY (R69, R117, R229, R232): with both pseudo-channels quiesced and no operation on either, a change to
1 takes effect with the map to be loaded again and a blind lap, a change to 0 starts the clearing of the reserved rows, as
threads of entry 50. -/
def execAdaptChangeApply (c : Ch) (s : State) : Result :=
  let h := s.chans[c]
  if h.regs.adaptEn == h.regs.adaptAct || !h.pcs[0].qact || !h.pcs[1].qact || h.pcs[0].op.isSome || h.pcs[1].op.isSome then
    .next s
  else if h.regs.adaptEn then
    let s1 := s.updCh c (fun k => (k.updRegs (fun r => { r with adaptAct := true })).updPcs (fun q =>
      (q.cancelBatch s.rows).blindLap s.rows))
    .next ((s1.takeUpMap c 0 (some h.pcs[0].mapState)).takeUpMap c 1 (some h.pcs[1].mapState))
  else
    .next (s.updCh c (fun k =>
      let k1 := (k.updRegs (fun r => { r with clearing := 3 })).updPcs (fun q =>
        { q.cancelBatch s.rows with op := some .clearing, restores := [] })
      (k1.eventThread (s.haltMaint c) 50 (pcAddr 0) (some (pcLease 0)) []).eventThread (s.haltMaint c) 50 (pcAddr 1)
        (some (pcLease 1)) []))

/-- RESERVED_ROW_CLEAR_DONE (R117): the reserved rows hold pattern 0h in the mode of each pseudo-channel, ADAPT_ACT reads
0, the map state is DISABLED, and a held release takes effect. -/
def execReservedRowClearDone (c : Ch) (s : State) : Result :=
  if s.chans[c].regs.clearing = 0 then .next s
  else
    let s1 := s.updCh c (fun h =>
      let h1 := (h.updRegs (fun r => { r with clearing := 0, adaptAct := false })).updPcs (fun p =>
        { p.fillReserved s.rows (.pattern 0 p.managed) with bins := [], weak := [], lostMap := [] })
      ((h1.updTaper (fun t => (t.endEntry 50 0).endEntry 50 1)).opEnds 0).opEnds 1)
    .next ((s1.setMapState c 0 .disabled).setMapState c 1 .disabled)

/-- The SIDs present as a mask (R5). -/
def State.sidMask (s : State) : BitVec 4 := BitVec.ofNat 4 (2 ^ s.sids - 1)

/-- A fill writes every access of the SIDs present, but for rows reserved while ADAPT_ACT is 1 (R112). -/
def State.filledWith (s : State) (h : Channel) (p : PseudoChannel) (pat : BitVec 4) : PseudoChannel :=
  { p.fillAll s.rows s.sidMask (.pattern pat p.managed) h.regs.adaptAct with injected := [] }

/-- FILL_COMPLETE (R112, R115): FILLED is set, FILL_BUSY clears, a held release takes effect. -/
def execFillComplete (c : Ch) (p : Pc) (s : State) : Result :=
  if s.chans[c].pcs[p].op != some .fill then .next s
  else
    .next (s.updCh c (fun h =>
      (((h.updPc p (fun q => { s.filledWith h q q.fillPat with fillBusy := false, filled := true })).lapsAfter h
        s.timeUs).updTaper (·.endEntry 44 p)).opEnds p))

/-- LMW_WINDOW_END (R45, R87, R201, R202, R316): the window and the MX32's drive in it end; armed lane-map writes and pending
targets take effect, outside a holdover episode; a window of LEN CK gives the pass LEN/2 - 2 driven cycles, outside an episode
and while the management plane runs (R316, Table 1-3). -/
def execLmwWindowEnd (c : Ch) (s : State) : Result :=
  .next (s.updCh c (fun h => match h.intake.lmw with
    | none => h
    | some len =>
      let run := s.wick.state == .run
      let more := if run && s.mgmt.ready then lmwLength len / 2 - 2 else 0
      let h1 := { (h.updPcs (fun p => { p with drive := .idle })) with
        intake := { h.intake with lmw := none, gathered := h.intake.gathered + more }
        taper := (h.taper.endEntry 47 0) }
      (if run then h1.applyArmed else h1).applyTargets run 3))

/-- IDLE_GAP: the 64th idle CK of a pseudo-channel begins an idle gap where MR07 allows it, with every bank closed or not,
and receive targets are applied (R199, R202). -/
def execIdleGap (c : Ch) (p : Pc) (s : State) : Result :=
  .next (s.updCh c (fun h =>
    if h.regs.policy.getLsbD 0 then
      ((h.updPc p (fun q => { q with idleGap := true })).applyTargets (s.wick.state == .run) (pcMask p)).eventThread
        (s.haltMaint c) 46 (pcAddr p) none []
    else h))

/-- ALL_SID_REFRESH_WINDOW_END (R199): the last tRFCab of the window ends. -/
def execAllSidRefreshWindowEnd (c : Ch) (p : Pc) (s : State) : Result :=
  .next (s.updPc c p (fun q => { q with refWindow := false, inRefab := 0 }))

end Sys2Proof.Machine
end

