-- ==== Sys2Proof/Machine/Integrity.lean ====
section
/-! DEFINITION. Stored-data integrity (09): counting read events (Table 9-4), the leaky bucket, repair candidates and
remap entries, error injection, and lanes and TSVs marked marginal in service. -/

namespace Sys2Proof.Machine

/-! ## Lanes and TSVs marked marginal -/

/-- A lane is marked marginal in service: LINK_MARGINAL, the proposal of R46, the LANE_MARGINAL record and event type 5
(R205, R345, Table 9-8). LINK_MARGINAL is not set in a power-gated group (R93). -/
def State.laneMarginal (s : State) (c : Ch) (k : Fin 100) (last : List Byte) : State :=
  let s1 := s.updCh c (fun h => { h with
    lanes := h.lanes.set k { h.lanes[k] with marginal := true }, map := h.map.propose k })
  ((s1.setCause c causeLinkMarginal).ledgerEvent 0x06
    ([byteOf c.val, byteOf k.val, byteOf (min (s.chans[c].lanes[k]).rejects 255)] ++ last) 5 (byteOf k.val) (byteOf c.val)).evalHealth

/-- A TSV is marked marginal for calibration (R216, R258): the record and event type 5. -/
def State.tsvMarginal (s : State) (c : Ch) (g : Fin 16) (pos : Fin 19) : State :=
  if s.chans[c].tsv.marginal.contains (g, pos) then s
  else
    ((s.updCh c (fun h => { h with tsv := { h.tsv with marginal := h.tsv.marginal ++ [(g, pos)] } })).ledgerEvent 0x06
      [byteOf c.val, byteOf (128 + g.val), byteOf pos.val, 0, 0, 0, 0, 0, 0, 0] 5 (byteOf g.val) (byteOf c.val)
      (byteOf (g.val / 8))).evalHealth

/-- Repair group and position of a TSV of a symbol of R253: e is 0 or 1 (05, "TSV repair"). -/
def symbolTsv (p : Pc) (sym e : Nat) : Fin 16 × Fin 18 :=
  if sym < 64 then
    (⟨(8 * p.val + (2 * sym + e) / 16) % 16, Nat.mod_lt _ (by decide)⟩, ⟨((2 * sym + e) % 16) % 18, Nat.mod_lt _ (by decide)⟩)
  else (⟨(8 * p.val + (sym - 64)) % 16, Nat.mod_lt _ (by decide)⟩, ⟨(16 + e) % 18, Nat.mod_lt _ (by decide)⟩)

/-! ## Remap entries and candidates -/

/-- A spare of a bank has a soft mapping in its die, or one that takes effect at SREF_EXIT (R139, R142). -/
def PseudoChannel.softMapped (q : PseudoChannel) (bank : Fin 64) (spare : Fin 4) : Bool :=
  q.spares.any (fun m => !m.hard && m.bank == bank && m.spare == spare)
    || q.sparesDue.any (fun x => x.1 && x.2.bank == bank && x.2.spare == spare)

/-- A spare of a bank can be assigned: no valid record, no soft mapping in the die or by an entry, not marked bad
(R271). -/
def State.spareFree (s : State) (c : Ch) (p : Pc) (bank : Fin 64) (spare : Fin 4) : Bool :=
  let q := s.chans[c].pcs[p]
  let die := s.dies[layerOf c (bankSid bank)]
  !(sparseGet die.antifuse (antifuseWord c p bank spare)).getLsbD 31
    && !q.softMapped bank spare && !q.badSpares.contains (spareKey bank spare)
    && !q.remap.toList.any (fun w => remapState w != 0 && remapBank w == bank && remapSpare w == spare)

/-- The lowest-numbered spare of a bank that can be assigned (R271). -/
def State.chooseSpare (s : State) (c : Ch) (p : Pc) (bank : Fin 64) : Option (Fin 4) :=
  (List.finRange 4).find? (s.spareFree c p bank)

/-- The code of an action in a REMAP_EVENT record: the actions in the order of R272. -/
def RemapAction.code : RemapAction → Nat
  | .add => 0
  | .applied => 1
  | .hardStart => 2
  | .hardDone => 3
  | .spareBad => 4
  | .move => 5

/-- Journal a change of a remap entry (R272) with its REMAP_EVENT record and event type 6. -/
def State.journalRemap (s : State) (c : Ch) (p : Pc) (e : Fin 8) (w : BitVec 32) (action : RemapAction) : State :=
  let s1 := s.updPc c p (fun q => { q with remap := q.remap.set e w })
  let s2 := s1.updNv (·.storeRepair c p e action w)
  (s2.ledgerEvent 0x04 ([byteOf c.val, byteOf p.val] ++ wordBytes w ++ [byteOf action.code]) 6 (byteOf e.val) (byteOf c.val)
    (byteOf p.val)).evalHealth

/-- The row is mapped by an entry, or held as a candidate (R403). -/
def PseudoChannel.rowKnown (q : PseudoChannel) (bank : Fin 64) (row : Row) : Bool :=
  q.remap.toList.any (fun w => remapState w != 0 && remapBank w == bank && remapRow w == row)
    || q.cands.any (fun x => (x.1.extractLsb' 20 6).toNat == bank.val && x.1.extractLsb' 5 15 == row)

/-- A row becomes a repair candidate (R270, R271): a pending entry where an entry and a spare are free, else it is held in
SRAM (at most 16) with REMAP_FULL, whose record holds no stated sequence (log 136). Answers RESULT and ENTRY of R403. -/
def State.candidate (s : State) (c : Ch) (p : Pc) (bank : Fin 64) (row : Row) (src : BitVec 2) : State × Nat × Nat :=
  let q := s.chans[c].pcs[p]
  if q.rowKnown bank row then (s, 2, 255)
  else match (List.finRange 8).find? (fun e => remapState q.remap[e] == 0), s.chooseSpare c p bank with
    | some e, some spare => (s.journalRemap c p e (remapWord 1 bank spare src row) .add, 0, e.val)
    | _, _ =>
      let addr := addrWord c p (accessNo (bankSid bank) ⟨bank.val % 16, by omega⟩ row 0)
      let s1 := if q.cands.length < 16 then s.updPc c p (fun k => { k with cands := k.cands ++ [(addr, src)] }) else s
      let (v, s2) := s1.free 32
      (s2.ledger 0x05 ([byteOf c.val, byteOf p.val] ++ wordBytes v), 1, 255)

/-- An entry has become free: the oldest candidate held whose bank has a spare takes it (R270, R284; assumption 136). -/
def State.promote (s : State) (c : Ch) (p : Pc) : State :=
  let bankOf (x : BitVec 32 × BitVec 2) : Fin 64 := ⟨(x.1.extractLsb' 20 6).toNat, (x.1.extractLsb' 20 6).isLt⟩
  match s.chans[c].pcs[p].cands.find? (fun x => (s.chooseSpare c p (bankOf x)).isSome) with
  | some x =>
    ((s.updPc c p (fun q => { q with cands := q.cands.erase x })).candidate c p (bankOf x) (x.1.extractLsb' 5 15) x.2).1
  | none => s

/-- A candidate found by the machine, which Lantern A/B takes up while it runs (R270). -/
def State.foundCandidate (s : State) (c : Ch) (p : Pc) (n : Nat) (src : BitVec 2) : State :=
  if s.power.booted then
    (s.candidate c p ⟨(n / 524288) % 64, by omega⟩ (BitVec.ofNat 15 (n / 16)) src).1
  else s

/-! ## The leaky bucket -/

/-- The bucket of a pseudo-channel overflows: CE_RATE is set, the record and event are posted, the count returns to 0
(R263). -/
def State.bucketOverflow (s : State) (c : Ch) (p : Pc) : State :=
  let thr := s.chans[c].pcs[p].bucket.thr
  let s1 := s.updPc c p (fun q => { q with bucket := { q.bucket with count := 0 } })
  (s1.setCause c causeCeRate).ledgerEvent 0x03 ([byteOf c.val, byteOf p.val] ++ natBytes 2 thr) 0 0 (byteOf c.val)
    (byteOf p.val)

/-- A corrected event reaches the bucket, unless the last one added in this leak interval was at the same access and
SYMIDX (R260, R262, R263). -/
def State.bucketAdd (s : State) (c : Ch) (p : Pc) (n sym : Nat) : State :=
  if s.chans[c].pcs[p].bucket.last == some (n, sym) then s
  else
    let s1 := s.updPc c p (fun q => { q with bucket := { q.bucket with count := q.bucket.count + 1, last := some (n, sym) } })
    if s1.chans[c].pcs[p].bucket.thr ≤ s1.chans[c].pcs[p].bucket.count then s1.bucketOverflow c p else s1

/-! ## Counting reads -/

/-- What a read of an access met (Table 9-4). -/
structure ReadEvents where
  managed : Bool
  ce : Bool := false
  sym : Nat := 0
  /-- the correction carries a SYMIDX: it is of no masked class (R256, R258) -/
  plain : Bool := false
  ue : Bool := false
  poison : Bool := false
  neverFilled : Bool := false
  odsCe : Bool := false
  odsUe : Bool := false
  deriving DecidableEq, Repr

/-- The events of a decoded access, and of its on-die status (Tables 9-4, 5-8; R133: 11b counts as 10b). -/
def readEvents (managed : Bool) (d : Decoded) (ods : BitVec 2) : ReadEvents :=
  { managed := managed
    ce := managed && d.symErr, sym := d.symidx, plain := d.sev == .corrected, ue := managed && d.ue
    poison := managed && d.sev == .poison && !d.symErr && !d.ue
    neverFilled := managed && d.sev == .neverFilled && !d.symErr
    odsCe := ods == 1, odsUe := ods.getLsbD 1 }

/-- Microseconds in an hour. -/
def hourUs : Nat := 3600000000

/-- The decoder met an event of Table 9-4. -/
def ReadEvents.decoded (v : ReadEvents) : Bool := v.ce || v.ue || v.poison || v.neverFilled

/-- Count the events (Table 9-4): those of the decoder in their own counters unless an injection with COUNT clear caused them
(own), and in INJ where one caused them (inj). No injection causes what the core die reports. -/
def ErrCounters.add (e : ErrCounters) (v : ReadEvents) (own inj : Bool) : ErrCounters :=
  let n (b : Bool) : Nat := (own && b).toNat
  { e with ce := bump e.ce (n v.ce), ue := bump e.ue (n v.ue), poisonRd := bump e.poisonRd (n v.poison)
           nfRd := bump e.nfRd (n v.neverFilled), odsCe := bump e.odsCe v.odsCe.toNat
           odsUe := bump e.odsUe v.odsUe.toNat, inj := bump e.inj (inj && v.decoded).toNat }

/-- An uncorrectable event feeds the hour's tally; the first 16 distinct accesses of an hour are recorded (R261). -/
def State.tallyUe (s : State) (c : Ch) (p : Pc) (n : Nat) (scrub : Bool) : State :=
  let q := s.chans[c].pcs[p]
  if q.ueNow.contains n then s
  else
    let s1 := s.updPc c p (fun q => { q with ueNow := q.ueNow ++ [n] })
    (if q.ueNow.length < 16 then s1.ledger 0x02 (wordBytes (addrWord c p n) ++ [byteOf scrub.toNat]) else s1).evalHealth

/-- A corrected event at an access: three different accesses of a row within 24 hours make it a candidate (R270). -/
def State.noteCorrected (s : State) (c : Ch) (p : Pc) (n : Nat) : State :=
  let old := (s.chans[c].pcs[p].ceSeen).filter (fun x => decide (s.timeUs < x.2 + 24 * hourUs) && x.1 != n)
  let seen := (n, s.timeUs) :: old
  let s1 := s.updPc c p (fun q => { q with ceSeen := seen })
  if 3 ≤ (seen.filter (fun x => x.1 / 16 == n / 16)).length then s1.foundCandidate c p n 1 else s1

/-- A symbol corrected in at least 8 rows within an hour: its two TSVs are marked marginal (R258). -/
def State.noteSymbol (s : State) (c : Ch) (p : Pc) (n sym : Nat) : State :=
  let old := (s.chans[c].pcs[p].symRows).filter (fun x => decide (s.timeUs < x.2.2 + hourUs)
    && !(x.1 == sym && x.2.1 == n / 16))
  let seen := (sym, n / 16, s.timeUs) :: old
  let s1 := s.updPc c p (fun q => { q with symRows := seen })
  if 8 ≤ (seen.filter (fun x => x.1 == sym)).length && s.power.booted then
    let a := symbolTsv p sym 0
    let b := symbolTsv p sym 1
    (s1.tsvMarginal c a.1 a.2.castSucc).tsvMarginal c b.1 b.2.castSucc
  else s1

/-- Count a read of an access and feed its events onward (R258 to R261, R270, R119). inj: what the decoder met is caused by
ECC_INJECT or RAW_CHECK, with its COUNT flag. A raw read that meets no event of Table 9-4 counts nowhere (DESIGN CHOICE,
log 108). -/
def State.countRead (s : State) (c : Ch) (p : Pc) (n : Nat) (v : ReadEvents) (inj : Option Bool) (scrub : Bool) : State :=
  let own := inj != some false
  let feed := !(v.managed && !s.chans[c].pcs[p].filled) && (own || !v.managed)
  let s1 := s.updPc c p (fun q => { q with errs := q.errs.add v own inj.isSome })
  let ce := if v.managed then v.ce else v.odsCe
  let ue := if v.managed then v.ue else v.odsUe
  let s2 := if feed && ce then (s1.bucketAdd c p n (if v.managed then v.sym else 0)).noteCorrected c p n else s1
  let s3 := if feed && v.ce && v.plain then s2.noteSymbol c p n v.sym else s2
  if feed && ue then s3.tallyUe c p n scrub else s3

/-! ## Injection -/

/-- The XOR of an injection's symbols on data and check bits (R253, R283, R400). -/
def injectData (syms : List (Nat × Byte)) : BitVec 512 :=
  syms.foldl (fun acc x => if x.1 < 64 then acc ^^^ symbolMask x.1 x.2.toNat else acc) 0

@[inherit_doc injectData] def injectCheck (syms : List (Nat × Byte)) : BitVec 64 :=
  syms.foldl (fun acc x =>
    if 64 ≤ x.1 then acc ^^^ checkBits ((List.replicate (x.1 - 64) 0) ++ [x.2.toNat]) else acc) 0

/-- The armed injection that a read (or a committed write) of an access matches (R283). -/
def PseudoChannel.injection (q : PseudoChannel) (write : Bool) (n : Nat) : Option Inject :=
  match q.inject with
  | some i => if i.write == write && (i.access.isNone || i.access == some n) then some i else none
  | none => none

/-- The COUNT flag of an access whose stored content was injected (Table 9-4). -/
def PseudoChannel.injectedAt (q : PseudoChannel) (n : Nat) : Option Bool :=
  (q.injected.find? (fun x => x.1 == n)).map (·.2)

/-- The data and check bits at the decoder input: as captured, with the injection the read matches (R283). -/
def PseudoChannel.decoderInput (q : PseudoChannel) (r : TsvRead) : BitVec 512 × BitVec 64 :=
  let syms := ((q.injection false r.access).map (·.syms)).getD []
  (r.data ^^^ injectData syms, r.check ^^^ injectCheck syms)

/-- Whether a read's events are caused by an injection, with the COUNT flag (Table 9-4). -/
def PseudoChannel.injCause (q : PseudoChannel) (n : Nat) : Option Bool :=
  match q.injection false n with
  | some i => some i.counted
  | none => q.injectedAt n

/-- A read consumes the injection it matches (R283). -/
def PseudoChannel.consumeRead (q : PseudoChannel) (n : Nat) : PseudoChannel :=
  if (q.injection false n).isSome then { q with inject := none } else q

/-! ## What a core die returns (R132, R133, Table 5-8) -/

/-- The number of ones of a bit vector. -/
def onesOf {w : Nat} (v : BitVec w) : Nat := (List.range w).foldl (fun acc i => acc + (v.getLsbD i).toNat) 0

/-- Bits in error of the codeword of UI u: 128 data bits and 16 check bits (R133). -/
def codewordErrors (cells : BitVec 576) (u : Nat) : Nat :=
  onesOf (cells.extractLsb' (128 * u) 128) + onesOf (cells.extractLsb' (512 + 16 * u) 16)

/-- The status of the codeword of UI u; of three or more bits in error, what the die reports (R133). -/
def codewordStatus (env : LineEnv) (u : Nat) : BitVec 2 :=
  match codewordErrors env.cells u with
  | 0 => 0
  | 1 => 1
  | 2 => 2
  | _ => env.ods

/-- The stored bits that the die returns in error: a codeword's single one is corrected (R133). -/
def dieErrors (cells : BitVec 576) : BitVec 576 :=
  [0, 1, 2, 3].foldl (fun acc u =>
    if codewordErrors cells u = 1 then
      acc &&& ~~~(((BitVec.allOnes 128).setWidth 576 <<< (128 * u)) ||| ((BitVec.allOnes 16).setWidth 576 <<< (512 + 16 * u)))
    else acc) cells

/-- S and I of an access: the worst status of the four codewords and the UI of the first that has it (Table 5-8). With three or
more bits in error the UI is the one the die reports. -/
def dieStatus (env : LineEnv) : BitVec 2 × BitVec 2 :=
  let all := [0, 1, 2, 3].map (codewordStatus env)
  let worst := all.foldl (fun a b => if a.toNat < b.toNat then b else a) 0
  (worst,
    if worst = 0 then 0
    else if [0, 1, 2, 3].any (fun u => decide (3 ≤ codewordErrors env.cells u)) then env.odsUi
    else BitVec.ofNat 2 (all.findIdx (· == worst)))

/-- A die's own counts of a pseudo-channel's accesses, corrected and uncorrectable; each saturates (Table 5-13 ODECC_STAT). It
counts an access by its S (DESIGN CHOICE, log 119). -/
def CoreDie.countOds (d : CoreDie) (key : Nat) (ods : BitVec 2) : CoreDie :=
  if ods = 0 then d
  else
    let old := ((d.odecc.find? (fun x => x.1 == key)).map (·.2)).getD (0, 0)
    let new := if ods = 1 then (min (old.1 + 1) 0xFFFF, old.2) else (old.1, min (old.2 + 1) 0xFFFF)
    { d with odecc := (key, new) :: d.odecc.filter (fun x => x.1 != key) }

/-- An access as the TSV read capture takes it (R132, R133, R538): what the die returns, with the TSVs' flips. A layer whose
CORE_RL is 0 ignores the RD (Table 5-15), so that what is captured is a free value. -/
def State.dieRead (s : State) (c : Ch) (p : Pc) (n : Nat) (env : LineEnv) (owner : Option Nat) : TsvRead × State :=
  let layer := layerOf c (accessOf n).1
  if s.dies[layer].coreRl = 0 then
    let (v, s1) := s.free 580
    ({ access := n, data := v.extractLsb' 0 512, check := v.extractLsb' 512 64, ods := v.extractLsb' 576 2
       odsUi := v.extractLsb' 578 2, owner := owner }, s1)
  else
    let q := s.chans[c].pcs[p]
    let wrong := dieErrors env.cells ^^^ env.flips
    let status := dieStatus env
    ({ access := n, data := q.readData s.rows n ^^^ wrong.extractLsb' 0 512, check := q.readCheck s.rows n ^^^ wrong.extractLsb' 512 64
       ods := status.1, odsUi := status.2, owner := owner },
      { s with dies := s.dies.set layer (s.dies[layer].countOds (2 * (c.val % 8) + p.val) status.1) })

/-- The spare of a repair group carries a column's data: a repair uses it, or a move has begun, from whose first step on write
data stands on both the column and the spare (R143, R217). -/
def TsvPort.spareCarries (t : TsvPort) (g : Fin 16) : Bool :=
  (t.repair[g]).isSome || (match t.move with
    | some (x, _, _, _) => x == g
    | none => false)

/-- The column whose bits the MX32 captures from the spare of a group in reads of a SID (R143, R217): the repair's, and during a
move that of the layers that have switched. -/
def TsvPort.spareReads (t : TsvPort) (g : Fin 16) (sid : Sid) : Option (Fin 18) :=
  match t.repair[g], t.move with
  | some pos, _ => some pos
  | none, some (x, pos, done, _) => if x == g && done.contains sid then some pos else none
  | none, none => none

/-- Parity mismatches that flips leave on the unused TSV spares, one for each UI and group (R145). -/
def tsvMismatch (t : TsvPort) (p : Pc) (env : LineEnv) : Nat :=
  (List.range 32).foldl (fun acc j =>
    let k := j % 8
    let u := j / 8
    let odd := Bool.xor (Bool.xor (parityOf 16 (env.flips.extractLsb' (128 * u + 16 * k) 16))
      (parityOf 2 (env.flips.extractLsb' (512 + 16 * u + 2 * k) 2))) (env.spareFlips.getLsbD (8 * u + k))
    let g : Fin 16 := ⟨(8 * p.val + k) % 16, Nat.mod_lt _ (by decide)⟩
    if odd && !t.spareCarries g then acc + 1 else acc) 0

/-- Mismatches on the unused TSV spares of a read are counted (R145). -/
def Channel.countTsv (h : Channel) (p : Pc) (env : LineEnv) : Channel :=
  { h with tsv := { h.tsv with spareMism := bump h.tsv.spareMism (tsvMismatch h.tsv p env) } }

/-- The status of a read chain reaches the thread whose chain it is (R149, Table 6-5). -/
def Taper.readStatus (t : Taper) (owner : Option Nat) (ce ue ods : Bool) : Taper :=
  match owner with
  | some tid => { t with threads := t.threads.map (fun x => if x.tid == tid then { x with ce := ce, ue := ue, ods := ods } else x) }
  | none => t

/-- RD_CE, RD_UE and ODS_ERR of a read (Table 6-5): by the Managed code, else by the on-die code. -/
def Taper.readEvents (t : Taper) (owner : Option Nat) (v : ReadEvents) (ods : BitVec 2) : Taper :=
  t.readStatus owner (if v.managed then v.ce else v.odsCe) (if v.managed then v.ue else v.odsUe) (ods != 0)

end Sys2Proof.Machine
end

