-- ==== Sys2Proof/Machine/Calendar.lean ====
section
/-! DEFINITION. The data path: what each posted action of a pseudo-channel's calendar does when it fires (04, R29, R95 to
R119, R156). A chain's actions follow each other in the calendar before any later chain's, so that the core dies see the
commands of a pseudo-channel in the order in which they issued (R82, R102). -/

namespace Sys2Proof.Machine

/-! ## Bursts -/

/-- A burst on the lanes: DPAR is even parity while DPAR_EN is 1, else driven low (R76). -/
def burstOf (dparEn : Bool) (data : BitVec 512) (ecc : BitVec 64) : OutBurst :=
  { data := data, ecc := ecc, dpar := if dparEn then dparOf data ecc else 0, spare := 0 }

/-- The content of an unservable or slipped read (Table 4-6). -/
def unservableBurst (managed dparEn : Bool) : OutBurst :=
  if managed then burstOf dparEn 0 (managedEcc .poison 0)
  else { data := 0, ecc := BitVec.allOnes 64, dpar := if dparEn then ~~~(dparOf 0 (BitVec.allOnes 64)) else 0, spare := 0 }

/-- The content of a stored access as read (Tables 4-5, 4-6). -/
def readBurst (managed dparEn : Bool) (data : BitVec 512) (check : BitVec 64) : OutBurst :=
  if managed then
    let d := decodeManaged data check
    burstOf dparEn d.data (managedEcc d.sev d.symidx)
  else burstOf dparEn data check

/-- The MRR burst (R65): the value on DQ[15:0] of every beat, extension word k on DQ[31:16] of beat k. -/
def mrrBurst (managed dparEn : Bool) (value : BitVec 16) (ext : List (BitVec 16)) : OutBurst :=
  burstOf dparEn
    (BitVec.ofNat 512 ((List.range 16).foldl (fun acc k =>
      acc + (value.toNat + (ext.getD k 0).toNat * 65536) * 2 ^ (32 * k)) 0))
    (if managed then managedEcc .clean 0 else 0)

/-- The burst of a training buffer: DQ, ECC and DPAR are lanes 0 to 36, the spares lanes 37 and 38 (R192). -/
def bufferBurst (bits : BitVec 624) : OutBurst :=
  let lanes (lo n : Nat) : Nat := (List.range 16).foldl (fun acc b =>
    acc + (bits.extractLsb' (39 * b + lo) n).toNat * 2 ^ (n * b)) 0
  { data := BitVec.ofNat 512 (lanes 0 32), ecc := BitVec.ofNat 64 (lanes 32 4), dpar := BitVec.ofNat 16 (lanes 36 1)
    spare := BitVec.ofNat 32 (lanes 37 2) }

/-- A training buffer's content: what WRT wrote, or what it holds at reset (R192). -/
def PseudoChannel.buffer (q : PseudoChannel) (tb : Fin 16) : BitVec 624 := (q.buffers[tb]).getD (bufferReset tb.val)

/-- The bit of the lane at a position code of strobe group g in a beat (Table 2-5). -/
def OutBurst.laneBit (b : OutBurst) (g code beat : Nat) : Bool :=
  if code < 16 then b.data.getLsbD (32 * beat + 16 * g + code)
  else if code < 18 then b.ecc.getLsbD (4 * beat + 2 * g + (code - 16))
  else b.dpar.getLsbD beat

/-- The spares of a burst: an unused one carries the even parity of its group's 16 DQ lanes (R39), one in use the lane it
replaces (R38). -/
def OutBurst.withSpares (b : OutBurst) (m : LaneMap) (p : Pc) : OutBurst :=
  let bit (i : Nat) : Bool :=
    let g := i % 2
    let u := m.unit ⟨(2 * p.val + g) % 6, Nat.mod_lt _ (by decide)⟩
    if u.en then b.laneBit g u.pos (i / 2) else parityOf 16 (b.data.extractLsb' (16 * i) 16)
  { b with spare := BitVec.ofNat 32 ((List.range 32).foldl (fun acc i => acc + (bit i).toNat * 2 ^ i) 0) }

/-! ## Slips and mismatches -/

/-- A slip (R100): it is counted and begins a discard, not in a power-gated group (R94). -/
def State.slip (s : State) (c : Ch) : State :=
  s.updCh c (fun h => if s.isGated c then h.updCnt (fun n => { n with slips := bump n.slips }) else h.slipped)

/-- A read slips: its crossing leaves its window, or stands outside since an earlier slip (R98, R100, R101; log 113), or the
lab control SLIP (Table 3-16a). -/
def State.readSlips (s : State) (c : Ch) (p : Pc) (env : LineEnv) : Bool :=
  env.slip || s.chans[c].pcs[p].readOutside || (s.mgmt.lab && s.chans[c].regs.nextSlip)

/-- The slip of a read: from a crossing that has left its window it stands until RESYNC (log 113). -/
def State.readSlip (s : State) (c : Ch) (p : Pc) (env : LineEnv) : State :=
  (s.updCh c (fun h => (h.updRegs (fun r => { r with nextSlip := false })).updPc p (fun q =>
    { q with readOutside := q.readOutside || env.slip, errs := { q.errs with slip := bump q.errs.slip } }))).slip c

/-- Unused LVI spares of the channel, for SPARE_ERR (Table 3-16a). -/
def Channel.unusedSpares (h : Channel) : Nat := ((List.finRange 6).filter (fun u => !(h.map.unit u).en)).length

/-- Count mismatches on unused LVI spares of a burst that the host drives (R39, Table 3-16a SPARE_ERR). -/
def Channel.countSpares (h : Channel) (n : Nat) : Channel :=
  let forced := if h.regs.nextSpareErr then h.unusedSpares else 0
  (h.updCnt (fun k => { k with laneMism := bump k.laneMism (n + forced) })).updRegs (fun r => { r with nextSpareErr := false })

/-- The DPAR verdict reaches the thread whose write it is (R149, Table 6-5). -/
def Taper.verdict (t : Taper) (owner : Option Nat) (ok : Bool) : Taper :=
  match owner with
  | some tid => { t with threads := t.threads.map (fun x => if x.tid == tid then { x with verdict := some ok } else x) }
  | none => t

/-- The next action of a chain that has begun. -/
def PseudoChannel.follow (q : PseudoChannel) (a : Posted) : PseudoChannel := { q with calendar := a :: q.calendar }

/-! ## Reads -/

/-- Load a burst into the read return FIFO, from which its launch is the next action (Table 4-1, R156). -/
def PseudoChannel.toReturn (q : PseudoChannel) (b : OutBurst) : PseudoChannel :=
  { q with returns := q.returns ++ [b] }.follow .launch

/-- Load a read's burst, or where the read slips the content of Table 4-6 (R100, R111). -/
def State.loadRead (s : State) (c : Ch) (p : Pc) (env : LineEnv) (b : OutBurst) : State :=
  if s.readSlips c p env then
    (s.readSlip c p env).updCh c (fun h => h.updPc p (fun q => q.toReturn (unservableBurst q.managed h.regs.dparEn)))
  else s.updPc c p (·.toReturn b)

/-- The first actions of a read chain: the TSV RD, which with the Baltil table leaves now, and the TSV read capture (R97, R102,
R132, R145). -/
def State.fireRead (s : State) (c : Ch) (p : Pc) (n : Nat) (owner : Option Nat) (env : LineEnv) : State :=
  let (r, s1) := s.dieRead c p n env owner
  let (sid, bank, _, col) := accessOf n
  s1.updCh c (fun h =>
    ((h.sendHost (columnFrame p (columnSlot col ⟨bank.val % 4, by omega⟩ ⟨bank.val / 4, by omega⟩ sid 1))).countTsv p env).updPc p
      (fun q => { q with tsvCapture := q.tsvCapture ++ [r] }.follow .decode))

/-- The next action: the captured access is decoded or passed, counted, given its DPAR and loaded (R105 to R111, R256, R259).
Echo data that LB_MODE 10b has kept goes in its place, once, whenever it was kept (DESIGN CHOICE, log 105). -/
def State.fireDecode (s : State) (c : Ch) (p : Pc) (env : LineEnv) : State :=
  match s.chans[c].pcs[p].tsvCapture with
  | [] => s
  | r :: rest =>
    let s0 := s.updPc c p (fun q => { q with tsvCapture := rest })
    let en := s.chans[c].regs.dparEn
    let q := s.chans[c].pcs[p]
    if s.readSlips c p env then s0.loadRead c p env (unservableBurst q.managed en)
    else match q.echo with
      | some (data, ecc) =>
        s0.updPc c p (fun q =>
          { q with echo := none }.toReturn (burstOf en data (if q.managed then managedEcc .clean 0 else ecc)))
      | none =>
        let (data, check) := q.decoderInput r
        let v := readEvents q.managed (decodeManaged data check) r.ods
        (s0.countRead c p r.access v (q.injCause r.access) false).updCh c (fun h =>
          (h.updPc p (fun q => (q.consumeRead r.access).toReturn (readBurst q.managed en data check))).updTaper
            (·.readEvents r.owner v r.ods))

/-- The read of a row served under R60 (Table 4-6, RPCHAIN). -/
def State.fireUnservable (s : State) (c : Ch) (p : Pc) (env : LineEnv) : State :=
  (s.updPc c p (fun q => { q with errs := { q.errs with rsvRd := bump q.errs.rsvRd } })).loadRead c p env
    (unservableBurst s.chans[c].pcs[p].managed s.chans[c].regs.dparEn)

/-- One lane's 16 bits of a lab PRBS; the state it starts from is not given: any but all zeros (R191, log 27). -/
def labLane (n : Nat) (seed : BitVec 16) : BitVec 16 :=
  let start := seed.toNat % (2 ^ n - 1) + 1
  BitVec.ofNat 16 ((List.range 16).foldl (fun acc b => acc + (prbsBit n b start).toNat * 2 ^ b) 0)

/-- Bits of lanes, beat by beat: of w lanes from lane lo, lane lo + k in bit w b + k. -/
def lanesBits (lane : Nat → BitVec 16) (lo w : Nat) : Nat :=
  (List.range (16 * w)).foldl (fun acc i => acc + ((lane (lo + i % w)).getLsbD (i / w)).toNat * 2 ^ i) 0

/-- The lab pattern that replaces a read burst on the lanes, MRR's with it (R107, MR11 of Table 3-16a): a PRBS from states that
are free values, or alternating levels, of which beat 0 has the 1 (DESIGN CHOICE, log 27). -/
def State.labPattern (s : State) (c : Ch) (b : OutBurst) : OutBurst × State :=
  let r := s.chans[c].regs
  let all := r.mr11.getLsbD 4
  let put (lane : Nat → BitVec 16) : OutBurst :=
    { b with data := BitVec.ofNat 512 (lanesBits lane 0 32)
             ecc := if all then BitVec.ofNat 64 (lanesBits lane 32 4) else b.ecc
             dpar := if all then lane 36 else b.dpar }
  let prbs (n : Nat) : OutBurst × State :=
    let (seeds, s1) := s.free 592
    (put (fun t => labLane n (seeds.extractLsb' (16 * t) 16)), s1)
  match (r.mr11.extractLsb' 0 4).toNat with
  | 1 => prbs 7
  | 2 => prbs 15
  | 3 => (put (fun _ => 0x5555), s)
  | _ => (b, s)

/-- LVI drivers that stayed in current limit in a burst the MX32 drove (R345): the lane is disabled and marked marginal. A
replaced lane's bump is not driven (R38). -/
def State.driverLimits (s : State) (c : Ch) (p : Pc) (env : LineEnv) : State :=
  env.limited.foldl (fun (t : State) lane =>
    let k : Fin 100 := ⟨39 * p.val + lane.val, by omega⟩
    if t.chans[c].lanes[k].disabled || t.chans[c].map.replaced k then t
    else (t.updCh c (fun h => { h with lanes := h.lanes.set k { h.lanes[k] with disabled := true } })).laneMarginal c k
      t.chans[c].lanes[k].lastResult) s

/-- The launch of the oldest burst of the return FIFO at RL (R31, R35, R39); a slip of that crossing makes it the content of
Table 4-6 (R100). -/
def State.fireLaunch (s : State) (c : Ch) (p : Pc) (env : LineEnv) : State :=
  match s.chans[c].pcs[p].returns with
  | [] => s
  | b :: rest =>
    let s0 := s.updPc c p (fun q => { q with returns := rest })
    let h := s.chans[c]
    let (out, s1) :=
      if env.slip then (unservableBurst h.pcs[p].managed h.regs.dparEn, s0.readSlip c p env)
      else if s.mgmt.lab then s0.labPattern c b else (b, s0)
    (s1.updPc c p (fun q => { q with lanes := some (out.withSpares h.map p) })).driverLimits c p env

/-- RDT (R192); with LB_MODE 01b the burst is received again at the pad and compared, mismatches counted (Table 3-16a). -/
def State.fireBufRead (s : State) (c : Ch) (p : Pc) (tb : Fin 16) (env : LineEnv) : State :=
  let h := s.chans[c]
  let slips := env.slip || h.pcs[p].readOutside
  let out := if slips then (unservableBurst h.pcs[p].managed h.regs.dparEn).withSpares h.map p else bufferBurst (h.pcs[p].buffer tb)
  let s1 := s.updPc c p (fun q => { q with lanes := some out })
  let s2 := if s.lbMode c p = 1 then
      s1.updCh c (fun h => h.updCnt (fun n => { n with echoMism := bump n.echoMism (onesOf env.flips) })) else s1
  (if slips then s2.readSlip c p env else s2).driverLimits c p env

/-! ## Writes -/

/-- The check field a write stores (R105, R106, R110). -/
def writeCheck (managed : Bool) (data : BitVec 512) (ecc : BitVec 64) : BitVec 64 :=
  if managed then
    (if ecc = BitVec.ofNat 64 0xAAAAAAAAAAAAAAAA then maskedCheck data poisonMask else encodeCheck data)
  else ecc

/-- A write slips: its crossing leaves its window, or stands outside since an earlier slip (R98, R100, R101; log 113). -/
def State.writeSlips (s : State) (c : Ch) (p : Pc) (env : LineEnv) : Bool := env.slip || s.chans[c].pcs[p].writeOutside

/-- A write fails: DPAR_EN with a parity error, a slip, or the lab control DPAR_ERR (R29, R100, Table 3-16a). -/
def State.writeFails (s : State) (c : Ch) (p : Pc) (b : Burst) (env : LineEnv) : Bool :=
  let r := s.chans[c].regs
  (r.dparEn && dparOf b.data b.ecc != b.dpar) || s.writeSlips c p env || (s.mgmt.lab && r.nextDparErr)

/-- The first action of a write chain: the burst that the host drives at WL fills the write FIFOs (R97). -/
def PseudoChannel.arm (q : PseudoChannel) (n : Nat) (b : Burst) (served : Bool) (owner : Option Nat) : PseudoChannel :=
  let entry : WriteEntry := { access := n, burst := b, served := served, owner := owner }
  { q with writeFifo := q.writeFifo ++ [entry] }.follow .unload

/-- The access a write stages: the encoded data, with the write-path injection that it matches (R105, R106, R283). -/
def PseudoChannel.encoded (q : PseudoChannel) (w : WriteEntry) (verdict : Bool) : Staged :=
  let syms := ((q.injection true w.access).map (·.syms)).getD []
  { owner := w.owner, access := w.access, data := w.burst.data ^^^ injectData syms
    check := writeCheck q.managed w.burst.data w.burst.ecc ^^^ injectCheck syms, verdict := verdict }

/-- A write that failed its verdict (R29, R100): counted, with DPAR_WRITE. -/
def State.failWrite (s : State) (c : Ch) (p : Pc) (slips : Bool) : State :=
  let s1 := (s.setCause c causeDparWrite).updCh c (fun h => h.updCnt (fun k => { k with dparFail := bump k.dparFail }))
  if slips then (s1.updPc c p (fun q => { q with writeOutside := true })).slip c else s1

/-- A staged access is entered; where that overwrites the oldest of four, the oldest slips (R97, R100). -/
def State.stage (s : State) (c : Ch) (p : Pc) (x : Staged) : State :=
  let full := decide (4 ≤ s.chans[c].pcs[p].staging.length)
  let s1 := s.updPc c p (fun q => { q with staging := (if full then q.staging.drop 1 else q.staging) ++ [x] })
  if full then s1.failWrite c p true else s1

/-- The calendar action that drives a staged access on the TSVs. -/
def Staged.commit (x : Staged) : Posted :=
  let (sid, bank, row, col) := accessOf x.access
  .commit sid bank row col x.data x.check

/-- The DPAR verdict of the oldest burst in the write FIFOs (R29, R60, R76, R100, R103): a failing write is not committed, sets
DPAR_WRITE and is counted; a write to an unservable row is checked and dropped; the access goes to write staging. With the Baltil
table a passing write's TSV WR is the next action; with a staged one the thread's next steps decide (R10, R29). -/
def State.fireUnload (s : State) (c : Ch) (p : Pc) (env : LineEnv) : State :=
  match s.chans[c].pcs[p].writeFifo with
  | [] => s
  | w :: rest =>
    let fails := s.writeFails c p w.burst env
    let x := s.chans[c].pcs[p].encoded w (!fails)
    let s1 := s.updCh c (fun h =>
      (((h.countSpares env.spareMism).updRegs (fun r => { r with nextDparErr := false })).updPc p (fun q =>
        { q with writeFifo := rest })).updTaper (·.verdict w.owner (!fails)))
    let s2 := if fails then s1.failWrite c p (s.writeSlips c p env) else s1
    if !w.served then s2
    else if s.lbMode c p = 2 then
      (if fails then s2 else s2.updPc c p (fun q => { q with echo := some (w.burst.data, w.burst.ecc) }))
    else if w.owner.isSome then s2.stage c p x
    else if fails then s2
    else (s2.stage c p x).updPc c p (·.follow x.commit)

/-- The access leaves write staging, if it still stands there. -/
def unstage (n : Nat) (list : List Staged) : List Staged :=
  match list.findIdx? (fun x => x.access == n) with
  | some k => list.eraseIdx k
  | none => list

/-- The TSV WR of a staged access: its commit point (R29, R103, R131). A write-path injection it carries is consumed; TSV drivers
that stayed in current limit are marked for their spare (R345). -/
def State.fireCommit (s : State) (c : Ch) (p : Pc) (n : Nat) (data : BitVec 512) (check : BitVec 64) (env : LineEnv) :
    State :=
  let (sid, bank, _, col) := accessOf n
  env.tsvLimited.foldl (fun t x => t.tsvMarginal c x.1 x.2.castSucc)
    (s.updCh c (fun h =>
      (h.updPc p (fun q =>
        let q1 := { q.storeAccess s.rows n (data ^^^ env.flips.extractLsb' 0 512) (check ^^^ env.flips.extractLsb' 512 64) with
          staging := unstage n q.staging }
        match q.injection true n with
        | some i => { q1 with inject := none, injected := (n, i.counted) :: q1.injected }
        | none => q1)).sendHost (columnFrame p (columnSlot col ⟨bank.val % 4, by omega⟩ ⟨bank.val / 4, by omega⟩ sid 2))))

/-- WRT (R192); a slip leaves the buffer and starts a discard (R100). -/
def State.fireBufWrite (s : State) (c : Ch) (p : Pc) (tb : Fin 16) (bits : BitVec 624) (env : LineEnv) : State :=
  if s.writeSlips c p env then (s.updPc c p (fun q => { q with writeOutside := true })).slip c
  else s.updPc c p (fun q => { q with buffers := q.buffers.set tb (some bits) })

/-! ## Maintenance chains -/

/-- SRCHAIN: an access is read for the scrubber and waits for a decoder gap (R265). -/
def PseudoChannel.captureScrub (q : PseudoChannel) (n : Nat) (owner : Option Nat) : PseudoChannel :=
  { q with captured := q.captured ++ [{ access := n, owner := owner }] }

/-- CRCHAIN: a row is read into the row-copy buffer; its status goes to its thread (R149, R273). The action's errors are those of
the row's first access (DESIGN CHOICE, log 120). -/
def State.fireCopyRead (s : State) (c : Ch) (p : Pc) (sid : Sid) (bank : Fin 16) (row : Row) (owner : Option Nat) (env : LineEnv) :
    State :=
  let n := accessNo sid bank row 0
  let adapt := s.chans[c].regs.adaptAct
  let wrong := dieErrors env.cells ^^^ env.flips
  let (r, s1) := s.dieRead c p n env owner
  s1.updCh c (fun h =>
    let q := h.pcs[p]
    let v := readEvents (q.decodes s.rows n adapt) (decodeManaged r.data r.check) r.ods
    ((h.countTsv p env).updPc p (fun q =>
      { q with copy := q.copy.map (fun k => { k with cells := q.copyCells s.rows adapt sid bank row wrong }) })).updTaper
        (·.readEvents owner v r.ods))

/-- FWCHAIN: the fill pattern goes to write staging, and from there to the core die (Table 4-7, R103). -/
def State.fireFill (s : State) (c : Ch) (p : Pc) (n : Nat) : State :=
  let q := s.chans[c].pcs[p]
  let x : Staged := { owner := none, access := n, data := patternData q.fillPat n, check := patternCheck q.fillPat q.managed n
                      verdict := true }
  (s.stage c p x).updPc c p (·.follow x.commit)

/-- CALENDAR_ACTION: the oldest posted action of the pseudo-channel fires; a posted chain always completes (R156), whatever its
core die has been told since (log 118). -/
def execCalendarAction (c : Ch) (p : Pc) (env : LineEnv) (s : State) : Result :=
  match s.chans[c].pcs[p].calendar with
  | [] => .next s
  | a :: rest =>
    let s1 := s.updPc c p (fun q => { q with calendar := rest })
    .next (match a with
      | .read sid bank row col owner => s1.fireRead c p (accessNo sid bank row col) owner env
      | .unservable => s1.fireUnservable c p env
      | .decode => s1.fireDecode c p env
      | .launch => s1.fireLaunch c p env
      | .modeRead v ext => s1.loadRead c p env (mrrBurst s.chans[c].pcs[p].managed s.chans[c].regs.dparEn v ext)
      | .bufRead tb => s1.fireBufRead c p tb env
      | .bufWrite tb bits => s1.fireBufWrite c p tb bits env
      | .write sid bank row col b served owner => s1.updPc c p (·.arm (accessNo sid bank row col) b served owner)
      | .unload => s1.fireUnload c p env
      | .commit sid bank row col data check => s1.fireCommit c p (accessNo sid bank row col) data check env
      | .scrubRead sid bank row col owner => s1.updPc c p (·.captureScrub (accessNo sid bank row col) owner)
      | .copyRead sid bank row owner => s1.fireCopyRead c p sid bank row owner env
      | .copyWrite sid bank row =>
        s1.updPc c p (fun q => match q.copy with
          | some k => q.pasteCells s.rows sid bank row k.cells
          | none => q)
      | .maintenance =>
        s1.updPc c p (fun q => { q with drive := .pattern (((s.chans[c].intake.lmw).map lmwLength).getD 0) })
      | .fillSource sid bank row col => s1.fireFill c p (accessNo sid bank row col))

end Sys2Proof.Machine
end

