-- ==== Sys2Proof/Machine/Quince.lean ====
section
/-! DEFINITION. The Quince array and its controller (15): sectors and the sector table, pages and pairs, service pages, the spare
field and its code, page lines and the branch-target cache, and the start of an operation. -/

namespace Sys2Proof.Machine

/-! ## Sectors -/

/-- The physical main sectors, each with its number. -/
def NonVolatile.numbered (n : NonVolatile) : List (Nat × Sector) := (List.range n.sectors.length).zip n.sectors

/-- Change a physical main sector. -/
def NonVolatile.updSector (n : NonVolatile) (i : Nat) (f : Sector → Sector) : NonVolatile :=
  { n with sectors := n.sectors.mapIdx (fun j x => if j = i then f x else x) }

/-- The logical sector a physical sector holds. -/
def Sector.logical (x : Sector) : Option (Fin 70) :=
  match x.use with
  | .mapped l => some l
  | _ => none

/-- A sector of the pool. -/
def Sector.inPool (x : Sector) : Bool :=
  match x.use with
  | .pool _ => true
  | _ => false

/-- A record joins the Quince journal (R444). -/
def NonVolatile.note (n : NonVolatile) (r : JournalRec) : NonVolatile := { n with journal := n.journal ++ [r] }

/-- The physical sector that holds a logical one (R423). -/
def NonVolatile.physical (n : NonVolatile) (l : Nat) : Option (Nat × Sector) :=
  n.numbered.find? (fun x => x.2.logical.map (·.val) == some l)

/-- Too few erased pool sectors with no spare left: writes of the user area and of images fail, and retention snapshots keep only
their newest slot (Table 17-7). -/
def State.poolShort (s : State) : Bool :=
  s.nvSpares == 0 && decide ((s.nv.sectors.filter (fun x => x.use == .pool true)).length < 4)

/-- The entry of a numbered list with the least key. -/
def leastBy (key : Nat × Sector → Nat) (l : List (Nat × Sector)) : Option (Nat × Sector) :=
  l.foldl (fun acc x => match acc with
    | none => some x
    | some y => if key x < key y then some x else some y) none

/-- The pool sector that takes new contents: the least worn, an erased one first (R443). -/
def NonVolatile.poolSector (n : NonVolatile) : Option (Nat × Sector) :=
  let pool := n.numbered.filter (fun x => x.2.inPool)
  match leastBy (fun x => x.2.ecnt) (pool.filter (fun x => x.2.use == .pool true)) with
  | some x => some x
  | none => leastBy (fun x => x.2.ecnt) pool

/-- A pool sector takes a logical sector: erased first where it is not, its data pages programmed, then page 257 with the next
ASEQ and a commit tag (R429, R443, R450). -/
def Sector.assign (x : Sector) (l : Fin 70) (aseq ctag : Nat) (data : BitVec 264) : Sector :=
  { x with
    use := .mapped l, ecnt := if x.use == .pool true then x.ecnt else x.ecnt + 1, aseq := aseq, ctag := ctag
    assigned := some (some l), prog := data ||| servicePages, weak := 0 }

/-- Move a logical sector's contents from physical sector i to pool sector j; the old sector joins the pool unerased
(R439, R443). -/
def NonVolatile.move (n : NonVolatile) (i j : Nat) : NonVolatile :=
  match n.sectors[i]? with
  | some x => match x.logical with
    | some l => (n.updSector j (fun y => y.assign l (x.aseq + 1) x.ctag (x.prog &&& dataPages))).updSector i (fun y =>
        { y with use := .pool false })
    | none => n
  | none => n

/-- An erased sector: only its erase header is programmed (R429). -/
def Sector.erased (x : Sector) (pulses : Nat) : Sector :=
  { x with
    use := if x.inPool then .pool true else x.use, ecnt := x.ecnt + 1, epulse := byteOf (min pulses 255)
    assigned := none, prog := erasePage, weak := 0 }

/-- A sector is erased; every 256 erases the journal takes the erase counts of all sectors (Table 15-7). -/
def NonVolatile.eraseSector (n : NonVolatile) (i pulses : Nat) : NonVolatile :=
  let n1 := n.updSector i (·.erased pulses)
  if n.erases + 1 < 256 then { n1 with erases := n.erases + 1 }
  else { n1.note (.ecnt (n1.sectors.map (·.ecnt))) with erases := 0 }

/-! ## Pages and pairs -/

/-- A page is an upper page: of each group of 12 the last six (R427). -/
def upperPage (p : Nat) : Bool := decide (6 ≤ p % 12)

/-- The lower partner of an upper page (R427). -/
def partnerOf (p : Nat) : Nat := p - 6

/-- The page rules of a main sector (R428, R448): only an erased page is programmed, not one left indeterminate, an upper page
only once its lower partner has been since the erase, and pages 258 to 263 never (R427). -/
def Sector.mayProgram (x : Sector) (p : Fin 264) : Bool :=
  decide (p.val < 258) && !x.prog.getLsbD p.val && !x.weak.getLsbD p.val
    && (!upperPage p.val || x.prog.getLsbD (partnerOf p.val))

/-- The next lower data page that may be programmed; none where the sector has to be erased first. -/
def Sector.nextLower (x : Sector) : Option (Fin 264) :=
  (List.finRange 264).find? (fun p => decide (p.val < 256) && !upperPage p.val && x.mayProgram p)

/-- A page comes to be programmed. -/
def Sector.programmed (x : Sector) (p : Fin 264) : Sector := { x with prog := x.prog ||| (1#264 <<< p.val) }

/-- A program cut short or failed leaves its page indeterminate, an upper page its partner suspect too (R436, R447, R448). -/
def Sector.cutPage (x : Sector) (p : Fin 264) : Sector :=
  { x.programmed p with
    weak := x.weak ||| (1#264 <<< p.val) ||| (if upperPage p.val then 1#264 <<< partnerOf p.val else 0) }

/-- An erase cut short or failed leaves the sector partly erased: no page of it counts until it is erased again (R448). -/
def Sector.cutErase (x : Sector) : Sector :=
  { x with weak := BitVec.allOnes 264, assigned := none, use := if x.inPool then .pool false else x.use }

/-- An operation ends without its verify, or is cut short (R436, R447). -/
def NonVolatile.cutSector (n : NonVolatile) (o : NvOp) : NonVolatile :=
  match o.sector with
  | none => n
  | some i => match o.page with
    | some p => n.updSector i.val (·.cutPage p)
    | none => n.updSector i.val (·.cutErase)

/-- The page of an operation that verified is programmed; what an operation that failed leaves is R436's. -/
def NonVolatile.opEnds (n : NonVolatile) (o : NvOp) (ok : Bool) : NonVolatile :=
  match o.sector, o.page with
  | some i, some p => if ok then n.updSector i.val (·.programmed p) else n.cutSector o
  | _, _ => if ok then n else n.cutSector o

/-- A sector is open for programming: of an area written a page at a time (Table 15-9), begun and not full (R448). -/
def Sector.isOpen (x : Sector) : Bool :=
  (match x.logical with
    | some l => decide (36 ≤ l.val) && decide (l.val < 62)
    | none => false) && (x.prog &&& dataPages) != 0 && x.nextLower.isSome

/-- A sector is closed: none of its pages is programmed until it has been erased (R448). -/
def Sector.close (x : Sector) : Sector := { x with weak := x.weak ||| (dataPages &&& ~~~x.prog) }

/-! ## What a page holds -/

/-- The erase header, page 256 (Table 15-3). -/
def Sector.eraseHeader (x : Sector) : List Byte :=
  let b := natBytes 4 0x51455231 ++ natBytes 4 x.ecnt ++ [x.epulse] ++ List.replicate 499 0
  b ++ wordBytes (crc32c b)

/-- The assignment header, page 257 (Table 15-3). -/
def Sector.assignHeader (x : Sector) (l : Option (Fin 70)) : List Byte :=
  let b := natBytes 4 0x51415331 ++ [l.elim 0xFF (fun k => byteOf k.val), 0, 0, 0] ++ natBytes 4 x.aseq ++ natBytes 4 x.ctag
    ++ natBytes 4 x.ecnt ++ List.replicate 488 0
  b ++ wordBytes (crc32c b)

/-- A step of the division by the generator polynomial: the remainder shifts one bit in. -/
def bchShift (r : BitVec 157) (b : Bool) : BitVec 157 :=
  let x : BitVec 157 := (r <<< 1) ||| (if b then 1 else 0)
  if x.getLsbD 156 then x ^^^ Config.bchGenerator else x

/-- The 156 parity bits of data, metadata and marker: the remainder of the bits, the first byte's most significant first, and
156 zeros (R426, assumption 123). -/
def bchParity (bytes : List Byte) : BitVec 156 :=
  let bits := bytes.flatMap (fun b => [7, 6, 5, 4, 3, 2, 1, 0].map (fun i => b.getLsbD i))
  ((bits ++ List.replicate 156 false).foldl bchShift 0).setWidth 156

/-- The 544 bytes of a programmed page (Table 15-2): 512 data bytes, META, MARK, BCH padded with four ones. -/
def pageImage (page : Nat) (data : List Byte) : List Byte :=
  let covered := data ++ [Config.areaCode page] ++ natBytes 3 page ++ wordBytes (Config.writeSequence page) ++ [0, 0, 0, 0]
  covered ++ natBytes 20 ((bchParity covered).toNat * 16 + 15)

/-- What a page of the user area holds (R450, R426). -/
def NonVolatile.userPage (n : NonVolatile) (page : Nat) : List Byte :=
  pageImage page ((List.range 512).map (fun k => (memFind n.user (512 * page + k)).getD 0xFF))

/-- A page of the option area: its 508 bytes, zeros after those given, and their CRC. -/
def optionPage (b : List Byte) : List Byte :=
  let full := (b ++ List.replicate 508 0).take 508
  full ++ wordBytes (crc32c full)

/-- The factory record (Table 15-11): the factory-bad sectors, unused entries FFFFh. -/
def NonVolatile.factoryRecord (n : NonVolatile) : List Byte :=
  let bad := (n.numbered.filter (fun x => x.2.use == .factoryBad)).map (·.1)
  optionPage (natBytes 4 0x46414331 ++ natBytes 2 1 ++ [byteOf bad.length, 0]
    ++ ((bad ++ List.replicate 16 0xFFFF).take 16).flatMap (natBytes 2))

/-- The four bytes of a channel in an option image (Table 15-12). -/
def ChanOption.bytes (o : ChanOption) : List Byte :=
  [byteOf (o.mr07.toNat * 16 + o.adapt.toNat * 8 + o.waive.toNat * 4 + o.mode.toNat),
    byteOf (o.txeq1.toNat * 8 + o.txeq0.toNat)] ++ natBytes 2 o.mr03.toNat

/-- An option image (Table 15-12). -/
def OptionImage.bytes (o : OptionImage) : List Byte :=
  optionPage (natBytes 4 0x4F505431 ++ natBytes 2 1 ++ natBytes 2 0 ++ natBytes 4 o.seq
    ++ [o.binDef.setWidth 8, byteOf o.calVis.toNat, o.lockCnt.setWidth 8, byteOf o.syncEn.toNat] ++ natBytes 3 o.seed.toNat
    ++ List.replicate 13 0 ++ o.chans.toList.flatMap ChanOption.bytes)

/-- Zero bits of a page. -/
def zeroBits (bytes : List Byte) : Nat :=
  bytes.foldl (fun acc b => acc + ((List.range 8).filter (fun i => !b.getLsbD i)).length) 0

/-- A read of a page with at most 12 zero bits returns FFh in every byte and flags it blank (R432). -/
def readBlank (page : List Byte) : Bool := decide (zeroBits page ≤ 12)

/-- The 544 bytes that stand in a data page of user sector k (R450): erased where the page is. -/
def NonVolatile.userRaw (n : NonVolatile) (k : Nat) (page : Nat) : List Byte :=
  match n.physical (62 + k) with
  | some (_, x) => if x.prog.getLsbD page then n.userPage (256 * k + page) else List.replicate 544 0xFF
  | none => List.replicate 544 0xFF

/-! ## The scan at a stack reset -/

/-- Page 257 of a sector makes it valid for a logical one: it decodes, and its CTAG is 0 or named by a valid COMMIT record
(R429, R430). -/
def NonVolatile.validFor (n : NonVolatile) (x : Sector) : Option (Fin 70) :=
  match x.assigned with
  | some (some l) => if !x.weak.getLsbD 257 && (x.ctag == 0 || n.commits.contains x.ctag) then some l else none
  | _ => none

/-- A sector of a valid erase header and a blank page 257 (R430). -/
def Sector.blankHeader (x : Sector) : Bool := x.prog.getLsbD 256 && !x.weak.getLsbD 256 && !x.prog.getLsbD 257

/-- The use that the scan gives a sector (R430): it holds L where no sector of a higher ASEQ does, a retired and a factory-bad
one stay so, a spare stays a spare (R440, DEDUCED, assumption 124), the others join the pool, unerased unless their erase
header is valid and page 257 blank. -/
def NonVolatile.scanUse (n : NonVolatile) (x : Sector) : SectorUse :=
  if x.use == .factoryBad then .factoryBad
  else if x.assigned == some none || x.use == .retired then .retired
  else match n.validFor x with
    | some l => if n.sectors.any (fun y => n.validFor y == some l && decide (x.aseq < y.aseq)) then .pool false else .mapped l
    | none => if x.use == .spare then .spare else .pool x.blankHeader

/-- The erase count of sector i whose erase header is lost: from the newest ECNT record of the journal, which holds no single erase
since, else the highest of the pool (R445). -/
def NonVolatile.lostCount (n : NonVolatile) (i : Nat) : Nat :=
  let counts := n.journal.filterMap (fun r => match r with
    | .ecnt l => some l
    | _ => none)
  match counts.getLast?.bind (·[i]?) with
  | some k => k
  | none => n.sectors.foldl (fun acc x => if x.inPool then max acc x.ecnt else acc) 0

/-- The boot ROM reads page 257 of every physical sector and builds the sector table (R430); a sector without its erase header takes
its erase count from elsewhere (R445). -/
def NonVolatile.scan (n : NonVolatile) : NonVolatile :=
  { n with sectors := n.sectors.mapIdx (fun i x =>
      { x with use := n.scanUse x
               ecnt := if x.prog.getLsbD 256 && !x.weak.getLsbD 256 then x.ecnt else n.lostCount i }) }

/-! ## The ledger's main part -/

/-- The main part goes on in the next of its sectors, which is erased with the records it holds (R477). -/
def NonVolatile.turnLedger (n : NonVolatile) : NonVolatile :=
  let k := n.mainSector + 1
  let n1 := match n.physical (52 + k.val) with
    | some (i, x) => if (x.prog &&& dataPages) = 0 then n
        else (n.eraseSector i 0).updSector i (fun y => { y with assigned := x.assigned, prog := servicePages })
    | none => n
  { n1 with mainSector := k, ledger := n1.ledger.filter (fun r => r.param || !r.stored || r.place != k.val) }

/-- The next page of the main part: a lower page of the sector in use (R477). -/
def NonVolatile.ledgerPlace (n : NonVolatile) : Option (Fin 255 × Fin 264) :=
  (n.physical (52 + n.mainSector.val)).bind (fun x => x.2.nextLower.map (fun p => (Fin.ofNat 255 x.1, p)))

/-- The sector in use has an erased lower page; else the next one is taken (R477). -/
def NonVolatile.ledgerOpen (n : NonVolatile) : NonVolatile := if n.ledgerPlace.isSome then n else n.turnLedger

/-- A page of the main part is programmed. -/
def NonVolatile.ledgerPage (n : NonVolatile) : NonVolatile :=
  match n.ledgerOpen.ledgerPlace with
  | some (i, p) => n.ledgerOpen.updSector i.val (·.programmed p)
  | none => n.ledgerOpen

/-- A record goes whole into the page that is open, with the bytes left in it, or into a new one: 512 bytes less the page header's
first SEQ and CRC (R477). -/
def NonVolatile.packRecord (x : NonVolatile × Nat) (r : LedgerRec) : NonVolatile × Nat :=
  let len := 20 + r.body.length
  let (n, room) := if len ≤ x.2 then x else (x.1.ledgerPage, 504)
  ({ n with ledger := n.ledger.map (fun y => if y.seq = r.seq then { y with stored := true, place := n.mainSector.val } else y) },
    room - len)

/-- The records that wait are packed into pages and programmed (R477). -/
def NonVolatile.packLedger (n : NonVolatile) : NonVolatile :=
  ((n.ledger.filter (fun r => !r.stored)).foldl NonVolatile.packRecord (n, 0)).1

/-! ## Page lines and the branch-target cache -/

/-- The place of a logical byte address: physical main sector or 255 + n for Pn, page and 32-byte unit; none in the unmapped
range (Table 15-1, R423). -/
def NonVolatile.placeOf (n : NonVolatile) (a : Nat) : Option PageLine :=
  if a < 0x08C0000 then
    (n.physical (a / 0x20000)).map (fun x => { sector := x.1, page := a % 0x20000 / 512, unit := a % 512 / 32 })
  else if 0x1FE0000 ≤ a ∧ a < 0x2000000 then
    some { sector := 255 + (a - 0x1FE0000) / 0x4000, page := a % 0x4000 / 512, unit := a % 512 / 32 }
  else none

/-- A line holds the page. -/
def QuinceCtl.hits (q : QuinceCtl) (x : PageLine) : Bool := q.lines.any (fun y => y.sector == x.sector && y.page == x.page)

/-- A page is read in full and takes a free line, else the oldest (R431); it has at most 8 bits to correct, and is counted so (R433;
DESIGN CHOICE, assumption 134). -/
def QuinceCtl.loadLine (q : QuinceCtl) (x : PageLine) : QuinceCtl :=
  if q.hits x then q else { q with lines := (({ x with unit := 0 } : PageLine) :: q.lines).take 4, reads := bump q.reads }

/-- A logical byte address lies in an execute-only range (R446). -/
def QuinceCtl.executeOnly (q : QuinceCtl) (a : Nat) : Bool :=
  q.xo.any (fun r => decide (4096 * r.1 ≤ a) && decide (a < 4096 * (r.1 + r.2)))

/-- A Lantern's data read: one that misses every line loads one (R431), one of an execute-only range sets XO_VIOL (R446), one of the
unmapped range meets a bus error (R424). -/
def State.readLine (s : State) (a : Nat) : State :=
  if s.quince.executeOnly a then { s with quince := { s.quince with xoViol := true } }
  else match s.nv.placeOf a with
    | some x => { s with quince := s.quince.loadLine x }
    | none => { s with quince := { s.quince with busErrors := bump s.quince.busErrors } }

/-- A fetch: of a page that a line holds it starts a read of the next page of the sector; after a taken branch its 32 bytes stand
in the branch-target cache from then on (R431). -/
def State.fetchLine (s : State) (a : Nat) (branch : Bool) : State :=
  match s.nv.placeOf a with
  | none => { s with quince := { s.quince with busErrors := bump s.quince.busErrors } }
  | some x =>
    let next : PageLine := { x with page := x.page + 1, unit := 0 }
    let hit := s.quince.hits x
    let q1 := s.quince.loadLine x
    let q2 := if hit && decide (next.page < 256) then q1.loadLine next else q1
    { s with quince := { q2 with
        targets := if branch && !q2.targets.contains x then (x :: q2.targets).take 16 else q2.targets } }

/-- A DMA read: of the unmapped range (R424) or an execute-only one (R446) it halts the channel with error status. -/
def State.dmaRead (s : State) (a : Nat) : State :=
  match s.nv.placeOf a with
  | some x => { s with quince := if s.quince.executeOnly a then { s.quince with dmaHalted := true } else s.quince.loadLine x }
  | none => { s with quince := { s.quince with dmaHalted := true } }

/-- The lines and branch targets of a sector are invalidated (R434). -/
def QuinceCtl.invalidate (q : QuinceCtl) (sector : Nat) : QuinceCtl :=
  { q with lines := q.lines.filter (fun x => x.sector != sector), targets := q.targets.filter (fun x => x.sector != sector) }

/-- The lines and the cache are emptied at switch-off (R446). -/
def QuinceCtl.empty (q : QuinceCtl) : QuinceCtl := { q with lines := [], targets := [] }

/-! ## Margins -/

/-- The strict level is passed: at most four raw bit errors at each level (R437, R438). -/
def strictPassed (m : Margin) : Bool := decide (m.atProgram ≤ 4) && decide (m.atErase ≤ 4)

/-- Pulses above which an operation has failed (Table 15-6). -/
def failLimit : NvKind → Nat
  | .single => 16
  | .lower => 20
  | .upper => 40
  | .eraseMain | .eraseParam => 10

/-! ## Operations -/

/-- Quince can start a program, an erase or a read: out of reset, in its domain, with no operation running (R330, R334,
R435). -/
def State.nvFree (s : State) : Bool := !s.inReset && s.quince.op.isNone && !s.power.quinceOff

/-- An access meets the domain switched off: it wakes, the Lantern stalls (Table 12-2, R334). -/
def State.wakeQuince (s : State) : State :=
  if s.power.quinceOff then
    { s with power := { s.power with quinceWaking := true }, mgmt := { s.mgmt with stall := true } }
  else s

/-- Run an access when Quince is free; an access to a switched-off domain wakes it, one that meets an operation waits
(R334, R435). -/
def State.withQuince (s : State) (body : State) : State := if s.nvFree then body else s.wakeQuince

/-- A Lantern's read of Quince: one that meets an operation stalls until it ends (R435). -/
def State.readQuince (s : State) (body : State) : State :=
  if s.quince.op.isSome then s.updMgmt (fun m => { m with stall := true }) else s.withQuince body

/-- The page rules admit an operation (R428): one that names no page of a main sector meets them by construction. -/
def NonVolatile.admits (n : NonVolatile) (sector : Option (Fin 255)) (page : Option (Fin 264)) : Bool :=
  match sector, page with
  | some i, some p => match n.sectors[i.val]? with
    | some x => x.mayProgram p
    | none => true
  | _, _ => true

/-- Start an operation (R435): a program that the page rules do not admit is refused with SEQ_ERR and sends no pulse (R428); the
lines and branch targets of the sector are invalidated (R434). -/
def State.startNv (s : State) (kind : NvKind) (sector : Option (Fin 255)) (page : Option (Fin 264)) (cont : NvCont)
    (owner : Option (Slot × BitVec 16)) : State :=
  if s.nv.admits sector page then
    let q := match sector with
      | some i => s.quince.invalidate i.val
      | none => s.quince
    let o : NvOp := { kind := kind, sector := sector, page := page, cont := cont, owner := owner }
    { s with quince := { q with op := some o } }
  else { s with quince := { s.quince with status := some .seqErr } }

/-- With fewer than four pool sectors erased, Lantern C erases the least worn of the others (R443; which one, DESIGN CHOICE,
assumption 60). -/
def State.keepErased (s : State) : State :=
  if s.mgmt.ready && s.nvFree && decide ((s.nv.sectors.filter (fun x => x.use == .pool true)).length < 4) then
    match leastBy (fun x => x.2.ecnt) (s.nv.numbered.filter (fun x => x.2.use == .pool false)) with
    | some (i, _) => s.startNv .eraseMain (some (Fin.ofNat 255 i)) none (.eraseSector (Fin.ofNat 255 i)) none
    | none => s
  else s

end Sys2Proof.Machine
end

