-- ==== Sys2Proof/Machine/Taper.lean ====
section
/-! DEFINITION. The Taper: what a step of a thread does (Tables 6-1 to 6-6), leases, table swaps, transfer images and the
scan of the active bank (06). -/

namespace Sys2Proof.Machine

/-! ## Threads -/

/-- The thread of a number. -/
def Taper.find (t : Taper) (tid : Nat) : Option Thread := t.threads.find? (fun x => x.tid == tid)

/-- Replace a thread. -/
def Taper.put (t : Taper) (x : Thread) : Taper :=
  { t with threads := t.threads.map (fun y => if y.tid == x.tid then x else y) }

/-- A thread ends. -/
def Taper.drop (t : Taper) (tid : Nat) : Taper := { t with threads := t.threads.filter (fun y => y.tid != tid) }

/-- The table bank a thread runs from: after a swap the old bank stands in the shadow's place until it drains (R170). -/
def Taper.bankOf (t : Taper) (x : Thread) : TableBank := if x.oldBank then t.shadow else t.active

/-- The word at a thread's step pointer (R152). -/
def Taper.word (t : Taper) (x : Thread) : BitVec 64 := (t.bankOf x).stepWord x.ptr

/-- The step at a thread's pointer is uncorrectable, or treated as one (R154, R178). -/
def Taper.stepFault (t : Taper) (x : Thread) : Bool :=
  (t.bankOf x).bad.contains x.ptr.toNat || stepReserved (t.word x)

/-- The bank of a thread address. -/
def ThreadAddr.bank (a : ThreadAddr) : Fin 64 := bankIx a.sid a.bg a.ba

/-- The banks a thread opened are precharged (R167, R178). -/
def Channel.closeOpened (h : Channel) (rows : Nat) (x : Thread) : Channel :=
  x.opened.foldl (fun (k : Channel) b =>
    k.deliver rows (preFrame b.1 (bankSid b.2) ⟨b.2.val / 4 % 4, Nat.mod_lt _ (by decide)⟩ ⟨b.2.val % 4, Nat.mod_lt _ (by decide)⟩ true)) h

/-- Owed rows that a thread has not placed become carried-over work (R129, R237). -/
def Channel.carryOwed (h : Channel) (x : Thread) : Channel := h.updPc x.addr.pc (fun q => q.carry x.owed)

/-- A thread ends, and what it has not placed is carried over (R129). -/
def Channel.endThread (h : Channel) (x : Thread) : Channel := (h.carryOwed x).updTaper (·.drop x.tid)

/-- An uncorrectable step (R178): a host thread ends, and a command whose chains are not posted is handled as slipped (R100); a
refresh or maintenance thread goes to entry 62, which precharges what it opened and reports its owed work as carried over. -/
def Channel.tableError (h : Channel) (rows : Nat) (x : Thread) : Channel :=
  let h1 := h.updCnt (fun n => { n with tableUe := bump n.tableUe })
  if x.cls == .host then
    let h2 := h1.updTaper (·.drop x.tid)
    if x.chained then h2 else h2.slipped
  else (h1.closeOpened rows x).endThread x

/-! ## Addresses -/

/-- The address of a row of a bank of a pseudo-channel. -/
def rowAt (p : Pc) (i : Fin 64) (row : Nat) (col : Nat := 0) : ThreadAddr :=
  { pc := p, sid := bankSid i, bg := ⟨i.val / 4 % 4, Nat.mod_lt _ (by decide)⟩, ba := ⟨i.val % 4, Nat.mod_lt _ (by decide)⟩
    row := BitVec.ofNat 15 row, col := BitVec.ofNat 4 col }

/-- The banks a thread may work on: those it leases. -/
def Thread.banks (x : Thread) : List (Fin 64) := (x.lease.map (fun l => l.banks.map (·.2))).getD [x.addr.bank]

/-- The row that the refresh manager has next for a thread: of its owed rows, else of the carried-over rows of its banks (R129). -/
def PseudoChannel.nextOwed (q : PseudoChannel) (x : Thread) : Option OwedRow :=
  (x.owed ++ x.banks.flatMap (fun i => (q.banks[i]).carried)).head?

/-- The access at which the scrub address generator stands for a thread: its column of the row of the leased bank furthest behind
(R266). -/
def PseudoChannel.scrubAddr (q : PseudoChannel) (rows : Nat) (x : Thread) : Option ThreadAddr :=
  (q.scrubBank rows x.banks).map (fun i => rowAt x.addr.pc i (q.banks[i]).scrubRow q.scrub.col)

/-- The address a TSV command takes by ASRC (Table 6-3): the event's, the refresh manager's row, the scrub address, the scratch
row of the reserved area (row L - 3 of S0, Table 8-4a); the event's where the source has none (DESIGN CHOICE, log 121). -/
def Channel.stepAddr (h : Channel) (rows : Nat) (x : Thread) (asrc : Nat) : ThreadAddr :=
  let a := x.addr
  let q := h.pcs[a.pc]
  match asrc with
  | 0 => a
  | 1 => ((q.nextOwed x).map (fun r => rowAt a.pc r.bank r.row)).getD a
  | 2 => (q.scrubAddr rows x).getD a
  | _ => { a with sid := 0, row := BitVec.ofNat 15 (rows - 4) }

/-- The next row of the weak-row and neighbour list for a bank: the first neighbour of a tracker entry at half threshold (R249),
else the weak row listed at or after the cursor (R230). -/
def PseudoChannel.listedRow (q : PseudoChannel) (rows : Nat) (i : Fin 64) : Option Nat :=
  match (q.banks[i]).tracker.find? (fun e => e.queued) with
  | some e => match q.neighbours rows i e.row.toNat with
    | (some r, _) => some r
    | (none, r) => r
  | none =>
    (q.weak.find? (fun w => w.getLsbD 31 && (w.extractLsb' 25 6).toNat == i.val
      && decide ((q.banks[i]).cursor ≤ (w.extractLsb' 10 15).toNat))).map (fun w => (w.extractLsb' 10 15).toNat)

/-- The next row of a profiling batch: of the first group whose rows are still to be copied or read (R239). -/
def PseudoChannel.profileRow (q : PseudoChannel) (rows : Nat) : Option (Fin 64 × Nat) :=
  q.batch.bind (fun t => (t.groups.find? (fun g => decide (g.copied < 4) || (t.ended && decide (g.read < 4)))).map (fun g =>
    (groupBank rows g.index, groupRow rows g.index + (if g.copied < 4 then g.copied else g.read))))

/-- The address a FETCH loads from a source, none where the source is empty (Table 6-2). -/
def Channel.fetchAddr (h : Channel) (rows : Nat) (x : Thread) (source : Nat) : Option ThreadAddr :=
  let p := x.addr.pc
  let q := h.pcs[p]
  match source with
  | 0 => (q.nextOwed x).map (fun r => rowAt p r.bank r.row)
  | 1 => x.banks.findSome? (fun i => (q.listedRow rows i).map (rowAt p i))
  | 2 => if q.scrub.credit = 0 then none else q.scrubAddr rows x
  | _ => match q.copy with
    | some k => some (rowAt p (remapBank q.remap[k.entry]) (remapRow q.remap[k.entry]).toNat)
    | none => (q.profileRow rows).map (fun r => rowAt p r.1 r.2)

/-- The scrub address generator has handed out an access, and with the last of a row goes on to the next row (R266, R268). -/
def PseudoChannel.scrubTaken (q : PseudoChannel) (rows : Nat) (x : Thread) : PseudoChannel :=
  match q.scrubBank rows x.banks with
  | none => q
  | some i =>
    if q.scrub.col < 15 then { q with scrub := { q.scrub with col := q.scrub.col + 1 } }
    else { (q.updBank i (fun b => { b with scrubRow := b.scrubRow + 1 })) with
           scrub := { q.scrub with col := 0, credit := q.scrub.credit - 1, progress := q.scrub.progress + 1 } }

/-! ## The branch rule -/

/-- A branch condition (Table 6-5). What only time decides, LEASE_LOW before the set end, is a free value. -/
def State.branchTrue (s : State) (c : Ch) (x : Thread) (bcnd : Nat) : Bool × State :=
  let h := s.chans[c]
  let q := h.pcs[x.addr.pc]
  match bcnd with
  | 0 => (true, s)
  | 1 => (x.verdict == some true || (!h.regs.dparEn && x.verdict != some false), s)
  | 2 => (q.managed, s)
  | 3 => (x.ce, s)
  | 4 => (x.ue, s)
  | 5 => (x.ods, s)
  | 6 => (x.empty, s)
  | 7 => (x.loops != 0, s)
  | 8 => match x.lease with
    | some l =>
      if l.revoked || l.low then (true, s)
      else if l.setEnd then
        let (b, s1) := s.free 1
        (b.getLsbD 0, s1)
      else (false, s)
    | none => (false, s)
  | 9 => (x.late, s)
  | 10 => (q.qact, s)
  | 11 => (h.regs.srAct && h.regs.srManaged, s)
  | 12 => (s.wick.state == .linkhold, s)
  | _ => (false, s)

/-- Taper cycles pass between the steps of the threads (R149, R175): the count at a trace entry takes in cycles in which no step
ran, a free value (log 104). -/
def State.traceStep (s : State) (c : Ch) (x : Thread) (on : Bool) (wait : BitVec 12) : State :=
  let spent (t : Taper) (idle : Nat) : Taper := { t with cycles := t.cycles + idle + 1 + wait.toNat }
  if on then
    let (idle, s1) := s.free 32
    s1.updCh c (·.updTaper (fun t =>
      { spent t idle.toNat with trace := (((x.ptr, x.tid, t.cycles + idle.toNat) :: t.trace.reverse).take 256).reverse }))
  else s.updCh c (·.updTaper (fun t => spent t 0))

/-- After a step: the flags of Table 6-6, then the thread stands at next with the wait, unless it ended. The trace keeps the newest
256 entries (DESIGN CHOICE, log 104). -/
def State.finishStep (s : State) (c : Ch) (x : Thread) (issued : Bool) (next : BitVec 10) (wait : BitVec 12) : State :=
  let w := s.chans[c].taper.word x
  let f := stepFlg w
  let counted := f.getLsbD 1 && issued && tcmdTop (stepTcmd w) != 0
  let s1 := s.traceStep c x (s.mgmt.lab && (f.getLsbD 0 || s.chans[c].regs.mr13.getLsbD 1)) wait
  let y := { x with ptr := next, wait := wait, lease := if f.getLsbD 2 then none else x.lease
                    owed := if f.getLsbD 2 then [] else x.owed }
  let dead := f.getLsbD 3 || (match y.lease with
    | some l => l.revoked && y.opened.isEmpty
    | none => false)
  let s2 := s1.updCh c (fun h =>
    let h1 : Channel := { h with
      taper := h.taper.put y
      cnt := { h.cnt with
        steps := bump h.cnt.steps
        indexed := if counted then addCounts h.cnt.indexed [(256 + tcmdTop (stepTcmd w), 1)] else h.cnt.indexed } }
    let h2 := if f.getLsbD 2 then h1.carryOwed x else h1
    if dead then h2.endThread y else h2)
  s2.raiseUrgent s c

/-- After a step that branches by BCND (R153). -/
def State.branchStep (s : State) (c : Ch) (x : Thread) (issued : Bool := false) : State :=
  let w := s.chans[c].taper.word x
  let (b, s1) := s.branchTrue c x (stepBcnd w)
  s1.finishStep c x issued (if b then stepTgt w else x.ptr + 1) (stepWcnt w)

/-- A step read with a single-bit error is corrected and counted (R177). -/
def Channel.countWord (h : Channel) (x : Thread) : Channel :=
  h.updCnt (fun n => { n with tableCe := bump n.tableCe ((h.taper.bankOf x).single.contains x.ptr.toNat).toNat })

/-- Carry out one step of a thread if it stands at a step of this opcode; an uncorrectable or reserved word is R178. -/
def State.runStep (s : State) (c : Ch) (tid opc : Nat) (body : State → Thread → BitVec 64 → State) : Result :=
  match s.chans[c].taper.find tid with
  | none => .next s
  | some x =>
    if s.chans[c].taper.stepFault x then .next ((s.updCh c (·.tableError s.rows x)).raiseUrgent s c)
    else if stepOpc (s.chans[c].taper.word x) = opc then
      .next (body (s.updCh c (·.countWord x)) x (s.chans[c].taper.word x))
    else .next s

/-! ## ISSUE -/

/-- The banks a TSV command names: GRPREF names the four of its bank group, PREA those of its SID or of every one. -/
def namedBanks (top : Nat) (all : Bool) (a : ThreadAddr) : List (Fin 64) :=
  if top = 8 then (List.finRange 4).map (fun j => bankIx a.sid a.bg j)
  else if top = 5 then (if all then List.finRange 64 else sidBanks a.sid)
  else [a.bank]

/-- A bank is open: to the host, or by a thread's ACT. -/
def Channel.bankOpen (h : Channel) (p : Pc) (i : Fin 64) : Bool :=
  h.pcs[p].banks[i].phase != .closed || h.taper.threads.any (fun x => x.opened.contains (p, i))

/-- The step is one that R166 forbids to a refresh or maintenance thread: ACT, ROWREF, GRPREF, RD or WR outside its lease,
or, with the lease revoked, anything but PRE and PREA to banks it has opened (R167). -/
def Channel.leaseForbids (h : Channel) (x : Thread) (top : Nat) (all : Bool) (a : ThreadAddr) : Bool :=
  if x.cls == .host then false
  else
    let needs := top == 1 || top == 2 || top == 6 || top == 7 || top == 8
    match x.lease with
    | none => needs
    | some l => (l.revoked && top != 0
          && !((top == 3 || top == 5) && (namedBanks top all a).all (fun i => x.opened.contains (a.pc, i) || (top == 5 && !h.bankOpen a.pc i))))
        || (needs && (namedBanks top all a).any (fun i => !l.banks.contains (a.pc, i)))

/-- In managed self-refresh CKA carries only NOP, PRE, PREA, ROWREF and GRPREF (R121): the command of any other step is not sent
(DEDUCED, log 121). -/
def Channel.carries (h : Channel) (top : Nat) : Bool :=
  !(h.regs.srAct && h.regs.srManaged) || top == 0 || top == 3 || top == 4 || top == 5 || top == 7 || top == 8

/-- A ROWREF or GRPREF waits for banks that are closed (R135, R162). -/
def Channel.refWaits (h : Channel) (top : Nat) (a : ThreadAddr) : Bool :=
  (top == 7 || top == 8) && (namedBanks top false a).any (h.bankOpen a.pc)

/-- The frame of a TSV command (Tables 5-5 to 5-7, 6-3); none for PREQ and no command. A PRE goes in its pseudo-channel's column
slot, which the frame of one step has free, unless SLOT names the row slot (R128). -/
def tsvFrame (top : Nat) (all : Bool) (slot sids : Nat) (a : ThreadAddr) : Option (BitVec 48) :=
  let mask := (srefMask sids all a.sid).setWidth 7
  match top with
  | 1 => some (columnFrame a.pc (columnSlot a.col a.ba a.bg a.sid 1))
  | 2 => some (columnFrame a.pc (columnSlot a.col a.ba a.bg a.sid 2))
  | 3 => some (preFrame a.pc a.sid a.bg a.ba (slot != 1))
  | 5 => some (shortFrame 2 all (shortArg a.pc (if all then 0 else a.sid) 0 0))
  | 6 => some (frameOf (rowSlot 2 a.pc a.sid a.bg a.ba a.row) 0 0)
  | 7 => some (frameOf (rowSlot 3 a.pc a.sid a.bg a.ba a.row) 0 0)
  | 8 => some (frameOf (rowSlot 1 a.pc a.sid a.bg 0 a.row) 0 0)
  | 9 => some (shortFrame 3 false mask)
  | 10 => some (shortFrame 4 false mask)
  | 11 => some alignFrame
  | _ => none

/-- A step posts a precharge of its bank: PREQ, or RD and WR with X (R155, Table 6-3). -/
def Channel.postPre (h : Channel) (a : ThreadAddr) : Channel :=
  h.updPc a.pc (fun q => q.updBank a.bank (fun b => { b with postedPre := true }))

/-- A row that a step refreshes: of the thread's owed rows or its banks' carried-over ones it is done; it counts for the tracker's
neighbours unless it was owed as a weak row only; a request whose entry it frees leaves the list, and another is posted where R249
calls for it; a profiling step of the row's group ends (R129, R241, R247 to R249). -/
def Channel.rowDone (h : Channel) (rows : Nat) (x : Thread) (p : Pc) (i : Fin 64) (row : Nat) : Channel × Thread :=
  let is (r : OwedRow) : Bool := r.bank == i && r.row == row
  let mine := x.owed.find? is
  let kept := (h.pcs[p].banks[i]).carried.find? is
  let weakOnly := (match mine, kept with
    | some r, _ => !r.bin
    | none, some r => !r.bin
    | none, none => false)
  let less (list : List OwedRow) (r : Option OwedRow) : List OwedRow := (r.map (fun y => list.erase y)).getD list
  let q1 := h.pcs[p].updBank i (fun b => { b with carried := if mine.isSome then b.carried else less b.carried kept })
  let q2 := (if weakOnly then q1 else q1.trackRefreshed rows i row).cancelRow rows i row false
  let q3 := q2.updBank i (fun b => { b with rfm := b.rfm.bind (fun r =>
    if b.tracker.any (fun e => e.row == r.row) then some r else none) })
  ((h.updPc p (fun _ => q3)).postRequest p i, { x with owed := less x.owed mine })

/-- What a TSV command does for the channel: rows the thread opens and closes, rows it refreshes, self-refresh of the core dies. A
host thread's bank state was set when its command was decoded. A layer in self-refresh ignores it (R146). -/
def Channel.tsvEffect (h : Channel) (rows sids : Nat) (x : Thread) (top : Nat) (all : Bool) (a : ThreadAddr) : Channel × Thread :=
  let awake := !h.tsv.coreSr.getLsbD a.sid.val
  match top with
  | 1 | 2 => (if all then h.postPre a else h, x)
  | 4 => (h.postPre a, x)
  | 3 => (h, { x with opened := x.opened.filter (fun b => b != (a.pc, a.bank)) })
  | 5 => (h, { x with opened := x.opened.filter (fun b => !(b.1 == a.pc && (all || bankSid b.2 == a.sid))) })
  | 6 => (h, if x.cls == .host || !awake then x else { x with opened := x.opened ++ [(a.pc, a.bank)] })
  | 7 | 8 =>
    if awake && decide (a.row.toNat < rows) then
      (namedBanks top false a).foldl (fun (acc : Channel × Thread) i => acc.1.rowDone rows acc.2 a.pc i a.row.toNat) (h, x)
    else (h, x)
  | 9 => (h.srefEnter (srefMask sids all a.sid), x)
  | 10 => (h.srefExit rows (srefMask sids all a.sid), x)
  | _ => (h, x)

/-- The pseudo-channels PCSEL names (Table 6-4). -/
def dpcTargets (sel : Nat) (p : Pc) : List Pc :=
  match sel with
  | 0 => [p]
  | 1 => [0]
  | 2 => [1]
  | _ => [0, 1]

/-- The action with which a chain begins (Table 6-4a). MRCHAIN, WCHAIN, TRCHAIN and TWCHAIN move what the thread's command brings,
and of a thread whose event brings none of it they post nothing (DESIGN CHOICE, log 121). -/
def chainOf (dop : Nat) (x : Thread) (a : ThreadAddr) : Option Posted :=
  match dop, x.data with
  | 1, _ => some (.read a.sid (bankNo a.bg a.ba) a.row a.col (some x.tid))
  | 2, _ => some .unservable
  | 3, .mode v ext => some (.modeRead v ext)
  | 4, .write burst served => some (.write a.sid (bankNo a.bg a.ba) a.row a.col burst served (some x.tid))
  | 7, .readBuffer tb => some (.bufRead tb)
  | 8, .writeBuffer tb bits => some (.bufWrite tb bits)
  | 9, _ => some (.scrubRead a.sid (bankNo a.bg a.ba) a.row a.col (some x.tid))
  | 10, _ => some (.copyRead a.sid (bankNo a.bg a.ba) a.row (some x.tid))
  | 11, _ => some (.copyWrite a.sid (bankNo a.bg a.ba) a.row)
  | 12, _ => some .maintenance
  | 13, _ => some (.fillSource a.sid (bankNo a.bg a.ba) a.row a.col)
  | _, _ => none

/-- WCOMMIT: the thread's staged access goes to the TSV WR of the step, if its verdict passed (R29). -/
def PseudoChannel.commitStaged (q : PseudoChannel) (tid top : Nat) : PseudoChannel :=
  match q.staging.find? (fun x => x.owner == some tid && x.verdict) with
  | some x => if top = 2 then q.post x.commit else q
  | none => q

/-- WDROP: the write's entries leave the write FIFOs and write staging. -/
def PseudoChannel.dropStaged (q : PseudoChannel) (tid : Nat) : PseudoChannel :=
  { q with writeFifo := q.writeFifo.filter (fun x => x.owner != some tid)
           staging := q.staging.filter (fun x => x.owner != some tid) }

/-- The data-path action of a step on a pseudo-channel (Tables 6-4, 6-4a). -/
def PseudoChannel.dataAction (q : PseudoChannel) (dop top : Nat) (x : Thread) (a : ThreadAddr) : PseudoChannel :=
  if dop = 5 then q.commitStaged x.tid top
  else if dop = 6 then q.dropStaged x.tid
  else match chainOf dop x a with
    | some act => q.post act
    | none => q

/-- ISSUE's action: the TSV command in TCMD and the data path's in DPC. Whether the command met its nominal frame is a free value
(SLOT_LATE). -/
def State.issueAction (s : State) (c : Ch) (x : Thread) (w : BitVec 64) : State × Thread :=
  let t := stepTcmd w
  let top := tcmdTop t
  let h := s.chans[c]
  let a := h.stepAddr s.rows x (tcmdAsrc t)
  let dop := dpcDop (stepDpc w)
  let sent := h.carries top
  let (h1, x1) := if sent then h.tsvEffect s.rows s.sids x top (tcmdX t) a else (h, x)
  let h2 := if sent then (match tsvFrame top (tcmdX t) (tcmdSlot t) s.sids a with
    | some f => h1.deliver s.rows f
    | none => h1) else h1
  let h3 := (dpcTargets (dpcPcsel (stepDpc w)) a.pc).foldl (fun (k : Channel) p => k.updPc p (·.dataAction dop top x a)) h2
  let s1 := s.updCh c (fun _ => h3)
  let x2 := { x1 with chained := x1.chained || dop != 0 }
  if top = 0 then (s1, x2)
  else
    let (b, s2) := s1.free 1
    (s2, { x2 with late := b.getLsbD 0 })

/-- The lease does not cover the step's TSV command (R166, R167). -/
def State.issueForbidden (s : State) (c : Ch) (x : Thread) (w : BitVec 64) : Bool :=
  let t := stepTcmd w
  s.chans[c].leaseForbids x (tcmdTop t) (tcmdX t) (s.chans[c].stepAddr s.rows x (tcmdAsrc t))

/-- The step finds a bank it would refresh open, and is tried again (R135, R162). -/
def State.issueWaits (s : State) (c : Ch) (x : Thread) (w : BitVec 64) : Bool :=
  s.chans[c].refWaits (tcmdTop (stepTcmd w)) (s.chans[c].stepAddr s.rows x (tcmdAsrc (stepTcmd w)))

/-- A step that the lease does not cover is not executed: the refusal is counted, and the thread continues at the next
address, its flags without effect (R166). -/
def State.refuseStep (s : State) (c : Ch) (x : Thread) : State :=
  s.updCh c (fun h =>
    { h with
      taper := { h.taper with cycles := h.taper.cycles + 1 }.put { x with ptr := x.ptr + 1, wait := 0 }
      cnt := { h.cnt with steps := bump h.cnt.steps, leaseRefused := bump h.cnt.leaseRefused } })

/-- The step of an ISSUE as far as its lease and its banks admit it; done is what follows its action. -/
def State.issueStep (s : State) (c : Ch) (x : Thread) (w : BitVec 64) (done : State → Thread → State) : State :=
  if s.issueForbidden c x w then s.refuseStep c x
  else if s.issueWaits c x w then s
  else
    let (s1, x1) := s.issueAction c x w
    done s1 x1

/-- ISSUE. -/
def execIssue (c : Ch) (tid : Nat) (s : State) : Result :=
  s.runStep c tid 1 (fun t x w => t.issueStep c x w (fun t1 x1 => t1.branchStep c x1 true))

/-- ISSUEIF: as ISSUE and the next address if BCND is true, else TGT with no action and no wait. -/
def execIssueif (c : Ch) (tid : Nat) (s : State) : Result :=
  s.runStep c tid 2 (fun t x w =>
    let (b, s1) := t.branchTrue c x (stepBcnd w)
    if b then s1.issueStep c x w (fun s2 x1 => s2.finishStep c x1 true (x.ptr + 1) (stepWcnt w))
    else s1.finishStep c x false (stepTgt w) 0)

/-! ## The other opcodes -/

/-- SETCNT: the loop counter takes WCNT, with no wait. -/
def execSetcnt (c : Ch) (tid : Nat) (s : State) : Result :=
  s.runStep c tid 3 (fun t x w =>
    let x1 := { x with loops := stepWcnt w }
    let (b, s1) := t.branchTrue c x1 (stepBcnd w)
    s1.finishStep c x1 false (if b then stepTgt w else x.ptr + 1) 0)

/-- LOOP: the loop counter falls by one; at TGT while it is not zero. -/
def execLoop (c : Ch) (tid : Nat) (s : State) : Result :=
  s.runStep c tid 4 (fun t x w =>
    let n := x.loops - 1
    t.finishStep c { x with loops := n } false (if n ≠ 0 then stepTgt w else x.ptr + 1) (stepWcnt w))

/-- CALL. -/
def execCall (c : Ch) (tid : Nat) (s : State) : Result :=
  s.runStep c tid 5 (fun t x w => t.finishStep c { x with ret := x.ptr + 1 } false (stepTgt w) (stepWcnt w))

/-- RET. -/
def execRet (c : Ch) (tid : Nat) (s : State) : Result :=
  s.runStep c tid 6 (fun t x w => t.finishStep c x false x.ret (stepWcnt w))

/-- FETCH: the thread's address is loaded from the source; EMPTY says that there was none. The scrub address generator goes on
with each access it hands out. -/
def execFetch (c : Ch) (tid : Nat) (s : State) : Result :=
  s.runStep c tid 7 (fun t x w =>
    let source := tcmdAsrc (stepTcmd w)
    match t.chans[c].fetchAddr t.rows x source with
    | some a =>
      (if source = 2 then t.updPc c x.addr.pc (·.scrubTaken t.rows x) else t).branchStep c { x with addr := a, empty := false }
    | none => t.branchStep c { x with empty := true })

/-- COUNT: counter TCMD[7:0] of the channel's counter and status bank, which saturates (R18). -/
def execCount (c : Ch) (tid : Nat) (s : State) : Result :=
  s.runStep c tid 8 (fun t x w =>
    (t.updCh c (fun h => h.updCnt (fun n =>
      { n with indexed := addCounts n.indexed [((stepTcmd w).extractLsb' 0 8 |>.toNat, 1)] }))).branchStep c x)

/-- ALERT: MR05 cause TCMD[3:0]; 10 to 15 have no effect. -/
def execAlert (c : Ch) (tid : Nat) (s : State) : Result :=
  s.runStep c tid 9 (fun t x w =>
    let n := ((stepTcmd w).extractLsb' 0 4).toNat
    (if n < 10 then t.setCause c n else t).branchStep c x)

/-- REPORT: completion code TCMD[7:0] to the refresh manager or the scrubber, and that the thread's work is complete (R169). -/
def execReport (c : Ch) (tid : Nat) (s : State) : Result :=
  s.runStep c tid 10 (fun t x w =>
    (t.updCh c (fun h => h.updTaper (fun k => { k with reported := (stepTcmd w).extractLsb' 0 8 }))).branchStep c
      { x with reported := true })

/-- NOP. -/
def execStepNop (c : Ch) (tid : Nat) (s : State) : Result :=
  s.runStep c tid 0 (fun t x _ => t.branchStep c x)

/-! ## Leases -/

/-- LEASE_END: a lease with a set end reaches it (R164, R165). Work not placed becomes carried-over work (R129, R237); a
thread of the Baltil table has ended by then (R168). -/
def execLeaseEnd (c : Ch) (tid : Nat) (s : State) : Result :=
  match s.chans[c].taper.find tid with
  | none => .next s
  | some x => match x.lease with
    | none => .next s
    | some l =>
      if !l.setEnd then .next s
      else
        let s1 := s.updCh c (fun h => (h.carryOwed x).updTaper (fun t =>
          if (t.bankOf x).baltil then t.drop tid else t.put { x with lease := none, owed := [] }))
        .next (s1.raiseUrgent s c)

/-! ## Tables -/

/-- A boundary of R169 holds as far as threads show it: none is alive, or under a running REFab none but host threads and the
REFab's refresh thread, which has reported its work complete. -/
def Channel.swapBoundary (h : Channel) : Bool :=
  let others := h.taper.threads.filter (fun x => x.cls != .host)
  h.taper.threads.isEmpty
    || ((h.pcs[0].inRefab != 0 || h.pcs[1].inRefab != 0)
        && (match others with
          | [] => true
          | [x] => x.entry == 32 && x.reported
          | _ => false))

/-- The banks change roles; threads that are alive run to their end from the old bank (R169, R170). -/
def Taper.swap (t : Taper) : Taper :=
  { t with active := t.shadow, shadow := if t.threads.isEmpty then { t.active with verified := false } else t.active
           armed := false, draining := !t.threads.isEmpty, threads := t.threads.map (fun x => { x with oldBank := true }) }

/-- TABLE_SWAP: an armed swap meets a boundary (R16, R169 to R171, R176; event type 13). In link hold none occurs (Table
11-6). -/
def execTableSwap (c : Ch) (s : State) : Result :=
  let h := s.chans[c]
  if h.taper.armed && h.taper.shadow.verified && h.taper.shadow.complete && h.swapBoundary && s.wick.state != .linkhold
      && !h.taper.stopped then
    let s1 := (s.updCh c (·.updTaper (·.swap))).event 13 0 (byteOf c.val)
    .next (if h.taper.shadow.signed then s1 else s1.ledger 0x14 ([byteOf c.val] ++ natBytes 2 h.taper.shadow.tver.toNat))
  else .next s

/-- OLD_BANK_DRAIN: no thread runs from the old bank, which becomes the unverified shadow bank (R170). -/
def execOldBankDrain (c : Ch) (s : State) : Result :=
  let t := s.chans[c].taper
  if t.draining && t.threads.all (fun x => !x.oldBank) then
    .next (s.updCh c (·.updTaper (fun t => { t with draining := false, shadow := { t.shadow with verified := false } })))
  else .next s

/-- The active table staged again, verified and armed (R177, R178). -/
def Taper.restage (t : Taper) : Taper :=
  { t with shadow := { t.active with verified := true, complete := true, bad := [], single := [] }, armed := true }

/-- A management-plane write to a bank that is active or drains is discarded and counted (R14, R170); a staging of a table counts
as one (DESIGN CHOICE, log 122). -/
def Channel.discardWrite (h : Channel) : Channel := h.updCnt (fun n => { n with bankWrites := bump n.bankWrites })

/-- Words that the scan of the active bank found in error are noted and counted (R177, R178). -/
def Channel.scanned (h : Channel) (corrected : List (Fin 1088)) (bad : Option (Fin 1088)) : Channel :=
  let add (list : List Nat) (more : List Nat) : List Nat := list ++ more.filter (fun a => !list.contains a)
  { (h.updCnt (fun n => { n with tableCe := bump n.tableCe corrected.length, tableUe := bump n.tableUe bad.isSome.toNat })) with
    taper := { h.taper with active := { h.taper.active with
      single := add h.taper.active.single (corrected.map (·.val))
      bad := add h.taper.active.bad (bad.toList.map (·.val)) } } }

/-- TABLE_SCAN: corrected words are counted; where the active bank holds a word corrected or an uncorrectable one, the management
plane stages the same table and arms the swap, and raises HEALTH for an uncorrectable word (R177, R178). -/
def execTableScan (c : Ch) (corrected : List (Fin 1088)) (bad : Option (Fin 1088)) (s : State) : Result :=
  if !s.power.booted then .next s
  else
    let s1 := s.updCh c (·.scanned corrected bad)
    let t := s1.chans[c].taper
    if (t.active.single.isEmpty && t.active.bad.isEmpty) || t.armed then .next s1
    else if t.draining then .next (s1.updCh c (·.discardWrite))
    else
      let s2 := s1.updCh c (·.updTaper (·.restage))
      .next (if t.active.bad.isEmpty then s2 else s2.setCause c causeHealth)

/-! ## Transfer images -/

/-- A new activation threshold in every bank: counts are kept, entries at half of it are queued, an entry at it posts its
request at once, by SID, PC, BG and BA (R70, R249, R395). -/
def State.setThreshold (s : State) (c : Ch) (th : Nat) : State :=
  let h0 := { s.chans[c] with th := th }
  let h := (List.finRange 128).foldl (fun (h : Channel) (j : Fin 128) =>
    let p : Pc := ⟨j.val / 16 % 2, by omega⟩
    let i : Fin 64 := ⟨16 * (j.val / 32) + j.val % 16, by omega⟩
    (h.updPc p (fun q => q.updBank i (fun b => { b with tracker := trackQueue th b.tracker }))).postRequest p i) h0
  s.updCh c (fun _ => h)

/-- The row-copy thread writes its buffer back to the row's address (R273 step 3). -/
def State.copyBack (s : State) (c : Ch) (p : Pc) : State :=
  s.updPc c p (fun q => match q.copy with
    | some k =>
      let w := q.remap[k.entry]
      { q.pasteCells s.rows (bankSid (remapBank w)) ⟨(remapBank w).val % 16, by omega⟩ (remapRow w) k.cells with copy := none }
    | none => q)

/-- An entry is active: its row leaves the weak-row list, and its group has code 11b, unprofiled, and counts as N until the profiler
has passed it (R275). -/
def PseudoChannel.activateRow (q : PseudoChannel) (rows : Nat) (adapt : Bool) (bank : Fin 64) (row : Row) : PseudoChannel :=
  let g := mapIndex rows (bankSid bank) ⟨bank.val % 16, by omega⟩ (row.toNat / 4)
  let q1 := if q.weak.any (fun w => weakRow w bank row.toNat) then q.setWeak rows adapt (q.weak.filter (fun w => !weakRow w bank row.toNat))
    else q
  (q1.setCode rows adapt g 3)

/-- Step 4 of R273: APPLIED is journalled and the entry is active (R275). -/
def State.remapActive (s : State) (c : Ch) (p : Pc) (e : Fin 8) : State :=
  let w := s.chans[c].pcs[p].remap[e]
  (s.journalRemap c p e (remapSetState w 2) .applied).updPc c p (fun q =>
    q.activateRow s.rows s.chans[c].regs.adaptAct (remapBank w) (remapRow w))

end Sys2Proof.Machine
end

