-- ==== Sys2Proof/Machine/Thermal.lean ====
section
/-! DEFINITION. Thermal sensing, refresh modes, the catastrophic trip and the temperature histogram (10, and R219, R220,
R241 of 08). Readings are in units of 0.02 degC. -/

namespace Sys2Proof.Machine

/-! ## Sensors -/

/-- Number of a core-die sensor (R287). -/
def coreSensor (layer : Fin 16) (n : Fin 4) : Fin 128 := ⟨64 + 4 * layer.val + n.val, by omega⟩

/-- The layer of a sensor, none for the base die. -/
def sensorLayer (i : Fin 128) : Option (Fin 16) :=
  if 64 ≤ i.val then some ⟨(i.val - 64) / 4, by omega⟩ else none

/-- A sensor of the stack as found (R125): the base die's, and those of the layers of SIDs present. -/
def State.sensorPresent (s : State) (i : Fin 128) : Bool :=
  match sensorLayer i with
  | some l => decide (l.val / 4 < s.sids)
  | none => true

/-- Why a reading makes its sensor faulty (R289): 0 FAULT, 1 the service bus, 2 the range, 3 the step; none where it does
not. -/
def Sensor.cause (x : Sensor) (r : Reading) : Option Nat :=
  let v := r.value.toInt
  if r.fault then some 0
  else if r.busFail then some 1
  else if v < -2500 ∨ 7500 < v then some 2
  else match x.reference with
    | some y => if 250 < v - y ∨ 250 < y - v then some 3 else none
    | none => none

/-- A sensor has never been read since reset. -/
def Sensor.unread (x : Sensor) : Bool := !x.valid && !x.counted && x.reference.isNone

/-- Take a reading into a sensor (R289, R297). -/
def Sensor.take (x : Sensor) (r : Reading) : Sensor :=
  let cause := x.cause r
  let good := if cause.isSome then 0 else x.good + 1
  let valid := cause.isNone && (x.valid || x.unread || decide (16 ≤ good))
  { reading := r.value
    reference := if cause = none ∨ cause = some 3 then some r.value.toInt else x.reference
    valid := valid, good := good, counted := !valid
    past := if x.unread then [] else (x.reading :: x.past).take 16 }

/-- A reading as the hub takes it: without valid factory trims every sensor is reported faulty (Table 16-4). -/
def State.trimmed (s : State) (r : Reading) : Reading :=
  if s.fuse.invalid.getLsbD 0 then { r with fault := true } else r

/-- The readings of a tick, sensor by sensor. -/
def tickReading (base core : List Reading) (i : Nat) : Reading :=
  (base ++ core).getD i { value := 0, fault := true, busFail := true }

/-- A sensor-fault episode begins at a reading of a sensor present (R289). -/
def State.episodeAt (s : State) (r : Reading) (i : Fin 128) : Option Nat :=
  if s.sensorPresent i && !s.thermal.sensors[i].counted then s.thermal.sensors[i].cause r else none

/-- Record a sensor-fault episode: counted and put in the ledger once (R289); the layer byte is FFh for the base die. -/
def State.sensorFault (s : State) (i : Fin 128) (cause : Nat) : State :=
  let s1 := { s with thermal := { s.thermal with faults := bump s.thermal.faults } }
  s1.ledger 0x0C [byteOf i.val, match sensorLayer i with
    | some l => byteOf l.val
    | none => 0xFF, byteOf cause]

/-- A valid reading. -/
def Thermal.valid (t : Thermal) (i : Fin 128) : Option Int :=
  if t.sensors[i].valid then some t.sensors[i].reading.toInt else none

/-- The hottest valid reading of a list of sensors. -/
def Thermal.hottest (t : Thermal) (l : List (Fin 128)) : Option Int :=
  l.foldl (fun acc i => maxReading acc (t.valid i)) none

/-- The sensors of a layer, of a base-die cluster (Table 10-1). -/
def layerSensors (l : Fin 16) : List (Fin 128) := (List.finRange 4).map (coreSensor l)
@[inherit_doc layerSensors] def clusterSensors (k : Fin 8) : List (Fin 128) :=
  (List.finRange 8).map (fun j => ⟨8 * k.val + j.val, by omega⟩)

/-- The layers of a SID (R123). -/
def sidLayers (sid : Sid) : List (Fin 16) := (List.finRange 4).map (fun j => ⟨4 * sid.val + j.val, by omega⟩)

/-- The sensors of a unit: a SID, or the base die (R302). -/
def unitSensors (u : Fin 5) : List (Fin 128) :=
  if h : u.val < 4 then (sidLayers ⟨u.val, h⟩).flatMap layerSensors else (List.finRange 8).flatMap clusterSensors

/-- A unit is there: a SID present, or the base die. -/
def State.unitPresent (s : State) (u : Fin 5) : Bool := decide (u.val = 4) || decide (u.val < s.sids)

/-- The governing reading of a unit (R295, R302). -/
def State.unitReading (s : State) (u : Fin 5) : Option Int :=
  if s.unitPresent u then s.thermal.hottest (unitSensors u) else none

/-- Some group of sensors has no valid one (R220, R292). -/
def Thermal.blind (t : Thermal) (groups : List (List (Fin 128))) : Bool := groups.any (fun g => (t.hottest g).isNone)

/-! ## Thermal codes -/

/-- The thresholds of Table 10-3 in rising order. -/
def codeThresholds : List Int := [2250, 3250, 4250, 4750, 5000, 5250]

/-- Thermal codes in order of temperature (Table 10-3). -/
def codeOfLevel (n : Nat) : BitVec 3 := [0, 1, 3, 2, 6, 7, 5].getD n 5

/-- The level of a code, none for 100b. -/
def levelOfCode (c : BitVec 3) : Option Nat :=
  match c.toNat with
  | 0 => some 0 | 1 => some 1 | 3 => some 2 | 2 => some 3 | 6 => some 4 | 7 => some 5 | 5 => some 6 | _ => none

/-- The level a reading calls for from a level: up above a threshold, down below it less 0.50 degC (Table 10-3). -/
def newLevel (old : Option Nat) (r : Int) : Nat :=
  let up := (codeThresholds.filter (fun t => decide (t < r))).length
  let down := (codeThresholds.filter (fun t => decide (t - 25 ≤ r))).length
  match old with
  | some n => if n < up then up else if down < n then down else n
  | none => up

/-- A code from its governing groups (R290 to R292). -/
def Thermal.code (t : Thermal) (old : BitVec 3) (groups : List (List (Fin 128))) : BitVec 3 :=
  if t.blind groups then 4
  else match t.hottest groups.flatten with
    | some r => codeOfLevel (newLevel (levelOfCode old) r)
    | none => 4

/-- The codes between two that are more than one step apart, in the order in which TEMP[2:0] passes through them; a change to or from
100b is direct (R293). -/
def codesBetween (old new : BitVec 3) : List (BitVec 3) :=
  match levelOfCode old, levelOfCode new with
  | some a, some b =>
    if a < b then (List.range (b - a - 1)).map (fun k => codeOfLevel (a + 1 + k))
    else (List.range (a - b - 1)).map (fun k => codeOfLevel (a - 1 - k))
  | _, _ => []

/-- The groups that govern TEMP[2:0] (R291). -/
def State.tempGroups (s : State) : List (List (Fin 128)) :=
  (List.finRange 8).map clusterSensors ++ ((List.finRange 16).filter (fun l => decide (l.val / 4 < s.sids))).map layerSensors

/-- The groups that govern TCODE of a channel (R291). -/
def State.tcodeGroups (s : State) (c : Ch) : List (List (Fin 128)) :=
  clusterSensors ⟨groupOf c, by unfold groupOf; omega⟩
    :: ((List.finRange 4).filter s.sidPresent).map (fun sid => layerSensors (layerOf c sid))

/-- MR06's thermal fields of every channel, and TEMP[2:0] (R290 to R294). -/
def State.updateCodes (s : State) : State :=
  { s with
    thermal := { s.thermal with
      temp := s.thermal.code s.thermal.temp s.tempGroups
      tempVia := codesBetween s.thermal.temp (s.thermal.code s.thermal.temp s.tempGroups) }
    chans := s.chans.mapFinIdx (fun i h hi => h.updRegs (fun r =>
      { r with tcode := s.thermal.code r.tcode (s.tcodeGroups ⟨i, hi⟩)
               tsnsFault := (s.tcodeGroups ⟨i, hi⟩).flatten.any (fun k => !s.thermal.sensors[k].valid) })) }

/-! ## Refresh modes -/

/-- The mode a reading calls for (Table 8-1). -/
def nextMode (m : RefMode) (r : Int) : RefMode :=
  match m with
  | .x1 => if 4750 < r then .x4 else if 4250 < r then .x2 else .x1
  | .x2 => if 4750 < r then .x4 else if r < 4225 then .x1 else .x2
  | .x4 => if r < 4225 then .x1 else if r < 4725 then .x2 else .x4

/-- The mode of a SID and whether it reads above 105 degC (R219, R220). -/
def State.sidMode (s : State) (sid : Sid) : RefMode × Bool :=
  if !s.sidPresent sid then (s.thermal.mode[sid], false)
  else match s.unitReading ⟨sid.val, by omega⟩ with
    | none => (.x4, false)
    | some r => (if s.thermal.blind ((sidLayers sid).map layerSensors) then .x4 else nextMode s.thermal.mode[sid] r, decide (5250 < r))

/-- End the profiling batches of a SID whose sensors read more than 2.0 degC above T0 (R241). -/
def PseudoChannel.tooHot (q : PseudoChannel) (rows : Nat) (reading : Sid → Option Int) : PseudoChannel :=
  match q.batch with
  | some b => match reading b.sid with
    | some r => if b.t0 + 100 < r then q.cancelBatch rows else q
    | none => q
  | none => q

/-- Re-evaluate the modes; a change sets THERMAL_STEP, and REF_URGENT where a debt now exceeds the limit (R219, R224). -/
def State.updateModes (s : State) : State :=
  let step := (List.finRange 4).any (fun x => s.sidPresent x && (s.sidMode x).1 != s.thermal.mode[x])
  let s1 := { s with
    thermal := { s.thermal with
      mode := s.thermal.mode.mapFinIdx (fun i _ h => (s.sidMode ⟨i, h⟩).1)
      over105 := s.thermal.over105.mapFinIdx (fun i _ h => (s.sidMode ⟨i, h⟩).2) }
    chans := s.chans.map (fun h => h.updPcs (fun q => q.tooHot s.rows (fun x => s.unitReading ⟨x.val, by omega⟩))) }
  if step then (List.finRange 32).foldl (fun (t : State) c => t.raiseUrgent s c) (s1.setCauseAll causeThermalStep) else s1

/-! ## Events, peaks and the histogram -/

/-- The side a unit's reading falls on and whether an event is posted (R295). -/
def sideOf (old : Option Bool) (thr r : Int) : Bool × Bool :=
  match old with
  | none => (decide (thr < r), false)
  | some true => if r < thr - 25 then (false, true) else (true, false)
  | some false => if thr < r then (true, true) else (false, false)

/-- The threshold events of a unit (R295). -/
def State.unitEvent (s : State) (u : Fin 5) : State :=
  match s.unitReading u with
  | none => s
  | some r =>
    let (side, post) := sideOf s.mgmt.side[u] s.mgmt.thr[u] r
    let s1 := s.updMgmt (fun m => { m with side := m.side.set u (some side) })
    if post then s1.event 1 (byteOf u.val) 0 0 (BitVec.ofInt 32 r) else s1

/-- Peaks and the highest readings of the current second (R302). -/
def State.updatePeaks (s : State) : State :=
  { s with thermal := { s.thermal with
      peak := s.thermal.peak.mapFinIdx (fun i x h => maxReading x (s.unitReading ⟨i, h⟩))
      second := s.thermal.second.mapFinIdx (fun i x h => maxReading x (s.unitReading ⟨i, h⟩)) } }

/-- SAMPLE_TICK (R287 to R295, R219, R220, R302). A tick while the stack is in reset reads nothing. -/
def execSampleTick (base0 core0 : List Reading) (s : State) : Result :=
  if s.inReset then .next s
  else
    let base := base0.map s.trimmed
    let core := core0.map s.trimmed
    let faults := (List.finRange 128).filterMap (fun i => (s.episodeAt (tickReading base core i.val) i).map (fun k => (i, k)))
    let s1 := { s with
      busFailed := BitVec.ofNat 16 ((List.range 16).foldl (fun acc l =>
        if (List.range 4).any (fun n => (tickReading base core (64 + 4 * l + n)).busFail) then acc + 2 ^ l else acc) 0)
      thermal := { s.thermal with
        ticked := true
        sensors := s.thermal.sensors.mapFinIdx (fun i x h =>
          if s.sensorPresent ⟨i, h⟩ then x.take (tickReading base core i) else x) } }
    let s2 := faults.foldl (fun (t : State) (x : Fin 128 × Nat) => t.sensorFault x.1 x.2) s1
    let s3 := s2.updateModes.updateCodes.updatePeaks
    .next (if s3.mgmt.ready then (List.finRange 5).foldl State.unitEvent s3 else s3)

/-- The bin of a reading (R302). -/
def histogramBin (r : Int) : Nat :=
  if r < -2000 then 0 else if 6250 ≤ r then 166 else (41 + r / 50).toNat

/-- One second in a unit's histogram: its 16-bit counter saturates (R302, R303, R18). -/
def addSecond (hist : List (Nat × Nat)) (r : Option Int) : List (Nat × Nat) :=
  match r with
  | none => hist
  | some v =>
    let k := histogramBin v
    if hist.any (fun e => e.1 == k) then hist.map (fun e => if e.1 == k then (k, min (e.2 + 1) 0xFFFF) else e)
    else hist ++ [(k, 1)]

/-- HISTOGRAM_SECOND (R302). -/
def execHistogramSecond (s : State) : Result :=
  if s.inReset then .next s
  else
    .next { s with thermal := { s.thermal with
      hist := s.thermal.hist.mapFinIdx (fun i x h => addSecond x (s.thermal.second[i]))
      second := Vector.replicate 5 none } }

/-- HISTOGRAM_FOLD (R303). -/
def execHistogramFold (s : State) : Result := .next s.foldHistograms

/-! ## The trip -/

/-- The condition of R296 holds for the sensor, with the latch clear and the stack out of reset (R300). -/
def State.trips (s : State) (i : Fin 128) (reading : BitVec 16) (repeatOk : Bool) : Bool :=
  !s.inReset && !s.thermal.trip
    && (decide (i.val < 64) || (s.sensorPresent i && s.thermal.sensors[i].valid && decide (6000 ≤ reading.toInt) && repeatOk))

/-- What a trip leaves of an operation: a test or a CAL_RUN ends at its step boundary (R71), the others are abandoned. -/
def QuiesceOp.afterTrip : QuiesceOp → Option QuiesceOp
  | .test n => some (.test n)
  | .calRun mode k seq => some (.calRun mode k seq)
  | _ => none

/-- A channel at a trip (Table 10-4): the Taper stops, posted chains and staged writes are abandoned, and a channel that
is not failed enters core-die self-refresh. -/
def Channel.trip (h : Channel) (sids : Nat) : Channel :=
  let h1 := { ((if h.isFailed then h else h.coreSleep sids).updRegs (fun r => { r with clearing := 0 })) with
    taper := { h.taper with threads := [], stopped := true, armed := false } }
  h1.updPcs (fun q => { q with
    calendar := [], staging := [], writeFifo := [], tsvCapture := [], captured := [], returns := [], lanes := none
    drive := .idle, copy := none, op := q.op.bind (·.afterTrip), batch := none })

/-- TRIP_LATCH_SET (R296, R297): the latch and CATTRIP are set, every channel stops, the fuse controller's
pulses stop, event type 9 is queued. The trip record waits for TRIP_RECORD. -/
def execTripLatchSet (i : Fin 128) (reading : BitVec 16) (repeatOk : Bool) (s : State) : Result :=
  if s.trips i reading repeatOk then
    let s1 := (s.cutFuse.updAll (·.trip s.sids)).updNv (fun n => { n with trips := bump n.trips })
    .next ({ s1 with thermal := { s1.thermal with trip := true, cattrip := true, tripBy := some (i, reading) } }.event 9)
  else .next s

/-- The modes of the SIDs as MR06 codes them, S3 highest. -/
def State.modeByte (s : State) : Byte :=
  BitVec.ofNat 8 ((List.finRange 4).foldl (fun acc x => acc + (s.modeCode x).toNat * 4 ^ x.val) 0)

/-- TRIP_RECORD: Lantern C writes the trip record once no Quince operation runs (R297, R298). -/
def execTripRecord (s : State) : Result :=
  match s.thermal.tripBy with
  | some (i, r) =>
    if s.power.booted && s.quince.op.isNone then
      let past := s.thermal.sensors[i].past
      let body := natBytes 2 i.val ++ natBytes 2 r.toNat
        ++ (List.range 16).flatMap (fun k => natBytes 2 (past.getD k 0x8000).toNat) ++ [s.modeByte]
      .next ({ s with thermal := { s.thermal with tripBy := none } }.ledger 0x0B body)
    else .next s
  | none => .next s

end Sys2Proof.Machine
end

