-- ==== Sys2Proof/Machine/Training.lean ====
section
/-! DEFINITION. Training stages, FINISH and baselines, tracking, re-centring, and the calibration of the TSVs (07). -/

namespace Sys2Proof.Machine

/-! ## Lane records and baselines -/

/-- LMSIG of a channel: CRC-32C of its five lane-map registers (Table 7-9). -/
def Channel.lmsig (h : Channel) : Word32 := crc32c ((h.map.sg.toList ++ [h.map.ca]).flatMap wordBytes)

/-- STATE of a lane record (Table 7-10): 0 in service, 1 marginal, 2 spare on standby, 3 unused or failed. -/
def Channel.laneState (h : Channel) (k : Fin 100) : Nat :=
  let u := h.map.unit (laneUnit k)
  if h.lanes[k].disabled || (laneSpare k && u.bad) || h.map.replaced k then 3
  else if h.lanes[k].marginal then 1
  else if laneSpare k && !u.en then 2
  else 0

/-- The lane is one of the command buses. -/
def laneCa (k : Fin 100) : Bool := decide (78 ≤ k.val)

/-- A lane record (Table 7-10): the reference values. -/
def Channel.laneRecord (h : Channel) (k : Fin 100) : BitVec 64 :=
  let l := h.lanes[k]
  let txeq : Nat := if laneCa k then 0 else (h.trn.txeq[k.val / 39 % 2]'(Nat.mod_lt _ (by decide))).toNat
  let tx : Nat := if laneCa k then 0 else l.refTx.toNat
  BitVec.ofNat 64 (l.refRx.toNat * 2 ^ 52 + tx * 2 ^ 40 + l.refVref.toNat * 2 ^ 30 + l.refCtle.toNat * 2 ^ 27
    + l.refDfe.toNat * 2 ^ 22 + txeq * 2 ^ 19 + h.laneState k * 2 ^ 17 + min l.rejects 7 * 2 ^ 14 + l.settle.toNat * 2 ^ 8)

/-- The hottest base-die sensor as a blob holds it (Table 7-8); 8000h where there is none. -/
def State.tcap (s : State) : BitVec 16 :=
  match s.unitReading 4 with
  | some r => BitVec.ofInt 16 r
  | none => 0x8000

/-- The baseline of a channel as it stands (R208, R212). -/
def State.baselineOf (s : State) (c : Ch) : Baseline :=
  let h := s.chans[c]
  { bin := s.wick.binAct, lmsig := h.lmsig, tcap := s.tcap, lanes := (List.finRange 100).map h.laneRecord
    ckPhase := h.ckPhase, occ := h.occ, groups := h.groups.toList, measured := h.tsv.measured, tsv := h.tsv.trims }

/-- Region 4 of the eFuse, which holds DIEID, failed its check, so that no baseline matches (R194, Table 16-4). -/
def State.dieIdLost (s : State) : Bool := s.fuse.invalid.getLsbD 4

/-- The baseline of a channel: that of a CAL_RESTORE where one was accepted, else of the stored record (R194). -/
def State.baseline (s : State) (c : Ch) : Option Baseline :=
  match s.chans[c].trn.restored with
  | some b => some b
  | none => (s.nv.baselines.find? (fun x => x.1 == c)).map (·.2)

/-- A baseline is usable for stage 1 (R194). -/
def State.baseUsable (s : State) (c : Ch) : Bool := !s.dieIdLost && (s.baseline c).isSome

/-- BASE_VALID: an eligible baseline exists (R194, Table 7-2): its LMSIG is that of the lane map as stage 2 left it. -/
def State.baseValid (s : State) (c : Ch) : Bool :=
  match s.baseline c, s.unitReading 4 with
  | some b, some hot =>
    !s.dieIdLost && b.bin == s.wick.binAct && some b.lmsig == s.chans[c].trn.lmsig && decide (hot - b.tcap.toInt ≤ 1250)
      && decide (b.tcap.toInt - hot ≤ 1250)
  | _, _ => false

/-! ## TRN_CTL -/

/-- TRN_CTL as it reads: GO, ABORT and FINISH read 0 (Table 7-1). -/
def Channel.trnCtl (h : Channel) : Word32 :=
  let t := h.trn
  BitVec.ofNat 32 (t.pcsel.toNat * 2 ^ 27 + t.warm.toNat * 2 ^ 26 + t.stage.toNat * 2 ^ 23 + t.txeq[0].toNat * 2 ^ 20
    + t.txeq[1].toNat * 2 ^ 17)

/-- TRN_STAT as it reads (Table 7-2). -/
def State.trnStat (s : State) (c : Ch) : Word32 :=
  let t := s.chans[c].trn
  BitVec.ofNat 32 (t.busy.toNat * 2 ^ 31 + t.done.toNat * 2 ^ 30 + t.last.toNat * 2 ^ 27 + t.warmUsed.toNat * 2 ^ 26
    + t.resCa.toNat * 2 ^ 24 + t.resPc[0].toNat * 2 ^ 22 + t.resPc[1].toNat * 2 ^ 20 + (s.baseValid c).toNat * 2 ^ 19
    + t.aborted.toNat * 2 ^ 18 + t.elapsed.toNat)

/-- The pseudo-channels a stage acts on: 1 to 3 the whole channel, 4 to 7 those of PCSEL (R183). -/
def stageUnits (n : Nat) (pcsel : BitVec 2) : BitVec 2 := if n ≤ 3 then 3 else pcsel

/-- Stage n - 1 has passed for every unit the GO acts on (R183). For the whole-channel stages 2 and 3 a pseudo-channel that
failed does not hold back the other (R42). -/
def Training.gate (t : Training) (n : Nat) (units : BitVec 2) : Bool :=
  let prev := t.stageRes (n - 1)
  let named : List (BitVec 2) := (if units.getLsbD 0 then [prev[1]] else []) ++ (if units.getLsbD 1 then [prev[2]] else [])
  if n = 1 then true
  else if n ≤ 3 then prev[0] == 0 && named.any (· == 0) && named.all (fun r => r == 0 || r == 2)
  else if n = 4 then prev[0] == 0 && named.all (· == 0)
  else named.all (· == 0)

/-- GO may start stage n (R183, R187): otherwise it is refused. Stages 3 to 7 ask for closed banks in every pseudo-channel they
act on. -/
def Channel.goAccepted (h : Channel) (n : Nat) (units : BitVec 2) : Bool :=
  let closed := (!units.getLsbD 0 || h.pcs[0].allClosed) && (!units.getLsbD 1 || h.pcs[1].allClosed)
  h.ready && decide (0 < n) && units != 0 && h.trn.gate n units
    && (if n ≤ 2 then !h.pcs[0].ready && !h.pcs[1].ready else closed)

/-- A refused GO sets DONE with every result 11b (R183). It clears ABORTED, as no stage was ended by it (DESIGN CHOICE,
assumption 107). -/
def Training.refuse (t : Training) : Training :=
  { t with done := true, aborted := false, resCa := 3, resPc := Vector.replicate 2 3 }

/-- The results of the stages from n on are 11b for the units acted on (R183). -/
def Training.resetFrom (t : Training) (n : Nat) (units : BitVec 2) : Training :=
  { t with res := t.res.mapFinIdx (fun k r _ =>
      if n ≤ k then r.mapFinIdx (fun u x _ =>
        if (if u = 0 then decide (n ≤ 3) else units.getLsbD (u - 1)) then 3 else x) else r) }

/-- GO for the stage in STAGE (R183, R187, R194): ignored and counted while BUSY, refused, or started. warm: the stage
starts from a baseline. In the static phase of stage 2 the MX32 holds its RDQS (R48). -/
def Channel.go (h : Channel) (now : Nat) (warm : Bool) : Channel :=
  let n := h.trn.stage.toNat
  let units := stageUnits n h.trn.pcsel
  if h.trn.busy then h.updCnt (fun k => { k with goIgnored := bump k.goIgnored })
  else if h.goAccepted n units then
    let t := h.trn.resetFrom n units
    { h with
      pcs := h.pcs.mapFinIdx (fun i q _ =>
        { (if units.getLsbD i then { q with ready := false } else q) with drive := if n = 2 then .rdqsStatic else q.drive })
      trn := { t with busy := true, acting := units, done := false, aborted := false, last := h.trn.stage, warmUsed := warm
                      saved := some h.lanes, startAt := now, started3 := t.started3 || decide (n = 3) } }
  else { h with trn := h.trn.refuse }

/-- ABORT ends the running stage (R184). -/
def Channel.abortStage (h : Channel) (now : Nat) : Channel := if h.trn.busy then h.stageEnd now true 0 else h

/-- TXEQ_PCn of a write (R202): unchanged while RDY_PCn is 1, unless the write's own GO cleared it. -/
def Channel.setTxeq (h : Channel) (before : Vector Bool 2) (w : Word32) : Channel :=
  { h with trn := { h.trn with txeq := h.trn.txeq.mapFinIdx (fun i v hi =>
      if before[i] && h.pcs[i].ready then v else w.extractLsb' (if i = 0 then 20 else 17) 3) } }

/-- PCSEL, WARM and STAGE of a write (Table 7-1). -/
def Channel.setTrnFields (h : Channel) (w : Word32) : Channel :=
  { h with trn := { h.trn with pcsel := w.extractLsb' 27 2, warm := w.getLsbD 26, stage := w.extractLsb' 23 3 } }

/-! ## FINISH -/

/-- A unit's training failed: a stage left at 01b, or failed and not passed since (R185, R193). -/
def Training.bad (t : Training) (u : Fin 3) : Bool :=
  t.fails.any (fun x => x.2 == u.val) || t.res.toList.any (fun r => r[u] == 1)

/-- FINISH for one pseudo-channel (R185, R186, R193): one that failed the TSV test stays failed. -/
def Channel.finishPc (h : Channel) (p : Pc) : Channel :=
  let q := h.pcs[p]
  if q.tsvFailed then h
  else if h.trn.bad 0 || h.trn.bad ⟨p.val + 1, by omega⟩ then h.updPc p (fun q => { q with failed := true, ready := false })
  else if (h.trn.stageRes 7)[p.val + 1] == 0 then
    h.updPc p (fun q => if q.ready then { q with failed := false }
      else { q.restartObligation with failed := false, ready := true })
  else h

/-- Two delay, Vref, CTLE or DFE codes of lane records differ by more than 4 (R212). -/
def codesFar (a b : BitVec 64) : Bool :=
  let far (lo w : Nat) : Bool := decide (4 < ((a.extractLsb' lo w).toNat : Int) - (b.extractLsb' lo w).toNat)
    || decide (4 < ((b.extractLsb' lo w).toNat : Int) - (a.extractLsb' lo w).toNat)
  far 52 12 || far 40 12 || far 30 10 || far 27 3 || far 22 5

/-- Trim numbers (Table 7-11): read capture phase by group and SID; read fine delay by group, position (18 the spare) and
SID; write launch fine delay by group and position; CA launch fine delay by TSV. -/
def capturePhaseIx (g : Fin 16) (sid : Sid) : Nat := 4 * g.val + sid.val
@[inherit_doc capturePhaseIx] def readDelayIx (g : Fin 16) (pos : Nat) (sid : Sid) : Nat :=
  64 + (19 * g.val + pos) * 4 + sid.val
@[inherit_doc capturePhaseIx] def writeLaunchIx (g : Fin 16) (pos : Nat) : Nat := 1280 + 19 * g.val + pos
@[inherit_doc capturePhaseIx] def caLaunchIx (j : Fin 24) : Nat := 1584 + j.val

/-- The trims of a channel, and their width: 5 bits of a capture phase, 6 of a fine delay (Table 7-11). -/
def trimCount : Nat := 1608
@[inherit_doc trimCount] def trimWidth (ix : Nat) : Nat := if ix < 64 then 5 else 6

/-- The pseudo-channel a trim belongs to: repair groups 0 to 7 are PC0's. The CA TSVs serve both, and their trims are those
that PC0's calibration finds (DESIGN CHOICE, assumption 13). -/
def trimPc (ix : Nat) : Pc :=
  let g := if ix < 64 then ix / 4 else if ix < 1280 then (ix - 64) / 76 else if ix < 1584 then (ix - 1280) / 19 else 0
  ⟨g / 8 % 2, Nat.mod_lt _ (by decide)⟩

/-- The offset that a list of trims holds for one. -/
def trimOffset (trims : List (Nat × Int)) (ix : Nat) : Int := (trims.find? (fun x => x.1 == ix)).elim 0 (·.2)

/-- A trim: measured, a free value of its width, plus its offset (R215, R216). -/
def trimValue (measured : Vector (Option Nat) 2) (trims : List (Nat × Int)) (ix : Nat) : Int :=
  (match measured[trimPc ix] with
    | some seed => ((Config.freeTrim (trimWidth ix) seed ix).toNat : Int)
    | none => 0) + trimOffset trims ix

/-- Two values differ by more than 4 codes. -/
def intFar (a b : Int) : Bool := decide (4 < a - b) || decide (4 < b - a)

/-- A channel's trims differ from a stored baseline by more than 4 codes in some lane or TSV (R212). Of one calibration only the
offsets can differ. -/
def Baseline.differs (b x : Baseline) : Bool :=
  (List.zip b.lanes x.lanes).any (fun y => codesFar y.1 y.2)
    || (if b.measured == x.measured then
          (b.tsv ++ x.tsv).any (fun y => intFar (trimOffset b.tsv y.1) (trimOffset x.tsv y.1))
        else (List.range trimCount).any (fun ix => intFar (trimValue b.measured b.tsv ix) (trimValue x.measured x.tsv ix)))

/-- The channels that passed stage 7 since power-up or change of bin, each with its baseline. -/
def State.passedBaselines (s : State) : List (Ch × Baseline) :=
  ((List.finRange 32).filter (fun c => s.chans[c].trn.passed7)).map (fun c => (c, s.baselineOf c))

/-- R212 asks for a new baseline record. -/
def State.baselinesStale (s : State) : Bool :=
  s.passedBaselines.any (fun x => match s.nv.baselines.find? (fun y => y.1 == x.1) with
    | some y => y.2.bin != x.2.bin || x.2.differs y.2
    | none => true)

/-- The physical sector that the next baseline record goes to: the one that holds the older record, of logical sectors 60 and 61
in turn, or one of the pool where none holds it (R212, Table 15-9). -/
def NonVolatile.baseSector (n : NonVolatile) : Option (Fin 255) :=
  match n.physical (60 + (n.baseSeq + 1) % 2) with
  | some (i, _) => if h : i < 255 then some ⟨i, h⟩ else none
  | none => (n.poolSector).bind (fun x => if h : x.1 < 255 then some ⟨x.1, h⟩ else none)

/-- Write the baseline record that is due once Quince is free: the older record's sector is erased first, and what it held is
lost from then on (R212, R213). -/
def State.driveBaselines (s : State) : State :=
  if !s.mgmt.baseDue || !s.mgmt.ready then s
  else s.withQuince (match s.nv.baseSector with
    | none => s
    | some i => ((s.updMgmt (fun m => { m with baseDue := false })).updNv (fun n =>
        { n with oldBaselines := [], oldBaseSeq := 0 })).startNv .eraseMain (some i) none (.baseErase i) none)

/-- After FINISH Lantern C writes a new baseline record where R212 asks for one. -/
def State.saveBaselines (s : State) : State :=
  if s.mgmt.ready && s.baselinesStale then (s.updMgmt (fun m => { m with baseDue := true })).driveBaselines else s

/-- FINISH (R185): ignored while BUSY; the health triggers and the baseline record follow (R483, R212). -/
def State.finish (s : State) (c : Ch) : State :=
  if s.chans[c].trn.busy then s
  else ((s.updCh c (fun h => (h.finishPc 0).finishPc 1)).evalHealth).saveBaselines

/-- Warm start for the stage a write names (R194): the baseline is usable for stage 1, eligible for stages 3 to 7. -/
def State.warmStart (s : State) (c : Ch) (w : Word32) : Bool :=
  w.getLsbD 26 && (if (w.extractLsb' 23 3) = 1 then s.baseUsable c
    else decide (3 ≤ (w.extractLsb' 23 3).toNat) && s.baseValid c)

/-- A write of TRN_CTL: the fields, then ABORT, FINISH and GO, then TXEQ (Table 7-1, R183 to R187, R202). -/
def State.trnWrite (s : State) (c : Ch) (w : Word32) : State :=
  let before := (s.chans[c].pcs.map (·.ready))
  let s1 := s.updCh c (·.setTrnFields w)
  let s2 := if w.getLsbD 30 then s1.updCh c (·.abortStage s.timeUs) else s1
  let s3 := if w.getLsbD 29 then s2.finish c else s2
  let s4 := if w.getLsbD 31 then s3.updCh c (·.go s.timeUs (s.warmStart c w)) else s3
  s4.updCh c (·.setTxeq before w)

/-- TRN_GO: the write's GO bit is 1. -/
def execTrnGo (c : Ch) (w : Word32) (s : State) : Result := .next (s.trnWrite c (w ||| 0x80000000#32))

/-- TRN_ABORT (R184). -/
def execTrnAbort (c : Ch) (s : State) : Result := .next (s.updCh c (·.abortStage s.timeUs))

/-- TRN_FINISH (R185). -/
def execTrnFinish (c : Ch) (s : State) : Result := .next (s.finish c)

/-! ## The end of a stage -/

/-- The class of a bump in stage 1 (R190). -/
inductive BumpClass where
  | connected | shortVss | openOrSupply | shortNeighbour | levels
  deriving DecidableEq, Repr

/-- A voltage of a connected bump, in mV (R190). -/
def mvConnected (v : Nat) : Bool := decide (20 ≤ v) && decide (v ≤ 150)

/-- The classification of phase A and the level check of phase B (R190). -/
def classifyBump (r : BumpReading) : BumpClass :=
  if 10 < r.quiet ∨ 250 < r.first then .openOrSupply
  else if r.first < 10 then .shortVss
  else if !mvConnected r.first && !(mvConnected r.second && mvConnected r.third) then
    (if r.first < 20 then .shortVss else .openOrSupply)
  else if r.near ≤ 5 then .shortNeighbour
  else if !(r.high && r.low) then .levels
  else .connected

/-- The bumps that fail stage 1 (R190): one that the report does not list is plainly connected. -/
def failingBumps (rep : StageReport) : List Bump :=
  (rep.bumps.filter (fun r => classifyBump r != .connected)).map (·.bump)

/-- The lanes among failing bumps. -/
def failLanes (bumps : List Bump) : List (Fin 100) :=
  bumps.filterMap (fun b => match b with
    | .lane k => some k
    | _ => none)

/-- The lanes of a unit that a spare can replace, among failing lanes. -/
def failing (lanes : List (Fin 100)) (u : Fin 6) : List (Fin 100) := lanes.filter (fun k => laneUnit k == u && !laneSpare k)

/-- The spare of the unit is among the failing lanes. -/
def spareFails (lanes : List (Fin 100)) (u : Fin 6) : Bool := lanes.any (fun k => laneUnit k == u && laneSpare k)

/-- The strobe groups whose WDQS or RDQS fails (Table 2-7). -/
def strobeFails (bumps : List Bump) (g : Fin 4) : Bool := bumps.contains (.wdqs g) || bumps.contains (.rdqs g)

/-- Set FAILED of the register that holds a unit (Tables 2-8, 2-9). -/
def LaneMap.setFailed (m : LaneMap) (u : Fin 6) : LaneMap := m.updWord u (fun w => setBits w 31 1 1)

/-- Clear what stages 1 and 2 rebuild in a unit (R47): an assignment by training, proposals, BAD, FAILED, and the
polarity and mirror bits. -/
def LaneMap.clearUnit (m : LaneMap) (u : Fin 6) : LaneMap :=
  let byTraining := (m.unit u).src == 2
  m.updWord u (fun w =>
    let w1 := setBits w 31 1 0
    if u.val < 4 then
      let w2 := setBits (setBits (setBits w1 24 6 0) 21 2 0) 12 1 0
      if byTraining then setBits (setBits (setBits w2 13 5 0) 18 1 0) 19 2 0 else w2
    else if u.val = 4 then
      let w2 := setBits (setBits (setBits w1 24 5 0) 29 1 0) 8 1 0
      if byTraining then setBits (setBits (setBits w2 14 4 0) 18 1 0) 5 2 0 else w2
    else
      let w2 := setBits (setBits w1 19 5 0) 7 1 0
      if byTraining then setBits (setBits (setBits w2 9 4 0) 13 1 0) 3 2 0 else w2)

/-- A repair of a unit that stands through stage 1 covers a failing bump: of a strobe group in place or, where stage 2 finds it
mirrored, in code 15 - n (R41, R51, Table 2-5). -/
def UnitMap.mayCover (now : UnitMap) (u : Fin 6) (code : Nat) : Bool :=
  now.en && (now.pos == code || (decide (u.val < 4) && decide (code < 16) && now.pos == 15 - code))

/-- Stage 1 for one unit (R41, R42, Table 2-7): a failing spare is marked bad; one failing lane takes a free spare; a fault
beyond that sets FAILED. One failing lane that a repair may already replace does not count. Answers whether the unit passes. -/
def LaneMap.stage1Unit (m : LaneMap) (lanes : List (Fin 100)) (u : Fin 6) : LaneMap × Bool :=
  let m1 := if spareFails lanes u then m.spareBad u else m
  let now := m1.unit u
  let covered := (failing lanes u).filter (fun k => now.mayCover u (laneCode k))
  let beyond := (failing lanes u).filter (fun k => !now.mayCover u (laneCode k)) ++ covered.drop 1
  if now.en && now.bad then (m1.setFailed u, false)
  else match beyond with
    | [] => (m1, true)
    | [k] => if m1.spareFree u then (m1.assign u (laneCode k) 2, true) else (m1.setFailed u, false)
    | _ => (m1.setFailed u, false)

/-- Fold a unit's treatment over the six units of a channel. -/
def LaneMap.eachUnit (m : LaneMap) (f : LaneMap → Fin 6 → LaneMap × Bool) : LaneMap × List (Fin 6) :=
  (List.finRange 6).foldl (fun (acc : LaneMap × List (Fin 6)) u =>
    let (m', ok) := f acc.1 u
    (m', if ok then acc.2 else acc.2 ++ [u])) (m, [])

/-- The results CA, PC0, PC1 that failing units give (Table 2-7). -/
def unitResults (bad : List (Fin 6)) : Vector (BitVec 2) 3 :=
  #v[if bad.any (fun u => decide (4 ≤ u.val)) then 2 else 0,
     if bad.any (fun u => decide (u.val < 2)) then 2 else 0,
     if bad.any (fun u => decide (2 ≤ u.val) && decide (u.val < 4)) then 2 else 0]

/-- A strobe group as a unit of the lane map. -/
def groupUnit (g : Fin 4) : Fin 6 := ⟨g.val, by omega⟩

/-- Stage 1: the lane map's training part is rebuilt and spares are assigned (R41, R47); a failing WDQS or RDQS fails its group,
a failing CK the command buses (Table 2-7); marginal marks and disabled drivers end (R205, R345). -/
def Channel.stage1 (h : Channel) (rep : StageReport) : Channel × Vector (BitVec 2) 3 :=
  let bumps := failingBumps rep
  let lanes := failLanes bumps
  let cleared := (List.finRange 6).foldl (fun (m : LaneMap) u => m.clearUnit u) h.map
  let (m, bad) := cleared.eachUnit (fun m u => m.stage1Unit lanes u)
  let strobes := ((List.finRange 4).filter (strobeFails bumps)).map groupUnit ++ (if bumps.contains .ck then [4] else [])
  ({ h with map := strobes.foldl LaneMap.setFailed m
            trn := { h.trn with failed1 := lanes, turned := 0 }
            lanes := h.lanes.map (fun l => { l with marginal := false, disabled := false, rejects := 0 }) },
   unitResults (bad ++ strobes))

/-- The lane code that the bump of a lane received in stage 2 (R48): its own where the report does not list it. -/
def codeAt (rep : StageReport) (k : Fin 100) : Nat :=
  ((rep.codes.find? (fun x => x.1 == k)).map (·.2)).getD (laneCode k)

/-- The bumps of a unit that stage 2 reads: those that stage 1 did not find failing. -/
def Channel.readable (h : Channel) (u : Fin 6) : List (Fin 100) :=
  (List.finRange 100).filter (fun k => laneUnit k == u && !h.trn.failed1.contains k)

/-- Every bump of a unit received its own lane code; the 16 DQ bumps of a group received theirs reversed and the others their own
(R51). -/
def Channel.inPlace (h : Channel) (rep : StageReport) (u : Fin 6) : Bool :=
  (h.readable u).all (fun k => codeAt rep k == laneCode k)
@[inherit_doc Channel.inPlace] def Channel.mirrored (h : Channel) (rep : StageReport) (u : Fin 6) : Bool :=
  (h.readable u).all (fun k => codeAt rep k == (if laneCode k < 16 then 15 - laneCode k else laneCode k))

/-- A repair that stage 1 did not assign replaces the lanes that failed there, in the host's codes (R41, R51). -/
def LaneMap.repairCovers (m : LaneMap) (failed : List (Fin 100)) (g : Fin 4) (mirror : Bool) : Bool :=
  let now := m.unit (groupUnit g)
  !now.en || now.src == 2 || (failing failed (groupUnit g)).all (fun k =>
    now.pos == (if mirror && decide (laneCode k < 16) then 15 - laneCode k else laneCode k))

/-- Stage 2 for a strobe group (R49, R51): MIRROR and WDQS_INV; an assignment by training moves to the host's code, once. -/
def LaneMap.stage2Group (m : LaneMap) (g : Fin 4) (mirror inv turned : Bool) : LaneMap :=
  let now := m.unit (groupUnit g)
  let m1 := m.updWord (groupUnit g) (fun w => setBits (setBits w 21 1 mirror.toNat) 22 1 inv.toNat)
  if mirror != turned && now.en && now.src == 2 && decide (now.pos < 16) then m1.assign (groupUnit g) (15 - now.pos) 2 else m1

/-- The groups of a set of four, as bits. -/
def groupBits (f : Fin 4 → Bool) : BitVec 4 := BitVec.ofNat 4 ((List.finRange 4).foldl (fun acc g => acc + (f g).toNat * 2 ^ g.val) 0)

/-- Stage 2 (R48 to R51): the codes that the bumps received tell each group identity, mirrored or permuted, and each command bus
identity or permuted; LMSIG of the lane map it leaves stands for R194. -/
def Channel.stage2 (h : Channel) (rep : StageReport) : Channel × Vector (BitVec 2) 3 :=
  let mirror (g : Fin 4) : Bool := !h.inPlace rep (groupUnit g) && h.mirrored rep (groupUnit g)
  let m1 := (List.finRange 4).foldl (fun (m : LaneMap) g =>
    m.stage2Group g (mirror g) (rep.wdqsInv.getLsbD g.val) (h.trn.turned.getLsbD g.val)) h.map
  let bad := ((List.finRange 4).filter (fun g =>
      !(h.inPlace rep (groupUnit g) || mirror g) || !m1.repairCovers h.trn.failed1 g (mirror g))).map groupUnit
    ++ (if h.inPlace rep 4 then [] else [4]) ++ (if h.inPlace rep 5 then [] else [5])
  let h1 : Channel := { h with map := bad.foldl LaneMap.setFailed { m1 with ca := setBits m1.ca 29 1 rep.ckInv.toNat } }
  ({ h1 with trn := { h.trn with turned := groupBits mirror, lmsig := some h1.lmsig } }, unitResults bad)

/-! ### Criteria of the later stages -/

/-- 0.50 UI, as eye widths are coded: 1/256 UI (Table 7-3). -/
def eyeHalf : Nat := 128

/-- A lane that the report lists meets the criterion of a stage (Table 7-3): the eye width of 3, found edges of 5, a valid Vref
and 30 mV of 6, width and height of 7. -/
def measureMeets (e : LaneMeasure) (n : Nat) : Bool :=
  if n = 3 then decide (eyeHalf ≤ e.width.toNat)
  else if n = 5 then e.found
  else if n = 6 then decide (e.vref.toNat ≤ 799) && decide (30 ≤ e.height.toNat)
  else if n = 7 then decide (eyeHalf ≤ e.width.toNat) && decide (30 ≤ e.height.toNat)
  else true

/-- A lane is judged in a stage: a lane in service or a spare, of the command buses in stage 3, else of the data lanes of the
pseudo-channels the stage acts on; a replaced lane is not (R38, R189). -/
def Channel.judged (h : Channel) (n : Nat) (k : Fin 100) : Bool :=
  !h.map.replaced k && (if n = 3 then laneCa k else decide (n ≠ 4) && !laneCa k && (unitPcs (laneUnit k) &&& h.trn.acting) != 0)

/-- The lanes that fail a stage's criterion (R189). -/
def Channel.failEyes (h : Channel) (n : Nat) (rep : StageReport) : List (Fin 100) :=
  (rep.eyes.filter (fun e => h.judged n e.lane && !measureMeets e n)).map (·.lane)

/-- A strobe group's first WDQS edge lies outside WL ± 2 tCK, in 1/64 tCK (Table 7-3, stage 4). -/
def edgeLate (rep : StageReport) (g : Fin 4) : Bool :=
  rep.arrival.any (fun x => x.1 == g && (decide (128 < x.2) || decide (x.2 < -128)))

/-- A unit in stages 3, 5, 6 and 7 (R193): an unused spare that fails is bad; one failing lane with a free spare is
proposed and repairable. The result of the unit. -/
def LaneMap.eyeUnit (m : LaneMap) (lanes : List (Fin 100)) (u : Fin 6) : LaneMap × BitVec 2 :=
  let m1 := if spareFails lanes u && !(m.unit u).en then m.spareBad u else m
  if (m1.unit u).en && spareFails lanes u then (m1, 2)
  else match failing lanes u with
    | [] => (m1, 0)
    | [k] => if m1.spareFree u then (m1.propose k, 1) else (m1, 2)
    | _ => (m1, 2)

/-- The worse of two results: failed, then repairable, then pass. -/
def worse (a b : BitVec 2) : BitVec 2 := if a = 2 ∨ b = 2 then 2 else if a = 1 ∨ b = 1 then 1 else 0

/-- The cycles of the fixed stages of a read (Table 4-2): intake, TSV command, core-die access, TSV data, read processing,
transmit. -/
def fixedStages (bin : BitVec 2) : List Nat :=
  [byBin bin 3 4 4 5, 3, coreRlOf bin, 3, byBin bin 4 6 7 9, byBin bin 3 3 4 4]

/-- The occupancy of a SID, in 1/8 tCK: RL less the measured path, which exceeds its fixed stages by so much (R104). -/
def occupancy (bin : BitVec 2) (excess : Int) : Byte :=
  BitVec.ofInt 8 (max 0 (min 255 (8 * (rlOf bin : Int) - (8 * ((fixedStages bin).foldl (· + ·) 0 : Int) + excess))))

/-- The occupancies that stage 7 sets: of the pseudo-channels acted on and the SIDs present; 0 for an absent one (Table 7-9). -/
def Channel.occupancies (h : Channel) (rep : StageReport) (bin : BitVec 2) (sids : Nat) : List Byte :=
  (List.range 8).map (fun i =>
    if !h.trn.acting.getLsbD (i / 4) then h.occ.getD i 0
    else if i % 4 < sids then occupancy bin (rep.path.getD i 0) else 0)

/-- The occupancy a bin must reach for 2.5 ns, in 1/8 tCK (Table 7-3 stage 7). -/
def occLimit (bin : BitVec 2) : Nat := byBin bin 16 20 25 32

/-- Some SID present of a pseudo-channel has less than 2.5 ns of occupancy. -/
def occLow (occ : List Byte) (p : Pc) (sids limit : Nat) : Bool :=
  (List.range sids).any (fun j => decide ((occ.getD (4 * p.val + j) 0).toNat < limit))

/-- Stages 3 to 7 (R189, R193): stage 3 judges the command buses, stage 4 the strobes, stages 5 to 7 the data lanes, stage
7 the occupancy as well. -/
def Channel.eyeStage (h : Channel) (n : Nat) (rep : StageReport) (occ : List Byte) (sids limit : Nat) :
    Channel × Vector (BitVec 2) 3 :=
  let lanes := h.failEyes n rep
  let step (acc : LaneMap × Vector (BitVec 2) 3) (u : Fin 6) : LaneMap × Vector (BitVec 2) 3 :=
    let (m, r) := acc.1.eyeUnit lanes u
    let k : Fin 3 := if 4 ≤ u.val then 0 else if u.val < 2 then 1 else 2
    (m, acc.2.set k (worse acc.2[k] r))
  let (m, res) := (List.finRange 6).foldl step (h.map, Vector.replicate 3 0)
  let other (p : Pc) : BitVec 2 :=
    if (n = 7 && occLow occ p sids limit) || (n = 4 && (List.finRange 4).any (fun g => g.val / 2 == p.val && edgeLate rep g)) then 2 else 0
  ({ h with map := m }, #v[res[0], worse res[1] (other 0), worse res[2] (other 1)])

/-- Record a stage's results: a pseudo-channel failed at the stage before stays failed; failures and passes are kept for
FINISH (R183, R185). -/
def Training.record (t : Training) (n : Nat) (units : BitVec 2) (r : Vector (BitVec 2) 3) : Training :=
  let acts (u : Nat) : Bool := if u = 0 then decide (n ≤ 3) else units.getLsbD (u - 1)
  let prev := t.stageRes (n - 1)
  let res : Vector (BitVec 2) 3 := (t.stageRes n).mapFinIdx (fun u x hu =>
    if !acts u then x else if decide (1 < n) && u != 0 && prev[u] == 2 then 2 else r[u])
  let now := (List.finRange 3).filter (fun u => acts u.val && res[u] == 2)
  let kept := t.fails.filter (fun x => !(x.1 == n && acts x.2 && (decide (x.2 < 3)) && res.toList.getD x.2 3 == 0))
  { t with
    res := t.res.set! n res
    fails := kept ++ (now.map (fun u => (n, u.val))).filter (fun x => !kept.contains x)
    resCa := if acts 0 then res[0] else 3
    resPc := #v[if acts 1 then res[1] else 3, if acts 2 then res[2] else 3] }

/-! ### What a stage leaves -/

/-- A free value between two bounds. -/
def freeWithin (seed lo hi : Nat) : Nat := lo + (Config.freeBits 12 seed).toNat % (hi - lo + 1)

/-- A code held within a span of the baseline's (R195). -/
def nearCode (base span v : Nat) : Nat := max (base - span) (min (base + span) v)

/-- What stages 3 and 5 to 7 measure of a lane: as listed, else free values that meet the criterion (R189, Table 7-3); seed
numbers them. A warm stage finds delays within 32 codes and Vref within 16 of the baseline's record (R195, Table 7-10). -/
def measureOf (rep : StageReport) (k : Fin 100) (seed : Nat) (base : Option (BitVec 64)) : LaneMeasure :=
  let e : LaneMeasure := match rep.eyes.find? (fun e => e.lane == k) with
    | some e => e
    | none => { lane := k, found := true, width := byteOf (freeWithin seed eyeHalf 255)
                height := byteOf (freeWithin (seed + 1) 30 255), rx := Config.freeBits 12 (seed + 2)
                tx := Config.freeBits 12 (seed + 3), vref := BitVec.ofNat 10 (freeWithin (seed + 4) 0 799)
                ctle := Config.freeBits 3 (seed + 5), dfe := Config.freeBits 5 (seed + 6) }
  match base with
  | none => e
  | some b => { e with
      rx := BitVec.ofNat 12 (min 4095 (nearCode (b.extractLsb' 52 12).toNat 32 e.rx.toNat))
      tx := BitVec.ofNat 12 (min 4095 (nearCode (b.extractLsb' 40 12).toNat 32 e.tx.toNat))
      vref := BitVec.ofNat 10 (min 799 (nearCode (b.extractLsb' 30 10).toNat 16 e.vref.toNat)) }

/-- A lane as a stage leaves it (Table 7-3): its delay, Vref and transmit launch as the stage centres them. -/
def Lane.measured (l : Lane) (n : Nat) (ca : Bool) (e : LaneMeasure) : Lane :=
  let tx : BitVec 12 := if ca then 0 else e.tx
  let timed (l : Lane) : Lane := { l with live := e.rx, refRx := e.rx, net := 0, since := 0, drift := 0, pending := none }
  let launch (l : Lane) : Lane := { l with liveTx := tx, refTx := tx, txTarget := none }
  let height (l : Lane) : Lane := { l with liveVref := e.vref, refVref := e.vref }
  if n = 3 then (if ca then height (timed l) else l)
  else if ca then l
  else if n = 5 then launch (timed l)
  else if n = 6 then height l
  else if n = 7 then
    { height (launch (timed l)) with
      liveCtle := e.ctle, refCtle := e.ctle, liveDfe := e.dfe, refDfe := e.dfe, width := e.width, height := e.height }
  else l

/-- The settling time that stage 1 records for a lane's bump (R194, Table 7-10): the baseline's in a warm stage, where it has
one, else what the cold one measures, a free value where the report does not list the bump. -/
def settleOf (rep : StageReport) (k : Fin 100) (seed : Nat) (base : Option (BitVec 64)) : BitVec 6 :=
  let cold : BitVec 6 := match rep.bumps.find? (fun r => r.bump == .lane k) with
    | some r => r.settle
    | none => Config.freeBits 6 seed
  match base with
  | some b => if b.extractLsb' 8 6 = 0 then cold else b.extractLsb' 8 6
  | none => cold

/-- The trims of the lanes and groups a stage acts on take what it measured: stage 1 the settling times, stage 3 the CK receiver
delay too, stage 4 the write crossing phase, stage 5 the RDQS transmit delay, stage 7 the occupancies (Tables 7-3, 7-9). base is
the baseline that a warm stage starts from. -/
def Channel.measure (h : Channel) (n seed : Nat) (rep : StageReport) (base : Option Baseline) (occ : List Byte) : Channel :=
  let units := h.trn.acting
  let old (k : Nat) : Option (BitVec 64) := base.bind (fun b => b.lanes[k]?)
  { h with
    lanes := h.lanes.mapFinIdx (fun i l hi =>
      if n = 1 then { l with settle := settleOf rep ⟨i, hi⟩ (seed + 8 * i) (old i) }
      else if h.map.replaced ⟨i, hi⟩ || (unitPcs (laneUnit ⟨i, hi⟩) &&& units) = 0 then l
      else l.measured n (laneCa ⟨i, hi⟩) (measureOf rep ⟨i, hi⟩ (seed + 8 * i) (old i)))
    ckPhase := if n = 3 then Config.freeBits 16 (seed + 800) else h.ckPhase
    groups := h.groups.mapFinIdx (fun g w _ =>
      if !units.getLsbD (g / 2) then w
      else if n = 4 then Config.freeBits 8 (seed + 801 + g) ++ w.extractLsb' 0 56
      else if n = 5 then groupRdqs w (Config.freeBits 12 (seed + 805 + g))
      else w)
    rdqs := h.rdqs.mapFinIdx (fun g r _ =>
      if n = 5 && units.getLsbD (g / 2) then { live := Config.freeBits 12 (seed + 805 + g) } else r)
    occ := if n = 7 then occ else h.occ }

/-- The baseline that the running stage started from: stage 1 takes its settling times, a warm search that meets its criterion
its trims (R194, R195). -/
def State.warmBase (s : State) (c : Ch) (rep : StageReport) : Option Baseline :=
  let t := s.chans[c].trn
  if t.warmUsed && (t.last.toNat < 3 || rep.warmMet) then s.baseline c else none

/-- STAGE_COMPLETE: the running stage ends with its results, DONE and its duration (R188, R189, R193 to R195, R201). -/
def execStageComplete (c : Ch) (rep : StageReport) (s : State) : Result :=
  let h := s.chans[c]
  if !h.trn.busy then .next s
  else
    let n := h.trn.last.toNat
    let occ := h.occupancies rep s.wick.binAct s.sids
    let (h1, r) := if n = 1 then h.stage1 rep else if n = 2 then h.stage2 rep
      else h.eyeStage n rep occ s.sids (occLimit s.wick.binAct)
    let h2 := h1.measure n s.fresh rep (s.warmBase c rep) occ
    let t := h2.trn.record n h2.trn.acting r
    let passed := decide (n = 7) && ((h2.trn.acting.getLsbD 0 && (t.stageRes 7)[1] == 0)
      || (h2.trn.acting.getLsbD 1 && (t.stageRes 7)[2] == 0))
    let h3 := { (h2.updPcs (fun q => if n = 2 then { q with drive := .idle } else q)) with
      trn := { t with busy := false, done := true, aborted := false, saved := none, elapsed := t.duration s.timeUs
                      warmUsed := t.warmUsed && (decide (n < 3) || rep.warmMet)
                      passed7 := t.passed7 || passed, ever7 := t.ever7 || passed }
      regs := if passed then { h2.regs with lmwDue := false } else h2.regs
      intake := if passed then { h2.intake with gathered := 0 } else h2.intake }
    .next ({ s with fresh := s.fresh + 1000 }.updCh c (fun _ => h3)).evalHealth

/-! ## Tracking -/

/-- A window's counts step a lane by one code toward the centre (R197). -/
def Lane.window (l : Lane) (early late : Nat) : Lane :=
  if early + late < 32 then l
  else if early + 8 ≤ late then l.track true
  else if late + 8 ≤ early then l.track false
  else l

/-- TRACKING_WINDOW (R197, R198); TRACK_FREEZE of MR13 in lab mode stops it (Table 3-16a). A replaced lane is not sampled (R38).
A step is counted in the status bank. -/
def execTrackingWindow (c : Ch) (counts : List LaneCount) (s : State) : Result :=
  if s.mgmt.lab && s.chans[c].regs.mr13.getLsbD 2 then .next s
  else
    .next (s.updCh c (fun h => (counts.filter (fun x => !h.map.replaced x.lane)).foldl (fun (k : Channel) x =>
      let l := k.lanes[x.lane].window x.early x.late
      { k with
        lanes := k.lanes.set x.lane l
        cnt := if l.live = k.lanes[x.lane].live then k.cnt else { k.cnt with trackSteps := bump k.cnt.trackSteps } }) h))

/-- A rejected result of a lane (R205): the third in a row marks it marginal. Lantern D does not act while the management
plane is down. -/
def State.reject (s : State) (c : Ch) (k : Fin 100) (last : List Byte) : State :=
  let n := s.chans[c].lanes[k].rejects + 1
  let s1 := s.updCh c (fun h => { h with lanes := h.lanes.set k { h.lanes[k] with rejects := n } })
  if 3 ≤ n && !s.chans[c].lanes[k].marginal && s.mgmt.ready then s1.laneMarginal c k last else s1

/-- CLAMP_MS: a lane held at its clamp for 1 ms counts as a rejected result, and the ledger records it (R198); of a lane that does
not stand there nothing is due. -/
def execClampMs (c : Ch) (k : Fin 100) (s : State) : Result :=
  let l := s.chans[c].lanes[k]
  .next (if (l.drift = 64 ∨ l.drift = -64) ∧ !s.chans[c].map.replaced k then
    (s.ledger 0x07 [byteOf c.val, byteOf k.val]).reject c k l.lastResult else s)

/-! ## Re-centring -/

/-- LMW_DUE: 1 ms since the last pass, once stage 7 has been passed (R201, Table 3-13). -/
def execLmwDue (c : Ch) (s : State) : Result :=
  .next (s.updCh c (fun h => if h.trn.passed7 then h.updRegs (fun r => { r with lmwDue := true }) else h))

/-- RECENTRING_PASS_COMPLETE: 120 driven cycles have been gathered; LMW_DUE clears, and the eyes of the pass are captured (R21,
R201). In a holdover episode re-centring measures nothing (R316), and while the management plane is down windows pass unused
(Table 1-3). -/
def execRecentringPassComplete (c : Ch) (s : State) : Result :=
  .next (if s.mgmt.ready && s.wick.state == .run then s.updCh c (fun h =>
    if 120 ≤ h.intake.gathered then
      { (h.updRegs (fun r => { r with lmwDue := false })) with
        intake := { h.intake with gathered := 0 }, lanes := h.lanes.map (fun l => { l with since := 0 }) }
    else h) else s)

/-- |a - b| of two codes. -/
def codeShift (a b : Nat) : Nat := (a - b) + (b - a)

/-- A result meets Table 7-6. -/
def Lane.plausible (l : Lane) (e : EyeResult) : Bool :=
  decide (116 ≤ e.width.toNat) && decide (codeShift e.rx.toNat l.refRx.toNat ≤ 40)
    && decide (codeShift e.tx.toNat l.refTx.toNat ≤ 40)
    && decide (16 ≤ e.vref.toNat) && decide (e.vref.toNat ≤ 783) && decide (codeShift e.vref.toNat l.refVref.toNat ≤ 40)

/-- A CTLE or DFE proposal clipped to one code of the reference (Table 7-6). -/
def clipCode {w : Nat} (ref v : BitVec w) : BitVec w :=
  if ref.toNat + 1 < v.toNat then ref + 1 else if v.toNat + 1 < ref.toNat then ref - 1 else v

/-- The bytes of a lane's last result in the LANE_MARGINAL record. -/
def resultBytes (e : EyeResult) : List Byte :=
  natBytes 2 e.rx.toNat ++ natBytes 2 e.vref.toNat ++ [e.ctle.setWidth 8, e.dfe.setWidth 8, e.width]

/-- One lane's result (R204, R205): accepted as the pending target, with the net steps since the capture of its eye (R21), its
rejects reset, or discarded. A replaced lane is not sampled (R38). -/
def State.takeResult (s : State) (c : Ch) (e : EyeResult) : State :=
  let l := s.chans[c].lanes[e.lane]
  if s.chans[c].map.replaced e.lane then s
  else
    let s1 := s.updCh c (fun h => { h with lanes := h.lanes.set e.lane { l with lastResult := resultBytes e } })
    if l.plausible e then
      s1.updCh c (fun h => { h with lanes := h.lanes.set e.lane { l with
        pending := some { e with ctle := clipCode l.refCtle e.ctle, dfe := clipCode l.refDfe e.dfe }
        net := l.since, rejects := 0, width := e.width, height := e.height, lastResult := resultBytes e } })
    else s1.reject c e.lane (resultBytes e)

/-- A strobe group's RDQS transmit delay from a pass: pending where its shift from the reference is plausible (R203, R204, Tables
7-6, 7-9). -/
def Channel.takeRdqs (h : Channel) (x : Fin 4 × BitVec 12) : Channel :=
  if codeShift x.2.toNat ((h.groups[x.1]).extractLsb' 44 12).toNat ≤ 40 then
    { h with rdqs := h.rdqs.set x.1 { h.rdqs[x.1] with pending := some x.2 } }
  else h

/-- RECENTRING_RESULT: Lantern D checks the results of a pass (R204). -/
def execRecentringResult (c : Ch) (results : PassResults) (s : State) : Result :=
  .next (if s.mgmt.ready then
    (results.lanes.foldl (fun (t : State) e => t.takeResult c e) s).updCh c (fun h => results.rdqs.foldl Channel.takeRdqs h)
  else s)

/-- One code from a live value toward its target. -/
def stepToward (v t : BitVec 12) : BitVec 12 :=
  if v.toNat < t.toNat then v + 1 else if t.toNat < v.toNat then v - 1 else v

/-- One code of slew toward the transmit target (R202). -/
def Lane.slew (l : Lane) : Lane :=
  match l.txTarget with
  | none => l
  | some t => { l with liveTx := stepToward l.liveTx t, txTarget := if stepToward l.liveTx t = t then none else some t }

/-- The same for the RDQS of a strobe group (R202). -/
def RdqsTrim.slew (r : RdqsTrim) : RdqsTrim :=
  match r.target with
  | none => r
  | some t => { r with live := stepToward r.live t, target := if stepToward r.live t = t then none else some t }

/-- TX_SLEW_STEP (R202): of a lane or, from 100, of the RDQS of a strobe group. -/
def execTxSlewStep (c : Ch) (k : Fin 104) (s : State) : Result :=
  .next (s.updCh c (fun h =>
    if hk : k.val < 100 then { h with lanes := h.lanes.set k.val (h.lanes[k.val]).slew }
    else { h with rdqs := h.rdqs.set (k.val - 100) (h.rdqs[k.val - 100]'(by omega)).slew (by omega) }))

/-! ## TSV calibration -/

/-- The offset of a trim from what the last full calibration measured. -/
def TsvPort.offset (t : TsvPort) (ix : Nat) : Int := trimOffset t.trims ix

/-- A trim of the channel (Table 7-11). -/
def TsvPort.trim (t : TsvPort) (ix : Nat) : Int := trimValue t.measured t.trims ix

/-- Move a trim by a code. -/
def TsvPort.stepTrim (t : TsvPort) (ix : Nat) (d : Int) : TsvPort :=
  let v := t.offset ix + d
  { t with trims := if t.trims.any (fun x => x.1 == ix) then t.trims.map (fun x => if x.1 == ix then (ix, v) else x)
                    else t.trims ++ [(ix, v)] }

/-- One report of the TSV calibration thread (R216): the read fine delay moves one code, later for late reads; at the end of
its range the capture phase moves instead. -/
def TsvPort.eval (t : TsvPort) (r : TsvReport) : TsvPort :=
  let ix := readDelayIx r.group r.pos.val r.sid
  let d : Int := if r.late then 1 else -1
  if r.early == r.late then t
  else
    let v := t.trim ix + d
    if 0 ≤ v ∧ v ≤ 63 then t.stepTrim ix d
    else
      let p := t.trim (capturePhaseIx r.group r.sid) + d
      if 0 ≤ p ∧ p ≤ 31 then t.stepTrim (capturePhaseIx r.group r.sid) d else t

/-- A report marks its TSV marginal: for 1 ms its spread exceeds 0.45 UI, or its fine delay or its group's capture phase stands at
the end of its range (R216). -/
def TsvPort.marginalBy (t : TsvPort) (r : TsvReport) : Bool :=
  let v := t.trim (readDelayIx r.group r.pos.val r.sid)
  let p := t.trim (capturePhaseIx r.group r.sid)
  r.lasted && (decide (116 ≤ r.spread.toNat) || v == 0 || v == 63 || p == 0 || p == 31)

/-- A posted action is a read chain of a SID between its TSV RD and its capture. -/
def Posted.readsSid (a : Posted) (sid : Sid) : Bool :=
  match a with
  | .read x _ _ _ _ | .scrubRead x _ _ _ _ | .copyRead x _ _ _ => x == sid
  | _ => false

/-- No read chain of the report's SID and repair group lies between its TSV RD and its capture, so that a trim may move (R216). -/
def Channel.trimFree (h : Channel) (r : TsvReport) : Bool :=
  let p : Pc := ⟨r.group.val / 8, by omega⟩
  h.pcs[p].calendar.all (fun a => !a.readsSid r.sid)

/-- TSV_CAL_EVAL (R216): the thread of entry 45 runs while the core-die clocks run. -/
def execTsvCalEval (c : Ch) (reports : List TsvReport) (s : State) : Result :=
  if s.chans[c].tsv.clocks && !s.chans[c].taper.stopped then
    let s0 := s.updCh c (fun h => h.eventThread (s.haltMaint c) 45 (pcAddr 0) none [])
    .next (reports.foldl (fun (t : State) r =>
      let t1 := t.updCh c (fun h => if h.trimFree r then { h with tsv := h.tsv.eval r } else h)
      if t1.chans[c].tsv.marginalBy r then t1.tsvMarginal c r.group r.pos else t1) s0)
  else .next s

/-- Queue a service command on the bus of its layer (R123, R136); it is sent at once where the bus is free. -/
def SvcBus.enqueue (b : SvcBus) (x : SvcCmd) : SvcBus :=
  match b.cmd with
  | none => { b with cmd := some x, sent := serviceFrame x.lid x.sop x.addr x.wdata }
  | some _ => { b with queue := b.queue ++ [x] }

/-- The service bus of a layer: north for positions 0 and 1 (R123). -/
def busOf (l : Fin 16) : Fin 2 := ⟨l.val % 4 / 2, by omega⟩

/-- Send a service command (R136). -/
def State.service (s : State) (x : SvcCmd) : State :=
  { s with buses := s.buses.set (busOf x.lid) (s.buses[busOf x.lid].enqueue x) }

/-- The TSVREP register of a channel's group in its layers (Table 5-18). -/
def tsvRepAddr (c : Ch) (g : Fin 16) : Nat := 0x1000 + 16 * (c.val % 8) + g.val

/-- TSVREP write to the layer that serves a channel in a SID (R143, R217). -/
def tsvRepCmd (c : Ch) (sid : Sid) (g : Fin 16) (en : Bool) (pos : Nat) (purpose : SvcPurpose) : SvcCmd :=
  { lid := layerOf c sid, sop := 0, addr := BitVec.ofNat 16 (tsvRepAddr c g)
    wdata := BitVec.ofNat 16 (en.toNat * 32 + pos), purpose := purpose }

/-- The SIDs present whose layers a move has still to reach, the lowest first (R217). -/
def State.moveLeft (s : State) (done : List Sid) : List Sid :=
  (List.finRange 4).filter (fun sid => s.sidPresent sid && !done.contains sid)

/-- Start moving a TSV to its group's free spare (R217): TSVREP goes to one layer at a time. -/
def State.startMove (s : State) (c : Ch) (g : Fin 16) (pos : Fin 18) : State :=
  let t := s.chans[c].tsv
  if (t.repair[g]).isSome || t.move.isSome then s
  else
    let s1 := s.updCh c (fun h => { h with tsv := { h.tsv with move := some (g, pos, [], false) } })
    match s.moveLeft [] with
    | sid :: _ => s1.service (tsvRepCmd c sid g true pos.val (.tsvMove c))
    | [] => s1

/-- TSV_SPARE_MOVE (R217): of a TSV marked marginal, while the management plane runs. -/
def execTsvSpareMove (c : Ch) (g : Fin 16) (pos : Fin 18) (s : State) : Result :=
  .next (if s.mgmt.ready && s.chans[c].tsv.marginal.contains (g, pos.castSucc) then s.startMove c g pos else s)

end Sys2Proof.Machine
end

