-- ==== Sys2Proof/Machine/Layers.lean ====
section
/-! DEFINITION. What a core die does with the commands of its service bus (Tables 5-11 to 5-19, R136, R137, R139, R141, R142). -/

namespace Sys2Proof.Machine

/-- Change the die of a layer. -/
def State.updDie (s : State) (l : Fin 16) (f : CoreDie → CoreDie) : State :=
  { s with dies := s.dies.set l (f s.dies[l]) }

/-! ## Configuration registers -/

/-- A configuration register of a layer as CFG_RD reads it; none at an address that Tables 5-14 to 5-18 do not name. -/
def State.layerReg (s : State) (l : Fin 16) (a : Nat) : Option (BitVec 16) :=
  let d := s.dies[l]
  match a with
  | 0 => some (BitVec.ofNat 16 (l.val * 4096 + d.dens.toNat * 2048 + d.maker.toNat))
  | 1 => some (d.coreRl.setWidth 16)
  | 2 => some (d.tsvTest.setWidth 16)
  | 3 => some (BitVec.ofNat 16 (s.frmErr l))
  | _ => if 0x1000 ≤ a ∧ a < 0x1080 then some ((sparseGet d.tsvRep (a - 0x1000)).setWidth 16) else none

/-- A register takes a value; the read-only ones keep theirs (R8). -/
def CoreDie.setReg (d : CoreDie) (a : Nat) (v : BitVec 16) : CoreDie :=
  match a with
  | 1 => { d with coreRl := v.extractLsb' 0 6 }
  | 2 => { d with tsvTest := v.extractLsb' 0 4 }
  | _ => if 0x1000 ≤ a ∧ a < 0x1080 then { d with tsvRep := sparseSet d.tsvRep (a - 0x1000) (v.extractLsb' 0 6) } else d

/-! ## Soft repair -/

/-- The channel and pseudo-channel of a spare index in a layer, and the mapping of a row onto that spare (Table 5-19). -/
def softTarget (x : SvcCmd) : Ch × Pc × SpareMap :=
  let i := x.addr.toNat % 1024
  (⟨8 * (x.lid.val % 4) + i / 128, by omega⟩, ⟨i / 64 % 2, by omega⟩,
    { bank := bankAt ⟨x.lid.val / 4, by omega⟩ ⟨i / 4 % 16, by omega⟩, spare := ⟨i % 4, by omega⟩
      row := x.wdata.extractLsb' 0 15, hard := false })

/-- What SOFTREP_SET answers (R142): FAIL for a spare with a valid record; BAD_CMD for a row above the last valid one, or
mapped to another spare of the bank. -/
def State.softAnswer (s : State) (x : SvcCmd) : Nat :=
  let (c, p, m) := softTarget x
  if (sparseGet (s.dies[x.lid]).antifuse (x.addr.toNat % 1024)).getLsbD 31 then 5
  else if s.rows ≤ m.row.toNat
      || (s.chans[c].pcs[p].spares).any (fun y => y.bank == m.bank && y.row == m.row && y.spare != m.spare) then 3
  else 0

/-- A soft mapping is set or removed: at once, or at SREF_EXIT while the layer is in self-refresh (R139, R142). -/
def State.softChange (s : State) (x : SvcCmd) (set : Bool) : State :=
  let (c, p, m) := softTarget x
  s.updCh c (fun h => h.updPc p (fun q =>
    if h.tsv.coreSr.getLsbD (x.lid.val / 4) then { q with sparesDue := q.sparesDue ++ [(set, m)] } else q.remapCells s.rows set m))

/-! ## Commands -/

/-- What a layer answers to a command, its status of Table 5-12 and RDATA, and what it does. While an operation is pending it
answers all but POLL with BUSY and does nothing (R137). programs: the bit of a FUSE_PGM verifies. A POLL with nothing pending and
a register that no table names are answered with BAD_CMD (DESIGN CHOICE, log 106). SENSE_RD reports what the sample tick brings. -/
def State.layerServes (s : State) (x : SvcCmd) (programs : Bool) : Nat × Word32 × State :=
  let d := s.dies[x.lid]
  let a := x.addr.toNat
  match x.sop.toNat, d.pend with
  | 8, some (st, r) => (st, r, s.updDie x.lid (fun d => { d with pend := none }))
  | 8, none => (3, 0, s)
  | _, some _ => (2, 0, s)
  | 0, none => ((if (s.layerReg x.lid a).isSome then 0 else 3), 0, s.updDie x.lid (·.setReg a x.wdata))
  | 1, none => match s.layerReg x.lid a with
    | some v => (0, v.setWidth 32, s)
    | none => (3, 0, s)
  | 2, none => (0, 0, s)
  | 3, none => (1, 0, s.updDie x.lid (fun d => { d with pend := some (0, sparseGet d.antifuse (a % 2048)) }))
  | 4, none =>
    (1, 0, s.updDie x.lid (fun d => { d with
      antifuse := if programs then sparseSet d.antifuse (a % 2048) (sparseGet d.antifuse (a % 2048) ||| (1#32 <<< (x.wdata.toNat % 32)))
                  else d.antifuse
      pend := some (if programs then 0 else 5, 0) }))
  | 5, none => if s.softAnswer x = 0 then (0, 0, s.softChange x true) else (s.softAnswer x, 0, s)
  | 6, none => (0, 0, s.softChange x false)
  | 7, none =>
    let n := ((d.odecc.find? (fun y => y.1 == a % 16)).map (·.2)).getD (0, 0)
    (0, BitVec.ofNat 32 (n.2 * 65536 + n.1), s.updDie x.lid (fun d => { d with odecc := d.odecc.filter (fun y => y.1 != a % 16) }))
  | _, none => (3, 0, s)

/-- The frame of a command on the bus of its layer (Table 5-11). -/
def SvcCmd.frame (x : SvcCmd) : BitVec 48 := serviceFrame x.lid x.sop x.addr x.wdata

/-- POLL of the layer of a command. -/
def SvcCmd.poll (x : SvcCmd) : SvcCmd := { x with sop := 8, addr := 0, wdata := 0 }

/-- A command's frame goes out and its layer answers. -/
def State.sendTo (s : State) (x : SvcCmd) (programs : Bool) : Nat × Word32 × State :=
  ({ s with buses := s.buses.set (busOf x.lid) { s.buses[busOf x.lid] with sent := x.frame } }).layerServes x programs

/-- The answer to a command, and to POLL where it is PENDING (R137). -/
def State.sendAndPoll (s : State) (x : SvcCmd) (programs : Bool) : Nat × Word32 × State :=
  match s.sendTo x programs with
  | (1, _, s1) => s1.sendTo x.poll programs
  | answer => answer

/-- A whole exchange with a layer within one command of the block (R136, R137). A layer that still holds an earlier operation
answers BUSY: POLL fetches its result and the command goes out again (DESIGN CHOICE, log 106). -/
def State.exchange (s : State) (x : SvcCmd) (programs : Bool := true) : Nat × Word32 × State :=
  match s.sendTo x programs with
  | (1, _, s1) => s1.sendTo x.poll programs
  | (2, _, s1) => (s1.sendTo x.poll programs).2.2.sendAndPoll x programs
  | answer => answer

/-- A service command with no purpose of its own. -/
def svcCmd (l : Fin 16) (sop : BitVec 4) (addr wdata : Nat) : SvcCmd :=
  { lid := l, sop := sop, addr := BitVec.ofNat 16 addr, wdata := BitVec.ofNat 16 wdata, purpose := .config }

/-- FUSE_RD of an anti-fuse word (R472). -/
def State.fuseRd (s : State) (l : Fin 16) (w : Nat) : Word32 × State :=
  let (_, v, s1) := s.exchange (svcCmd l 3 w 0)
  (v, s1)

/-- FUSE_RD of words one after another. -/
def State.fuseRdAll (s : State) (l : Fin 16) (words : List Nat) : List Word32 × State :=
  words.foldl (fun (acc : List Word32 × State) w =>
    let (v, t) := acc.2.fuseRd l w
    (acc.1 ++ [v], t)) ([], s)

/-- FUSE_PGM of one bit of a word (R473). -/
def State.fusePgm (s : State) (l : Fin 16) (w bit : Nat) (programs : Bool) : State :=
  (s.exchange (svcCmd l 4 w bit) programs).2.2

/-- One FUSE_PGM for each bit wanted and not yet set, in ascending order; those of failBits do not verify (R473). -/
def State.programBits (s : State) (l : Fin 16) (w : Nat) (want failBits : Word32) : State :=
  (List.range 32).foldl (fun (t : State) b =>
    if want.getLsbD b && !(sparseGet (t.dies[l]).antifuse w).getLsbD b then t.fusePgm l w b (!failBits.getLsbD b) else t) s

end Sys2Proof.Machine
end

