-- ==== Sys2Proof/Machine/Retention.lean ====
section
/-! DEFINITION. Refresh debt and internal refresh (R223, R251), retention profiling and the map's durable copy (R239 to
R246), and the scrubber's and the bucket's clocks (R262, R268). -/

namespace Sys2Proof.Machine

/-! ## Debt and internal refresh -/

/-- TREFI_ACCRUAL: a 975 ns tick of a pseudo-channel and SID. While the host is obliged, an advance accrues in every bank at
a tick whose number is a multiple of the mode's spacing (R223); REF_URGENT follows where a debt rises above the limit
(R224). -/
def execTrefiAccrual (c : Ch) (p : Pc) (sid : Sid) (s : State) : Result :=
  if !s.chans[c].obliged p || !s.sidPresent sid then .next s
  else
    let n := s.chans[c].pcs[p].ticks[sid] + 1
    let due := n % (s.thermal.mode[sid]).ticks == 0
    let s1 := s.updPc c p (fun q =>
      let q1 := { q with ticks := q.ticks.set sid n }
      if due then q1.updSid sid (fun b => { b with debt := b.debt + s.advance }) else q1)
    .next (s1.raiseUrgent s c)

/-- The MX32 refreshes a pseudo-channel itself: quiesced, in managed self-refresh, or not ready, with a table loaded and the
SID's layers out of self-refresh (R251, R186, R71). -/
def Channel.selfRefreshes (h : Channel) (p : Pc) (sid : Sid) : Bool :=
  h.taper.active.verified && !h.taper.stopped && !h.tsv.coreSr.getLsbD sid.val
    && (h.pcs[p].qact || !h.pcs[p].ready || (h.regs.srAct && h.regs.srManaged))

/-- The lease of internal refresh: the channel in managed self-refresh, else the pseudo-channel (R164). -/
def Channel.ownLease (h : Channel) (p : Pc) : Lease := if h.regs.srAct && h.regs.srManaged then channelLease else pcLease p

/-- INTERNAL_REF: an internal REF of a pseudo-channel and SID, spent as Table 8-5 orders with a capacity of 48 units; the
debt stays at zero (R251). With the Baltil table its thread has placed the work and ended with the command (log 5); with a
staged table the rows are handed to the threads of entry 39 and those of the slack (R10, R164). -/
def execInternalRef (c : Ch) (p : Pc) (sid : Sid) (s : State) : Result :=
  if !s.chans[c].selfRefreshes p sid || !s.sidPresent sid then .next s
  else
    let x := s.refCtx c p sid
    .next (s.updCh c (fun h =>
      if h.taper.active.baltil then h.refreshWork x p (sidBanks sid) 48 false
      else
        let (q, owed) := h.pcs[p].handOut x (sidBanks sid) false
        (h.updPc p (fun _ => q)).refThreads x 39 (bankAddr p sid 0 0 0 0) (h.ownLease p) owed))

/-! ## Profiling -/

/-- A map index lies in the SID's groups, outside the reserved rows (R233, R234). -/
def groupOk (rows : Nat) (sid : Sid) (adapt : Bool) (g : Nat) : Bool :=
  decide (mapIndex rows sid 0 0 ≤ g) && decide (g < mapIndex rows sid 15 (rows / 4))
    && !(adapt && decide (sid.val = 0) && decide (rows / 4 - 4 ≤ g % (rows / 4)))

/-- A temperature rounded down to a whole degree, in 0.02 degC units (R239). -/
def wholeDegree (r : Int) : Int := r / 50 * 50

/-- The conditions under which the profiler starts a batch (R239, R242, R251, Table 1-3): the map is in a state of Table
8-7 that profiles, the SID's hottest sensor reads 45 to 95 degC, the batch before is durable and its copies are not still to be
written back (DEDUCED, log 103). -/
def State.mayProfile (s : State) (c : Ch) (p : Pc) (sid : Sid) : Bool :=
  let h := s.chans[c]
  let q := h.pcs[p]
  s.mgmt.ready && h.regs.adaptAct && q.mapState != .disabled && q.batch.isNone && q.restores.isEmpty && !q.undurable
    && !h.regs.srAct && !s.haltMaint c && !h.taper.stopped && s.sidPresent sid
    && match s.unitReading ⟨sid.val, by omega⟩ with
      | some r => decide (2250 ≤ r) && decide (r ≤ 4750)
      | none => false

/-- The groups of a batch that starts, each with copy rows of its own (Table 8-4a). -/
def batchGroups (groups : List Nat) : List ProfileGroup :=
  ((List.finRange 16).zip groups).map (fun x => { index := x.2, slot := x.1 })

/-- PROFILE_BATCH_START (R239): up to 16 groups, each at step N; the copies are made in the slack of refresh commands, or by the
profiler's threads of a staged table, which start here where a lease is to be had (R235, Table 6-8 entries 41 and 42). -/
def execProfileBatchStart (c : Ch) (p : Pc) (sid : Sid) (groups : List Nat) (s : State) : Result :=
  if s.mayProfile c p sid && !groups.isEmpty && decide (groups.length ≤ 16) && decide groups.Nodup
      && groups.all (groupOk s.rows sid s.chans[c].regs.adaptAct) then
    let t0 := wholeDegree ((s.unitReading ⟨sid.val, by omega⟩).getD 0)
    .next (s.updCh c (fun h =>
      let h1 := h.updPc p (fun q => { q with batch := some { sid := sid, step := 0, groups := batchGroups groups, t0 := t0 } })
      if h.pcs[p].qact then h1.eventThread (s.haltMaint c) 41 (pcAddr p) (some (pcLease p)) [] else h1))
  else .next s

/-- A weak-row entry word of profiling (Table 8-4). -/
def weakWord (i : Fin 64) (row : Nat) : BitVec 32 := BitVec.ofNat 32 (2 ^ 31 + i.val * 2 ^ 25 + row * 2 ^ 10 + 2 ^ 8)

/-- A row qualifies for the weak-row list: it is listed, or, with the list full, becomes a repair candidate (R230, R231). -/
def State.listRow (s : State) (c : Ch) (p : Pc) (i : Fin 64) (row : Nat) : State :=
  let q := s.chans[c].pcs[p]
  if q.weak.any (fun w => weakRow w i row) then s
  else if q.weak.length < 8192 then
    s.updPc c p (fun q =>
      { q.setWeak s.rows s.chans[c].regs.adaptAct (weakInsert (weakWord i row) q.weak) with undurable := true })
  else s.foundCandidate c p (accessNo (bankSid i) ⟨i.val % 16, by omega⟩ (BitVec.ofNat 15 row) 0) 3

/-- How often a code's rows are refreshed, in windows of four: N and unprofiled 4, S 2, V 1. -/
def codeRate (code : BitVec 2) : Nat := match code.toNat with
  | 1 => 2
  | 2 => 1
  | _ => 4

/-- A group ends its sequence with a code, which its map row takes (R240): a more frequent one is a demotion, to be durable within
2 ms; a less frequent one a promotion (R242). -/
def PseudoChannel.endSequence (q : PseudoChannel) (rows : Nat) (adapt : Bool) (g : Nat) (code : BitVec 2) : PseudoChannel :=
  let old := sparseGet q.bins g
  { q.setCode rows adapt g code with
    undurable := q.undurable || decide (codeRate old < codeRate code)
    promoted := q.promoted || decide (codeRate code < codeRate old) || (old == 3 && code == 0)
    profiled := if q.profiled.contains g then q.profiled else g :: q.profiled }

/-- A group fails its step: its sequence ends with a code, and its four rows are rewritten from the copies (R240). -/
def State.failGroup (s : State) (c : Ch) (p : Pc) (g : ProfileGroup) (code : BitVec 2) : State :=
  s.updPc c p (fun q => { q.endSequence s.rows s.chans[c].regs.adaptAct g.index code with
    restores := q.restores ++ g.restores s.rows none })

/-- The verdict of one group at a step (R240): answers whether it stays in the batch. -/
def State.groupVerdict (s : State) (c : Ch) (p : Pc) (step : Nat) (g : ProfileGroup) : State × Bool :=
  if g.bad = 0 then
    if step < 2 then (s, true)
    else (s.updPc c p (·.endSequence s.rows s.chans[c].regs.adaptAct g.index 2), false)
  else
    match step with
    | 0 => ((((List.range 4).filter (g.bad.getLsbD ·)).foldl (fun (t : State) r =>
        t.listRow c p (groupBank s.rows g.index) (groupRow s.rows g.index + r)) s).failGroup c p g 0, false)
    | 1 => (s.failGroup c p g 0, false)
    | _ => (s.failGroup c p g 1, false)

/-- A group as it begins its next step. -/
def ProfileGroup.again (g : ProfileGroup) : ProfileGroup := { index := g.index, slot := g.slot }

/-- Every group's 64 accesses have been read and decoded. -/
def ProfileBatch.decided (b : ProfileBatch) : Bool := b.ended && b.groups.all (fun g => g.read == 4 && g.awaited == 0)

/-- The verdicts of a batch whose reads are decoded; the groups that pass go on to their next step (R239, R240). -/
def State.batchVerdict (s : State) (c : Ch) (p : Pc) (b : ProfileBatch) : State :=
  let (s1, left) := b.groups.foldl (fun (acc : State × List ProfileGroup) g =>
    let (t, stays) := acc.1.groupVerdict c p b.step g
    (t, if stays then acc.2 ++ [g.again] else acc.2)) (s, [])
  let t0 := wholeDegree ((s.unitReading ⟨b.sid.val, by omega⟩).getD b.t0)
  s1.updPc c p (fun q => { q with
    batch := if left.isEmpty then none else some { b with step := b.step + 1, groups := left, t0 := t0, ended := false } })

/-- PROFILE_VERDICT: the test interval of a batch whose rows are copied ends, from when its reads are due; once all of them are
decoded, the step's verdicts (R239, R240). -/
def execProfileVerdict (c : Ch) (p : Pc) (moment : ProfileMoment) (s : State) : Result :=
  match s.chans[c].pcs[p].batch, moment with
  | none, _ => .next s
  | some b, .readsDecoded => .next (if b.decided then s.batchVerdict c p b else s)
  | some b, .intervalEnd =>
    if !b.ended && b.groups.all (fun g => g.copied == 4) then
      .next (s.updCh c (fun h =>
        let h1 := h.updPc p (fun q => { q with batch := some { b with ended := true } })
        if h.pcs[p].qact then h1.eventThread (s.haltMaint c) 42 (pcAddr p) (some (pcLease p)) [] else h1))
    else .next s

/-! ## The durable map -/

/-- DELTA_LOG_WRITE: the pending verdicts are durable in the delta log, promotions with them (R242). -/
def execDeltaLogWrite (c : Ch) (p : Pc) (s : State) : Result :=
  let q := s.chans[c].pcs[p]
  if s.power.booted && (q.undurable || q.promoted) && q.mapState != .disabled then
    .next ((s.updPc c p (fun q => { q with undurable := false, promoted := false })).updNv (fun n =>
      n.logDeltas (pcUnit c p) (q.liveMap.delta (n.logged (pcUnit c p)))))
  else .next s

/-- Groups that a rebuild of a pseudo-channel passes through its sequence (R245): all but those of the reserved rows. -/
def State.groupCount (s : State) : Nat := 16 * s.sids * (s.rows / 4) - 64

/-- Every channel and pseudo-channel. -/
def allPcs : List (Ch × Pc) := (List.finRange 32).flatMap (fun c => (List.finRange 2).map (fun p => (c, p)))

/-- The profiler has passed every group of a pseudo-channel in FALLBACK (R245). -/
def State.rebuilt (s : State) (c : Ch) (p : Pc) : Bool :=
  let q := s.chans[c].pcs[p]
  q.mapState == .fallback && decide (s.groupCount ≤ q.profiled.length)

/-- A pseudo-channel's live map goes into a generation: it is loaded or imported, or its rebuild is complete (R243, R245). -/
def State.mapStands (s : State) (c : Ch) (p : Pc) : Bool :=
  let q := s.chans[c].pcs[p]
  q.mapState == .loaded || q.mapState == .imported || s.rebuilt c p

/-- A generation is due: the delta log is three-quarters full, some code has changed since the newest one, or a rebuild is
complete (R243, R245). -/
def State.generationDue (s : State) : Bool :=
  decide (deltaMark ≤ s.nv.deltaLog.length) || decide (s.nv.mapSeq < s.nv.deltaSeq)
    || allPcs.any (fun x => s.chans[x.1].pcs[x.2].undurable || s.chans[x.1].pcs[x.2].promoted || s.rebuilt x.1 x.2)

/-- A pseudo-channel's map as a generation stores it: groups that do not fit its slot are N, in the live map too, and are
profiled again (R243; DESIGN CHOICE, log 117). -/
def State.reduceMap (s : State) (c : Ch) (p : Pc) (number : Nat) : State :=
  let gone := (s.chans[c].pcs[p].bins).filter (fun e => Config.snapshotReduced number (pcUnit c p).val e.1)
  s.updPc c p (fun q => gone.foldl (fun (k : PseudoChannel) e => k.setCode s.rows s.chans[c].regs.adaptAct e.1 0) q)

/-- The slot that a new generation takes: an empty one, else the oldest (R243). -/
def NonVolatile.oldestSlot (n : NonVolatile) : Fin 3 :=
  (List.finRange 3).foldl (fun (acc : Fin 3) k =>
    match n.slots[acc], n.slots[k] with
    | some a, some b => if b.number < a.number then k else acc
    | some _, none => k
    | none, _ => acc) 0

/-- A generation is written, and the records that it includes are erased from the log (R243); with too small a pool the other
slots are given up (Table 17-7). -/
def NonVolatile.writeGeneration (n : NonVolatile) (maps : List (Fin 64 × MapImage)) (only : Bool) : NonVolatile :=
  { n with slots := (if only then Vector.replicate 3 none else n.slots).set n.oldestSlot
             (some { number := n.gen + 1, seq := n.deltaSeq, maps := maps })
           deltaLog := [], mapGap := none }

/-- A pseudo-channel whose map a generation holds: its verdicts are durable, and it is LOADED (R243, R245, Table 8-7). -/
def State.generated (s : State) (c : Ch) (p : Pc) : State :=
  (s.updPc c p (fun q => { q with undurable := false, promoted := false, profiled := [] })).setMapState c p .loaded

/-- SNAPSHOT_GENERATION: the live maps that stand, and of the others the durable copy (R243, R245). -/
def execSnapshotGeneration (s : State) : Result :=
  if !s.power.booted || !s.generationDue then .next s
  else
    let standing := allPcs.filter (fun x => s.mapStands x.1 x.2)
    let s1 := standing.foldl (fun (t : State) x => t.reduceMap x.1 x.2 (s.nv.gen + 1)) s
    let maps := allPcs.filterMap (fun x =>
      (if s.mapStands x.1 x.2 then some (s1.chans[x.1].pcs[x.2]).liveMap else s.durable x.1 x.2).map (fun m => (pcUnit x.1 x.2, m)))
    let s2 := s1.updNv (·.writeGeneration maps s.poolShort)
    .next (standing.foldl (fun (t : State) x => t.generated x.1 x.2) s2).evalHealth

/-- What Lantern C finds in the retention-map area at power-up: generations whose CRC fails are none, and a record that neither
copy gives breaks the sequence if the newest generation does not include it (R244); lost hours in FALLBACK begin anew (R245). -/
def NonVolatile.readMaps (n : NonVolatile) (unread : BitVec 3) (lost : List (Nat × BitVec 2)) (hoursLost : Bool) :
    NonVolatile :=
  let gone := (lost.filter (fun x => x.2 == 3 && n.deltaLog.any (fun d => d.seq == x.1))).map (·.1)
  let n1 := { n with
    slots := n.slots.mapFinIdx (fun i g _ => if unread.getLsbD i then none else g)
    deltaLog := n.deltaLog.filter (fun d => !gone.contains d.seq)
    fbHours := if hoursLost then Vector.replicate 64 none else n.fbHours }
  { n1 with mapGap := (gone.filter (fun k => decide (n1.mapSeq < k))).foldl (fun acc k => some (max k (acc.getD 0))) n.mapGap }

/-- The load of a pseudo-channel's map at power-up (R244, Table 8-7). -/
def State.loadMapOf (s : State) (c : Ch) (p : Pc) : State :=
  let s1 := s.updPc c p (fun q => { q with profiled := [] })
  if s.chans[c].regs.adaptAct then s1.takeUpMap c p none
  else s1.updPc c p (fun q => { q with mapState := .disabled, bins := [], weak := [], lostMap := [] })

/-- The slots of the snapshot generations are read from Quince (R243, R431, Table 15-9). -/
def State.readSlots (s : State) : State := (List.range 3).foldl (fun (t : State) i => t.dmaRead ((24 + 4 * i) * 0x20000)) s

/-- The slots whose read halts its DMA channel: they stand in an execute-only range (R446). -/
def State.hiddenSlots (s : State) : BitVec 3 :=
  BitVec.ofNat 3 ((List.range 3).foldl (fun acc i =>
    if s.quince.executeOnly ((24 + 4 * i) * 0x20000) then acc + 2 ^ i else acc) 0)

/-- Which slots' generations fail their CRC, which copies of each delta record cannot be read, and whether the record of the hours
in FALLBACK is lost, as this load finds them: free values, one bit each (R244, R245; assumption 132). -/
def State.findMaps (s : State) : State :=
  let (found, s1) := s.free 4
  let (lost, s2) := s.nv.deltaLog.foldl (fun (acc : List (Nat × BitVec 2) × State) d =>
    let (copies, t) := acc.2.free 2
    (acc.1 ++ [(d.seq, copies)], t)) ([], s1)
  s2.updNv (·.readMaps (found.extractLsb' 0 3 ||| s.hiddenSlots) lost (found.getLsbD 3))

/-- MAP_LOAD (R244, R245). -/
def execMapLoad (s : State) : Result :=
  .next (if s.power.booted then
    (allPcs.foldl (fun (t : State) x => t.loadMapOf x.1 x.2) s.readSlots.findMaps).evalHealth
  else s)

/-- The loads whose images a management-plane reset discarded are begun anew (R17, R244). -/
def State.resumeLoads (s : State) : State :=
  s.mgmt.loads.foldl (fun (t : State) x => if t.chans[x.1].regs.adaptAct then t.takeUpMap x.1 x.2.1 x.2.2 else t)
    (s.updMgmt (fun m => { m with loads := [] }))

/-! ## The scrubber's and the bucket's clocks -/

/-- SCRUB_CREDIT: a row of credit is earned while the lap clock runs, up to 64 (R268). -/
def execScrubCredit (c : Ch) (p : Pc) (s : State) : Result :=
  .next (s.updPc c p (fun q =>
    if q.lapRuns then { q with scrub := { q.scrub with credit := min 64 (q.scrub.credit + 1) } } else q))

/-- SCRUB_OVERDUE: the lap has run for more than twice its target (R268; event type 7). -/
def execScrubOverdue (c : Ch) (p : Pc) (s : State) : Result :=
  if s.chans[c].pcs[p].lapRuns && !s.chans[c].pcs[p].scrub.overdue then
    let s1 := s.updPc c p (fun q => { q with scrub := { q.scrub with overdue := true } })
    .next (if s.mgmt.ready then s1.event 7 0 (byteOf c.val) (byteOf p.val) else s1)
  else .next s

/-- LEAK_INTERVAL: the bucket loses one count, and a new leak interval begins (R260, R262). -/
def execLeakInterval (c : Ch) (p : Pc) (s : State) : Result :=
  .next (s.updPc c p (fun q => { q with bucket := { q.bucket with count := q.bucket.count - 1, last := none } }))

/-- SRAM_SWEEP: corrected words are counted, words found uncorrectable are recorded (R281, R18). -/
def execSramSweep (corrected : Nat) (bad : List Nat) (s : State) : Result :=
  .next (s.updMgmt (fun m => { m with sramCe := bump m.sramCe corrected, sramBad := m.sramBad ++ bad }))

end Sys2Proof.Machine
end

