-- ==== Sys2Proof/Machine/Repair.lean ====
section
/-! DEFINITION. The layer service buses (R136 to R142), the scrubber's decodes (R265 to R268), soft row repair (R273 to
R275) and the replay of the repair journal (R276, R279). -/

namespace Sys2Proof.Machine

/-! ## Spares -/

/-- A spare is bad: SPARE_BAD is journalled before anything depends on it (R272, R274). -/
def State.markSpareBad (s : State) (c : Ch) (p : Pc) (e : Fin 8) : State :=
  let w := s.chans[c].pcs[p].remap[e]
  let key := spareKey (remapBank w) (remapSpare w)
  let s1 := s.updPc c p (fun q => { q with badSpares := if q.badSpares.contains key then q.badSpares else q.badSpares ++ [key] })
  s1.journalRemap c p e w .spareBad

/-- The spares of a pseudo-channel that the repair journal marks bad (R272, R276). -/
def NonVolatile.badSpares (n : NonVolatile) (c : Ch) (p : Pc) : List Nat :=
  n.repairs.foldl (fun acc r =>
    let key := spareKey (remapBank r.word) (remapSpare r.word)
    if r.action == .spareBad && r.ch == c && r.pc == p && !acc.contains key then acc ++ [key] else acc) []

/-- An entry whose spare is bad moves to another spare, if one can be assigned (MOVE, R274, R279). -/
def State.moveEntry (s : State) (c : Ch) (p : Pc) (e : Fin 8) : State :=
  let w := s.chans[c].pcs[p].remap[e]
  if s.chans[c].pcs[p].badSpares.contains (spareKey (remapBank w) (remapSpare w)) then
    match s.chooseSpare c p (remapBank w) with
    | some k => s.journalRemap c p e (remapWord 1 (remapBank w) k (remapSrc w) (remapRow w)) .move
    | none => s
  else s

/-- The SOFTREP_SET of an entry (Table 5-13, R142). -/
def softRepCmd (c : Ch) (p : Pc) (w : BitVec 32) (purpose : SvcPurpose) : SvcCmd :=
  { lid := layerOf c (bankSid (remapBank w)), sop := 5
    addr := BitVec.ofNat 16 (antifuseWord c p (remapBank w) (remapSpare w))
    wdata := (remapRow w).setWidth 16, purpose := purpose }

/-! ## Remap application -/

/-- A row whose group is under a profiling step is not copied before the step ends (R274). -/
def PseudoChannel.inTest (q : PseudoChannel) (rows : Nat) (bank : Fin 64) (row : Row) : Bool :=
  q.rowInTest rows bank row.toNat

/-- Uncorrectable accesses met by a row copy are put in the ledger (Table 9-7). -/
def State.recordCopyUe (s : State) (c : Ch) (p : Pc) (bank : Fin 64) (row : Row) : State :=
  let q := s.chans[c].pcs[p]
  (List.range 16).foldl (fun (t : State) k =>
    let n := accessNo (bankSid bank) ⟨bank.val % 16, by omega⟩ row (BitVec.ofNat 4 k)
    if q.decodes s.rows n s.chans[c].regs.adaptAct && (decodeManaged (q.readData s.rows n) (q.readCheck s.rows n)).ue
    then t.ledger 0x02 (wordBytes (addrWord c p n) ++ [1]) else t) s

/-- The row copy of an entry begins: the row's accesses fill the row-copy buffer (R273 step 1, R277 step 2), by the thread of entry 43
(Table 6-8). -/
def State.fillCopy (s : State) (c : Ch) (p : Pc) (e : Fin 8) : State :=
  let w := s.chans[c].pcs[p].remap[e]
  (s.recordCopyUe c p (remapBank w) (remapRow w)).updCh c (fun h =>
    (h.updPc p (fun q =>
      { q with copy := some { entry := e, cells := q.copyCells s.rows h.regs.adaptAct (bankSid (remapBank w)) ⟨(remapBank w).val % 16, by omega⟩ (remapRow w) } })).eventThread
      (s.haltMaint c) 43 (pcAddr p) (some (pcLease p)) [])

/-- The row copy of an entry holds the quiesce of its pseudo-channel (R274, R378). -/
def State.startCopy (s : State) (c : Ch) (p : Pc) (e : Fin 8) (op : QuiesceOp) : State :=
  (s.fillCopy c p e).updPc c p (fun q => { q with op := some op })

/-- REMAP_APPLY: a pending entry of a quiesced pseudo-channel with no other operation (R273, R274): the row is copied and
SOFTREP_SET is sent. -/
def execRemapApply (c : Ch) (p : Pc) (e : Fin 8) (s : State) : Result :=
  let q := s.chans[c].pcs[p]
  let w := q.remap[e]
  if !s.mgmt.ready || remapState w != 1 || !q.qact || q.op.isSome || q.inTest s.rows (remapBank w) (remapRow w) then .next s
  else
    let s1 := s.moveEntry c p e
    let w1 := s1.chans[c].pcs[p].remap[e]
    if s1.chans[c].pcs[p].badSpares.contains (spareKey (remapBank w1) (remapSpare w1)) then .next s1
    else .next ((s1.startCopy c p e (.rowCopy e)).service (softRepCmd c p w1 (.softRepair c p e)))

/-- ROW_COPY_TIMEOUT: 2 ms without a release the thread writes its buffer back anyway, and the operation ends (R273,
R274). -/
def execRowCopyTimeout (c : Ch) (p : Pc) (s : State) : Result :=
  match s.chans[c].pcs[p].op with
  | some (.rowCopy _) => .next ((s.copyBack c p).updCh c (fun h => (h.updTaper (·.endEntry 43 p)).opEnds p))
  | _ => .next s

/-! ## Service bus -/

/-- A TSV move is undone: TSVREP is cleared in the layers that have switched, the one switched last first; then the move is over and
put in the ledger, and the TSV stays marginal (R217). -/
def State.undoMove (s : State) (c : Ch) (lid : Fin 16) : State :=
  match s.chans[c].tsv.move with
  | none => s
  | some (g, pos, done, _) =>
    let left (m : Option (Fin 16 × Fin 18 × List Sid × Bool)) : State := s.updCh c (fun h => { h with tsv := { h.tsv with move := m } })
    match done with
    | [] => (left none).ledger 0x08 [byteOf c.val, byteOf g.val, byteOf lid.val]
    | sid :: _ => (left (some (g, pos, done, true))).service (tsvRepCmd c sid g false 0 (.tsvMove c))

/-- A layer has switched to the spare; the next one follows, and with every layer switched the move is complete (R217). -/
def State.moveDone (s : State) (c : Ch) (lid : Fin 16) : State :=
  match s.chans[c].tsv.move with
  | none => s
  | some (g, pos, done, _) =>
    let all : List Sid := ⟨lid.val / 4, by omega⟩ :: done
    let now (f : TsvPort → TsvPort) : State := s.updCh c (fun h => { h with tsv := f h.tsv })
    match s.moveLeft all with
    | sid :: _ => (now (fun t => { t with move := some (g, pos, all, false) })).service (tsvRepCmd c sid g true pos.val (.tsvMove c))
    | [] => now (fun t => { t with move := none, repair := t.repair.set g (some pos)
                                   marginal := t.marginal.filter (fun y => y != (g, pos.castSucc)) })

/-- A layer has answered a step of a TSV move: one that is being undone goes on whatever the answer (R217; DESIGN CHOICE, log
106). -/
def State.moveStep (s : State) (c : Ch) (lid : Fin 16) (ok : Bool) : State :=
  match s.chans[c].tsv.move with
  | some (g, pos, done, true) =>
    (s.updCh c (fun h => { h with tsv := { h.tsv with move := some (g, pos, done.drop 1, true) } })).undoMove c lid
  | _ => if ok then s.moveDone c lid else s.undoMove c lid

/-- What follows a completed command (R273, R274, R217): ok DONE, fail FAIL (neither: BAD_CMD or no valid answer). -/
def State.serviceEnd (s : State) (x : SvcCmd) (ok fail : Bool) : State :=
  match x.purpose with
  | .config => s
  | .softRepair c p e =>
    if !s.mgmt.ready then s
    else if ok then (if s.chans[c].pcs[p].op == some (.rowCopy e) then s.postImage c (.release p) else s)
    else if fail then s.markSpareBad c p e
    else s
  | .tsvMove c => s.moveStep c x.lid ok

/-- The next command of a bus goes out. -/
def SvcBus.next (b : SvcBus) : SvcBus :=
  match b.queue with
  | [] => { b with cmd := none }
  | x :: rest => { cmd := some x, queue := rest, sent := x.frame }

/-- Change a bus. -/
def State.updBus (s : State) (i : Fin 2) (f : SvcBus → SvcBus) : State := { s with buses := s.buses.set i (f s.buses[i]) }

/-- A command has its final answer: the next command, and what follows. -/
def State.complete (s : State) (i : Fin 2) (x : SvcCmd) (ok fail : Bool) : State := (s.updBus i (·.next)).serviceEnd x ok fail

/-- What stands on the bus for a command: itself, or POLL once the layer has answered PENDING (R137, R138). -/
def SvcCmd.onWire (x : SvcCmd) : SvcCmd := if x.pendingOp then x.poll else x

/-- The layer acts on what stands on its bus, as its own rules say (R137, R139, R142). -/
def State.layerActs (s : State) (x : SvcCmd) : State := (s.layerServes x.onWire true).2.2

/-- The layer of a command whose response is bad or missing may have acted on it or not: a free value (DESIGN CHOICE, log 106). -/
def State.layerMayAct (s : State) (x : SvcCmd) : State :=
  let (b, s1) := s.free 1
  if b.getLsbD 0 then s1.layerActs x else s1

/-- A layer that still fails after three repeats has its sensors reported as faulty (R138, R289). -/
def State.layerFails (s : State) (l : Fin 16) : State :=
  let fresh := (layerSensors l).filter (fun i => s.sensorPresent i && !s.thermal.sensors[i].counted)
  let s1 := { s with
    busFailed := s.busFailed ||| (1#16 <<< l.val)
    thermal := { s.thermal with sensors := s.thermal.sensors.mapFinIdx (fun i x h =>
      if sensorLayer ⟨i, h⟩ = some l then { x with valid := false, good := 0, counted := true } else x) } }
  fresh.foldl (fun (t : State) i => t.sensorFault i 1) s1

/-- A response is bad or missing: the command, or POLL after PENDING, is repeated up to three times (R138). -/
def State.serviceRetry (s : State) (i : Fin 2) (x : SvcCmd) : State :=
  if x.repeats < 3 then
    s.updBus i (fun b => { b with
      cmd := some { x with repeats := x.repeats + 1 }
      sent := x.onWire.frame })
  else (s.layerFails x.lid).complete i x false false

/-- SERVICE_RESPONSE (R136 to R138, Table 5-12). The layer acts on a command that it answers with DONE or PENDING, and on a POLL that it
answers with FAIL. On BUSY the MX32 sends the command again at once and counts no repeat; CRC_ERR, a reserved status and a wrong LID
count as a bad response (DESIGN CHOICE, log 106). -/
def execServiceResponse (i : Fin 2) (f : BitVec 48) (s : State) : Result :=
  match s.buses[i].cmd with
  | none => .next s
  | some x =>
    if !responseCrcOk f || responseLid f != x.lid then .next ((s.layerMayAct x).serviceRetry i x)
    else match responseStatus f with
      | 0 => .next ((s.layerActs x).complete i x true false)
      | 1 => .next ((s.layerActs x).updBus i (fun b => { b with cmd := some { x with pendingOp := true }, sent := x.poll.frame }))
      | 2 => .next (s.updBus i (fun b => { b with sent := x.onWire.frame }))
      | 3 => .next (s.complete i x false false)
      | 5 => .next ((if x.pendingOp then s.layerActs x else s).complete i x false true)
      | _ => .next (s.serviceRetry i x)

/-- SERVICE_TIMEOUT (R138). -/
def execServiceTimeout (i : Fin 2) (s : State) : Result :=
  match s.buses[i].cmd with
  | none => .next s
  | some x => .next ((s.layerMayAct x).serviceRetry i x)

/-! ## Transfer images -/

/-- The release of a row copy reaches its thread: the buffer is written back; after a soft repair the entry becomes active and the
operation ends (R273, R274), after a hard repair its command goes on (R277 step 5). -/
def State.copyRelease (s : State) (c : Ch) (p : Pc) : State :=
  match s.chans[c].pcs[p].op with
  | some (.hardRepair _) => (s.copyBack c p).updCh c (·.updTaper (·.endEntry 43 p))
  | some (.rowCopy e) => ((s.copyBack c p).remapActive c p e).updCh c (fun h => (h.updTaper (·.endEntry 43 p)).opEnds p)
  | _ => s

/-- The pseudo-channels whose quiesce a test holds: the TSV loopback needs both of its channel (Table 18-10). -/
def testPcs (kind : BitVec 2) (p : Pc) : List Pc := if kind = 1 then [0, 1] else [p]

/-- A test request reaches the control plane: the test holds the quiesce of its pseudo-channels and its threads start (R378, Table
6-8, entry 48). -/
def Channel.beginTest (h : Channel) (halt : Bool) (p : Pc) (n : BitVec 16) (kind : BitVec 2) : Channel :=
  (testPcs kind p).foldl (fun (k : Channel) q =>
    (k.updPc q (fun x => { x with op := some (.test n) })).eventThread halt 48 (pcAddr q) (some (pcLease q)) []) h

/-- A CAL_RUN reaches the control plane: a pass is due, where the channel re-centres at all (R201), or the thread of a TSV calibration starts (Table 7-12, Table 6-8, entry
45). -/
def Channel.beginRun (h : Channel) (halt : Bool) (p : Pc) (mode : Nat) : Channel :=
  match mode with
  | 0 => if h.trn.passed7 then h.updRegs (fun r => { r with lmwDue := true }) else h
  | 1 => h.eventThread halt 45 (pcAddr p) (some (pcLease p)) []
  | _ => h

/-- What a transfer image does when the control plane takes it (R17, R264, R268, R283, R395). -/
def State.takeImage (s : State) (c : Ch) (x : Transfer) : State :=
  match x with
  | .leaky p k thr =>
    let s1 := s.updPc c p (fun q => { q with bucket := { q.bucket with k := k, thr := thr } })
    if thr ≤ s1.chans[c].pcs[p].bucket.count then s1.bucketOverflow c p else s1
  | .scrub p en target =>
    s.updPc c p (fun q => { q with scrub := { q.scrub with enable := en, target := target } }.lapAfter q s.timeUs)
  | .threshold th => s.setThreshold c th
  | .inject p arm => s.updPc c p (fun q => { q with inject := arm })
  | .rawWrite p n data check =>
    (s.updPc c p (fun q => { q.storeAccess s.rows n data check with injected := (n, false) :: (q.clearInjected n).injected })).updCh
      c (·.updTaper (fun t => { t with rawDone := true }))
  | .rawRead _ _ => s.updCh c (·.updTaper (fun t => { t with rawDone := true }))
  | .test p n kind _ => s.updCh c (·.beginTest (s.haltMaint c) p n kind)
  | .release p => s.copyRelease c p
  | .map p row bytes => s.updPc c p (·.writeMapRow s.rows row bytes)
  | .mapDone p old =>
    let m := mapStateOf (s.durable c p)
    let s1 := s.takeMapState c p m
    (match old with
    | some k => s1.reportMapState c p k m
    | none => s1)
  | .calRun p mode => s.updCh c (·.beginRun (s.haltMaint c) p mode)
  | .copyRow p e => s.fillCopy c p e

/-- TRANSFER_IMAGE_TAKE: the oldest image is taken, its sequence number reported (R17). -/
def execTransferImageTake (c : Ch) (s : State) : Result :=
  match s.chans[c].taper.images with
  | [] => .next s
  | (_, x) :: _ => .next ((s.updCh c (·.updTaper (·.takeOldest))).takeImage c x)

/-! ## Scrub -/

/-- What is written back for a scrub access that needs it (R267): Managed, the corrected data with its class and check
field; Pass-through, verbatim. -/
def scrubWriteback (managed : Bool) (d : Decoded) (ods : BitVec 2) (data : BitVec 512) (check : BitVec 64) :
    Option (BitVec 512 × BitVec 64) :=
  if managed then
    (if d.symErr then
      some (d.data, match d.sev with
        | .poison => maskedCheck d.data poisonMask
        | .neverFilled => maskedCheck d.data neverFilledMask
        | _ => encodeCheck d.data)
     else none)
  else if ods = 1 then some (data, check) else none

/-- An access as the decoder receives it in a gap: what the die returns and the events that the decoder meets (R132, R265). -/
def State.gapRead (s : State) (c : Ch) (p : Pc) (n : Nat) (env : LineEnv) (owner : Option Nat) :
    TsvRead × Decoded × State :=
  let (r, s1) := s.dieRead c p n env owner
  let (data, check) := s.chans[c].pcs[p].decoderInput r
  ({ r with data := data, check := check }, decodeManaged data check, s1.updCh c (·.countTsv p env))

/-- A lap ends when every cursor has passed its last row and no scrub read waits; the next begins at once (R266, R268). -/
def PseudoChannel.lapEnd (q : PseudoChannel) (rows sids now : Nat) : PseudoChannel :=
  if q.captured.all (·.profiling) && (List.finRange 64).all (fun i => decide (16 * sids ≤ i.val) || decide (rows ≤ q.banks[i].scrubRow)) then
    { (q.updBanks (fun b => { b with scrubRow := 0 })) with scrub := { q.scrub with
        laps := bump q.scrub.laps, lastLap := (now - q.scrub.lapStart) / 1000000, lapStart := now, progress := 0
        overdue := false, ceLast := q.scrub.ceCur, ueLast := q.scrub.ueCur, ceCur := 0, ueCur := 0 } }
  else q

/-- A profiling read is decoded: its row's error stands in its group, by the Managed code or the on-die status (R239). -/
def PseudoChannel.noteProfile (q : PseudoChannel) (rows n : Nat) (bad : Bool) : PseudoChannel :=
  let (sid, bank, row, _) := accessOf n
  let g := mapIndex rows sid bank (row.toNat / 4)
  { q with batch := q.batch.map (fun b => { b with groups := b.groups.map (fun x =>
      if x.index = g then
        { x with awaited := x.awaited - 1, bad := if bad then x.bad ||| (1#4 <<< (row.toNat % 4)) else x.bad }
      else x) }) }

/-- An uncorrectable access of the map or list: what it covers counts as N or absent until Lantern C has rewritten the row (R234). -/
def State.loseMap (s : State) (c : Ch) (p : Pc) (n : Nat) : State :=
  match mapPlace s.rows n with
  | some k =>
    if s.chans[c].regs.adaptAct && !s.chans[c].pcs[p].lostMap.contains k then
      (s.updPc c p (fun q => { q with lostMap := k :: q.lostMap })).rewriteMapRow c p k
    else s
  | none => s

/-- The events of a read decoded in a gap are counted, and reach the thread whose chain it is and the map (R149, R234, R259). The
scrubber's own figures saturate with the others of the bank (R18, R269). -/
def State.countGap (s : State) (c : Ch) (p : Pc) (x : Captured) (v : ReadEvents) (ods : BitVec 2) : State :=
  let ce := if v.managed then v.ce else v.odsCe
  let ue := if v.managed then v.ue else v.odsUe
  let s1 := (s.countRead c p x.access v (s.chans[c].pcs[p].injCause x.access) (!x.profiling)).updCh c (fun h =>
    (h.updPc p (fun q => { q.consumeRead x.access with scrub :=
      if x.profiling then q.scrub
      else { q.scrub with ceCur := bump q.scrub.ceCur ce.toNat, ueCur := bump q.scrub.ueCur ue.toNat } })).updTaper
      (·.readEvents x.owner v ods))
  if v.managed && v.ue then s1.loseMap c p x.access else s1

/-- A scrub access is written back, and read once more in the same lease: an error that stays is hard (R266, R267). The re-read is
counted as no read of R259 (DESIGN CHOICE, log 109). -/
def State.scrubBack (s : State) (c : Ch) (p : Pc) (n : Nat) (managed : Bool) (w : BitVec 512 × BitVec 64) (reread : LineEnv) :
    State :=
  let s1 := s.updPc c p (fun q => { q.storeAccess s.rows n w.1 w.2 with
    scrub := { q.scrub with writebacks := bump q.scrub.writebacks, owedUnits := q.scrub.owedUnits + 1 } })
  let (r, d, s2) := s1.gapRead c p n reread none
  if (if managed then d.symErr || d.ue else r.ods != 0) then
    (s2.updPc c p (fun q => { q with scrub := { q.scrub with hard := bump q.scrub.hard } })).foundCandidate c p n 0
  else s2

/-- DECODER_GAP_DECODE: with no host read to decode, the oldest captured scrub or profiling read is decoded, counted and treated as
R239 and R267 say. One whose write-back finds its lease low stays at the head and is counted once it is decoded for good (R267;
DESIGN CHOICE, log 109). -/
def execDecoderGapDecode (c : Ch) (p : Pc) (env reread : LineEnv) (leaseLow : Bool) (s : State) : Result :=
  let q := s.chans[c].pcs[p]
  match q.captured with
  | [] => .next s
  | x :: rest =>
    if !q.tsvCapture.isEmpty then .next s
    else
      let managed := q.decodes s.rows x.access s.chans[c].regs.adaptAct
      let (r, d, s1) := s.gapRead c p x.access env x.owner
      let v := readEvents managed d r.ods
      let counted := s1.countGap c p x v r.ods
      let taken (t : State) : State := t.updPc c p (fun q => ({ q with captured := rest }).lapEnd s.rows s.sids s.timeUs)
      if x.profiling then
        .next (taken (counted.updPc c p (·.noteProfile s.rows x.access (if managed then v.ce || v.ue else r.ods != 0))))
      else match scrubWriteback managed d r.ods r.data r.check with
        | none => .next (taken counted)
        | some w =>
          if leaseLow then .next (s.updPc c p (fun q => { q with scrub := { q.scrub with deferred := bump q.scrub.deferred } }))
          else .next (taken (counted.scrubBack c p x.access managed w reread))

/-! ## Journal replay -/

/-- An entry in hard repair at power-up (R279): VALID with a matching RA journals HARD_DONE and frees the entry; a subset of
RA without VALID stays; otherwise the spare is bad and the entry is pending on another. -/
def State.replayHard (s : State) (c : Ch) (p : Pc) (e : Fin 8) : State :=
  let w := s.chans[c].pcs[p].remap[e]
  let (a, s1) := s.fuseRd (layerOf c (bankSid (remapBank w))) (antifuseWord c p (remapBank w) (remapSpare w))
  let ra : Word32 := (remapRow w).setWidth 32
  if a.getLsbD 31 && (a &&& 0x7FFF) == ra then s1.journalRemap c p e 0 .hardDone
  else if !a.getLsbD 31 && (a &&& ~~~ra) == 0 then s1
  else (s1.markSpareBad c p e).moveEntry c p e

/-- One journalled entry at power-up (R276): a pending one becomes active, and SOFTREP_SET is sent for every entry in
use. -/
def State.replayEntry (s : State) (key : Nat) (w : BitVec 32) : State :=
  let c : Ch := ⟨key / 16 % 32, Nat.mod_lt _ (by decide)⟩
  let p : Pc := ⟨key / 8 % 2, Nat.mod_lt _ (by decide)⟩
  let e : Fin 8 := ⟨key % 8, Nat.mod_lt _ (by decide)⟩
  let s1 := s.updPc c p (fun q => { q with remap := q.remap.set e w })
  let s2 := if remapState w = 3 then s1.replayHard c p e else s1
  let w2 := s2.chans[c].pcs[p].remap[e]
  if remapState w2 = 0 then s2
  else
    let s3 := if remapState w2 = 1 then s2.remapActive c p e else s2
    s3.service (softRepCmd c p (s3.chans[c].pcs[p].remap[e]) .config)

/-- A sequence number of the repair journal has no valid copy: what the records before it built is kept, and REMAP_JOURNAL_LOST
names the gap (R276). Which pseudo-channel the lost record was of is a free value (DESIGN CHOICE, log 136). -/
def State.loseRepairs (s : State) (seq : Word32) : State :=
  let (v, s1) := s.free 6
  ((s1.updNv (fun n => { n with repairs := n.repairs.filter (fun r => decide (r.seq < seq.toNat)) })).updMgmt
      (fun m => { m with remapLost := true })).ledger 0x05
    ([(v.extractLsb' 1 5).setWidth 8, (v.extractLsb' 0 1).setWidth 8] ++ wordBytes seq)

/-- JOURNAL_REPLAY (R276, R279): the spares marked bad and the entries of the journal are taken up. -/
def execJournalReplay (lost : Option Word32) (s : State) : Result :=
  if !s.power.booted || !s.power.discovered then .next s
  else
    let s2 := match lost with
      | some seq => s.loseRepairs seq
      | none => s
    let s3 := allPcs.foldl (fun (t : State) x => t.updPc x.1 x.2 (fun q => { q with badSpares := s2.nv.badSpares x.1 x.2 })) s2
    let s4 := s2.nv.remaps.foldl (fun (t : State) x => t.replayEntry x.1 x.2) s3
    .next ({ s4 with power := { s4.power with journal := true } }.evalHealth)

end Sys2Proof.Machine
end

