-- ==== Sys2Proof/Machine/Mailbox.lean ====
section
/-! DEFINITION. The mailbox windows and sessions (13): claims, acceptance, responses, COLLECT, abort and the end of a
session. -/

namespace Sys2Proof.Machine

/-! ## Status codes and opcodes -/

/-- JMP status codes (Table 13-11a). -/
def stOk : Byte := 0x00
@[inherit_doc stOk] def stBusy : Byte := 0x01
@[inherit_doc stOk] def stNoSlot : Byte := 0x02
@[inherit_doc stOk] def stBadSession : Byte := 0x03
@[inherit_doc stOk] def stBadOpcode : Byte := 0x04
@[inherit_doc stOk] def stBadArg : Byte := 0x05
@[inherit_doc stOk] def stDenied : Byte := 0x06
@[inherit_doc stOk] def stNeedsQuiesce : Byte := 0x07
@[inherit_doc stOk] def stAborted : Byte := 0x08
@[inherit_doc stOk] def stAlreadyDone : Byte := 0x09
@[inherit_doc stOk] def stCrcError : Byte := 0x0A
@[inherit_doc stOk] def stTimeout : Byte := 0x0B
@[inherit_doc stOk] def stNvFail : Byte := 0x0C
@[inherit_doc stOk] def stCalRejected : Byte := 0x0D

/-- Opcodes that the transport itself treats (Table 14-4). -/
def opOpen : BitVec 16 := 0x0001
@[inherit_doc opOpen] def opClose : BitVec 16 := 0x0002
@[inherit_doc opOpen] def opKeepalive : BitVec 16 := 0x0003
@[inherit_doc opOpen] def opAbort : BitVec 16 := 0x0004
@[inherit_doc opOpen] def opCalRestore : BitVec 16 := 0x0402
@[inherit_doc opOpen] def opMapImport : BitVec 16 := 0x0503
@[inherit_doc opOpen] def opNvWrite : BitVec 16 := 0x0901
@[inherit_doc opOpen] def opFwStage : BitVec 16 := 0x0902
@[inherit_doc opOpen] def opFwActivate : BitVec 16 := 0x0903

/-- CLOSE, KEEPALIVE and ABORT are served ahead and may use the reserved credit (R359, R360). -/
def urgentOp (op : BitVec 16) : Bool := op == opClose || op == opKeepalive || op == opAbort

/-! ## Sessions -/

/-- The session identifier: GEN above SLOT (R357). -/
def sessionId (k : Slot) (x : Session) : Byte := byteOf (16 * x.gen.toNat + k.val)

/-- A free slot: only GEN lives on (R357). -/
def Session.freed (x : Session) : Session := { gen := x.gen }

/-- The session takes further frames (R361, R539). -/
def Session.takesFrames (x : Session) : Bool := x.live && !x.closing && !x.refused

/-- The slot of the session an identifier names on a transport (R357). -/
def State.slotOf (s : State) (t : Transport) (id : Byte) : Option Slot :=
  (List.finRange 16).find? (fun k => s.sessions[k].live && s.sessions[k].transport == t && sessionId k s.sessions[k] == id)

/-- GEN of the next session of a slot: 1 to 15, never 0 (R357). -/
def nextGen (g : BitVec 4) : BitVec 4 := if g = 15 then 1 else g + 1

/-- The outstanding command of a session with a sequence number. -/
def Session.find (x : Session) (seq : BitVec 16) : Option Cmd := x.cmds.find? (fun c => c.seq == seq)

/-- A command completes with a response (R353, R360). -/
def Session.respond (x : Session) (seq : BitVec 16) (r : Response) : Session :=
  if x.cmds.any (fun c => c.seq == seq && c.state != .done) then
    { x with cmds := x.cmds.map (fun c => if c.seq == seq then { c with state := .done, resp := some r } else c)
             done := x.done ++ [seq] }
  else x

/-- The privileged commands (13, "Maintenance unlock"): RET_MAP_IMPORT, REPAIR_COMMIT, FW_ACTIVATE, FUSE_PROGRAM,
FUSE_LOCK. -/
def privilegedOp (op : BitVec 16) : Bool :=
  op == opMapImport || op == 0x0703 || op == opFwActivate || op == 0x0A01 || op == 0x0A02

/-- Code of a transport as role and in LIST (Tables 14-6, 17-3): 0 host, 1 manager. -/
def transportCode : Transport → Byte
  | .host => 0
  | .manager => 1

/-- The PRIVILEGED record of a command: session, role, opcode, status, DETAIL (Table 17-3, R371). -/
def State.recordPrivileged (s : State) (k : Slot) (op : BitVec 16) (r : Response) : State :=
  s.ledger 0x12 ([sessionId k s.sessions[k], transportCode s.sessions[k].transport] ++ natBytes 2 op.toNat
    ++ [r.status, r.detail])

/-- Give an outstanding command its response; a privileged one is recorded. -/
def State.respond (s : State) (k : Slot) (seq : BitVec 16) (r : Response) : State :=
  let s1 := s.updSession k (·.respond seq r)
  match s.sessions[k].find seq with
  | some c => if privilegedOp c.opcode && c.state != .done then s1.recordPrivileged k c.opcode r else s1
  | none => s1

/-- Move an outstanding command's log entry to a state (R367). -/
def State.markCmd (s : State) (k : Slot) (seq : BitVec 16) (st : CmdState) : State :=
  s.updSession k (fun x => { x with cmds := x.cmds.map (fun c => if c.seq == seq then { c with state := st } else c) })

/-- Give an owner its response; an owner whose session has closed gets none (R369). -/
def State.respondOwner (s : State) (owner : Option (Slot × BitVec 16)) (r : Response) : State :=
  match owner with
  | some (k, seq) => s.respond k seq r
  | none => s

/-! ## Abandoning and closing -/

/-- An image slot whose staging is abandoned holds no image (R376, R411). -/
def ImageSlot.abandon (x : ImageSlot) : ImageSlot := if x.status = 2 then { x with status := 1, bytes := [] } else x

/-- Change an image slot. -/
def NonVolatile.updImage (n : NonVolatile) (b : Bool) (f : ImageSlot → ImageSlot) : NonVolatile :=
  if b then { n with imageB := f n.imageB } else { n with imageA := f n.imageA }

/-- The image slot of a letter. -/
def NonVolatile.image (n : NonVolatile) (b : Bool) : ImageSlot := if b then n.imageB else n.imageA

/-- Abandon the incomplete upload of a session and give back what it owns (R376, R378). -/
def State.abandon (s : State) (k : Slot) : State :=
  match s.sessions[k].upload with
  | none => s
  | some u =>
    let s1 := s.updSession k (fun x => { x with upload := none })
    if u.opcode = opCalRestore then s1.updMgmt (fun m => { m with restoreOwner := none })
    else if u.opcode = opMapImport then s1.updMgmt (fun m => { m with importOwner := none })
    else if u.opcode = opNvWrite then s1.updMgmt (fun m => { m with nvOwner := none })
    else if u.spec.head? = some 0 then
      (s1.updMgmt (fun m => { m with imageOwner := none })).updNv (fun n => n.updImage (!n.activeB) (·.abandon))
    else s1.updMgmt (fun m => { m with tableOwner := none, table := none })

/-- The quiesce operation is the CAL_RUN of a command. -/
def PseudoChannel.calRunOf (q : PseudoChannel) (k : Slot) (seq : Option (BitVec 16)) : Bool :=
  match q.op with
  | some (.calRun _ slot n) => slot == k && (match seq with
    | some x => x == n
    | none => true)
  | _ => false

/-- End the CAL_RUN operations of a command, or of every command of a slot. -/
def State.endCalRuns (s : State) (k : Slot) (seq : Option (BitVec 16)) : State :=
  s.updAll (fun h => (List.finRange 2).foldl (fun (h : Channel) p => if h.pcs[p].calRunOf k seq then h.opEnds p else h) h)

/-- A program that is cut short leaves its page indeterminate and an upper page's partner suspect, an erase its sector partly
erased; an option page takes no program until its block is erased (R447, R448, R368). -/
def NonVolatile.cutShort (n : NonVolatile) (o : NvOp) : NonVolatile :=
  match o.cont with
  | .options _ => { n.cutSector o with optionPages := n.optionPages - 1 }
  | _ => n.cutSector o

/-- Revert a command that has started and not passed its commit point: a Quince program stops, fuse words wait no longer,
a calibration run ends (R367, R368). -/
def State.cancel (s : State) (k : Slot) (seq : BitVec 16) : State :=
  let mine (o : Option (Slot × BitVec 16)) : Bool := o == some (k, seq)
  ({ s with
     nv := match s.quince.op with
       | some o => if mine o.owner then s.nv.cutShort o else s.nv
       | none => s.nv
     quince := { s.quince with op := s.quince.op.filter (fun o => !mine o.owner) }
     fuseQueue := s.fuseQueue.filter (fun j => !mine j.owner) }).endCalRuns k (some seq)

/-- What a command's ABORT does to its upload: ABORT of any chunk abandons it (R376). -/
def State.abandonBy (s : State) (k : Slot) (op : BitVec 16) : State :=
  match s.sessions[k].upload with
  | some u => if u.opcode = op then s.abandon k else s
  | none => s

/-- Abort one outstanding command that has not passed its commit point. -/
def State.abortCmd (s : State) (k : Slot) (c : Cmd) : State :=
  (((s.cancel k c.seq).abandonBy k c.opcode).respond k c.seq { status := stAborted })

/-- Abort every outstanding command of a session that is not past its commit point, but for the named one (R361). -/
def State.abortAll (s : State) (k : Slot) (but : BitVec 16) : State :=
  (s.sessions[k].cmds.filter (fun c => c.seq != but && (c.state == .queued || c.state == .started))).foldl
    (fun (t : State) c => t.abortCmd k c) s

/-- No owner of a slot is left: what a closed session's committed commands still do completes without a response. -/
def State.disown (s : State) (k : Slot) : State :=
  let keep (o : Option (Slot × BitVec 16)) : Option (Slot × BitVec 16) := o.filter (fun x => x.1 != k)
  let drop (o : Option Slot) : Option Slot := o.filter (fun x => x != k)
  { s with
    quince := { s.quince with op := s.quince.op.map (fun o => { o with owner := keep o.owner }) }
    fuseQueue := s.fuseQueue.map (fun j => { j with owner := keep j.owner })
    mgmt := { s.mgmt with
      imageOwner := drop s.mgmt.imageOwner, tableOwner := drop s.mgmt.tableOwner, importOwner := drop s.mgmt.importOwner
      restoreOwner := drop s.mgmt.restoreOwner, nvOwner := drop s.mgmt.nvOwner } }

/-- A window forgets a response collected from a slot. -/
def Window.forget (w : Window) (k : Slot) : Window :=
  match w.collected with
  | some (j, _) => if j = k then { w with respValid := false, collected := none } else w
  | none => w

/-- Free a slot: outstanding work not past its commit point is aborted, the rest goes on without its owner (R358,
R361). -/
def State.freeSlot (s : State) (k : Slot) : State :=
  let s1 := (((s.sessions[k].cmds.filter (fun c => c.state == .queued || c.state == .started)).foldl
    (fun (t : State) c => (t.cancel k c.seq)) s).abandon k).disown k
  { (s1.updSession k (·.freed)) with host := s1.host.forget k, manager := s1.manager.forget k }

/-! ## Frames -/

/-- A request frame (Table 13-10): its fields, whether its reserved bits are 0, whether its CRC matches (R355). -/
structure Frame where
  session : Byte
  cont : Bool
  seq : BitVec 16
  opcode : BitVec 16
  len : Nat
  rsv : Bool
  payload : List Byte
  crcOk : Bool
  deriving DecidableEq, Repr

/-- n bytes of a byte list from an offset, as a number. -/
def fieldAt (b : List Byte) (i n : Nat) : Nat := bytesToNat ((b.drop i).take n)

/-- The frame in a request window. -/
def Window.frame (w : Window) : Frame :=
  let b := w.req.toList.flatMap wordBytes
  let len := fieldAt b 6 2
  { session := byteOf (fieldAt b 0 1), cont := decide (128 ≤ fieldAt b 1 1), seq := BitVec.ofNat 16 (fieldAt b 2 2)
    opcode := BitVec.ofNat 16 (fieldAt b 4 2), len := len
    rsv := fieldAt b 1 1 % 128 == 0 && fieldAt b 8 8 == 0
    payload := (b.drop 16).take len
    crcOk := crc32c (b.take (16 + len)) == BitVec.ofNat 32 (fieldAt b (16 + len) 4) }

/-- A response frame with its CRC (Table 13-11). -/
def responseFrame (id : Byte) (c : Cmd) (r : Response) : List Byte :=
  let b := [id, byteOf (128 * r.cont.toNat + 64 * r.snap.toNat)] ++ natBytes 2 c.seq.toNat ++ natBytes 2 c.opcode.toNat
    ++ natBytes 2 r.payload.length ++ [r.status, r.detail] ++ natBytes 2 r.age.toNat ++ natBytes 4 0 ++ r.payload
  b ++ wordBytes (crc32c b)

/-! ## Acceptance -/

/-- A session's credits admit a further command (R359): four, and one for CLOSE, KEEPALIVE and ABORT. -/
def Session.credit (x : Session) (op : BitVec 16) : Option Bool :=
  if (x.cmds.filter (fun c => !c.reserved)).length < 4 then some false
  else if urgentOp op && !x.cmds.any (·.reserved) then some true
  else none

/-- Restart the lease of the session a frame names (R358). -/
def State.restartLease (s : State) (t : Transport) (id : Byte) : State :=
  match s.slotOf t id with
  | some k => s.updSession k (fun x => if x.takesFrames then { x with leaseAt := s.timeUs } else x)
  | none => s

/-- The command of an accepted frame. -/
def Frame.cmd (f : Frame) (reserved : Bool) : Cmd :=
  { seq := f.seq, opcode := f.opcode, cont := f.cont, payload := f.payload, reserved := reserved }

/-- Checks 4 to 7 of Table 13-9 for a frame of an open session. -/
def State.acceptIn (s : State) (t : Transport) (f : Frame) : State × Byte × Byte :=
  match (s.slotOf t f.session).filter (fun k => s.sessions[k].takesFrames) with
  | none => (s, stBadSession, 0)
  | some k =>
    if (s.sessions[k].find f.seq).isSome then (s, stBadArg, 0)
    else match s.sessions[k].credit f.opcode with
      | none => (s, stBusy, 0)
      | some r =>
        (s.updSession k (fun x => { x with cmds := x.cmds ++ [f.cmd r], closing := x.closing || (f.opcode == opClose
          && f.len == 0) }), stOk, f.session)

/-- Checks 4 and 5 of Table 13-9 for OPEN: the lowest free slot is taken (R357, log 21); acceptance is the command's commit
point (Table 14-4). -/
def State.acceptOpen (s : State) (t : Transport) (f : Frame) : State × Byte × Byte :=
  if f.session ≠ 0 then (s, stBadSession, 0)
  else match (List.finRange 16).find? (fun k => !s.sessions[k].live) with
    | none => (s, stNoSlot, 0)
    | some k =>
      let x : Session := { live := true, gen := nextGen s.sessions[k].gen, transport := t, leaseAt := s.timeUs
                           cmds := [{ f.cmd false with state := .committed }] }
      ({ s with sessions := s.sessions.set k x }, stOk, sessionId k x)

/-- The acceptance checks in the order of Table 13-9: the state, ACC_CODE and ACC_SESS (R352, R358, R365). -/
def State.accept (s : State) (t : Transport) (f : Frame) : State × Byte × Byte :=
  if 992 < f.len || !f.rsv then (s, stBadArg, 0)
  else if !f.crcOk then (s, stCrcError, 0)
  else
    let s1 := s.restartLease t f.session
    if !s.mgmt.ready || s.stalled then (s1, stBusy, 0)
    else if f.opcode = opOpen then s1.acceptOpen t f
    else s1.acceptIn t f

/-! ## Rows of the window -/

/-- Grant a claim on an unclaimed window pair; the tag is one above the last and never 0 (R350). -/
def Window.grant (w : Window) (now : Nat) : Window :=
  if w.claim.isSome then w
  else
    let tag := if w.lastTag = 0xFFFF then 1 else w.lastTag + 1
    { w with claim := some tag, lastTag := tag, grantAt := now, accValid := false, respValid := false, collected := none }

/-- A claim ends; a collected response stays queued (R353, Table 13-8). -/
def Window.endClaim (w : Window) : Window :=
  { w with claim := none, accValid := false, respValid := false, collected := none }

/-- MBX_CLAIM (R350); in stack reset the windows do not respond (R341). -/
def execMbxClaim (t : Transport) (s : State) : Result :=
  .next (if s.inReset then s else s.updWindow t (·.grant s.timeUs))

/-- CLAIM_EXPIRY (R350). -/
def execClaimExpiry (t : Transport) (s : State) : Result := .next (s.updWindow t (·.endClaim))

/-- A doorbell whose tag is not the current claim's is ignored and counted (R351). -/
def State.doorbell (s : State) (t : Transport) (tag : BitVec 16) (body : State) : State :=
  if s.inReset then s
  else if (s.window t).claim = some tag then body
  else s.updMgmt (fun m => { m with doorbells := bump m.doorbells })

/-- The effect of SUBMIT for the holder of the claim (R352). -/
def State.submit (s : State) (t : Transport) : State :=
  let (s1, code, sess) := s.accept t (s.window t).frame
  s1.updWindow t (fun w => { w with accValid := true, accCode := code, accSess := sess })

/-- SUBMIT (R352). -/
def execSubmit (t : Transport) (tag : BitVec 16) (s : State) : Result := .next (s.doorbell t tag (s.submit t))

/-- The oldest completed, unreleased response of a session (R353). -/
def Session.oldest (x : Session) : Option (Cmd × Response) :=
  x.done.head?.bind (fun n => (x.find n).bind (fun c => c.resp.map (fun r => (c, r))))

/-- The effect of COLLECT (R353). -/
def State.collect (s : State) (t : Transport) (id : Byte) : State :=
  match s.slotOf t id with
  | none => s.updWindow t (fun w => { w with respValid := false, collected := none })
  | some k =>
    match s.sessions[k].oldest with
    | none => s.updWindow t (fun w => { w with respValid := false, collected := none })
    | some (c, r) =>
      s.updWindow t (fun w => { w with resp := responseFrame id c r, respValid := true, collected := some (k, c.seq) })

/-- COLLECT (R353). -/
def execCollect (t : Transport) (tag : BitVec 16) (id : Byte) (s : State) : Result :=
  .next (s.doorbell t tag (s.collect t id))

/-- Remove a response from its session (R353): its credit is free; a download's capture goes with the response that
reaches TOTAL (R375); the slot is freed with the response of CLOSE and of an OPEN that failed (R361, R539). -/
def State.releaseResponse (s : State) (k : Slot) (seq : BitVec 16) : State :=
  match s.sessions[k].find seq with
  | none => s
  | some c =>
    let ok := c.resp.map (·.status) == some stOk
    let s1 := s.updSession k (fun x =>
      { x with
        cmds := x.cmds.filter (fun y => y.seq != seq), done := x.done.filter (fun n => n != seq)
        captures := x.captures.filter (fun y => c.resp.bind (·.ends) != some y.no) })
    if (c.opcode == opClose && ok) || (c.opcode == opOpen && !ok) then s1.freeSlot k else s1

/-- MGMT_RST_CLEAR: the W1C bit of one window (R349). -/
def execMgmtRstClear (t : Transport) (s : State) : Result :=
  .next (if s.inReset then s else s.updWindow t (fun w => { w with mgmtRst := false }))

/-- LEASE_EXPIRY: the session closes, its responses are discarded, the ledger records it (R358); not while the plane
stalls. A failed OPEN's slot is freed in the same way (R539). -/
def execLeaseExpiry (k : Slot) (s : State) : Result :=
  .next (if s.sessions[k].live && !s.stalled then
    (s.freeSlot k).ledger 0x15 [sessionId k s.sessions[k], transportCode s.sessions[k].transport]
  else s)

/-- CHALLENGE_EXPIRY: 60 s after its issue (R370). -/
def execChallengeExpiry (k : Slot) (s : State) : Result :=
  .next (s.updSession k (fun x => { x with challenge := none }))

/-- UNLOCK_LOCKOUT_END: after 60 s the session may ask for a challenge again (R371). -/
def execUnlockLockoutEnd (k : Slot) (s : State) : Result :=
  .next (s.updSession k (fun x => { x with lockout := false, fails := 0 }))

/-- SERVICE_TURN_END: the turn passes on; a command of the session that is not done is parked (R362). -/
def execServiceTurnEnd (k : Slot) (s : State) : Result :=
  .next ((s.updMgmt (fun m => { m with turn := k })).updSession k (fun x =>
    { x with parked := x.cmds.any (fun c => c.state == .started) }))

end Sys2Proof.Machine
end

