-- ==== Sys2Proof/Machine/Store.lean ====
section
/-! DEFINITION. Quince, the ledger's pages and the power-on hours (15, 17, R261): operations, sectors, the user area, option
images, retention images, patrol, wear levelling. -/

namespace Sys2Proof.Machine

/-! ## Retirement -/

/-- Retire a physical sector (R441, R442): its contents move to a pool sector, the journal takes a RETIRE record, page 257 is
programmed with L = FFh where it is still erased, a spare joins the pool, event type 12 and a ledger record follow. -/
def State.retire (s : State) (i : Nat) (reason : Nat) : State :=
  match s.nv.sectors[i]? with
  | none => s
  | some x =>
    if x.use == .retired || x.use == .factoryBad then s
    else
      let n1 := if x.logical.isSome then (match s.nv.poolSector with
          | some (j, _) => s.nv.move i j
          | none => s.nv) else s.nv
      let n2 := n1.updSector i (fun y => { (if y.prog.getLsbD 257 then y else { y.programmed 257 with assigned := some none }) with
        use := .retired })
      let n3 : NonVolatile := { n2.note (.retire i reason x.ecnt) with
        fieldBad := if n2.fieldBad.length < 32 then n2.fieldBad ++ [Fin.ofNat 255 i] else n2.fieldBad }
      let n4 := match n3.numbered.find? (fun y => y.2.use == .spare) with
        | some (j, _) => n3.updSector j (fun y => { y with use := .pool true })
        | none => n3
      (({ s with nv := n4 }).ledgerEvent 0x0E ([byteOf i, byteOf reason] ++ natBytes 4 x.ecnt) 12).evalHealth

/-! ## What a completed program makes valid -/

/-- A new option image becomes the newest (R453); the other block is erased when no erased page is left. -/
def NonVolatile.storeOptions (n : NonVolatile) (o : OptionImage) : NonVolatile :=
  { n with options := o :: n.options.take 11, optionPages := if n.optionPages = 0 then 5 else n.optionPages - 1 }

/-- User sectors a range touches (R450). -/
def userSectors (addr len : Nat) : List Nat :=
  (List.range 8).filter (fun k => decide (addr < (k + 1) * 0x20000) && decide (k * 0x20000 < addr + len))

/-- User sector k is mapped to a pool sector under a commit tag, and its old sector erased and pooled (R450). -/
def NonVolatile.remapUser (n : NonVolatile) (tag k : Nat) : NonVolatile :=
  match n.physical (62 + k), n.poolSector with
  | some (i, x), some (j, _) =>
    (match x.logical with
      | some l => ((n.updSector j (fun y => y.assign l (x.aseq + 1) tag dataPages)).updSector i (fun y =>
          { y with use := .pool false })).eraseSector i 0
      | none => n)
  | _, _ => n

/-- The commit of a user-area write (R450): new bytes in force, new sectors mapped under one commit tag, which the journal names
with them, the old ones erased and returned to the pool. -/
def NonVolatile.commitUser (n : NonVolatile) (addr : Nat) (bytes : List Byte) (tag : Nat) : NonVolatile :=
  let touched := userSectors addr bytes.length
  let n1 := { n with
    user := memPutAll (fun _ => some 0xFF) n.user addr bytes
    userProg := touched.foldl (fun acc k => acc ||| (1#8 <<< k)) n.userProg
    ctag := tag, commits := tag :: n.commits }
  let n2 := touched.foldl (fun (m : NonVolatile) k => m.remapUser tag k) n1
  n2.note (.commit tag (touched.map (fun k => (62 + k, ((n2.physical (62 + k)).map (·.1)).getD 0))))

/-- One section of a retention image (Table 14-9): the pseudo-channel, its codes and its weak rows. -/
structure MapSection where
  ch : Nat
  pc : Nat
  groups : Nat
  bins : List (Nat × BitVec 2)
  weak : List (BitVec 32)
  deriving DecidableEq, Repr

/-- The codes of packed map bytes that differ from N (R233). -/
def unpackBins (bytes : List Byte) : List (Nat × BitVec 2) :=
  ((List.range bytes.length).zip bytes).flatMap (fun x =>
    (List.range 4).filterMap (fun j =>
      let c : BitVec 2 := x.2.extractLsb' (2 * j) 2
      if c = 0 then none else some (4 * x.1 + j, c)))

/-- Weak-row words, sorted and without repeats (R393). -/
def sortWeak (l : List (BitVec 32)) : List (BitVec 32) :=
  l.foldl (fun acc w => if acc.any (fun x => weakKey x == weakKey w) then acc else weakInsert w acc) []

/-- The section at the front of a byte list; kind 01h entries take SRC 00b (R393). -/
def readSection (kind : Nat) (b : List Byte) : MapSection :=
  let ng := fieldAt b 4 4
  let nw := fieldAt b 8 2
  let words := (List.range nw).map (fun k => BitVec.ofNat 32 (fieldAt b (16 + ng / 4 + 4 * k) 4))
  { ch := fieldAt b 0 1, pc := fieldAt b 1 1, groups := ng
    bins := unpackBins ((b.drop 16).take (ng / 4))
    weak := sortWeak ((words.filter (fun w => w.getLsbD 31)).map (fun w =>
      if kind = 1 then w &&& 0xFFFFFC00#32 else w &&& 0xFFFFFF00#32)) }

/-- Bytes of a section. -/
def sectionLength (b : List Byte) : Nat := 16 + fieldAt b 4 4 / 4 + 4 * fieldAt b 8 2

/-- The sections of an image, n of them. -/
def readSections (kind : Nat) : Nat → List Byte → List MapSection
  | 0, _ => []
  | n + 1, b => readSection kind b :: readSections kind n (b.drop (sectionLength b))

/-- Bytes that n sections take. -/
def sectionsLength : Nat → List Byte → Nat
  | 0, _ => 0
  | n + 1, b => sectionLength b + sectionsLength n (b.drop (sectionLength b))

/-- Number of one-bits of a number below 2^64. -/
def popCount (v : Nat) : Nat := (List.range 64).foldl (fun acc i => acc + (v.testBit i).toNat) 0

/-- The sections of a retention image (Table 14-9). -/
def imageSections (b : List Byte) : List MapSection :=
  readSections (fieldAt b 6 1) (popCount (fieldAt b 24 8)) (b.drop 64)

/-- The map a section brings. -/
def MapSection.image (x : MapSection) : MapImage := { bins := x.bins, weak := x.weak, imported := true }

/-- The pseudo-channel of a section. -/
def MapSection.chOf (x : MapSection) : Ch := Fin.ofNat 32 x.ch
@[inherit_doc MapSection.chOf] def MapSection.pcOf (x : MapSection) : Pc := Fin.ofNat 2 x.pc

/-- A section takes the place of a pseudo-channel's durable map (R393). -/
def NonVolatile.importSection (n : NonVolatile) (x : MapSection) : NonVolatile :=
  n.logDeltas (pcUnit x.chOf x.pcOf) [.image x.image]

/-- While ADAPT_ACT is 1 the rows of an imported map go to the channel through its transfer area; loaded, the pseudo-channel is in
state IMPORTED (R17, R246, R393). -/
def State.importLive (s : State) (x : MapSection) : State :=
  if s.chans[x.chOf].regs.adaptAct then
    (s.updPc x.chOf x.pcOf (fun q => { q with undurable := false, promoted := false, profiled := [] })).startMapLoad x.chOf x.pcOf x.image
      (some s.chans[x.chOf].pcs[x.pcOf].mapState)
  else s

/-- The sectors of an image slot hold its first n bytes, written in sequence (Table 15-9). -/
def NonVolatile.stagePages (n : NonVolatile) (slotB : Bool) (bytes : Nat) : NonVolatile :=
  (List.range 12).foldl (fun (m : NonVolatile) k =>
    match m.physical (12 * slotB.toNat + k) with
    | some (i, _) =>
      let pages := min 256 ((bytes - 0x20000 * k + 511) / 512)
      m.updSector i (fun y => { y with prog := servicePages ||| BitVec.ofNat 264 (2 ^ pages - 1) })
    | none => m) n

/-- A baseline record is valid: the one before it keeps its sector, that of logical sector 60 or 61 (R212, Table 15-9). -/
def NonVolatile.storeBaseline (n : NonVolatile) (rec : List (Ch × Baseline)) (i : Fin 255) : NonVolatile :=
  let l : Fin 70 := ⟨60 + (n.baseSeq + 1) % 2, by omega⟩
  { (n.updSector i.val (fun y =>
      { y with use := .mapped l, assigned := some (some l), prog := y.prog ||| servicePages, aseq := y.aseq + 1, ctag := 0 })) with
    oldBaselines := n.baselines, oldBaseSeq := n.baseSeq, baselines := rec, baseSeq := n.baseSeq + 1 }

/-- What the last program or erase of an operation makes valid in the stores (R449 rule 2); an erase header names its pulses
(Table 15-3). -/
def NonVolatile.commit (n : NonVolatile) (pulses : Nat) : NvCont → NonVolatile
  | .nothing => n
  | .options o => n.storeOptions o
  | .userWrite addr bytes tag => n.commitUser addr bytes tag
  | .retProfile pace limit => { n with pace := pace, rlimit := limit }
  | .mark _ _ _ _ => n
  | .imageChunk b complete => (n.stagePages b (n.image b).bytes.length).updImage b (fun x =>
      if complete then { x with status := 3, ver := Config.imageVersion x.bytes, svn := Config.imageSvn x.bytes }
      else { x with status := 2 })
  | .imageActive b => { (n.updImage b (fun x => { x with status := 0 })) with activeB := b }.note (.active b)
  | .mapImport bytes => (imageSections bytes).foldl NonVolatile.importSection n
  | .eraseSector i | .baseErase i => n.eraseSector i.val pulses
  | .baseline rec i => n.storeBaseline rec i

/-- The mark record of LEDGER_MARK (Table 17-3): session, role, tag and text; its page takes the records that wait too (R477). -/
def State.recordMark (s : State) (tag : Word32) (text : List Byte) (manager : Bool) (session : Byte) : State :=
  let s1 := s.record 0x16 ([session, byteOf manager.toNat] ++ wordBytes tag ++ text)
  s1.updNv (fun n => { n with ledger := n.ledger.map (fun r =>
    if r.stored then r else { r with stored := true, place := n.mainSector.val }) })

/-- The effect of a completed program on the stores and on what follows them live. -/
def State.commitNv (s : State) (k : NvCont) (pulses : Nat) : State :=
  let s1 := s.updNv (fun n => n.commit pulses k)
  match k with
  | .mark tag text manager session => s1.recordMark tag text manager session
  | .mapImport bytes => (imageSections bytes).foldl State.importLive s1
  | .retProfile _ _ => s1.evalHealth
  | _ => s1

/-! ## Access to Quince -/

/-- QUINCE_IDLE_OFF: the domain is switched off after 1 ms without an access, and the lines are emptied (Table 12-2, R446). -/
def execQuinceIdleOff (s : State) : Result :=
  .next (if s.nvFree then
    { s with power := { s.power with quinceOff := true, quinceWaking := false }, quince := s.quince.empty } else s)

/-- QUINCE_WAKE_COMPLETE: the wake ends, CORE_STALL returns to 0 (R334); a baseline record that waited is written (R212). -/
def execQuinceWakeComplete (s : State) : Result :=
  .next (if s.power.quinceWaking then
    ({ s with power := { s.power with quinceOff := false, quinceWaking := false }, mgmt := { s.mgmt with stall := false } }).driveBaselines
  else s)

/-! ## Patrol, wear and journal -/

/-- Pulses above which an operation's sector is retired (Table 15-6). -/
def retireLimit : NvKind → Nat
  | .single => 10
  | .lower => 14
  | .upper => 28
  | .eraseMain | .eraseParam => 6

/-- QUINCE_PATROL: the outcome of a page read is counted (R433); a page that fails its margin, or has 9 or more corrected
bits, has its sector relocated, and the sector is retired when worn or young (R439); an unreadable page retires it. Numbers from 255
name P0 to P7 and the three blocks of the option area, of which none can be relocated (R438; DEDUCED, assumption 135). -/
def State.patrol (s : State) (sector : Fin 266) (corrected : Nat) (margin : Margin) (decodes young : Bool) : State :=
  let readable := decodes && decide (corrected ≤ 12)
  let s1 := { s with quince := { s.quince with
    reads := if readable && decide (corrected ≤ 8) then bump s.quince.reads else s.quince.reads
    corrected := if readable && decide (8 < corrected) then bump s.quince.corrected else s.quince.corrected
    uncorrectable := if readable then s.quince.uncorrectable else bump s.quince.uncorrectable } }
  match s.nv.sectors[sector.val]? with
  | none => s1
  | some x =>
    if x.logical.isNone || decide (255 ≤ sector.val) then s1
    else if !readable then s1.retire sector.val 4
    else if strictPassed margin && decide (corrected ≤ 8) then s1
    else if decide (1500 ≤ x.ecnt) || young then s1.retire sector.val 3
    else match s1.nv.poolSector with
      | some (j, _) => ({ s1 with nv := s1.nv.move sector.val j }).startNv .eraseMain (some (Fin.ofNat 255 sector.val)) none
          (.eraseSector (Fin.ofNat 255 sector.val)) none
      | none => s1

/-- QUINCE_PATROL. -/
def execQuincePatrol (sector : Fin 266) (corrected : Nat) (margin : Margin) (readable young : Bool) (s : State) : Result :=
  .next (if s.power.booted then s.withQuince (s.patrol sector corrected margin readable young) else s)

/-- The wear-levelling move of R443: the mapped sector and the pool sector that takes its contents. -/
def NonVolatile.wearMove (n : NonVolatile) (cold : Bool) : Option (Nat × Nat) :=
  let mapped := n.numbered.filter (fun x => x.2.logical.isSome)
  let pool := n.numbered.filter (fun x => x.2.inPool)
  if cold then
    match leastBy (fun x => x.2.ecnt) mapped, leastBy (fun x => 1000000 - x.2.ecnt) pool with
    | some (i, _), some (j, _) => some (i, j)
    | _, _ => none
  else
    match leastBy (fun x => x.2.ecnt) pool with
    | some (j, y) => (mapped.find? (fun x => decide (y.ecnt + 300 < x.2.ecnt))).map (fun x => (x.1, j))
    | none => none

/-- WEAR_LEVEL: the contents move, then the old sector is erased (R443). -/
def execWearLevel (cold : Bool) (s : State) : Result :=
  .next (if s.power.booted then
    (match s.nv.wearMove cold with
      | none => s
      | some (i, j) => s.withQuince (if h : i < 255 then
          ({ s with nv := s.nv.move i j }).startNv .eraseMain (some ⟨i, h⟩) none (.eraseSector ⟨i, h⟩) none else s))
  else s)

/-- The newest ACTIVE record of the journal. -/
def JournalRec.isActive : JournalRec → Bool
  | .active _ => true
  | _ => false

/-- A COMMIT record whose tag a mapped sector still names. -/
def NonVolatile.commitNeeded (n : NonVolatile) : JournalRec → Bool
  | .commit tag _ => n.sectors.any (fun x => x.logical.isSome && x.ctag == tag)
  | _ => false

/-- The summary of a compaction: the erase counts, the newest ACTIVE record, every COMMIT record still needed (R445); the field-bad
table beside it stands in fieldBad. -/
def NonVolatile.compact (n : NonVolatile) : NonVolatile :=
  { n with
    journal := [.ecnt (n.sectors.map (·.ecnt))] ++ ((n.journal.filter (·.isActive)).getLast?).toList
      ++ n.journal.filter n.commitNeeded
    commits := n.commits.filter (fun tag => n.sectors.any (fun x => x.logical.isSome && x.ctag == tag))
    erases := 0 }

/-- JOURNAL_COMPACT: P0 is erased and takes the summary page, then P1 (R445). -/
def execJournalCompact (s : State) : Result :=
  .next (if s.power.booted then s.withQuince (s.updNv (·.compact)) else s)

/-! ## The ledger's pages and the hours -/

/-- LEDGER_PAGE_PROGRAM: the page of main-part records that waits is programmed (R477). -/
def execLedgerPageProgram (s : State) : Result :=
  .next (if s.power.booted then
    s.withQuince (s.updNv (·.packLedger)) else s)

/-- The lifetime counters restart (R479). -/
def NonVolatile.lifeRestart (n : NonVolatile) : NonVolatile :=
  { n with
    powerHours := 0, lifeHist := Vector.replicate 5 [], lifePeak := Vector.replicate 5 none
    resets := 0, trips := 0, holds := 0 }

/-- LEDGER_SCAN at power-up (R479): missing sequence numbers are recorded as LEDGER_GAP, and without a valid LIFE snapshot
the lifetime counters restart with LIFE_UNKNOWN in force. -/
def execLedgerScan (lost : Option (Word32 × Word32)) (lifeValid : Bool) (s : State) : Result :=
  if !s.power.booted || s.mgmt.ready then .next s
  else
    let s1 := if lifeValid then s else
      (s.updNv (·.lifeRestart)).updMgmt (fun m => { m with lifeUnknown := true })
    match lost with
    | none => .next s1
    | some (a, b) =>
      .next ((s1.updNv (fun n => { n with ledger := n.ledger.filter (fun r =>
        !(decide (a.toNat ≤ r.seq) && decide (r.seq ≤ b.toNat))) })).record 0x18 (wordBytes a ++ wordBytes b))

/-- The current hour of a pseudo-channel ends: its tally joins the 23 before it (R261). -/
def PseudoChannel.hourEnds (q : PseudoChannel) : PseudoChannel :=
  { q with ueHours := (q.ueNow.length :: q.ueHours).take 23, ueNow := [] }

/-- Count an hour in FALLBACK (R245). -/
def State.countFallback (s : State) (c : Ch) (p : Pc) : State :=
  if s.chans[c].regs.adaptAct && s.chans[c].pcs[p].mapState == .fallback then
    s.updNv (fun n => { n with fbHours := n.fbHours.set (pcUnit c p) ((n.fbHours[pcUnit c p]).map (· + 1)) })
  else s

/-- POWER_HOURS_INCREMENT (R261, R245, Table 17-4). -/
def execPowerHoursIncrement (s : State) : Result :=
  if s.inReset then .next s
  else
    let s1 := (s.updAll (fun h => h.updPcs (·.hourEnds))).updNv (fun n => { n with powerHours := n.powerHours + 1 })
    .next (allPcs.foldl (fun (t : State) x => t.countFallback x.1 x.2) s1).evalHealth

/-! ## Option images -/

/-- The stored option values: the newest image, or the defaults (R454, Table 15-13). -/
def State.storedOptions (s : State) : OptionImage := s.nv.options.headD {}

end Sys2Proof.Machine
end

