-- ==== Sys2Proof/Machine/Fuse.lean ====
section
/-! DEFINITION. The base-die eFuse (16): sensing and resolution, regions, copy slots, the shadow load, locks, and the
programming of a word. -/

namespace Sys2Proof.Machine

/-! ## Sensing and resolution -/

/-- What the two margins read of each word. -/
abbrev Sensed := Nat → BitVec 39 × BitVec 39

/-- A sensing of the array: a word reads as blown at both margins but where a named sensing differs (R459). -/
def State.sensedWith (s : State) (senses : List FuseSense) : Sensed := fun w =>
  match senses.find? (fun x => x.word.val == w) with
  | some x => (x.normal, x.tight)
  | none => (s.rawFuse w, s.rawFuse w)

/-- A valid copy slot: its target word and its data (R463). -/
def slotCopy (f : Sensed) (k : Nat) : Option (Nat × Word32) :=
  match fuseDecode (f (0x1F0 + 2 * k)).1, fuseDecode (f (0x1F1 + 2 * k)).1 with
  | some h, some d =>
    if h.extractLsb' 24 8 = 0x5A ∧ h.extractLsb' 16 8 = crc8 (wordBytes d) then some ((h.extractLsb' 0 9).toNat, d) else none
  | _, _ => none

/-- The slot that supplies a word: the lowest valid one that names it (R463). -/
def slotFor (f : Sensed) (w : Nat) : Option (Nat × Word32) :=
  (List.range 8).findSome? (fun k => match slotCopy f k with
    | some (t, d) => if t = w then some (k, d) else none
    | none => none)

/-- The resolved value of a word, none where it stays unresolved (R462). -/
def resolveWord (f : Sensed) (w : Nat) : Option Word32 :=
  match fuseDecode (f w).1 with
  | some v => some v
  | none => (slotFor f w).map (·.2)

/-- First and last word of a region of 0 to 6 (Table 16-1); the last of 0 to 5 is the CRC word. -/
def regionFirst (r : Nat) : Nat := [0x000, 0x080, 0x0C0, 0x100, 0x140, 0x180, 0x1C0].getD r 0
@[inherit_doc regionFirst] def regionLast (r : Nat) : Nat := [0x07F, 0x0BF, 0x0FF, 0x13F, 0x17F, 0x1BF, 0x1FF].getD r 0

/-- The region of a word. -/
def regionOf (w : Nat) : Nat :=
  if w < 0x080 then 0 else if w < 0x0C0 then 1 else if w < 0x100 then 2 else if w < 0x140 then 3
  else if w < 0x180 then 4 else if w < 0x1C0 then 5 else 6

/-- The words of a region. -/
def regionWords (r : Nat) : List Nat := (List.range (regionLast r + 1 - regionFirst r)).map (fun k => regionFirst r + k)

/-- A lock word counts as a lock in force when it is not 0 or stays unresolved (R462). -/
def lockSensed (f : Sensed) (w : Nat) : Bool := resolveWord f w != some 0

/-- A region of 0 to 5 fails its check (R461, R462): blank and open regions load, a checked one needs its CRC; a
write-locked region whose CRC word is 0 fails. -/
def regionFails (f : Sensed) (r : Nat) : Bool :=
  let vals := (regionWords r).map (fun w => (w, resolveWord f w))
  let crc := resolveWord f (regionLast r)
  let words : List (Nat × Word32) := vals.filterMap (fun x => x.2.map (fun v => (x.1, v)))
  if vals.any (fun x => x.2.isNone) then true
  else if crc = some 0 then lockSensed f (0x1C0 + 2 * r)
  else crc != some (regionCrc words (regionFirst r) (regionLast r))

/-- The default of a word of an invalid region: LABCLOSE and VISLOCK of CFG0, 0 elsewhere (Table 16-4). -/
def fuseDefault (w : Nat) : Word32 := if w = 0x080 then 0xC else 0

/-- The value of a word in the shadow (R462, R464). -/
def shadowWord (f : Sensed) (invalid : Nat → Bool) (w : Nat) : Word32 :=
  if regionOf w < 6 && invalid (regionOf w) then (match slotFor f w with
    | some (_, d) => d
    | none => fuseDefault w)
  else (resolveWord f w).getD 0

/-- A word reads differently at the two margins (R460). -/
def wordMarginal (f : Sensed) (w : Nat) : Bool := (f w).1 != (f w).2

/-- The slots that supply some word of the shadow (R462, Table 16-5). -/
def slotsUsed (f : Sensed) (invalid : Nat → Bool) : BitVec 8 :=
  BitVec.ofNat 8 ((List.range 8).foldl (fun acc k =>
    match slotCopy f k with
    | some (t, _) =>
      if (slotFor f t).map (·.1) = some k ∧ ((fuseDecode (f t).1).isNone ∨ (regionOf t < 6 ∧ invalid (regionOf t) = true))
      then acc + 2 ^ k else acc
    | none => acc) 0)

/-- The slots that read 0 at both margins (Table 16-5). -/
def slotsFree (f : Sensed) : BitVec 8 :=
  BitVec.ofNat 8 ((List.range 8).foldl (fun acc k =>
    if f (0x1F0 + 2 * k) = (0, 0) ∧ f (0x1F1 + 2 * k) = (0, 0) then acc + 2 ^ k else acc) 0)

/-- The anti-rollback count: ARC words that read non-zero at either margin (R466). -/
def arcCount (f : Sensed) : Nat :=
  ((List.range 32).filter (fun k => (f (0x1D0 + k)).1 != 0 || (f (0x1D0 + k)).2 != 0)).length

/-- The shadow that a sensing gives (R459 to R466). -/
def loadShadow (f : Sensed) : FuseShadow :=
  let bad := (List.range 6).map (regionFails f)
  let invalid (r : Nat) : Bool := bad.getD r false
  { loaded := true
    words := ((List.range 512).map (fun w => (w, shadowWord f invalid w))).filter (fun x => x.2 != 0)
    invalid := BitVec.ofNat 7 ((List.range 6).foldl (fun acc r => if invalid r then acc + 2 ^ r else acc) 0)
    slotsUsed := slotsUsed f invalid
    slotsFree := slotsFree f
    marginal := (List.finRange 512).filter (fun w => wordMarginal f w.val)
    unresolved := (List.finRange 512).filter (fun w => decide (0x1C0 ≤ w.val) && (resolveWord f w.val).isNone)
    arc := arcCount f }

/-! ## Repair records -/

/-- Load one lane record (R458, R41, Table 16-3): the channel's spare of the unit takes the position with SRC 01b; a record
that names a unit already repaired or a position outside Table 2-6 is ignored and counted. -/
def State.loadLane (s : State) (w : Word32) : State :=
  let c : Ch := (w.extractLsb' 26 5).toFin
  let u := (w.extractLsb' 23 3).toNat
  let pos := (w.extractLsb' 18 5).toNat
  if !w.getLsbD 31 then s
  else if h : u < 6 then
    (if positionOk ⟨u, h⟩ pos && !(s.chans[c].map.unit ⟨u, h⟩).en then
      s.updCh c (fun x => { x with map := x.map.assign ⟨u, h⟩ pos 1 })
    else { s with fuse := { s.fuse with ignored := bump s.fuse.ignored } })
  else { s with fuse := { s.fuse with ignored := bump s.fuse.ignored } }

/-- Load one TSV record (R458, R143, Table 16-3). -/
def State.loadTsv (s : State) (w : Word32) : State :=
  let c : Ch := (w.extractLsb' 26 5).toFin
  let g : Fin 16 := (w.extractLsb' 22 4).toFin
  let pos := (w.extractLsb' 17 5).toNat
  if !w.getLsbD 31 then s
  else if h : pos < 18 then
    (if (s.chans[c].tsv.repair[g]).isNone then
      s.updCh c (fun x => { x with tsv := { x.tsv with repair := x.tsv.repair.set g (some ⟨pos, h⟩)
                                                       fused := x.tsv.fused ||| (1#16 <<< g.val) } })
    else { s with fuse := { s.fuse with ignored := bump s.fuse.ignored } })
  else { s with fuse := { s.fuse with ignored := bump s.fuse.ignored } }

/-- How a word was resolved, as the ledger records it: 0 by its own read, 1 by a copy slot, 2 not (R465). -/
def resolution (f : Sensed) (w : Nat) : Byte :=
  if (fuseDecode (f w).1).isSome then 0 else if (slotFor f w).isSome then 1 else 2

/-- The records of a load: each marginal word with its raw reads and its resolution, each invalid region (R464, R465). -/
def State.recordLoad (s : State) (f : Sensed) : State :=
  let s1 := s.fuse.marginal.foldl (fun (t : State) w =>
    t.ledger 0x0F (natBytes 2 w.val ++ natBytes 5 (f w.val).1.toNat ++ natBytes 5 (f w.val).2.toNat
      ++ [resolution f w.val])) s
  (List.range 6).foldl (fun (t : State) r => if s.fuse.invalid.getLsbD r then t.ledger 0x0F [byteOf r] else t) s1

/-- Load the shadow from a sensing, with the repairs it holds and the records it makes. -/
def State.fuseLoad (s : State) (f : Sensed) : State :=
  let s1 := { s with fuse := loadShadow f }
  let word (w : Nat) : Word32 := sparseGet s1.fuse.words w
  let s2 := (List.range 63).foldl (fun (t : State) k => t.loadLane (word (0x0C0 + k))) s1
  let s3 := (List.range 63).foldl (fun (t : State) k => t.loadTsv (word (0x100 + k))) s2
  s3.recordLoad f

/-- FUSE_STAT (Table 16-5). -/
def State.fuseStat (s : State) : Word32 :=
  BitVec.ofNat 32 (s.fuse.loaded.toNat * 2 ^ 31 + s.fuse.invalid.toNat * 2 ^ 24 + s.fuse.slotsUsed.toNat * 2 ^ 16
    + s.fuse.slotsFree.toNat * 2 ^ 8 + min s.fuse.marginal.length 255)

/-- FUSE_SHADOW_LOAD: once after each stack reset (R459, Table 12-6). -/
def execFuseShadowLoad (senses : List FuseSense) (s : State) : Result :=
  .next (if s.inReset || s.fuse.loaded then s else s.fuseLoad (s.sensedWith senses))

/-! ## Locks and what may be programmed -/

/-- A word of region 6 in the shadow counts as blown: not 0, or unresolved (R462). -/
def State.fuseBlown (s : State) (w : Fin 512) : Bool :=
  sparseGet s.fuse.words w.val != 0 || s.fuse.unresolved.contains w

/-- The write lock and the read lock of a region are in force (R470). -/
def State.writeLocked (s : State) (r : Nat) : Bool := r < 6 && s.fuseBlown (Fin.ofNat 512 (0x1C0 + 2 * r))
@[inherit_doc State.writeLocked] def State.readLocked (s : State) (r : Nat) : Bool :=
  r < 6 && s.fuseBlown (Fin.ofNat 512 (0x1C1 + 2 * r))

/-- FACTORY_CLOSE is blown (R471, R510). -/
def State.factoryClosed (s : State) : Bool := s.fuseBlown 0x1CC

/-- A region takes no further words: its CRC word has been programmed (R469). -/
def State.regionClosed (s : State) (r : Nat) : Bool := r < 6 && s.rawFuse (regionLast r) != 0

/-- Fields of CFG0 (Table 16-2). -/
def State.labClose (s : State) : Bool := (sparseGet s.fuse.words 0x080).getLsbD 2
@[inherit_doc State.labClose] def State.visLock (s : State) : Bool := (sparseGet s.fuse.words 0x080).getLsbD 3
@[inherit_doc State.labClose] def State.swapEn (s : State) : Bool := (sparseGet s.fuse.words 0x080).getLsbD 4

/-- DIEID (Table 16-2). -/
def State.dieId (s : State) : BitVec 64 := sparseGet s.fuse.words 0x140 ++ sparseGet s.fuse.words 0x141

/-- What the rules of R469 say of a FUSE_PROGRAM of a base-die word: its status and detail, OK where it may be sent to the
controller. The header word of a copy slot names the slot's target; its data word has the target of the header blown
before it, if there is one. -/
def State.fuseAllowed (s : State) (w : Nat) (bits : Word32) : Byte × Byte :=
  let r := regionOf w
  if r = 6 then
    (if w < 0x1F0 then (stBadArg, 0)
     else
      let h := if w % 2 = 0 then bits else (fuseDecode (s.rawFuse (w - 1))).getD 0
      if (w % 2 = 0 || h.extractLsb' 24 8 == 0x5A) && s.writeLocked (regionOf (h.extractLsb' 0 9).toNat) then (stDenied, 0x07)
      else (stOk, 0))
  else if s.writeLocked r || s.regionClosed r then (stDenied, 0x07)
  else if r = 0 && s.factoryClosed then (stBadArg, 0)
  else (stOk, 0)

/-! ## Programming a word -/

/-- FAILBITS of a word (R467): its data bits not verified, all ones where a check bit is not. -/
def failWord (bits failBits : BitVec 39) : Word32 :=
  let f := bits &&& failBits
  if (f.extractLsb' 32 7) != 0 then 0xFFFFFFFF else f.extractLsb' 0 32

/-- PULSES of a program, the most any bit took (R405, R467): 0 with nothing to blow, 3 where a bit failed, else a free value
of 1 to 3. -/
def State.pulses (s : State) (nothing failed : Bool) : Byte × State :=
  if nothing then (0, s) else if failed then (3, s)
  else
    let (v, s1) := s.free 2
    (byteOf (1 + v.toNat % 3), s1)

/-- A free word of a repair region for a lane or TSV record: the lowest whose raw bits are 0 and which no request waits to
program (R469). -/
def State.freeRecord (s : State) (r : Nat) : Option Nat :=
  ((regionWords r).filter (fun w => w != regionLast r)).find? (fun w =>
    s.rawFuse w == 0 && !s.fuseQueue.any (fun j => j.word.val == w))

/-- Queue a word for the fuse controller (R467). -/
def State.queueFuse (s : State) (w : Nat) (bits : Word32) (owner : Option (Slot × BitVec 16)) : State :=
  { s with fuseQueue := s.fuseQueue ++ [{ word := Fin.ofNat 512 w, bits := fuseEncode bits, owner := owner }] }

end Sys2Proof.Machine
end

