-- ==== Sys2Proof/Machine/Power.lean ====
section
/-! DEFINITION. Rails, resets, the power-up sequence of Table 12-6 and the management-plane reset (12, R12, R25 to R27). -/

namespace Sys2Proof.Machine

/-! ## Stack reset -/

/-- Place of a rail in Table 12-1. -/
def railIx : Rail → Fin 7
  | .vdd => 0 | .vddaon => 1 | .vddpll => 2 | .vddq => 3 | .vddsb => 4 | .vdd2 => 5 | .vpp => 6

/-- Records that reached Quince; those in SRAM are lost, and the sequence goes on after the highest kept (R475, R477). -/
def NonVolatile.dropUnstored (n : NonVolatile) : NonVolatile :=
  let kept := n.ledger.filter (·.stored)
  { n with ledger := kept, nextSeq := kept.foldl (fun acc r => max acc (r.seq + 1)) 1 }

/-- An operation cut short by a stack reset leaves its page indeterminate: whether what it wrote counts is a free value
(R447, R448). -/
def State.cutNv (s : State) : State :=
  match s.quince.op with
  | none => s
  | some o =>
    let (v, s1) := s.free 1
    if v = 1 then s1.updNv (fun n => (n.opEnds o true).commit 0 o.cont) else s1.updNv (·.cutShort o)

/-- What of the core dies' own state the model keeps in the channels outlives a stack reset (Table 12-9, R127, R139, R142, R146): the
row mappings and those that wait for SREF_EXIT, the ignored items, which layers are in self-refresh. -/
def Channel.keepDies (h old : Channel) : Channel :=
  { h with
    pcs := h.pcs.mapFinIdx (fun i q hi => { q with spares := (old.pcs[i]'hi).spares, sparesDue := (old.pcs[i]'hi).sparesDue })
    tsv := { h.tsv with ignored := old.tsv.ignored, coreSr := old.tsv.coreSr } }

/-- The state a stack reset leaves (Table 12-9): everything at its reset value but the stores, the core dies, the TAP and
what asserts the reset. Incomplete staging leaves its image slot without an image (R411). A reset that meets the stack in reset
is part of the same one (Table 17-4 RESETS). -/
def State.stackReset (s : State) (power : Power) : State :=
  let s1 := s.cutNv.cutFuse
  { pending := s.pending
    fresh := s1.fresh + 1
    chans := (chansAt (s1.fresh + 1)).mapFinIdx (fun i h hi => h.keepDies (s.chans[i]'hi))
    dies := s.dies
    nv := { s1.nv.dropUnstored with
      imageA := s1.nv.imageA.abandon, imageB := s1.nv.imageB.abandon
      resets := if s.inReset then s1.nv.resets else bump s1.nv.resets }
    power := power
    tap := s.tap }

/-- The power state while reset is held. -/
def Power.held (p : Power) : Power := { rails := p.rails, resetN := p.resetN, por := p.por, saddr := p.saddr, sense := p.sense }

/-- RAIL_GOOD: the power-on reset stays until 200 us after the last rail (R326). -/
def execRailGood (r : Rail) (s : State) : Result :=
  .next { s with power := { s.power with rails := s.power.rails.set (railIx r) true } }

/-- A rail that keeps the TAP alive (R511). -/
def tapRail (r : Rail) : Bool := r == .vddsb || r == .vdd || r == .vddaon

/-- A core die at its own power-up: its registers are reset, the anti-fuses stay (05, Table 12-9). -/
def CoreDie.powerUp (d : CoreDie) : CoreDie :=
  { d with coreRl := 0, tsvTest := 0, tsvRep := [], pend := none, odecc := [] }

/-- The rows of a pseudo-channel that its layers serve from spares once they have powered up: those of their repair records
(R141). -/
def State.recordSpares (s : State) (c : Ch) (p : Pc) : List SpareMap :=
  (List.finRange 4).flatMap (fun sid =>
    let d := s.dies[layerOf c sid]
    recordMaps d.antifuse (if d.dens then 16384 else 24576) sid c p)

/-- The core dies power up: every register is reset, soft mappings are gone, the repair records apply (R141, Table 12-9). -/
def State.diesPowerUp (s : State) : State :=
  { s with
    dies := s.dies.map (·.powerUp)
    chans := s.chans.mapFinIdx (fun i h hi => { h with
      pcs := h.pcs.mapFinIdx (fun j q hj => { q with spares := s.recordSpares ⟨i, hi⟩ ⟨j, hj⟩, sparesDue := [] })
      tsv := { h.tsv with ignored := Vector.replicate 4 0, coreSr := 0 } }) }

/-- RAIL_LOST: the whole stack is reset as by RESET_n (R326, R329); core dies that lose VDD2 or VPP lose their registers and
soft mappings, the TAP its state with its rails. -/
def execRailLost (r : Rail) (s : State) : Result :=
  let s1 := s.stackReset { s.power.held with rails := s.power.rails.set (railIx r) false, por := true }
  .next { (if r == .vdd2 || r == .vpp then s1.diesPowerUp else s1) with tap := if tapRail r then {} else s1.tap }

/-- POR_RELEASE: with every rail good (R326). -/
def execPorRelease (s : State) : Result :=
  .next (if s.power.rails.toList.all id then { s with power := { s.power with por := false } } else s)

/-- RESET_ASSERT: a pulse below 100 ns is ignored, from 1 us the stack is reset, between them the outcome is undefined
(R327). -/
def execResetAssert (widthNs : Nat) (s : State) : Result :=
  if widthNs < 100 then .next s
  else if widthNs < 1000 then .fault .resetPulseUndefined
  else .next (s.stackReset { s.power.held with resetN := true })

/-- RESET_RELEASE: RESET_n goes high; SADDR is sampled (R336, R488). -/
def execResetRelease (saddr : BitVec 2) (s : State) : Result :=
  .next (if s.power.resetN then { s with power := { s.power with resetN := false, saddr := saddr } } else s)

/-! ## The power-up sequence -/

/-- The options a channel takes from the shadow (Table 15-12, R9, R66). -/
def Channel.takeOptions (h : Channel) (o : ChanOption) (bin : BitVec 2) : Channel :=
  { h with
    regs := { h.regs with
      binReq := bin, mr03 := o.mr03, adaptEn := o.adapt, adaptAct := o.adapt, policy := o.mr07 }
    pcs := h.pcs.mapFinIdx (fun i q _ => { q with managed := o.mode.getLsbD i })
    trn := { h.trn with txeq := #v[o.txeq0, o.txeq1] } }

/-- Load the option shadow: the newest valid image or the defaults (R454); BIN_ACT is limited by the part (R67); the
current visibility takes its default (R207); Wick leaves OFF (Table 11-3); the lap clocks of Pass-through pseudo-channels
run (R268). -/
def State.loadOptions (s : State) : State :=
  let o := s.storedOptions
  let bin := if s.maxBin.toNat < o.binDef.toNat then s.maxBin else o.binDef
  { s with
    quince := { s.quince with shadow := o }
    chans := s.chans.mapFinIdx (fun i h hi => (h.takeOptions (o.chans[i]'hi) o.binDef).lapsAfter h s.timeUs)
    wick := { s.wick.search with binAct := bin }
    mgmt := { s.mgmt with visible := o.calVis && !s.visLock }
    power := { s.power with optionLoaded := true } }

/-- OPTION_SHADOW_LOAD, after the fuse shadow (Table 12-6). -/
def execOptionShadowLoad (s : State) : Result :=
  .next (if s.inReset || !s.fuse.loaded || s.power.optionLoaded then s else s.loadOptions)

/-- SRAM_FILL, after the fuse shadow, and in a management-plane reset before any Lantern leaves reset (Table 12-6, R342). -/
def execSramFill (s : State) : Result :=
  .next (if s.inReset || !s.fuse.loaded then s
    else { s with power := { s.power with sramFilled := true }, mgmt := { s.mgmt with sramBad := [] } })

/-- The image the boot ROM tries first: the active one, or the other in the cases of R343. -/
def State.firstImage (s : State) : Bool := Bool.xor s.nv.activeB s.mgmt.otherImage

/-- The last page of every sector that is open for programming is margin-read with its partner, and a sector that fails is closed:
which ones fail is a free value (R448; assumption 133). -/
def State.closeOpen (s : State) : State :=
  let (failed, s1) := s.free 255
  s1.updNv (fun n => { n with sectors := n.sectors.mapIdx (fun i x => if x.isOpen && failed.getLsbD i then x.close else x) })

/-- The boot ROM reads Quince, whose domain wakes for it (Table 12-2); after a stack reset it builds the sector table (R430), and the
open sectors are examined (R448). -/
def State.bootScan (s : State) : State :=
  let s1 := if s.power.scanned then s else (s.updNv (·.scan)).closeOpen
  { s1 with power := { s1.power with scanned := true, quinceOff := false, quinceWaking := false } }

/-- The boot ROM starts an image and sets the execute-only ranges, once between stack resets (R343, R446); the jump into the image
is its first fetch (R431). -/
def State.startImage (s : State) (b : Bool) : State :=
  ({ s with
    power := { s.power with booted := true }
    mgmt := { s.mgmt with runsB := b, recovery := false, otherImage := false }
    quince := { s.quince with
      xo := if s.quince.xo.isEmpty then (Config.imageRanges (s.nv.image b).ver).take 8 else s.quince.xo } }).fetchLine
    (Config.entryPoint (s.nv.image b).ver) true

/-- BOOT_VERIFY: once the SRAM is filled and the options are loaded (Table 12-6, R343). An image whose staging has begun is
no fallback (R411); with neither image the plane is held in recovery and the failure is recorded when an image runs. -/
def execBootVerify (okA okB : Bool) (s : State) : Result :=
  let ok (b : Bool) : Bool := (if b then okB else okA) && (s.nv.image b).status != 2
  if s.inReset || !s.power.sramFilled || !s.power.optionLoaded || s.power.booted || s.mgmt.recovery then .next s
  else if ok s.firstImage then .next (s.bootScan.startImage s.firstImage)
  else if ok (!s.firstImage) then .next (s.bootScan.startImage (!s.firstImage))
  else .next ((s.bootScan.updMgmt (fun m => { m with recovery := true })).ledger 0x10 [byteOf s.mgmt.rstCause.toNat])

/-- TVER of the table in the running image (R180). -/
def State.imageTable (s : State) : BitVec 16 := Config.imageTver (s.nv.image s.mgmt.runsB).ver

/-- Stage the running image's table and arm it, in a channel whose active table is another one (R15, R179, R180); while the old
bank drains the write is discarded and counted (R14, R170; one write, DESIGN CHOICE, log 122). -/
def Channel.stageImage (h : Channel) (tver : BitVec 16) : Channel :=
  if h.taper.armed || (h.taper.active.verified && h.taper.active.tver == tver) then h
  else if h.taper.draining then h.discardWrite
  else
    h.updTaper (fun t => { t with
      armed := true
      shadow := { verified := true, signed := true, complete := true, tver := tver, baltil := true } })

/-- TABLE_LOAD: Dzixia runs and Wick is in RUN (Table 12-6, R179); not after a trip (Table 12-7). -/
def execTableLoad (s : State) : Result :=
  .next (if s.inReset || !s.power.booted || s.wick.state != .run || s.thermal.trip then s
    else
      { (s.updAll (fun h => { h.stageImage s.imageTable with
          tsv := { h.tsv with clocks := h.tsv.clocks || !s.power.tables
                              frame := if s.power.tables then h.tsv.frame else alignFrame } })) with
        power := { s.power with tables := true } })

/-- A layer answers LAYER_ID. -/
def State.answers (s : State) (l : Fin 16) : Bool := s.dies[l].present && !s.busFailed.getLsbD l.val

/-- The layers that answer, lowest first. -/
def State.found (s : State) : List (Fin 16) := (List.finRange 16).filter s.answers

/-- Discovery passes: the layers that answer are 0 to N - 1, N is 4, 8, 12 or 16, all of one density (R3, R125). -/
def State.discovered (s : State) : Bool :=
  let n := s.found.length
  s.found.map (·.val) == List.range n && decide (n % 4 = 0) && decide (0 < n)
    && s.found.all (fun l => s.dies[l].dens == s.dies[0].dens)

/-- LAYER_ID is asked of every layer index in turn (R125). -/
def State.askLayers (s : State) : State :=
  (List.finRange 16).foldl (fun (t : State) l =>
    let x := svcCmd l 1 0 0
    if t.answers l then (t.exchange x).2.2 else t.updBus (busOf l) (fun b => { b with sent := x.frame })) s

/-- Discovery has passed: every layer takes its CORE_RL (R134), and as many rows are left of the first lap as the banks have
(R229). -/
def State.stackFound (s : State) : State :=
  (s.setCoreRl s.wick.binAct).updAll (fun h => h.updPcs (fun q => q.blindLap s.rows))

/-- LAYER_DISCOVERY: with the tables swapped in everywhere (Table 12-6, R125). Where it fails, LAYERS and DENS of a stack
that the codes of MR16 do not describe are free values, and the sequence stops. -/
def execLayerDiscovery (s : State) : Result :=
  if s.inReset || s.thermal.trip || s.power.discovered || !s.power.tables
      || !s.chans.toList.all (fun h => h.taper.active.verified) then .next s
  else
    let n := s.found.length
    let s0 := s.askLayers
    if s.discovered then
      .next ({ s0 with layers := BitVec.ofNat 2 (n / 4 - 1), dens := s.dies[0].dens
                       power := { s.power with discovered := true } }).stackFound
    else
      let (a, s1) := s0.free 2
      let (d, s2) := s1.free 1
      .next { s2 with
        layers := if n % 4 = 0 ∧ 0 < n then BitVec.ofNat 2 (n / 4 - 1) else a
        dens := if s.found.all (fun l => s.dies[l].dens == s.dies[0].dens) then s.dies[0].dens else d == 1 }

/-- A failing column takes the spare of its group unless it has it; a second one fails the group's pseudo-channel
(R143, R144). -/
def Channel.columnFault (h : Channel) (g : Fin 16) (pos : Fin 18) : Channel :=
  match h.tsv.repair[g] with
  | none => { h with tsv := { h.tsv with repair := h.tsv.repair.set g (some pos) } }
  | some q =>
    if q = pos then h
    else h.updPc (if g.val < 8 then 0 else 1) (fun x => { x with failed := true, tsvFailed := true })

/-- What the TSV test finds in its channel (R144, R215): an eye of a column, in 1/256 UI of the TSV rate, which passes from 0.55 UI
up; the bits in which the echoed CA bits differ; a failing CA, clock or ODS TSV. -/
def State.tsvFault (s : State) : TsvFault → State
  | .column c g pos width => if width.toNat < 141 then s.updCh c (fun h => h.columnFault g pos) else s
  | .echo c differs =>
    if differs = 0 then s else s.updCh c (fun h => h.updPcs (fun x => { x with failed := true, tsvFailed := true }))
  | .shared c => s.updCh c (fun h => h.updPcs (fun x => { x with failed := true, tsvFailed := true }))

/-- TSVREP of a repair group (Table 5-18). -/
def tsvRepValue (r : Option (Fin 18)) : BitVec 6 :=
  match r with
  | some pos => BitVec.ofNat 6 (32 + pos.val)
  | none => 0

/-- TSVREP of every layer that serves a channel follows the repairs in use, by CFG_WR where it holds another value (R143). -/
def State.writeTsvRep (s : State) (c : Ch) : State :=
  ((List.finRange 4).filter s.sidPresent).foldl (fun (t : State) sid =>
    (List.finRange 16).foldl (fun (u : State) g =>
      let v := tsvRepValue s.chans[c].tsv.repair[g]
      if sparseGet (u.dies[layerOf c sid]).tsvRep (16 * (c.val % 8) + g.val) = v then u
      else (u.exchange (svcCmd (layerOf c sid) 0 (tsvRepAddr c g) v.toNat)).2.2) t) s

/-- LB_EN is set on the layer of one SID after the other, and taken back (R215, Table 5-16). -/
def State.loopTest (s : State) (c : Ch) : State :=
  ((List.finRange 4).filter s.sidPresent).foldl (fun (t : State) sid =>
    let l := layerOf c sid
    ((t.exchange (svcCmd l 0 2 (2 * (c.val % 8) + 1))).2.2.exchange (svcCmd l 0 2 0)).2.2) s

/-- A channel's full TSV calibration: every trim takes what is measured, free values of its own (R215). -/
def Channel.calibrateTsv (h : Channel) (seed : Nat) : Channel :=
  { h with tsv := { h.tsv with measured := #v[some seed, some (seed + 1)], trims := [], marginal := [], move := none } }

/-- TSV_TEST: after the journal replay (Table 12-6): with loopback in every layer, spares are assigned, the CA TSVs are checked by
the echoed bits, every trim takes what was measured (R143, R144, R215). -/
def execTsvTest (faults : List TsvFault) (s : State) : Result :=
  if s.inReset || s.thermal.trip || !s.power.journal || s.power.tsvTested then .next s
  else
    let s1 := (List.finRange 32).foldl State.loopTest { s with
      chans := s.chans.mapFinIdx (fun i h _ => h.calibrateTsv (s.fresh + 2 * i)), fresh := s.fresh + 64 }
    let s2 := faults.foldl State.tsvFault s1
    .next { ((List.finRange 32).foldl State.writeTsvRep s2) with power := { s2.power with tsvTested := true } }

/-- The power-up fill of a channel (R113): every Managed pseudo-channel, unless the fill is waived. -/
def State.fillAtPowerUp (s : State) (h : Channel) (waive : Bool) : Channel :=
  (h.updPcs (fun q => if q.managed && !waive then { s.filledWith h q 0 with filled := true } else q)).lapsAfter h s.timeUs

/-- POWER_UP_FILL, after the TSV test (Table 12-6, R113). -/
def execPowerUpFill (s : State) : Result :=
  if s.inReset || s.thermal.trip || !s.power.tsvTested || s.power.fillDone then .next s
  else .next { s with
    chans := s.chans.mapFinIdx (fun i h hi => s.fillAtPowerUp h (s.quince.shadow.chans[i]'hi).waive)
    power := { s.power with fillDone := true } }

/-- CHANNEL_READY, after the fill (Table 12-6); a failed channel does not complete bring-up (Table 12-7, R536). -/
def execChannelReady (c : Ch) (s : State) : Result :=
  .next (if s.inReset || s.thermal.trip || !s.power.fillDone || s.chans[c].isFailed then s
    else s.updCh c (fun h => { h with ready := true }))

/-! ## The management-plane reset -/

/-- The outcome of an outstanding command in the MGMT_RESET record: 1 past its commit point, else 0 (R369). -/
def Cmd.outcome (c : Cmd) : Byte := if c.state == .committed || c.state == .done then 1 else 0

/-- The outstanding commands of every session: identifier, SEQ and outcome (R369, Table 17-3). -/
def State.outstanding (s : State) : List (List Byte) :=
  (List.finRange 16).flatMap (fun k => if s.sessions[k].live then
    s.sessions[k].cmds.map (fun c => [sessionId k s.sessions[k]] ++ natBytes 2 c.seq.toNat ++ [c.outcome]) else [])

/-- The MGMT_RESET records of a reset, 11 commands in a body. -/
def resetBodies (cause : BitVec 3) (cmds : List (List Byte)) : List (List Byte) :=
  (List.range (max 1 ((cmds.length + 10) / 11))).map (fun k =>
    [byteOf cause.toNat] ++ ((cmds.drop (11 * k)).take 11).flatten)

/-- A channel at a management-plane reset (R17, R22, R26, R27, R258, R261, R270): armed swaps are cancelled, shadow banks
unverified, waiting images and pending targets discarded, what the SRAM held of the pseudo-channels is lost. -/
def Channel.mgmtReset (h : Channel) : Channel :=
  let h1 : Channel := { h with
    taper := { h.taper.dropImages with armed := false, shadow := { h.taper.shadow with verified := false } }
    lanes := h.lanes.map (fun l => { l with pending := none })
    rdqs := h.rdqs.map (fun r => { r with pending := none }) }
  h1.updPcs (fun q =>
    { q with cands := [], ueNow := [], ueHours := [], ceSeen := [], symRows := [] })

/-- The map loads whose end waits in the transfer area of a channel (R17, R244). -/
def Taper.loads (t : Taper) (c : Ch) : List (Ch × Pc × Option MapState) :=
  (t.images.map (·.2) ++ t.held).filterMap (fun x => match x with
    | .mapDone p old => some (c, p, old)
    | _ => none)

/-- The other image starts after this reset: after a fetch error, or at the third reset within 60 s that FW_ACTIVATE did
not start (R343). -/
def otherNext (cause : BitVec 3) (recent : List Nat) : Bool :=
  cause == 5 || (cause != 7 && decide (3 ≤ recent.length))

/-- Reset the management plane (R25 to R27, R342, R369, Table 1-3, Table 12-9). The fuse controller completes the word of a
RAISE from its journal record; what other commands had queued has had no effect. -/
def State.mgmtReset (s : State) (cause : BitVec 3) (extra : List (Byte × List Byte)) : State :=
  let now := s.timeUs
  let near := s.mgmt.recent.filter (fun t => decide (now < t + 60000000))
  let recent := if cause = 7 then near else near ++ [now]
  let s1 := { s with
    chans := s.chans.map (·.mgmtReset)
    nv := { s.nv.dropUnstored with imageA := s.nv.imageA.abandon, imageB := s.nv.imageB.abandon }
    sessions := s.sessions.map (·.freed)
    quince := { s.quince with op := s.quince.op.map (fun o => { o with owner := none }), dmaHalted := false }
    fuseQueue := (s.fuseQueue.filter (fun j => decide (0x1D0 ≤ j.word.val ∧ j.word.val < 0x1F0))).map (fun j =>
      { j with owner := none })
    host := { s.host with mgmtRst := true, respValid := false, collected := none }
    manager := { s.manager with mgmtRst := true, respValid := false, collected := none }
    power := { s.power with booted := false, sramFilled := false }
    mgmt := { s.mgmt with
      ready := false, recovery := false, stall := false, rstCause := cause, recent := recent
      otherImage := otherNext cause recent, snap := [], activation := none
      loads := s.mgmt.loads ++ (List.finRange 32).flatMap (fun c => (s.chans[c].taper).loads c)
      table := none, tableOwner := none, imageOwner := none, importOwner := none, restoreOwner := none, nvOwner := none
      visible := s.quince.shadow.calVis && !s.visLock
      thr := Vector.replicate 5 4250, side := Vector.replicate 5 none
      owed := s.mgmt.owed ++ (resetBodies cause s.outstanding).map (fun b => (0x10, b)) ++ extra } }
  (List.finRange 16).foldl (fun (t : State) k => t.endCalRuns k none) s1

/-- The Lanterns run: Dzixia, or the boot ROM in recovery. -/
def State.lanternsRun (s : State) : Bool := !s.inReset && (s.power.booted || s.mgmt.recovery)

/-- RST_CAUSE of a watchdog (Table 13-5). -/
def watchdogCause : Watchdog → BitVec 3
  | .lanternAB => 1
  | .lanternC => 2
  | .lanternD => 3

/-- WATCHDOG_EXPIRY: paused while NVBUSY is 1 (R342). -/
def execWatchdogExpiry (core : Watchdog) (s : State) : Result :=
  .next (if s.lanternsRun && s.quince.op.isNone then s.mgmtReset (watchdogCause core) [] else s)

/-- LOCKSTEP_DISAGREE (R12). -/
def execLockstepDisagree (s : State) : Result := .next (if s.lanternsRun then s.mgmtReset 4 [] else s)

/-- FETCH_TRAP (R343, Table 9-7). -/
def execFetchTrap (s : State) : Result := .next (if s.lanternsRun then s.mgmtReset 5 [] else s)

/-- DATA_LOAD_ERROR: the address is recorded after the restart (Table 9-7), in an INTERNAL record. -/
def execDataLoadError (address : BitVec 32) (s : State) : Result :=
  .next (if s.lanternsRun then s.mgmtReset 6 [(0x11, [0, 0] ++ wordBytes address)] else s)

/-! ## Other resets and domains -/

/-- On leaving EXTEST_RX or EXTEST_TX every training result is set to 11b (R508). -/
def State.leaveExtest (s : State) : State :=
  if s.wrapper.extest then
    { (s.updAll (fun h => { h with trn := { h.trn with
        res := Vector.replicate 8 (Vector.replicate 3 3), resCa := 3, resPc := Vector.replicate 2 3 } })) with
      wrapper := { s.wrapper with extest := false } }
  else s

/-- WRAPPER_RESET: loads BYPASS (R339, R504). -/
def execWrapperReset (s : State) : Result :=
  .next (if s.inReset then s
    else { s.leaveExtest with wrapper := { s.leaveExtest.wrapper with wir := 0, refused := false } })

/-- The TAP operates: VDDSB, VDD and VDDAON are good (R511). -/
def State.tapAlive (s : State) : Bool := s.power.rails[0] && s.power.rails[1] && s.power.rails[4]

/-- TAP_RESET: selects IDCODE (R339, R511). -/
def execTapReset (s : State) : Result :=
  .next (if s.tapAlive then { s with tap := { s.tap with ir := 2 } } else s)

/-- DOMAIN_WAKE: CK activity powers a gated channel group and its TSV half up (Table 12-2, R332). -/
def execDomainWake (g : Fin 8) (s : State) : Result :=
  .next (if s.inReset || !s.power.gated.getLsbD g.val then s
    else { s with power := { s.power with
      gated := s.power.gated &&& ~~~(1#8 <<< g.val)
      tsvOff := s.power.tsvOff &&& ~~~(1#2 <<< (g.val / 4)) } })

end Sys2Proof.Machine
end

