-- ==== Sys2Proof/Machine/Report.lean ====
section
/-! DEFINITION. What the registers of the hardware windows read (Tables 13-1 to 13-8, 11-4), and the payloads of the
telemetry commands (14). -/

namespace Sys2Proof.Machine

/-! ## Window words -/

/-- Code of a state of Wick (Table 11-3). -/
def WickState.code : WickState → Nat
  | .off => 0
  | .search => 1
  | .acquire => 2
  | .setup => 3
  | .run => 4
  | .holdover => 5
  | .linkhold => 6

/-- Number of a transport's window. -/
def windowIx : Transport → Fin 2
  | .host => 0
  | .manager => 1

/-- WICK_STAT (Table 11-4). -/
def State.wickStat (s : State) (t : Transport) : Word32 :=
  let w := s.wick
  BitVec.ofNat 32 (bitsToNat [w.lock, w.refOk, w.rcMgmt, w.refInv, w.syncDone, w.syncIgn[windowIx t], w.syncMissed, w.spread,
      w.followOk, w.bandFail] * 2 ^ 19
    + w.state.code * 2 ^ 29 + w.band.toNat * 2 ^ 14 + w.holdCnt.toNat * 2 ^ 8 + w.lastHold.toNat)

/-- Open sessions, SESS_OPEN (Table 13-5). -/
def State.openSessions (s : State) : Nat := (s.sessions.toList.filter (·.live)).length

/-- Some FAIL_PCn is set. -/
def State.anyFail (s : State) : Bool := s.chans.toList.any (fun h => h.pcs[0].failed || h.pcs[1].failed)

/-- Wick is in HOLDOVER or LINKHOLD. -/
def State.holding (s : State) : Bool := s.wick.state == .holdover || s.wick.state == .linkhold

/-- HW_STATUS (Table 13-5). -/
def State.hwStatus (s : State) (t : Transport) : Word32 :=
  let m := s.mgmt
  BitVec.ofNat 32 (bitsToNat [m.ready, m.recovery, s.quince.op.isSome, m.stall] * 2 ^ 28 + m.health.toNat * 2 ^ 26
    + bitsToNat [m.replace, s.thermal.cattrip, s.holding, s.wick.state == .linkhold, m.lab, s.anyFail,
        (s.window t).mgmtRst] * 2 ^ 19
    + m.rstCause.toNat * 2 ^ 16 + s.openSessions * 2 ^ 8 + m.hbeat.toNat)

/-- HW_READY (Table 13-6). -/
def State.hwReady (s : State) : Word32 :=
  BitVec.ofNat 32 ((List.finRange 32).foldl (fun acc c => if s.chans[c].ready then acc + 2 ^ c.val else acc) 0)

/-- MBX_STATUS (Table 13-8). -/
def State.mbxStatus (s : State) (t : Transport) : Word32 :=
  let w := s.window t
  let wait := s.sessions.toList.any (fun x => x.live && x.transport == t && !x.done.isEmpty)
  let left := if w.claim.isSome then (500000 - (s.timeUs - w.grantAt)) / 2000 else 0
  BitVec.ofNat 32 (bitsToNat [w.claim.isSome, w.accValid, w.respValid, wait] * 2 ^ 28 + w.accCode.toNat * 2 ^ 16
    + w.accSess.toNat * 2 ^ 8 + left)

/-- ID_PART (Table 13-3). -/
def State.idPart (s : State) : Word32 := BitVec.ofNat 32 (0x00013200 + s.maxBin.toNat * 64)

/-- ID_REV (Table 13-4): the stepping word of the fuse shadow. -/
def State.idRev (s : State) : Word32 := (sparseGet s.fuse.words 0x000) &&& 0xFFFF

/-- I2C_STAT as it reads (Table 18-2). -/
def I2c.status (x : I2c) : Byte := (x.stat &&& 0x7E) ||| (if x.swapped then 0x80 else 0)

/-- I2C_MON (Table 18-8). -/
def State.i2cMon (s : State) : Word32 := BitVec.ofNat 32 (s.i2c.suspect.toNat * 256 + s.i2c.status.toNat)

/-- The word a byte list holds at a word number. -/
def wordOf (b : List Byte) (k : Nat) : Word32 := BitVec.ofNat 32 (bytesToNat (((b.drop (4 * k)).take 4 ++ [0, 0, 0, 0]).take 4))

/-- TRN_CTL or TRN_STAT of a channel (R182): the pair of channel c stands at 1000h + 8 c. -/
def State.trnWord (s : State) (k : Nat) : Word32 :=
  let c : Ch := Fin.ofNat 32 (k / 2)
  if k % 2 = 0 then s.chans[c].trnCtl else s.trnStat c

/-- What a read of a window word returns (Table 13-1); a reserved word reads 0. MBX_CLAIM is read by its own commands. -/
def State.windowRead (s : State) (t : Transport) (offset : BitVec 16) : Word32 :=
  let k := offset.toNat / 4
  if k = 0 then 0x2A6
  else if k = 1 then s.idPart
  else if k = 2 then s.idRev
  else if k = 3 then s.hwStatus t
  else if k = 5 then s.mbxStatus t
  else if k = 6 then s.wickStat t
  else if k = 7 then s.hwReady
  else if h : 0x40 ≤ k ∧ k < 0x140 then (s.window t).req[k - 0x40]
  else if 0x200 ≤ k ∧ k < 0x300 then wordOf (s.window t).resp (k - 0x200)
  else if t = .host && k = 0x300 then s.i2cMon
  else if t = .host && decide (0x400 ≤ k) && decide (k < 0x440) then s.trnWord (k - 0x400)
  else 0

/-! ## Telemetry payloads -/

/-- n zero bytes. -/
def zeros (n : Nat) : List Byte := List.replicate n 0

/-- A reading as payloads carry it; 8000h for none (R372). -/
def tempBytes (r : Option Int) : List Byte :=
  natBytes 2 (match r with
    | some x => (BitVec.ofInt 16 x).toNat
    | none => 0x8000)

/-- LAYERS as a count (Table 14-7). -/
def State.layerCount (s : State) : Nat := 4 * s.sids

/-- GET_CONFIG (Table 14-7). -/
def State.configPayload (s : State) : List Byte :=
  [byteOf s.layerCount, byteOf s.dens.toNat, s.wick.binAct.setWidth 8] ++ zeros 13
    ++ (List.finRange 32).flatMap (fun c =>
      let o := s.storedOptions.chans[c]
      [2, 3, 4, 7, 16].flatMap (fun (ma : Fin 32) => natBytes 2 (s.mrRead c ma).toNat)
        ++ [byteOf (o.waive.toNat * 4 + o.mode.toNat), byteOf o.adapt.toNat] ++ natBytes 2 o.mr03.toNat
        ++ [byteOf o.mr07.toNat, byteOf (o.txeq1.toNat * 8 + o.txeq0.toNat)])

/-- Uncorrectable accesses counted in an hour, the highest of the last 24 hours of any pseudo-channel (R382). -/
def State.worstHour (s : State) : Nat :=
  s.chans.toList.foldl (fun acc h => h.pcs.toList.foldl (fun a q => q.ueHours.foldl max (max a q.ueNow.length)) acc) 0

/-- The fewest free spare rows of any bank present (R382). -/
def State.spareMin (s : State) : Nat :=
  allPcs.foldl (fun acc x => (List.finRange 64).foldl (fun a b =>
    if s.sidPresent (bankSid b) then min a (s.freeSpares x.1 x.2 b) else a) acc) 4

/-- GET_HEALTH (R382). -/
def State.healthPayload (s : State) : List Byte :=
  let failed := allPcs.foldl (fun acc x => if s.chans[x.1].pcs[x.2].failed then acc + 2 ^ (2 * x.1.val + x.2.val) else acc) 0
  [s.mgmt.health.setWidth 8, byteOf s.mgmt.replace.toNat, 0, 0] ++ wordBytes s.mgmt.triggers ++ natBytes 8 failed
    ++ natBytes 2 (min s.worstHour 0xFFFF) ++ [byteOf s.spareMin, byteOf s.nvSpares, byteOf (min s.fuse.marginal.length 255)]
    ++ zeros 3 ++ natBytes 4 s.nv.powerHours ++ natBytes 4 s.mgmt.changeSeq

/-- The reading a sensor reports: 8000h where it is faulty or absent (R372). -/
def State.sensorBytes (s : State) (i : Fin 128) : List Byte := tempBytes (s.thermal.valid i)

/-- GET_THERMAL (Table 14-8). -/
def State.thermalPayload (s : State) : List Byte :=
  let t := s.thermal
  [byteOf t.temp.toNat, byteOf t.trip.toNat, 0, 0]
    ++ (List.finRange 4).flatMap (fun sid =>
      let u : Fin 5 := ⟨sid.val, by omega⟩
      tempBytes (s.unitReading u) ++ [(s.modeCode sid).setWidth 8,
        byteOf (if s.sidPresent sid then ((unitSensors u).filter (fun i => (t.valid i).isSome)).length else 0)]
        ++ tempBytes t.peak[u] ++ tempBytes (some s.mgmt.thr[u]))
    ++ tempBytes (s.unitReading 4) ++ tempBytes t.peak[4] ++ tempBytes (some s.mgmt.thr[4])
    ++ natBytes 2 ((unitSensors 4).filter (fun i => (t.valid i).isNone)).length
    ++ (List.finRange 128).flatMap (fun i => if s.sensorPresent i then s.sensorBytes i else natBytes 2 0x8000)

/-- Lane k of a part of CAL_STATUS: PC0, PC1, CA (R386). -/
def partLanes (part : Nat) : List (Fin 100) :=
  (List.finRange 100).filter (fun k => decide (k.val / 39 = part) || (decide (part = 2) && decide (78 ≤ k.val)))

/-- The pass/fail entry of a lane (R386): 0 pass, 1 marginal, 2 failed, 3 unused. Disabled, replaced and bad lanes are
failed, a spare on standby is unused (DEDUCED, log 31). -/
def Channel.passFail (h : Channel) (k : Fin 100) : Nat :=
  (match h.laneState k with
    | 0 => 0
    | 1 => 1
    | 2 => 3
    | _ => 2) * 2 ^ 14 + min h.lanes[k].rejects 7 * 2 ^ 11

/-- CAL_STATUS of a channel and part in a visibility mode, without VIS (R386). -/
def Channel.calEntries (h : Channel) (part : Nat) (coeff : Bool) : List Byte :=
  (partLanes part).flatMap (fun k =>
    if coeff then natBytes 8 (h.laneRecord k).toNat ++ natBytes 2 h.lanes[k].live.toNat ++ [h.lanes[k].width, h.lanes[k].height]
    else natBytes 2 (h.passFail k))

/-- Groups of a pseudo-channel that carry a code, as refresh uses them (R390). -/
def State.binCount (s : State) (c : Ch) (p : Pc) (code : BitVec 2) : Nat :=
  let q := s.chans[c].pcs[p]
  let all := 16 * s.sids * (s.rows / 4) - (if s.chans[c].regs.adaptAct then 64 else 0)
  let live := q.mapState == .loaded || q.mapState == .imported
  let listed := q.bins.filter (fun x => x.2 != 0 && groupOk s.rows (bankSid (groupBank s.rows x.1)) true x.1 && !q.lostMap.contains (x.1 / 256))
  if !live then (if code = 0 then all else 0)
  else if code = 0 then all - listed.length
  else (listed.filter (fun x => x.2 == code)).length

/-- The highest bank debt of a pseudo-channel in REF units, rounded up (R390). -/
def State.worstDebt (s : State) (q : PseudoChannel) : Nat :=
  let rows := q.banks.toList.foldl (fun acc b => max acc b.debt) 0
  ((rows + (s.advance : Int) - 1) / (s.advance : Int)).toNat

/-- RET_STATUS of a pseudo-channel (R390). -/
def State.retPayload (s : State) (c : Ch) (p : Pc) : List Byte :=
  let q := s.chans[c].pcs[p]
  [byteOf q.mapState.code, 0] ++ natBytes 2 q.weak.length ++ natBytes 4 (s.binCount c p 0) ++ natBytes 4 (s.binCount c p 1)
    ++ natBytes 4 (s.binCount c p 2) ++ natBytes 4 (s.binCount c p 3) ++ natBytes 4 q.profiled.length
    ++ natBytes 2 (if q.mapState == .fallback then min (s.nv.fbHours[pcUnit c p].getD 0) 0xFFFF else 0)
    ++ [byteOf (min (s.worstDebt q) 255), byteOf (min (q.requests p).length 255)] ++ natBytes 4 s.nv.gen

/-- ECC_STATUS of a pseudo-channel (R397). -/
def PseudoChannel.eccPayload (q : PseudoChannel) : List Byte :=
  let e := q.errs
  [e.ce, e.ue, e.poisonRd, e.nfRd, e.rsvRd, e.slip, e.odsCe, e.odsUe, e.inj].flatMap (natBytes 4)
    ++ natBytes 2 q.bucket.count ++ [byteOf q.bucket.k, byteOf q.filled.toNat] ++ natBytes 2 q.bucket.thr
    ++ natBytes 2 (min q.ueNow.length 0xFFFF)

/-- STATE of SCRUB_STATUS (R399, R268): 0 running, 1 disabled, 2 not filled, 3 overdue. -/
def PseudoChannel.scrubState (q : PseudoChannel) : Nat :=
  if !q.scrub.enable then 1 else if q.managed && !q.filled then 2 else if q.scrub.overdue then 3 else 0

/-- SCRUB_STATUS of a pseudo-channel (R399); while the lap clock stands, progress is not reported (R268). TARGET is in
minutes, as Table 9-5 has it. -/
def PseudoChannel.scrubPayload (q : PseudoChannel) (now : Nat) : List Byte :=
  let x := q.scrub
  [byteOf q.scrubState, 0] ++ natBytes 2 (60 * x.target) ++ natBytes 4 x.lastLap
    ++ natBytes 4 ((if q.lapRuns then now - x.lapStart else x.lapStart) / 1000000) ++ natBytes 4 x.laps
    ++ natBytes 4 (if q.lapRuns then x.progress else 0)
    ++ natBytes 4 x.ceCur ++ natBytes 4 x.ueCur ++ natBytes 4 x.ceLast ++ natBytes 4 x.ueLast
    ++ natBytes 4 x.writebacks ++ natBytes 4 x.hard ++ natBytes 4 x.deferred

/-- SPARES of a pseudo-channel (R406). -/
def State.sparesPayload (s : State) (c : Ch) (p : Pc) : List Byte :=
  [byteOf (2 ^ s.sids - 1), 0, 0, 0] ++ (List.finRange 64).map (fun b =>
    if s.sidPresent (bankSid b) then
      byteOf ((List.finRange 4).foldl (fun acc k => acc + s.spareState c p b k * 4 ^ k.val) 0)
    else 0)

/-- The version of an image slot, 0 where it holds no valid image (Table 14-7). -/
def ImageSlot.shown (x : ImageSlot) : Word32 := if x.status = 0 then x.ver else 0

/-- FW_INFO (R413). -/
def State.fwPayload (s : State) : List Byte :=
  let n := s.nv
  wordBytes n.imageA.shown ++ wordBytes n.imageB.shown ++ natBytes 2 n.imageA.svn ++ natBytes 2 n.imageB.svn
    ++ [byteOf n.activeB.toNat, byteOf n.imageA.status, byteOf n.imageB.status, byteOf s.fuse.arc]
    ++ natBytes 2 s.imageTable.toNat
    ++ (match s.mgmt.table with
      | some b => natBytes 2 (fieldAt b 6 2)
      | none => [0, 0]) ++ zeros 4
    ++ (List.finRange 32).flatMap (fun c =>
      let t := s.chans[c].taper
      natBytes 2 t.active.tver.toNat ++ [byteOf ((!t.active.signed && t.active.verified).toNat * 2 + t.armed.toNat), 0])

/-! ## The snapshot -/

/-- Key of a telemetry payload: the opcode and the unit. -/
def snapKey (op unit : Nat) : Nat := op * 65536 + unit

/-- The payloads of a telemetry snapshot (R363): the lane entries of a channel in both visibility modes. -/
def State.buildSnap (s : State) : List (Nat × List Byte) :=
  [(snapKey 0x0101 0, s.configPayload), (snapKey 0x0200 0, s.healthPayload), (snapKey 0x0300 0, s.thermalPayload),
   (snapKey 0x0904 0, s.fwPayload)]
    ++ (List.finRange 32).flatMap (fun c => (List.range 3).flatMap (fun part =>
      [(snapKey 0x0400 (8 * c.val + 2 * part), s.chans[c].calEntries part false),
       (snapKey 0x0400 (8 * c.val + 2 * part + 1), s.chans[c].calEntries part true)]))
    ++ allPcs.flatMap (fun x =>
      let u := 2 * x.1.val + x.2.val
      [(snapKey 0x0500 u, s.retPayload x.1 x.2), (snapKey 0x0601 u, (s.chans[x.1].pcs[x.2]).eccPayload),
       (snapKey 0x0604 u, (s.chans[x.1].pcs[x.2]).scrubPayload s.timeUs), (snapKey 0x0704 u, s.sparesPayload x.1 x.2)])

/-- Rebuild the snapshot; HBEAT counts it (R363, Table 13-5). -/
def State.rebuildSnap (s : State) : State :=
  s.updMgmt (fun m => { m with snap := s.buildSnap, snapAt := s.timeUs, hbeat := m.hbeat + 1 })

/-- A payload of the snapshot. -/
def State.snapOf (s : State) (op unit : Nat) : List Byte :=
  ((s.mgmt.snap.find? (fun x => x.1 == snapKey op unit)).map (·.2)).getD []

end Sys2Proof.Machine
end

