-- ==== Sys2Proof/Machine/Jmp.lean ====
section
/-! DEFINITION. The service of JMP commands (14): which command is served next, the checks of Table 14-2, responses,
downloads and uploads, and the session commands. -/

namespace Sys2Proof.Machine

/-! ## The command served -/

/-- The opcodes of Table 14-4, in words of 256: the numbers supported in each word (GET_CAPS OPMAP). -/
def opMap : List (List Nat) :=
  [[1, 2, 3, 4, 5], [0, 1, 2], [0, 1, 2], [0, 1], [0, 1, 2, 3, 4, 5], [0, 1, 2, 3, 4, 5], [0, 1, 2, 3, 4, 5, 6],
   [0, 1, 2, 3, 4], [0, 1], [0, 1, 2, 3, 4], [0, 1, 2, 3], [0, 1], [0, 1], [0, 1]]

/-- The opcode is listed in Table 14-4. -/
def listedOp (op : BitVec 16) : Bool := (opMap.getD (op.toNat / 256) []).contains (op.toNat % 256)

/-- The opcodes served after a trip (R299). -/
def tripOp (op : BitVec 16) : Bool :=
  op == 0x0300 || op == 0x0200 || op == 0x0201 || (decide (1 ≤ op.toNat) && decide (op.toNat ≤ 5))

/-- The command a session has ready: the oldest that is neither done nor urgent, where it has not started (R360). OPEN is
committed at acceptance. -/
def Session.head (x : Session) : Option Cmd :=
  match x.cmds.find? (fun c => !urgentOp c.opcode && c.state != .done) with
  | some c => if c.state == .queued || c.opcode == opOpen then some c else none
  | none => none

/-- The urgent command a session has ready (R360). -/
def Session.urgent (x : Session) : Option Cmd := x.cmds.find? (fun c => urgentOp c.opcode && c.state == .queued)

/-- Lantern A/B serves commands: Dzixia runs and no Lantern is stalled (R362, R365). -/
def State.serves (s : State) : Bool := s.mgmt.ready && !s.mgmt.stall

/-- The session's turn: the round-robin order goes on from it, and it is no longer parked (R362). -/
def State.takeTurn (s : State) (k : Slot) : State :=
  (s.updMgmt (fun m => { m with turn := k })).updSession k (fun x => { x with parked := false })

/-- Answer a command of a session. -/
def State.answer (s : State) (k : Slot) (c : Cmd) (r : Response) : State := (s.takeTurn k).respond k c.seq r

/-- Answer with a status and DETAIL and an empty payload. -/
def State.fails (s : State) (k : Slot) (c : Cmd) (status : Byte) (detail : Byte := 0) : State :=
  s.answer k c { status := status, detail := detail }

/-- Answer OK with a payload. -/
def State.ok (s : State) (k : Slot) (c : Cmd) (payload : List Byte := []) : State :=
  s.answer k c { status := stOk, payload := payload }

/-- Answer from the telemetry snapshot: SNAP and AGE (R363, Table 13-11). -/
def State.snapAnswer (s : State) (k : Slot) (c : Cmd) (payload : List Byte) : State :=
  s.answer k c { status := stOk, snap := true, payload := payload
                 age := BitVec.ofNat 16 (min ((s.timeUs - s.mgmt.snapAt) / 1000) 0xFFFF) }

/-- Serve the command a session has ready, if it is one of this row: the checks 1 to 4 of Table 14-2, then the row's own.
hostOnly: the role of R381; scope: the class of the unlock. An opcode that no row has is refused at any of them. -/
def State.serve (s : State) (k : Slot) (isFor : Cmd → Bool) (hostOnly : Bool) (scope : Option (Fin 5))
    (body : Cmd → State → State) : State :=
  if !s.serves then s
  else match s.sessions[k].head with
    | none => s
    | some c =>
      if !listedOp c.opcode then s.fails k c stBadOpcode
      else if !isFor c then s
      else if s.thermal.trip && !tripOp c.opcode then s.fails k c stDenied 0x04
      else if hostOnly && s.sessions[k].transport != .host then s.fails k c stDenied 0x05
      else match scope with
        | some b => if s.sessions[k].scope.getLsbD b.val then body c s else s.fails k c stDenied 0x06
        | none => body c s

/-- The commands of an opcode. -/
def isOp (op : BitVec 16) (c : Cmd) : Bool := c.opcode == op

/-- The commands of an opcode with a value in a payload byte. -/
def isOpAt (op : BitVec 16) (i v : Nat) (c : Cmd) : Bool := c.opcode == op && fieldAt c.payload i 1 == v

/-- The commands of an opcode whose payload byte i names none of its operations from 1 to the last, so that the row of
operation 0 takes them and refuses what names none. -/
def isOpFirst (op : BitVec 16) (i last : Nat) (c : Cmd) : Bool :=
  c.opcode == op && (decide (fieldAt c.payload i 1 = 0) || decide (last < fieldAt c.payload i 1))

/-- A payload has its length and its reserved bytes are 0 (R372). -/
def shaped (b : List Byte) (len : Nat) (rsv : List Nat) : Bool := b.length == len && rsv.all (fun i => b.getD i 0 == 0)

/-- A body that runs where the payload is valid, else BAD_ARG (Table 14-2, test 5). -/
def State.valid (s : State) (k : Slot) (c : Cmd) (good : Bool) (body : State) : State :=
  if good then body else s.fails k c stBadArg

/-- The pseudo-channels of a PCMASK byte. -/
def maskPcs (m : Nat) : List Pc := (List.finRange 2).filter (fun p => m.testBit p.val)

/-- A PCMASK that names pseudo-channels, and nothing else (R372). -/
def pcMaskOk (m : Nat) : Bool := decide (0 < m) && decide (m < 4)

/-- A channel byte of a payload. -/
def chAt (b : List Byte) (i : Nat) : Ch := Fin.ofNat 32 (fieldAt b i 1)

/-- A pseudo-channel byte of a payload. -/
def pcAt (b : List Byte) (i : Nat) : Pc := Fin.ofNat 2 (fieldAt b i 1)

/-- The channels of a CHMASK. -/
def maskChs (m : Nat) : List Ch := (List.finRange 32).filter (fun c => m.testBit c.val)

/-! ## Downloads and uploads -/

/-- The chunk of an object that starts at an offset, as a response (R375). -/
def chunkOf (no : Nat) (object : List Byte) (off : Nat) : Response :=
  let part := (object.drop off).take 984
  let more := decide (off + part.length < object.length)
  { status := stOk, payload := natBytes 4 object.length ++ natBytes 4 off ++ part, cont := more
    ends := if more then none else some no }

/-- Take a capture, replacing an earlier one of the opcode (R375). -/
def Session.capture (x : Session) (op : BitVec 16) (spec object : List Byte) : Session :=
  { x with captures := { no := x.capNo, opcode := op, spec := spec, object := object } :: x.captures.filter (fun y => y.opcode != op)
           capNo := x.capNo + 1 }

/-- A download (R375): OFFSET 0 captures the object, another OFFSET reads the capture. build gives the object, or the status
and DETAIL that refuse it. -/
def State.download (s : State) (k : Slot) (c : Cmd) (build : List Byte → (Byte × Byte) ⊕ List Byte)
    (onCapture : State → State) : State :=
  let off := fieldAt c.payload 0 4
  let spec := c.payload.drop 4
  if c.payload.length ≠ 16 then s.fails k c stBadArg
  else if off = 0 then
    match build spec with
    | .inl (st, detail) => s.fails k c st detail
    | .inr object =>
      let s1 := (onCapture s).updSession k (·.capture c.opcode spec object)
      s1.answer k c (chunkOf s.sessions[k].capNo object 0)
  else match s.sessions[k].captures.find? (fun y => y.opcode == c.opcode) with
    | none => s.fails k c stBadArg
    | some y =>
      if y.spec = spec ∧ off < y.object.length then s.answer k c (chunkOf y.no y.object off) else s.fails k c stBadArg

/-- An upload's object: who owns it and how ownership is set (R378). -/
structure OwnedObject where
  owner : Mgmt → Option Slot
  setOwner : Mgmt → Option Slot → Mgmt

/-- The owned objects of uploads (Table 14-5). -/
def restoreBuffer : OwnedObject := ⟨fun m => m.restoreOwner, fun m o => { m with restoreOwner := o }⟩
@[inherit_doc restoreBuffer] def importBuffer : OwnedObject := ⟨fun m => m.importOwner, fun m o => { m with importOwner := o }⟩
@[inherit_doc restoreBuffer] def nvBuffer : OwnedObject := ⟨fun m => m.nvOwner, fun m o => { m with nvOwner := o }⟩
@[inherit_doc restoreBuffer] def imageArea : OwnedObject := ⟨fun m => m.imageOwner, fun m o => { m with imageOwner := o }⟩
@[inherit_doc restoreBuffer] def tableArea : OwnedObject := ⟨fun m => m.tableOwner, fun m o => { m with tableOwner := o }⟩

/-- Another session holds the object (R378). -/
def OwnedObject.heldByOther (o : OwnedObject) (s : State) (k : Slot) : Bool :=
  match o.owner s.mgmt with
  | some j => j != k
  | none => false

/-- Fields of an upload chunk (R376). -/
def chunkTotal (c : Cmd) : Nat := fieldAt c.payload 0 4
@[inherit_doc chunkTotal] def chunkOffset (c : Cmd) : Nat := fieldAt c.payload 4 4
@[inherit_doc chunkTotal] def chunkSpec (c : Cmd) : List Byte := (c.payload.drop 8).take 8
@[inherit_doc chunkTotal] def chunkData (c : Cmd) : List Byte := c.payload.drop 16

/-- The chunk continues the upload a session holds (R376). -/
def Upload.continues (u : Upload) (c : Cmd) : Bool :=
  u.opcode == c.opcode && u.total == chunkTotal c && u.spec == chunkSpec c && u.bytes.length == chunkOffset c

/-- The chunk fits its TOTAL, and CONT is set in every chunk except the one that reaches it (R376). -/
def chunkFits (c : Cmd) : Bool :=
  let reach := chunkOffset c + (chunkData c).length
  decide (reach ≤ chunkTotal c) && c.cont == decide (reach < chunkTotal c)

/-- A session holds an incomplete upload, or none any more. -/
def State.putUpload (s : State) (k : Slot) (u : Option Upload) : State :=
  s.updSession k (fun x => { x with upload := u })

/-- An upload chunk (R376 to R378): first checks a first chunk's TOTAL and command-specific bytes. A chunk that breaks the
rules abandons the upload with DETAIL 03h; a first chunk while an upload is incomplete is refused and leaves it; an object
that another session owns is BUSY. take runs with the upload as the chunk leaves it and whether TOTAL is reached. -/
def State.uploadChunk (s : State) (k : Slot) (c : Cmd) (o : OwnedObject) (first : List Byte → Nat → Bool)
    (take : Upload → Bool → State) : State :=
  let run (u : Upload) : State := take { u with bytes := u.bytes ++ chunkData c } (!c.cont)
  if c.payload.length < 16 then s.fails k c stBadArg
  else match s.sessions[k].upload with
    | some u =>
      if u.continues c then (if chunkFits c then run u else (s.abandon k).fails k c stBadArg 0x03)
      else if chunkOffset c = 0 then s.fails k c stBadArg
      else if u.opcode = c.opcode then (s.abandon k).fails k c stBadArg 0x03
      else s.fails k c stBadArg 0x03
    | none =>
      if chunkOffset c ≠ 0 || !chunkFits c then s.fails k c stBadArg 0x03
      else if !first (chunkSpec c) (chunkTotal c) then s.fails k c stBadArg
      else if o.heldByOther s k then s.fails k c stBusy 0x01
      else run { opcode := c.opcode, spec := chunkSpec c, total := chunkTotal c, bytes := [] }

/-! ## Session commands -/

/-- Seconds left on a lease, rounded up. -/
def Session.leaseLeft (x : Session) (now : Nat) : Nat := (x.lease * 1000000 - (now - x.leaseAt) + 999999) / 1000000

/-- OPEN (Table 14-6, R539): its payload is tested now; a session whose OPEN fails only delivers that response. -/
def State.openCmd (s : State) (k : Slot) (c : Cmd) : State :=
  let lease := fieldAt c.payload 0 2
  if shaped c.payload 8 [6, 7] && decide (lease ≤ 3600) then
    let sec := if lease = 0 then 10 else lease
    (s.updSession k (fun x => { x with lease := sec, mask := BitVec.ofNat 32 (fieldAt c.payload 2 4) })).ok k c
      ([transportCode s.sessions[k].transport, 0] ++ natBytes 2 sec ++ [4, 0, 0, 0])
  else (s.updSession k (fun x => { x with refused := true, lease := 10 })).fails k c stBadArg

/-- OPEN. -/
def execOpen (k : Slot) (s : State) : Result :=
  .next (s.serve k (isOp opOpen) false none (fun c t => t.openCmd k c))

/-- Serve the urgent command a session has ready, ahead of the others (R360). -/
def State.serveUrgent (s : State) (k : Slot) (op : BitVec 16) (body : Cmd → State → State) : State :=
  if !s.serves then s
  else match s.sessions[k].urgent with
    | none => s
    | some c => if c.opcode = op then body c s else s

/-- CLOSE (R361): the commands not past their commit point are aborted; it completes, with its counts, once every other
command has completed. -/
def State.closeCmd (s : State) (k : Slot) (c : Cmd) : State :=
  if c.payload.length ≠ 0 then s.fails k c stBadArg
  else
    let hit := s.sessions[k].cmds.filter (fun y => y.seq != c.seq && (y.state == .queued || y.state == .started))
    let s1 := (s.abortAll k c.seq).updSession k (fun x => { x with cancelled := x.cancelled + hit.length })
    let rest := s1.sessions[k].cmds.filter (fun y => y.seq != c.seq)
    if rest.any (fun y => y.state != .done) then s1
    else
      let completed := rest.filter (fun y => y.resp.map (·.status) != some stAborted)
      s1.ok k c [byteOf s1.sessions[k].cancelled, byteOf completed.length, 0, 0]

/-- CLOSE. -/
def execClose (k : Slot) (s : State) : Result := .next (s.serveUrgent k opClose (fun c t => t.closeCmd k c))

/-- KEEPALIVE (Table 14-6); the lease began anew when its frame arrived (R358). -/
def execKeepalive (k : Slot) (s : State) : Result :=
  .next (s.serveUrgent k opKeepalive (fun c t =>
    if c.payload.length ≠ 0 then t.fails k c stBadArg
    else t.ok k c (natBytes 2 (t.sessions[k].leaseLeft t.timeUs) ++ [0, 0])))

/-- ABORT by the state of its target (Table 13-12). -/
def State.abortTarget (s : State) (k : Slot) (c : Cmd) : State :=
  if !shaped c.payload 4 [2, 3] then s.fails k c stBadArg
  else match s.sessions[k].find (BitVec.ofNat 16 (fieldAt c.payload 0 2)) with
    | none => s.fails k c stBadArg
    | some y =>
      if y.seq = c.seq then s.fails k c stAlreadyDone
      else if y.state == .queued || y.state == .started then (s.abortCmd k y).ok k c
      else s.fails k c stAlreadyDone

/-- ABORT. -/
def execAbort (k : Slot) (s : State) : Result := .next (s.serveUrgent k opAbort (fun c t => t.abortTarget k c))

/-- A LIST record of an open session (Table 14-6). -/
def Session.listed (x : Session) (k : Slot) (now : Nat) : List Byte :=
  [sessionId k x, transportCode x.transport, byteOf x.cmds.length, x.scope.setWidth 8] ++ natBytes 2 (x.leaseLeft now)
    ++ [byteOf x.events.length, 0]

/-- LIST. -/
def execList (k : Slot) (s : State) : Result :=
  .next (s.serve k (isOp 0x0005) false none (fun c t =>
    t.valid k c (c.payload.length == 0)
      (let live := (List.finRange 16).filter (fun j => t.sessions[j].live)
       t.ok k c ([byteOf live.length, 0, 0, 0] ++ live.flatMap (fun j => (t.sessions[j]).listed j t.timeUs)))))

end Sys2Proof.Machine
end

