-- ==== Sys2Proof/Machine/JmpInfo.lean ====
section
/-! DEFINITION. JMP commands that report, and the unlock: identity, health, ledger, thermal, telemetry, clock, events, the
user area's reads, the maintenance unlock (14). -/

namespace Sys2Proof.Machine

/-! ## Identity -/

/-- GET_ID's payload (Table 14-7). -/
def State.idPayload (s : State) : List Byte :=
  natBytes 2 0x02A6 ++ natBytes 2 1 ++ [0x32, s.maxBin.setWidth 8] ++ natBytes 2 s.idRev.toNat ++ natBytes 8 s.dieId.toNat
    ++ wordBytes s.nv.imageA.shown ++ wordBytes s.nv.imageB.shown ++ [byteOf s.nv.activeB.toNat, byteOf s.fuse.arc] ++ zeros 6

/-- GET_ID. -/
def execGetId (k : Slot) (s : State) : Result :=
  .next (s.serve k (isOp 0x0100) false none (fun c t => t.valid k c (c.payload.length == 0) (t.ok k c t.idPayload)))

/-- The bits of one word of OPMAP. -/
def opMapWord (nums : List Nat) : Nat := nums.foldl (fun acc n => acc + 2 ^ n) 0

/-- GET_CAPS's payload (Table 14-7). -/
def capsPayload : List Byte :=
  natBytes 2 1 ++ natBytes 2 992 ++ [16, 4] ++ natBytes 4 0x100000 ++ opMap.flatMap (fun w => natBytes 4 (opMapWord w)) ++ [0, 0]

/-- GET_CAPS. -/
def execGetCaps (k : Slot) (s : State) : Result :=
  .next (s.serve k (isOp 0x0102) false none (fun c t => t.valid k c (c.payload.length == 0) (t.ok k c capsPayload)))

/-! ## Telemetry -/

/-- Serve a telemetry command with an empty request (R363). -/
def State.telemetry (s : State) (k : Slot) (op : BitVec 16) : State :=
  s.serve k (isOp op) false none (fun c t =>
    t.valid k c (c.payload.length == 0) (t.snapAnswer k c (t.snapOf op.toNat 0)))

/-- Serve a telemetry command of the pseudo-channels of CH and PCMASK (R363, R390, R397, R399). -/
def State.pcTelemetry (s : State) (k : Slot) (op : BitVec 16) : State :=
  s.serve k (isOp op) false none (fun c t =>
    t.valid k c (shaped c.payload 4 [2, 3] && decide (fieldAt c.payload 0 1 < 32) && pcMaskOk (fieldAt c.payload 1 1))
      (t.snapAnswer k c ((maskPcs (fieldAt c.payload 1 1)).flatMap (fun p =>
        t.snapOf op.toNat (2 * fieldAt c.payload 0 1 + p.val)))))

/-- GET_CONFIG (Table 14-7). -/
def execGetConfig (k : Slot) (s : State) : Result := .next (s.telemetry k 0x0101)

/-- GET_HEALTH (R382). -/
def execGetHealth (k : Slot) (s : State) : Result := .next (s.telemetry k 0x0200)

/-- GET_THERMAL (Table 14-8). -/
def execGetThermal (k : Slot) (s : State) : Result := .next (s.telemetry k 0x0300)

/-- FW_INFO (R413). -/
def execFwInfo (k : Slot) (s : State) : Result := .next (s.telemetry k 0x0904)

/-- RET_STATUS (R390). -/
def execRetStatus (k : Slot) (s : State) : Result := .next (s.pcTelemetry k 0x0500)

/-- ECC_STATUS (R397). -/
def execEccStatus (k : Slot) (s : State) : Result := .next (s.pcTelemetry k 0x0601)

/-- SCRUB_STATUS (R399). -/
def execScrubStatus (k : Slot) (s : State) : Result := .next (s.pcTelemetry k 0x0604)

/-- Coefficients are visible: the current mode, unless VISLOCK (R207). -/
def State.coefficients (s : State) : Bool := s.mgmt.visible && !s.visLock

/-- CAL_STATUS (R386). -/
def execCalStatus (k : Slot) (s : State) : Result :=
  .next (s.serve k (isOp 0x0400) false none (fun c t =>
    let ch := fieldAt c.payload 0 1
    let part := fieldAt c.payload 1 1
    t.valid k c (shaped c.payload 4 [2, 3] && decide (ch < 32) && decide (part < 3))
      (t.snapAnswer k c ([byteOf ch, byteOf part, byteOf t.coefficients.toNat, byteOf (partLanes part).length]
        ++ t.snapOf 0x0400 (8 * ch + 2 * part + t.coefficients.toNat)))))

/-- SPARES (R406). -/
def execSpares (k : Slot) (s : State) : Result :=
  .next (s.serve k (isOp 0x0704) false none (fun c t =>
    let ch := fieldAt c.payload 0 1
    let pc := fieldAt c.payload 1 1
    t.valid k c (shaped c.payload 4 [2, 3] && decide (ch < 32) && decide (pc < 2)) (t.snapAnswer k c (t.snapOf 0x0704 (2 * ch + pc)))))

/-! ## Ledger, thresholds, lane map, repair lists -/

/-- A ledger record as stored, preceded by its length (Table 17-1, R475, R383). -/
def LedgerRec.bytes (r : LedgerRec) : List Byte :=
  let b := natBytes 4 r.seq ++ natBytes 4 r.phours ++ natBytes 4 r.ms
    ++ [byteOf r.cls, r.typ, byteOf r.count, byteOf r.body.length] ++ r.body
  natBytes 2 (20 + r.body.length) ++ b ++ wordBytes (crc32c b)

/-- The records a LEDGER_READ returns: at most count, and no more than a payload holds (R383). -/
def takeRecords : Nat → Nat → List LedgerRec → List LedgerRec
  | 0, _, _ => []
  | _, _, [] => []
  | n + 1, room, r :: rest => if 22 + r.body.length ≤ room then r :: takeRecords n (room - 22 - r.body.length) rest else []

/-- The records LEDGER_READ selects (R383): ascending from START in the classes of the mask, or the newest alone. -/
def State.selectRecords (s : State) (start count classes : Nat) : List LedgerRec :=
  let inClass (r : LedgerRec) : Bool := decide (classes = 0) || classes.testBit r.cls
  if start = 0xFFFFFFFF then ((s.nv.ledger.getLast?).toList).filter inClass
  else takeRecords count 976 (s.nv.ledger.filter (fun r => decide (start ≤ r.seq) && inClass r))

/-- LEDGER_READ's answer. With no record to return, FIRST and NEXT are free values: R383 states them only of records
returned. -/
def State.ledgerAnswer (s : State) (k : Slot) (c : Cmd) (recs : List LedgerRec) : State :=
  match recs.head?, recs.getLast? with
  | some a, some b =>
    s.ok k c (natBytes 4 a.seq ++ natBytes 4 (b.seq + 1) ++ natBytes 2 recs.length ++ zeros 6 ++ recs.flatMap (·.bytes))
  | _, _ =>
    let (first, s1) := s.free 32
    let (next, s2) := s1.free 32
    s2.ok k c (wordBytes first ++ wordBytes next ++ zeros 8)

/-- LEDGER_READ (R383); class bits 14 and 15 are reserved. -/
def execLedgerRead (k : Slot) (s : State) : Result :=
  .next (s.serve k (isOp 0x0201) false none (fun c t =>
    let start := fieldAt c.payload 0 4
    let count := fieldAt c.payload 4 2
    let classes := fieldAt c.payload 6 2
    t.valid k c (c.payload.length == 8 && decide (1 ≤ count) && decide (count ≤ 64) && decide (classes < 0x4000))
      (t.readQuince (t.ledgerAnswer k c (t.selectRecords start count classes)))))

/-- THERMAL_CFG (R385, R295): the thresholds are set and the units' sides begin anew. -/
def execThermalCfg (k : Slot) (s : State) : Result :=
  .next (s.serve k (isOp 0x0301) false none (fun c t =>
    let units := fieldAt c.payload 0 1
    let thr := fieldAt c.payload 2 2
    let named (u : Nat) : Bool := units.testBit u
    let good := (List.finRange 5).all (fun u => !named u.val || t.unitPresent u)
    t.valid k c (shaped c.payload 4 [1] && decide (0 < units) && decide (units < 32) && good && decide (1500 ≤ thr) && decide (thr ≤ 5200))
      ((t.updMgmt (fun m => { m with
        thr := m.thr.mapFinIdx (fun i x _ => if named i then (thr : Int) else x)
        side := m.side.mapFinIdx (fun i x _ => if named i then none else x) })).ok k c)))

/-- LANE_MAP (R389). -/
def execLaneMap (k : Slot) (s : State) : Result :=
  .next (s.serve k (isOp 0x0405) false none (fun c t =>
    let m := (t.chans[chAt c.payload 0]).map
    t.valid k c (shaped c.payload 4 [1, 2, 3] && decide (fieldAt c.payload 0 1 < 32))
      (t.ok k c ([c.payload.getD 0 0, 0, 0, 0] ++ m.sg.toList.flatMap wordBytes ++ wordBytes m.ca))))

/-- CH and PC name a pseudo-channel in a payload of four bytes (R402, R404). -/
def onePcOk (b : List Byte) : Bool := shaped b 4 [2, 3] && decide (fieldAt b 0 1 < 32) && decide (fieldAt b 1 1 < 2)

/-- REMAP_LIST (R402). -/
def execRemapList (k : Slot) (s : State) : Result :=
  .next (s.serve k (isOp 0x0700) false none (fun c t =>
    let q := (t.chans[chAt c.payload 0]).pcs[pcAt c.payload 1]
    t.valid k c (onePcOk c.payload)
      (t.ok k c (q.remap.toList.flatMap wordBytes ++ [byteOf q.cands.length, 0, 0, 0]))))

/-- REPAIR_PLAN (R404): HARDOK holds the active entries. -/
def execRepairPlan (k : Slot) (s : State) : Result :=
  .next (s.serve k (isOp 0x0702) false none (fun c t =>
    let q := (t.chans[chAt c.payload 0]).pcs[pcAt c.payload 1]
    let hard := (List.finRange 8).foldl (fun acc e => if remapState q.remap[e] = 2 then acc + 2 ^ e.val else acc) 0
    let pad := 16 - q.cands.length
    t.valid k c (onePcOk c.payload)
      (t.ok k c ([byteOf q.cands.length, byteOf hard, 0, 0] ++ q.cands.flatMap (fun x => wordBytes x.1) ++ zeros (4 * pad)
        ++ q.cands.map (fun x => x.2.setWidth 8) ++ zeros pad))))

/-- SELFTEST_RESULT (R408). -/
def execSelftestResult (k : Slot) (s : State) : Result :=
  .next (s.serve k (isOp 0x0801) false none (fun c t =>
    match t.mgmt.tests.find? (fun x => x.handle.toNat == fieldAt c.payload 0 2) with
    | some x => t.valid k c (shaped c.payload 4 [2, 3])
        (t.ok k c (natBytes 2 x.handle.toNat ++ [x.status, 0] ++ wordBytes x.progress ++ wordBytes x.nfail ++ wordBytes x.first
          ++ wordBytes x.elapsed))
    | none => t.fails k c stBadArg))

/-- The bytes of the user area from an address (R409): FFh where nothing is programmed. -/
def NonVolatile.userBytes (n : NonVolatile) (addr len : Nat) : List Byte :=
  (List.range len).map (fun i => (memFind n.user (addr + i)).getD 0xFF)

/-- The pages of the user area that a range touches. -/
def userPages (addr len : Nat) : List Nat := (List.range ((addr + len - 1) / 512 + 1)).drop (addr / 512)

/-- The read of a page of the user area returns it flagged blank (R432). -/
def NonVolatile.userBlank (n : NonVolatile) (page : Nat) : Bool := readBlank (n.userRaw (page / 256) (page % 256))

/-- The pages of a range are read through the controller's lines (R431, Table 15-9). -/
def State.readUser (s : State) (addr len : Nat) : State :=
  (userPages addr len).foldl (fun (t : State) page => t.readLine (62 * 0x20000 + 512 * page)) s

/-- The bytes that a read of the user area returns: zeros from an execute-only range (R446). -/
def State.readUserBytes (s : State) (addr len : Nat) : List Byte :=
  (s.nv.userBytes addr len).zipIdx.map (fun x => if s.quince.executeOnly (62 * 0x20000 + addr + x.2) then 0 else x.1)

/-- NV_READ (R409). -/
def execNvRead (k : Slot) (s : State) : Result :=
  .next (s.serve k (isOp 0x0900) false none (fun c t =>
    let addr := fieldAt c.payload 0 4
    let len := fieldAt c.payload 4 2
    let blank := (userPages addr len).any t.nv.userBlank
    t.valid k c (shaped c.payload 8 [6, 7] && decide (1 ≤ len) && decide (len ≤ 976) && decide (addr + len ≤ 0x100000))
      (t.readQuince ((t.readUser addr len).ok k c ([byteOf blank.toNat, 0, 0, 0] ++ t.readUserBytes addr len)))))

/-! ## Clock and events -/

/-- CLK_STATUS's payload (R418). -/
def State.clkPayload (s : State) (t : Transport) : List Byte :=
  let w := s.wick
  wordBytes (s.wickStat t) ++ natBytes 4 w.frac.toNat ++ natBytes 4 w.frozen.toNat ++ natBytes 2 w.sscPeriod.toNat
    ++ natBytes 2 w.sscDepth.toNat ++ natBytes 4 w.lastHoldUs ++ natBytes 4 w.holds ++ natBytes 2 (min w.linkHolds 0xFFFF)
    ++ natBytes 3 s.ditherSeed.toNat
    ++ [s.quince.shadow.lockCnt.setWidth 8, byteOf s.quince.shadow.syncEn.toNat, byteOf w.refInv.toNat]

/-- CLK_STATUS (R418). -/
def execClkStatus (k : Slot) (s : State) : Result :=
  .next (s.serve k (isOp 0x0B00) false none (fun c t =>
    t.valid k c (c.payload.length == 0) (t.ok k c (t.clkPayload t.sessions[k].transport))))

/-- An event record (R421). -/
def Event.bytes (e : Event) : List Byte :=
  [byteOf e.typ, e.unit, e.ch, e.pc] ++ natBytes 4 e.time ++ natBytes 4 e.seq ++ wordBytes e.data

/-- EVENT_POLL (R421): the oldest records are removed, LOST is cleared. -/
def execEventPoll (k : Slot) (s : State) : Result :=
  .next (s.serve k (isOp 0x0C00) false none (fun c t =>
    let n := fieldAt c.payload 0 1
    let x := t.sessions[k]
    t.valid k c (shaped c.payload 4 [1, 2, 3] && decide (1 ≤ n) && decide (n ≤ 30))
      ((t.updSession k (fun x => { x with events := x.events.drop n, lost := 0 })).ok k c
        ([byteOf (min n x.events.length), byteOf (min x.lost 255), 0, 0] ++ (x.events.take n).flatMap (·.bytes)))))

/-- EVENT_MASK (R421). -/
def execEventMask (k : Slot) (s : State) : Result :=
  .next (s.serve k (isOp 0x0C01) false none (fun c t =>
    t.valid k c (c.payload.length == 4)
      ((t.updSession k (fun x => { x with mask := BitVec.ofNat 32 (fieldAt c.payload 0 4) })).ok k c
        (wordBytes t.sessions[k].mask))))

/-! ## Maintenance unlock -/

/-- UNLOCK_CHALLENGE (R370, R371, R422): a nonce nobody can foresee is a free value; refused while the session is locked
out. -/
def execUnlockChallenge (k : Slot) (s : State) : Result :=
  .next (s.serve k (isOp 0x0D00) false none (fun c t =>
    if t.sessions[k].lockout then t.fails k c stDenied
    else t.valid k c (c.payload.length == 0)
      (let (nonce, t1) := t.free 256
       (t1.updSession k (fun x => { x with challenge := some nonce })).ok k c (natBytes 32 nonce.toNat ++ natBytes 2 60 ++ [0, 0]))))

/-- The fused digest of the maintenance key (Table 16-2). -/
def State.maintenanceDigest (s : State) : List Byte :=
  (List.range 12).flatMap (fun i => wordBytes (sparseGet s.fuse.words (0x143 + i)))

/-- The key and the signature of an UNLOCK_RESPONSE verify (R370, R422, Table 16-4). -/
def State.unlockVerifies (s : State) (k : Slot) (nonce : BitVec 256) (b : List Byte) : Bool :=
  let key := b.take 96
  !s.fuse.invalid.getLsbD 4 && Config.sha384 key == s.maintenanceDigest
    && Config.ecdsaVerify key (natBytes 32 nonce.toNat ++ natBytes 8 s.dieId.toNat ++ [sessionId k s.sessions[k], b.getD 96 0])
      ((b.drop 100).take 96)

/-- An UNLOCK_RESPONSE fails: it is recorded, and the third locks the session out (R371). -/
def State.unlockFails (s : State) (k : Slot) (c : Cmd) (detail : Byte) : State :=
  let s1 := s.updSession k (fun x => { x with challenge := none, fails := x.fails + 1, lockout := x.lockout || decide (2 ≤ x.fails) })
  (s1.ledger 0x13 [sessionId k s.sessions[k], transportCode s.sessions[k].transport]).fails k c stDenied detail

/-- An UNLOCK_RESPONSE is accepted: its classes join those in force; bit 4 counts only while LABCLOSE reads 0 and enters lab
mode, which is recorded (R370, R371, R175). -/
def State.unlockGrants (s : State) (k : Slot) (c : Cmd) (scope : BitVec 5) : State :=
  let lab := scope.getLsbD 4 && !s.labClose
  let granted := (if lab then scope else scope &&& 0x0F) ||| s.sessions[k].scope
  let s1 := s.updSession k (fun x => { x with challenge := none, scope := granted })
  let s2 := if lab then (s1.updMgmt (fun m => { m with lab := true })).recordPrivileged k c.opcode { status := stOk } else s1
  s2.ok k c [granted.setWidth 8, 0, 0, 0]

/-- UNLOCK_RESPONSE (R370, R371, R422). -/
def execUnlockResponse (k : Slot) (s : State) : Result :=
  .next (s.serve k (isOp 0x0D01) false none (fun c t =>
    let scope := fieldAt c.payload 96 1
    t.valid k c (shaped c.payload 196 [97, 98, 99] && decide (scope < 32))
      (match t.sessions[k].challenge with
        | none => t.unlockFails k c 0x06
        | some nonce =>
          if t.unlockVerifies k nonce c.payload then t.unlockGrants k c (BitVec.ofNat 5 scope) else t.unlockFails k c 0x08)))

end Sys2Proof.Machine
end

