-- ==== Sys2Proof/Machine/JmpSet.lean ====
section
/-! DEFINITION. JMP commands that set: stored options, settings that reach the channels as transfer images, error injection,
raw access, repair candidates, and the Quince programs they start (14, 09, R264, R268, R282, R283, R380). -/

namespace Sys2Proof.Machine

/-! ## Programs that a command starts -/

/-- Start a Quince program that is the commit point of a command; the command is STARTED until it completes (R367, R380). A
command that meets Quince busy or asleep waits (R334, R435); one whose page the controller refuses fails (R428). -/
def State.program (s : State) (k : Slot) (c : Cmd) (kind : NvKind) (sector : Option (Fin 255)) (page : Option (Fin 264)) (cont : NvCont) :
    State :=
  s.withQuince (
    let t := ((s.takeTurn k).markCmd k c.seq .started).startNv kind sector page cont (some (k, c.seq))
    if t.quince.op.isSome then t else t.fails k c stNvFail)

/-- Where the owner of the n logical sectors from first on writes its next record: the next lower page of one of them, which of
them a free value; a full one is erased before (DESIGN CHOICE, assumption 125). -/
def State.ownerPage (s : State) (first n : Nat) : Option (Fin 255 × Fin 264) × State :=
  let (v, s1) := s.free 8
  match s.nv.physical (first + v.toNat % n) with
  | none => (none, s1)
  | some (i, x) => match x.nextLower with
    | some p => (some (Fin.ofNat 255 i, p), s1)
    | none => (some (Fin.ofNat 255 i, 0), s1.updNv (fun m => m.updSector i (fun y =>
        { y.erased 0 with assigned := y.assigned, prog := servicePages })))

/-! ## Stored options (R380) -/

/-- What a stored-option command returns (R388, R394, R396, R419): its own layout with the stored values; DITHER_SEED's byte
0 is a free value. -/
def State.optionAnswer (s : State) (k : Slot) (c : Cmd) : State :=
  let o := s.storedOptions
  let mask (f : Ch → Bool) : List Byte :=
    natBytes 4 ((List.finRange 32).foldl (fun acc ch => if f ch then acc + 2 ^ ch.val else acc) 0)
  if c.opcode = 0x0403 then
    s.ok k c [byteOf s.coefficients.toNat, byteOf o.calVis.toNat, byteOf s.visLock.toNat, 0]
  else if c.opcode = 0x0504 then
    s.ok k c (mask (fun ch => o.chans[ch].adapt) ++ mask (fun ch => s.chans[ch].regs.adaptAct))
  else if c.opcode = 0x0600 then
    s.ok k c (o.chans.toList.flatMap (fun x => [x.mode.setWidth 8, byteOf x.waive.toNat] ++ natBytes 2 x.mr03.toNat))
  else
    let (b, s1) := s.free 8
    s1.ok k c ([b, o.lockCnt.setWidth 8, byteOf o.syncEn.toNat, o.binDef.setWidth 8] ++ natBytes 3 o.seed.toNat ++ [0])

/-- Store an option image (R380, R453): equal values program nothing. -/
def State.storeOption (s : State) (k : Slot) (c : Cmd) (o : OptionImage) : State :=
  if o = s.storedOptions then s.optionAnswer k c
  else s.program k c .single none none (.options { o with seq := s.storedOptions.seq + 1 })

/-- Change the option records of the channels of a CHMASK. -/
def OptionImage.onChannels (o : OptionImage) (mask : Nat) (f : ChanOption → ChanOption) : OptionImage :=
  { o with chans := o.chans.mapFinIdx (fun i x _ => if mask.testBit i then f x else x) }

/-- The layout of CAL_VIS (R388). -/
def calVisShape (b : List Byte) : Bool := shaped b 12 [2, 3, 10, 11]

/-- CAL_VIS OP 00h (R388). -/
def execCalVisRead (k : Slot) (s : State) : Result :=
  .next (s.serve k (isOpFirst 0x0403 0 2) false none (fun c t =>
    t.valid k c (calVisShape c.payload && fieldAt c.payload 0 1 == 0) (t.optionAnswer k c)))

/-- CAL_VIS OP 01h: the mode changes at once; coefficients are refused under VISLOCK (R388, R207). -/
def execCalVisSet (k : Slot) (s : State) : Result :=
  .next (s.serve k (isOpAt 0x0403 0 1) true none (fun c t =>
    let mode := fieldAt c.payload 1 1
    t.valid k c (calVisShape c.payload && decide (mode ≤ 1))
      (if mode = 1 && t.visLock then t.fails k c stDenied 0x07
       else (t.updMgmt (fun m => { m with visible := decide (mode = 1) })).optionAnswer k c)))

/-- CAL_VIS OP 02h (R388, R380). -/
def execCalVisStore (k : Slot) (s : State) : Result :=
  .next (s.serve k (isOpAt 0x0403 0 2) true none (fun c t =>
    let mode := fieldAt c.payload 1 1
    let mask := fieldAt c.payload 4 4
    let txeq := fieldAt c.payload 8 1
    let mr07 := fieldAt c.payload 9 1
    t.valid k c (calVisShape c.payload && decide (mode ≤ 1) && decide (0 < mask) && decide (txeq < 64) && decide (mr07 < 4))
      (t.storeOption k c (({ t.storedOptions with calVis := decide (mode = 1) }).onChannels mask (fun x =>
        { x with txeq1 := BitVec.ofNat 3 (txeq / 8), txeq0 := BitVec.ofNat 3 txeq, mr07 := BitVec.ofNat 2 mr07 })))))

/-- The layout of ADAPTIVE_REF (R394). -/
def adaptiveShape (b : List Byte) : Bool := shaped b 12 [1, 2, 3, 9, 10, 11]

/-- ADAPTIVE_REF OP 00h (R394). -/
def execAdaptiveRefRead (k : Slot) (s : State) : Result :=
  .next (s.serve k (isOpFirst 0x0504 0 1) false none (fun c t =>
    t.valid k c (adaptiveShape c.payload && fieldAt c.payload 0 1 == 0) (t.optionAnswer k c)))

/-- ADAPTIVE_REF OP 01h (R394, R380). -/
def execAdaptiveRefStore (k : Slot) (s : State) : Result :=
  .next (s.serve k (isOpAt 0x0504 0 1) true none (fun c t =>
    let mask := fieldAt c.payload 4 4
    let on := fieldAt c.payload 8 1
    t.valid k c (adaptiveShape c.payload && decide (0 < mask) && decide (on ≤ 1))
      (t.storeOption k c (t.storedOptions.onChannels mask (fun x => { x with adapt := decide (on = 1) })))))

/-- The layout of ECC_MODE (R396). -/
def eccModeShape (b : List Byte) : Bool := shaped b 12 [1, 2, 3]

/-- ECC_MODE OP 00h (R396). -/
def execEccModeRead (k : Slot) (s : State) : Result :=
  .next (s.serve k (isOpFirst 0x0600 0 1) false none (fun c t =>
    t.valid k c (eccModeShape c.payload && fieldAt c.payload 0 1 == 0) (t.optionAnswer k c)))

/-- ECC_MODE OP 01h (R396, R380). -/
def execEccModeStore (k : Slot) (s : State) : Result :=
  .next (s.serve k (isOpAt 0x0600 0 1) true none (fun c t =>
    let mask := fieldAt c.payload 4 4
    let mode := fieldAt c.payload 8 1
    let waive := fieldAt c.payload 9 1
    let mr03 := fieldAt c.payload 10 2
    t.valid k c (eccModeShape c.payload && decide (0 < mask) && decide (mode < 4) && decide (waive ≤ 1) && decide (mr03 < 0x2000))
      (t.storeOption k c (t.storedOptions.onChannels mask (fun x =>
        { x with mode := BitVec.ofNat 2 mode, waive := decide (waive = 1), mr03 := BitVec.ofNat 13 mr03 })))))

/-- DITHER_SEED OP 00h (R419). -/
def execDitherSeedRead (k : Slot) (s : State) : Result :=
  .next (s.serve k (isOpFirst 0x0B01 0 1) false none (fun c t =>
    t.valid k c (shaped c.payload 8 [7] && fieldAt c.payload 0 1 == 0) (t.optionAnswer k c)))

/-- DITHER_SEED OP 01h (R419, R380): LOCKCNT code 7 is refused. -/
def execDitherSeedStore (k : Slot) (s : State) : Result :=
  .next (s.serve k (isOpAt 0x0B01 0 1) true none (fun c t =>
    let lock := fieldAt c.payload 1 1
    let sync := fieldAt c.payload 2 1
    let bin := fieldAt c.payload 3 1
    t.valid k c (shaped c.payload 8 [7] && decide (lock ≤ 6) && decide (sync ≤ 1) && decide (bin < 4))
      (t.storeOption k c { t.storedOptions with
        lockCnt := BitVec.ofNat 3 lock, syncEn := decide (sync = 1), binDef := BitVec.ofNat 2 bin
        seed := BitVec.ofNat 24 (fieldAt c.payload 4 3) })))

/-! ## Marks and retention settings -/

/-- LEDGER_MARK (R384): the program of the mark record is its commit point. -/
def execLedgerMark (k : Slot) (s : State) : Result :=
  .next (s.serve k (isOp 0x0202) false none (fun c t =>
    let t1 := t.updNv (·.ledgerOpen)
    let at_ := t1.nv.ledgerPlace
    t.valid k c (decide (4 ≤ c.payload.length) && decide (c.payload.length ≤ 36))
      (if t.nvFree then
        t1.program k c .lower (at_.map (·.1)) (at_.map (·.2)) (.mark (BitVec.ofNat 32 (fieldAt c.payload 0 4)) (c.payload.drop 4)
          (t.sessions[k].transport == .manager) (sessionId k t.sessions[k]))
      else t.wakeQuince)))

/-- PACE and RLIMIT as in force (R391). -/
def State.profilePayload (s : State) : List Byte := natBytes 2 s.nv.pace ++ natBytes 2 s.nv.rlimit

/-- RET_PROFILE OP 00h (R391). -/
def execRetProfileRead (k : Slot) (s : State) : Result :=
  .next (s.serve k (isOpFirst 0x0501 0 1) false none (fun c t =>
    t.valid k c (shaped c.payload 8 [1, 6, 7] && fieldAt c.payload 0 1 == 0) (t.ok k c t.profilePayload)))

/-- RET_PROFILE OP 01h (R391): the program of the settings record is its commit point. -/
def execRetProfileSet (k : Slot) (s : State) : Result :=
  .next (s.serve k (isOpAt 0x0501 0 1) false none (fun c t =>
    let pace := fieldAt c.payload 2 2
    let limit := fieldAt c.payload 4 2
    let (at_, t1) := t.ownerPage 24 28
    t.valid k c (shaped c.payload 8 [1, 6, 7] && decide (1 ≤ pace) && decide (pace ≤ 3600) && decide (1 ≤ limit) && decide (limit ≤ 720))
      (if t.nvFree then t1.program k c .lower (at_.map (·.1)) (at_.map (·.2)) (.retProfile pace limit) else t.wakeQuince)))

/-! ## Settings that travel as transfer images -/

/-- The transfer areas of channels can take n further images each; else the write is held and the command waits (R17). -/
def State.areasFree (s : State) (chs : List Ch) (n : Nat := 1) : Bool :=
  chs.all (fun c => decide ((s.chans[c].taper.images).length + n ≤ 16))

/-- Post n images to each of some channels where their areas have room (R17). -/
def State.posting (s : State) (chs : List Ch) (body : State) (n : Nat := 1) : State := if s.areasFree chs n then body else s

/-- RH_CFG OP 00h (R395). -/
def execRhCfgRead (k : Slot) (s : State) : Result :=
  .next (s.serve k (isOpFirst 0x0505 0 1) true none (fun c t =>
    t.valid k c (shaped c.payload 4 [1] && fieldAt c.payload 0 1 == 0) (t.ok k c (natBytes 2 t.chans[0].th ++ [0, 0]))))

/-- RH_CFG OP 01h (R395): an image for every channel. -/
def execRhCfgSet (k : Slot) (s : State) : Result :=
  .next (s.serve k (isOpAt 0x0505 0 1) true none (fun c t =>
    let th := fieldAt c.payload 2 2
    t.valid k c (shaped c.payload 4 [1] && decide (500 ≤ th) && decide (th ≤ 16000))
      (t.posting (List.finRange 32)
        (((List.finRange 32).foldl (fun (u : State) ch => u.postImage ch (.threshold th)) t).ok k c (natBytes 2 th ++ [0, 0])))))

/-- LEAKY_CFG (R398, R264). -/
def execLeakyCfg (k : Slot) (s : State) : Result :=
  .next (s.serve k (isOp 0x0602) false none (fun c t =>
    let b := c.payload
    let ch := chAt b 0
    let n := fieldAt b 2 1
    let thr := fieldAt b 4 2
    t.valid k c (shaped b 6 [3] && decide (fieldAt b 0 1 < 32) && pcMaskOk (fieldAt b 1 1) && decide (n ≤ 22) && decide (1 ≤ thr))
      (t.posting [ch] (((maskPcs (fieldAt b 1 1)).foldl (fun (u : State) p => u.postImage ch (.leaky p n thr)) t).ok k c)
        (maskPcs (fieldAt b 1 1)).length)))

/-- SCRUB_CFG (R398, R268). -/
def execScrubCfg (k : Slot) (s : State) : Result :=
  .next (s.serve k (isOp 0x0603) false none (fun c t =>
    let b := c.payload
    let ch := chAt b 0
    let en := fieldAt b 2 1
    let target := fieldAt b 4 2
    t.valid k c (shaped b 6 [3] && decide (fieldAt b 0 1 < 32) && pcMaskOk (fieldAt b 1 1) && decide (en ≤ 1) && decide (1 ≤ target)
        && decide (target ≤ 720))
      (t.posting [ch] (((maskPcs (fieldAt b 1 1)).foldl (fun (u : State) p =>
        u.postImage ch (.scrub p (decide (en = 1)) target)) t).ok k c) (maskPcs (fieldAt b 1 1)).length)))

/-- The ADDR word at a payload offset (R373). -/
def addrAt (b : List Byte) (i : Nat) : Word32 := BitVec.ofNat 32 (fieldAt b i 4)

/-- The access number an ADDR word names. -/
def addrAccess (w : Word32) : Nat := accessNo (addrSid w) (addrBank w) (addrRow w) (addrCol w)

/-- An ADDR word names a row that exists (R373, R374): its SID is present, its row below the last. -/
def State.addrOk (s : State) (w : Word32) : Bool :=
  !w.getLsbD 0 && s.sidPresent (addrSid w) && decide ((addrRow w).toNat < s.rows)

/-- The symbol pairs of an ECC_INJECT: those used and those that must be 0 (Table 14-10, R400). -/
def symsOk (b : List Byte) (n : Nat) : Bool :=
  decide (1 ≤ n) && decide (n ≤ 3) && (List.range 3).all (fun i =>
    if i < n then decide (fieldAt b (8 + 2 * i) 1 ≤ 71) && decide (fieldAt b (9 + 2 * i) 1 ≠ 0)
    else fieldAt b (8 + 2 * i) 2 == 0)

/-- ECC_INJECT with CTL bit 3 as given (Table 14-10). -/
def isInject (cancel : Bool) (c : Cmd) : Bool := c.opcode == 0x0605 && (c.payload.getD 4 0).getLsbD 3 == cancel

/-- ECC_INJECT with CANCEL 0 (R283, R400): the arming reaches the channel as an image. -/
def execEccInjectArm (k : Slot) (s : State) : Result :=
  .next (s.serve k (isInject false) true none (fun c t =>
    let b := c.payload
    let w := addrAt b 0
    let ctl := b.getD 4 0
    let n := fieldAt b 5 1
    let any := ctl.getLsbD 0
    let arm : Inject :=
      { access := if any then none else some (addrAccess w), write := ctl.getLsbD 2, counted := ctl.getLsbD 1
        syms := (List.range n).map (fun i => (fieldAt b (8 + 2 * i) 1, b.getD (9 + 2 * i) 0)) }
    t.valid k c (shaped b 16 [6, 7, 14, 15] && decide (ctl.toNat < 16) && !w.getLsbD 0 && (any || t.addrOk w) && symsOk b n)
      (t.posting [addrCh w] ((t.postImage (addrCh w) (.inject (addrPc w) (some arm))).ok k c))))

/-- ECC_INJECT with CANCEL 1: it disarms and ignores the rest (Table 14-10). -/
def execEccInjectCancel (k : Slot) (s : State) : Result :=
  .next (s.serve k (isInject true) true none (fun c t =>
    let w := addrAt c.payload 0
    t.valid k c (c.payload.length == 16 && decide ((c.payload.getD 4 0).toNat < 16) && !w.getLsbD 0)
      (t.posting [addrCh w] ((t.postImage (addrCh w) (.inject (addrPc w) none)).ok k c))))

/-! ## Raw access -/

/-- The control plane takes every waiting image of a channel: the 1 ms of R17 is part of the command's own time (R282). -/
def State.drainImages (s : State) (c : Ch) : State :=
  (List.range (s.chans[c].taper.images.length + s.chans[c].taper.held.length)).foldl (fun (t : State) _ =>
    match t.chans[c].taper.images with
    | [] => t
    | (_, x) :: _ => (t.updCh c (·.updTaper (·.takeOldest))).takeImage c x) s

/-- RAW_CHECK's tests from BAD_ARG on (R282, Table 14-2), then its body. -/
def State.rawCheck (s : State) (k : Slot) (c : Cmd) (len : Nat) (body : State) : State :=
  let w := addrAt c.payload 4
  let h := s.chans[addrCh w]
  let q := h.pcs[addrPc w]
  s.valid k c (shaped c.payload len [1, 2, 3] && decide (fieldAt c.payload 0 1 ≤ 1) && s.addrOk w && q.managed
      && !s.reservedRow h (addrSid w) (addrRow w))
    (if q.op.isSome then s.fails k c stBusy 0x02
     else if !q.qact then s.fails k c stNeedsQuiesce
     else s.posting [addrCh w] body)

/-- Eight check bytes, P_0 first, as the check bits of an access (R401, Table 9-1). -/
def checkOfBytes (b : List Byte) : BitVec 64 := checkBits (b.map (·.toNat))

/-- The 64 data symbols of an access as data bits (R401, Table 9-1). -/
def dataOfBytes (b : List Byte) : BitVec 512 :=
  ((List.range 64).zip b).foldl (fun acc x => acc ^^^ symbolMask x.1 x.2.toNat) 0

/-- RAW_CHECK OP 00h (R282, R401): the bytes are stored exactly as given. -/
def execRawWrite (k : Slot) (s : State) : Result :=
  .next (s.serve k (isOpFirst 0x0606 0 1) true none (fun c t =>
    let w := addrAt c.payload 4
    t.rawCheck k c 80
      (((t.postImage (addrCh w) (.rawWrite (addrPc w) (addrAccess w) (dataOfBytes ((c.payload.drop 8).take 64))
        (checkOfBytes ((c.payload.drop 72).take 8)))).drainImages (addrCh w)).ok k c)))

/-- The data and check bytes of an access as RAW_CHECK gives them (R401). -/
def rawBytes (data : BitVec 512) (check : BitVec 64) : List Byte :=
  (List.range 64).map (fun i => byteOf (dataSymbol data i)) ++ (List.range 8).map (fun i => byteOf (checkSymbol check i))

/-- The result of a raw read (R282, R401): data and check as stored and carried up, what the decoder makes of them with an
injection that matches, and the on-die status. It counts as an injected event. -/
def State.rawReadOut (s : State) (k : Slot) (c : Cmd) (env : LineEnv) : State :=
  let w := addrAt c.payload 4
  let ch := addrCh w
  let p := addrPc w
  let n := addrAccess w
  let q := s.chans[ch].pcs[p]
  let (x, s1) := s.dieRead ch p n env none
  let (data, check) := q.decoderInput x
  let r := decodeManaged data check
  let s2 := (s1.updCh ch (·.countTsv p env)).countRead ch p n (readEvents true r x.ods) (some ((q.injCause n).getD false)) false
  (s2.updPc ch p (·.consumeRead n)).ok k c (rawBytes x.data x.check
    ++ [r.sev.code.setWidth 8, byteOf (if r.sev = .corrected then r.symidx else 0), x.ods.setWidth 8, 0])

/-- RAW_CHECK OP 01h (R282, R401). -/
def execRawRead (k : Slot) (env : LineEnv) (s : State) : Result :=
  .next (s.serve k (isOpAt 0x0606 0 1) true none (fun c t =>
    let w := addrAt c.payload 4
    t.rawCheck k c 8
      (((t.postImage (addrCh w) (.rawRead (addrPc w) (addrAccess w))).drainImages (addrCh w)).rawReadOut k c env)))

/-! ## Repair candidates -/

/-- REMAP_ADD (R403, R270). -/
def execRemapAdd (k : Slot) (s : State) : Result :=
  .next (s.serve k (isOp 0x0701) false none (fun c t =>
    let w := addrAt c.payload 0
    let bank : Fin 64 := bankAt (addrSid w) (addrBank w)
    let (t1, res, e) := t.candidate (addrCh w) (addrPc w) bank (addrRow w) 2
    t.valid k c (c.payload.length == 4 && t.addrOk w && !t.reservedRow t.chans[addrCh w] (addrSid w) (addrRow w))
      (t1.ok k c [byteOf res, byteOf e, 0, 0])))

end Sys2Proof.Machine
end

