-- ==== Sys2Proof/Machine/JmpCal.lean ====
section
/-! DEFINITION. JMP commands of calibration: CAL_SAVE, CAL_RESTORE and CAL_RUN (R208 to R218, R387, R389). -/

namespace Sys2Proof.Machine

/-! ## Uploads -/

/-- A chunk is taken and the upload goes on: the session owns the object (R376, R378). -/
def State.keepChunk (s : State) (k : Slot) (c : Cmd) (o : OwnedObject) (u : Upload) : State :=
  ((s.putUpload k (some u)).updMgmt (fun m => o.setOwner m (some k))).ok k c

/-- The upload is complete: the session holds none, and the object has no owner (R378). -/
def State.dropUpload (s : State) (k : Slot) (o : OwnedObject) : State :=
  (s.putUpload k none).updMgmt (fun m => o.setOwner m none)

/-! ## Blobs -/

/-- A calibration blob up to its sections (Table 7-8): kind, bin, channels, SEQ, TCAP, LEN. -/
def State.blobHeader (s : State) (kind : Byte) (bin : BitVec 2) (mask seq : Nat) (tcap : BitVec 16) (len : Nat) : List Byte :=
  natBytes 4 0x4C414E31 ++ natBytes 2 1 ++ [kind, bin.setWidth 8] ++ natBytes 8 s.dieId.toNat ++ natBytes 4 mask
    ++ natBytes 4 seq ++ natBytes 2 tcap.toNat ++ natBytes 2 s.idRev.toNat ++ natBytes 4 len ++ zeros 32

/-- Close a byte string with its CRC-32C. -/
def withCrc (b : List Byte) : List Byte := b ++ wordBytes (crc32c b)

/-- The occupancies of a channel section: 0 for an absent SID (Table 7-9). -/
def State.occBytes (s : State) (h : Channel) : List Byte :=
  (List.range 8).map (fun i => if i % 4 < s.sids then h.occ.getD i 0 else 0)

/-- A channel section (Table 7-9). -/
def State.blobSection (s : State) (c : Ch) : List Byte :=
  let h := s.chans[c]
  [byteOf c.val, 0] ++ natBytes 2 h.ckPhase.toNat ++ s.occBytes h ++ wordBytes h.lmsig
    ++ h.groups.toList.flatMap (fun g => natBytes 8 g.toNat)
    ++ (List.finRange 100).flatMap (fun k => natBytes 8 (h.laneRecord k).toNat)

/-- The coefficient blob of the channels of a mask (R208, R210). -/
def State.coefficientBlob (s : State) (mask : Nat) : List Byte :=
  let chs := maskChs mask
  withCrc (s.blobHeader 0 s.wick.binAct mask (s.mgmt.calCaptures + 1) s.tcap (68 + 848 * chs.length)
    ++ chs.flatMap s.blobSection)

/-- The handle blob of the newest baseline record, none where there is no record (R210). -/
def State.handleBlob (s : State) (mask : Nat) : Option (List Byte) :=
  (s.nv.baselines.head?).map (fun x => withCrc (s.blobHeader 1 x.2.bin mask s.nv.baseSeq x.2.tcap 68))

/-! ## CAL_SAVE -/

/-- The object of a CAL_SAVE, or the status that refuses it (R210, R387): no channel named, or one that has never passed
stage 7, is BAD_ARG; pass/fail mode without a baseline record is NV_FAIL. -/
def State.saveObject (s : State) (spec : List Byte) : (Byte × Byte) ⊕ List Byte :=
  let mask := fieldAt spec 0 4
  if !shaped spec 12 [4, 5, 6, 7, 8, 9, 10, 11] || mask = 0 || !(maskChs mask).all (fun c => s.chans[c].trn.ever7) then
    .inl (stBadArg, 0)
  else if s.coefficients then .inr (s.coefficientBlob mask)
  else match s.handleBlob mask with
    | some b => .inr b
    | none => .inl (stNvFail, 0)

/-- CAL_SAVE (R387, R210); a coefficient blob counts as a capture (Table 7-8). -/
def execCalSave (k : Slot) (s : State) : Result :=
  .next (s.serve k (isOp 0x0401) true none (fun c t =>
    t.download k c t.saveObject (fun u =>
      if u.coefficients then u.updMgmt (fun m => { m with calCaptures := m.calCaptures + 1 }) else u)))

/-! ## CAL_RESTORE -/

/-- Lane record k of a section: VREF at most 799, reserved bits 0, TXDLY and TXEQ of a CA lane 0 (Table 7-10, R209). -/
def recordOk (k : Nat) (r : BitVec 64) : Bool :=
  decide ((r.extractLsb' 30 10).toNat ≤ 799) && r.extractLsb' 0 8 == 0
    && (decide (k < 78) || (r.extractLsb' 40 12 == 0 && r.extractLsb' 19 3 == 0))

/-- The lane records of a channel section. -/
def sectionLanes (b : List Byte) : List (BitVec 64) :=
  (List.range 100).map (fun k => BitVec.ofNat 64 (fieldAt b (48 + 8 * k) 8))

/-- A section is the one of its channel and its fields lie within their ranges (Tables 7-9, 7-10). -/
def calSectionOk (b : List Byte) (c : Ch) : Bool :=
  fieldAt b 0 1 == c.val && fieldAt b 1 1 == 0
    && (List.range 4).all (fun g => fieldAt b (16 + 8 * g) 8 % 2 ^ 44 == 0)
    && ((List.range 100).zip (sectionLanes b)).all (fun x => recordOk x.1 x.2)

/-- The section of the n-th channel of a coefficient blob. -/
def calSectionAt (b : List Byte) (n : Nat) : List Byte := (b.drop (64 + 848 * n)).take 848

/-- The channels of a blob, each with its place. -/
def blobChannels (b : List Byte) : List (Nat × Ch) :=
  let chs := maskChs (fieldAt b 16 4)
  (List.range chs.length).zip chs

/-- The baselines a handle blob names, none where no record of its SEQ exists (R211). -/
def State.recordNamed (s : State) (seq : Nat) : Option (List (Ch × Baseline)) :=
  if s.nv.baselines.length ≠ 0 ∧ seq = s.nv.baseSeq then some s.nv.baselines
  else if s.nv.oldBaselines.length ≠ 0 ∧ seq = s.nv.oldBaseSeq then some s.nv.oldBaselines
  else none

/-- The tests of R211 but the last: CRC, MAGIC, FORMAT, DIEID, the ranges of the fields, the kind in pass/fail mode, the
record a handle names. -/
def State.blobOk (s : State) (b : List Byte) : Bool :=
  let kind := fieldAt b 6 1
  let chs := blobChannels b
  decide (68 ≤ b.length) && withCrc (b.take (b.length - 4)) == b && fieldAt b 0 4 == 0x4C414E31 && fieldAt b 4 2 == 1
    && !s.dieIdLost && fieldAt b 8 8 == s.dieId.toNat && decide (fieldAt b 7 1 < 4) && decide (fieldAt b 16 4 ≠ 0)
    && fieldAt b 28 4 == b.length && (b.drop 32).take 32 == zeros 32
    && (if kind = 0 then
          s.coefficients && b.length == 68 + 848 * chs.length && chs.all (fun x => calSectionOk (calSectionAt b x.1) x.2)
        else decide (kind = 1) && b.length == 68 && (s.recordNamed (fieldAt b 20 4)).isSome)

/-- What the blob makes the warm baseline of a channel (R211): of a coefficient blob its section, of a handle the record's
baseline of the channel, where the record holds one. -/
def State.restoredOf (s : State) (b : List Byte) (x : Nat × Ch) : Option Baseline :=
  if fieldAt b 6 1 = 0 then
    let y := calSectionAt b x.1
    some { bin := BitVec.ofNat 2 (fieldAt b 7 1), lmsig := BitVec.ofNat 32 (fieldAt y 12 4), tcap := BitVec.ofNat 16 (fieldAt b 24 2)
           lanes := sectionLanes y, ckPhase := BitVec.ofNat 16 (fieldAt y 2 2), occ := (y.drop 4).take 8
           groups := (List.range 4).map (fun g => BitVec.ofNat 64 (fieldAt y (16 + 8 * g) 8)), tsv := [] }
  else (((s.recordNamed (fieldAt b 20 4)).getD []).find? (fun y => y.1 == x.2)).map (·.2)

/-- An accepted blob becomes the warm baseline of its channels and changes no live trim (R211, R194). -/
def State.acceptBlob (s : State) (b : List Byte) : State :=
  (blobChannels b).foldl (fun (t : State) x =>
    match s.restoredOf b x with
    | some r => t.updCh x.2 (fun h => { h with trn := { h.trn with restored := some r } })
    | none => t) s

/-- The last chunk of a CAL_RESTORE has arrived (R387, R211): a channel that has started stage 3 is DENIED. -/
def State.restoreBlob (s : State) (k : Slot) (c : Cmd) (b : List Byte) : State :=
  let s1 := s.dropUpload k restoreBuffer
  if !s.blobOk b then s1.fails k c stBadArg
  else if (blobChannels b).any (fun x => s.chans[x.2].trn.started3) then s1.fails k c stDenied
  else (s1.acceptBlob b).ok k c

/-- CAL_RESTORE (R387). -/
def execCalRestore (k : Slot) (s : State) : Result :=
  .next (s.serve k (isOp opCalRestore) true none (fun c t =>
    t.uploadChunk k c restoreBuffer
      (fun spec total => spec.all (· == 0) && decide (68 ≤ total) && decide (total ≤ 27204))
      (fun u last => if last then t.restoreBlob k c u.bytes else t.keepChunk k c restoreBuffer u)))

/-! ## CAL_RUN -/

/-- The payload of a CAL_RUN: channel, pseudo-channels, mode, reserved (R389). -/
def calRunOk (b : List Byte) : Bool :=
  shaped b 4 [3] && decide (fieldAt b 0 1 < 32) && pcMaskOk (fieldAt b 1 1) && decide (fieldAt b 2 1 ≤ 2)

/-- The images of a CAL_RUN, one for each pseudo-channel named (R13, R17). -/
def State.postRun (s : State) (ch : Ch) (pcs : List Pc) (mode : Nat) : State :=
  pcs.foldl (fun (t : State) p => t.postImage ch (.calRun p mode)) s

/-- CAL_RUN mode 0: it completes when the control plane has taken its images and marked the pass due (R13, R218, R389). -/
def execCalRunMode0 (k : Slot) (s : State) : Result :=
  .next (s.serve k (isOpFirst 0x0404 2 2) true none (fun c t =>
    let ch := chAt c.payload 0
    let pcs := maskPcs (fieldAt c.payload 1 1)
    t.valid k c (calRunOk c.payload) (t.posting [ch] (((t.postRun ch pcs 0).drainImages ch).ok k c) pcs.length)))

/-- A run of mode 1 or 2 holds its quiesced pseudo-channels, and its request goes to the channel (R13, R218, R378, R389); the command
is STARTED until it ends. -/
def State.startCalRun (s : State) (k : Slot) (c : Cmd) (mode : Nat) : State :=
  let ch := chAt c.payload 0
  let pcs := maskPcs (fieldAt c.payload 1 1)
  s.valid k c (calRunOk c.payload)
    (if pcs.any (fun p => s.chans[ch].pcs[p].op.isSome) then s.fails k c stBusy 0x02
     else if pcs.any (fun p => !s.chans[ch].pcs[p].qact) then s.fails k c stNeedsQuiesce
     else s.posting [ch] ((pcs.foldl (fun (t : State) p => t.updPc ch p (fun q => { q with op := some (.calRun mode k c.seq) }))
       ((s.takeTurn k).markCmd k c.seq .started)).postRun ch pcs mode) pcs.length)

/-- CAL_RUN mode 1. -/
def execCalRunMode1 (k : Slot) (s : State) : Result :=
  .next (s.serve k (isOpAt 0x0404 2 1) true none (fun c t => t.startCalRun k c 1))

/-- CAL_RUN mode 2. -/
def execCalRunMode2 (k : Slot) (s : State) : Result :=
  .next (s.serve k (isOpAt 0x0404 2 2) true none (fun c t => t.startCalRun k c 2))

/-- The pseudo-channels of a channel that a run holds. -/
def Channel.runPcs (h : Channel) (k : Slot) (seq : BitVec 16) : List Pc :=
  (List.finRange 2).filter (fun p => h.pcs[p].calRunOf k (some seq))

/-- The pseudo-channel of a repair group. -/
def groupPc (g : Fin 16) : Pc := ⟨g.val / 8, by omega⟩

/-- Mode 1 on a pseudo-channel: its TSV trims take what was measured, a free value that the number stands for (R215). -/
def TsvPort.remeasure (t : TsvPort) (p : Pc) (seed : Nat) : TsvPort :=
  { t with
    measured := t.measured.set p (some seed)
    trims := t.trims.filter (fun x => trimPc x.1 != p)
    marginal := t.marginal.filter (fun x => groupPc x.1 != p) }

/-- Mode 2 on a pseudo-channel: its receiver offsets and Vref DACs, the Vref and transmit delay of its lanes and the RDQS transmit
delays of its groups take what was measured, free values (R218; which registers it writes DEDUCED, assumption 126). -/
def Channel.recalibrate (h : Channel) (p : Pc) (seed : Nat) : Channel :=
  { h with
    internal := h.internal.set p (some seed)
    lanes := h.lanes.mapFinIdx (fun i l hi =>
      if !laneCa ⟨i, hi⟩ && i / 39 == p.val then
        let tx := Config.freeBits 12 (seed + 2 * i)
        let vref := BitVec.ofNat 10 (freeWithin (seed + 2 * i + 1) 0 799)
        { l with liveTx := tx, refTx := tx, txTarget := none, liveVref := vref, refVref := vref, pending := none }
      else l)
    groups := h.groups.mapFinIdx (fun g w _ => if g / 2 = p.val then groupRdqs w (Config.freeBits 12 (seed + 200 + g)) else w)
    rdqs := h.rdqs.mapFinIdx (fun g r _ => if g / 2 = p.val then { live := Config.freeBits 12 (seed + 200 + g) } else r) }

/-- A spare that a mode 1 run assigns: the repair is in force, and TSVREP of the layers follows (R143, R215). -/
def State.assignTsv (s : State) (c : Ch) (g : Fin 16) (pos : Fin 18) : State :=
  if (s.chans[c].tsv.repair[g]).isSome then s
  else
    let s1 := s.updCh c (fun h => { h with tsv := { h.tsv with repair := h.tsv.repair.set g (some pos) } })
    ((List.finRange 4).filter s.sidPresent).foldl (fun (t : State) sid =>
      t.service (tsvRepCmd c sid g true pos.val .config)) s1

/-- Apply the results of a run to the pseudo-channels that passed (R218, R389); those that failed keep every trim. -/
def State.applyRun (s : State) (c : Ch) (mode : Nat) (pcs : List Pc) (spares : List (Fin 16 × Fin 18)) : State :=
  let s1 := pcs.foldl (fun (t : State) p => t.updCh c (fun h =>
    if mode = 1 then { h with tsv := h.tsv.remeasure p (s.fresh + p.val) } else h.recalibrate p (s.fresh + 400 * p.val))) s
  let s2 : State := { s1 with fresh := s.fresh + 1000 }
  (spares.filter (fun x => mode = 1 && pcs.contains (groupPc x.1))).foldl (fun (t : State) x => t.assignTsv c x.1 x.2) s2

/-- RES of a pseudo-channel (R389). -/
def runResult (named failed spared : Bool) : Byte :=
  if !named then 0xFF else if failed then 2 else if spared then 1 else 0

/-- The response of a run that finished (R389). -/
def runPayload (mode : Nat) (pcs : List Pc) (failed : BitVec 2) (spares : List (Fin 16 × Fin 18)) (elapsed : BitVec 16) :
    List Byte :=
  (List.finRange 2).map (fun (p : Pc) => runResult (pcs.contains p) (failed.getLsbD p.val)
    (mode = 1 && spares.any (fun x => groupPc x.1 == p))) ++ natBytes 2 elapsed.toNat

/-- The request of a run has been taken in every pseudo-channel it holds (R17). -/
def Channel.runTaken (h : Channel) (mode : Nat) (pcs : List Pc) : Bool :=
  !h.taper.images.any (fun x => pcs.any (fun p => x.2 == .calRun p mode))

/-- CAL_RUN_END (R389), once the control plane has taken the run's request (R17): the application of the results is the commit point;
a TSV calibration has set and taken back LB_EN in its layers (R215, R218). -/
def execCalRunEnd (c : Ch) (p : Pc) (res : CalRunResult) (s : State) : Result :=
  match s.chans[c].pcs[p].op with
  | some (.calRun mode k seq) =>
    let pcs := s.chans[c].runPcs k seq
    if !s.chans[c].runTaken mode pcs then .next s
    else
      let s1 := if mode = 1 then s.loopTest c else s
      let done (t : State) : State := pcs.foldl (fun (u : State) q =>
        u.updCh c (fun h => (if mode = 1 then h.updTaper (·.endEntry 45 q) else h).opEnds q)) t
      match res with
      | .rejected => .next (done (s1.respond k seq { status := stCalRejected }))
      | .finished failed spares elapsed =>
        .next (done ((s1.applyRun c mode (pcs.filter (fun q => !failed.getLsbD q.val)) spares).respond k seq
          { status := stOk, payload := runPayload mode pcs failed spares elapsed }))
  | _ => .next s

end Sys2Proof.Machine
end

