-- ==== Sys2Proof/Machine/JmpRet.lean ====
section
/-! DEFINITION. JMP commands that move retention images: RET_MAP_EXPORT and RET_MAP_IMPORT (R246, R392, R393). -/

namespace Sys2Proof.Machine

/-- Groups of a pseudo-channel, NGRP (R233, R393). -/
def State.imageGroups (s : State) : Nat := s.rows / 4 * 16 * s.sids

/-- The map bytes of n groups in the packing of R233. -/
def packBins (bins : List (Nat × BitVec 2)) (n : Nat) : List Byte :=
  (List.range (n / 4)).map (fun a =>
    byteOf ((List.range 4).foldl (fun acc j => acc + (sparseGet bins (4 * a + j)).toNat * 4 ^ j) 0))

/-- Codes and weak rows an export holds (R246): the durable copy with the verdicts not yet logged. -/
def State.exportMap (s : State) (c : Ch) (p : Pc) : List (Nat × BitVec 2) × List (BitVec 32) :=
  let q := s.chans[c].pcs[p]
  let m := s.nv.logged (pcUnit c p)
  if q.undurable || q.promoted then (q.bins, q.weak) else (m.bins, m.weak)

/-- A section of a retention image (Table 14-9). -/
def State.exportSection (s : State) (x : Ch × Pc) : List Byte :=
  let m := s.exportMap x.1 x.2
  [byteOf x.1.val, byteOf x.2.val, 0, 0] ++ natBytes 4 s.imageGroups ++ natBytes 2 m.2.length ++ zeros 6
    ++ packBins m.1 s.imageGroups ++ m.2.flatMap wordBytes

/-- The pseudo-channels of a PCMASK64 in ascending bit order. -/
def mask64Pcs (mask : Nat) : List (Ch × Pc) := allPcs.filter (fun x => mask.testBit (2 * x.1.val + x.2.val))

/-- A retention image of kind 00h (Table 14-9). -/
def State.exportImage (s : State) (mask : Nat) : List Byte :=
  withCrc (natBytes 4 0x524D4150 ++ natBytes 2 1 ++ [0, byteOf s.dens.toNat] ++ natBytes 8 s.dieId.toNat
    ++ [byteOf s.layerCount] ++ zeros 7 ++ natBytes 8 mask ++ natBytes 4 s.nv.gen ++ zeros 28
    ++ (mask64Pcs mask).flatMap s.exportSection)

/-- RET_MAP_EXPORT (R392). -/
def execRetMapExport (k : Slot) (s : State) : Result :=
  .next (s.serve k (isOp 0x0502) false none (fun c t =>
    t.download k c (fun spec =>
      let mask := fieldAt spec 0 8
      if shaped spec 12 [8, 9, 10, 11] && decide (mask ≠ 0) then .inr (t.exportImage mask) else .inl (stBadArg, 0)) id))

/-- The sections of an image are those of its PCMASK64 and fit the stack: CH and PC, NGRP, at most 8,192 weak entries, and
nothing missing (R393, Table 14-9). -/
def sectionsFit (groups : Nat) : List (Ch × Pc) → List Byte → Bool
  | [], b => b.isEmpty
  | x :: rest, b =>
    decide (16 ≤ b.length) && fieldAt b 0 1 == x.1.val && fieldAt b 1 1 == x.2.val && fieldAt b 2 2 == 0
      && fieldAt b 4 4 == groups && decide (fieldAt b 8 2 ≤ 8192) && fieldAt b 10 6 == 0
      && decide (sectionLength b ≤ b.length) && sectionsFit groups rest (b.drop (sectionLength b))

/-- The tests of R393, with the reserved fields of Table 14-9. GEN is not tested: an exported image carries one. -/
def State.imageOk (s : State) (b : List Byte) : Bool :=
  decide (68 ≤ b.length) && withCrc (b.take (b.length - 4)) == b && fieldAt b 0 4 == 0x524D4150 && fieldAt b 4 2 == 1
    && decide (fieldAt b 6 1 ≤ 1) && fieldAt b 7 1 == s.dens.toNat && fieldAt b 8 8 == s.dieId.toNat
    && fieldAt b 16 1 == s.layerCount && fieldAt b 17 7 == 0 && decide (fieldAt b 24 8 ≠ 0) && fieldAt b 36 28 == 0
    && sectionsFit s.imageGroups (mask64Pcs (fieldAt b 24 8)) ((b.drop 64).take (b.length - 68))

/-- Keep a chunk and start the program that is the upload's commit point; the command waits while Quince is busy or
asleep (R334, R435). -/
def State.programUpload (s : State) (k : Slot) (c : Cmd) (o : OwnedObject) (u : Upload) (cont : NvCont) : State :=
  if s.nvFree then
    ((s.putUpload k (some u)).updMgmt (fun m => o.setOwner m (some k))).program k c .single none none cont
  else s.wakeQuince

/-- RET_MAP_IMPORT (R392, R393): the complete image is tested before its journal record is programmed. -/
def execRetMapImport (k : Slot) (s : State) : Result :=
  .next (s.serve k (isOp opMapImport) false (some 3) (fun c t =>
    t.uploadChunk k c importBuffer (fun spec _ => spec.all (· == 0))
      (fun u last =>
        if !last then t.keepChunk k c importBuffer u
        else if t.imageOk u.bytes then t.programUpload k c importBuffer u (.mapImport u.bytes)
        else (t.dropUpload k importBuffer).fails k c stBadArg)))

end Sys2Proof.Machine
end

