-- ==== Sys2Proof/Machine/JmpTest.lean ====
section
/-! DEFINITION. Tests on a live stack: the start of a test by SELFTEST and MBIST, its end, and the end of tests on the
release of quiesce (R71, R407, R408, R509, R514, R515). -/

namespace Sys2Proof.Machine

/-- The kinds of test (Table 18-10). -/
def testMarch : BitVec 2 := 0
@[inherit_doc testMarch] def testTsv : BitVec 2 := 1
@[inherit_doc testMarch] def testDatapath : BitVec 2 := 2

/-- SIDS names SIDs, all of them present (R407). -/
def State.testSids (s : State) (sids : BitVec 4) : Bool :=
  sids != 0 && (List.finRange 4).all (fun x => !sids.getLsbD x.val || s.sidPresent x)

/-- The outcome of asking for a test (R509, R514): refused for its arguments, for another operation, for lack of quiesce,
or started. -/
inductive TestAsk where
  | badArg | busy | noQuiesce | starts
  deriving DecidableEq, Repr

/-- The tests of a request for a test, in the order of Table 14-2. -/
def State.askTest (s : State) (c : Ch) (p : Pc) (kind : BitVec 2) (sids : BitVec 4) : TestAsk :=
  if kind = 3 || !s.testSids sids then .badArg
  else if (testPcs kind p).any (fun q => s.chans[c].pcs[q].op.isSome) then .busy
  else if (testPcs kind p).any (fun q => !s.chans[c].pcs[q].qact) then .noQuiesce
  else .starts

/-- The march writes: FILLED clears, the tested SIDs hold what nobody knows, but for the reserved rows while ADAPT_ACT is
1 (R515, Table 18-10). -/
def State.march (s : State) (c : Ch) (p : Pc) (sids : BitVec 4) : State :=
  let epoch := 64 * (s.fresh + 1) + 2 * c.val + p.val
  let filled (h : Channel) (q : PseudoChannel) : PseudoChannel :=
    { q.fillAll s.rows sids (.unwritten epoch) h.regs.adaptAct with
      filled := false
      injected := q.injected.filter (fun x => !sids.getLsbD (accessOf x.1).1.val
        || (h.regs.adaptAct && accessReserved s.rows x.1)) }
  { s.updCh c (fun h => (h.updPc p (filled h)).lapsAfter h s.timeUs) with fresh := s.fresh + 1 }

/-- Start a test (R407, R514): it takes the next handle, its result joins the last 8 kept, and its image reaches the channel's
control plane, where it holds the quiesce of its pseudo-channels and its threads start; the TSV loopback sets LB_EN in one layer
after the other (R17, Table 5-16). -/
def State.startTest (s : State) (c : Ch) (p : Pc) (kind : BitVec 2) (sids : BitVec 4) : State :=
  let n := s.mgmt.lastHandle + 1
  let x : TestResult := { handle := n, ch := c, pc := p, kind := kind, sids := sids }
  let s1 := s.updMgmt (fun m => { m with lastHandle := n, tests := (m.tests ++ [x]).drop (m.tests.length - 7) })
  let s2 := ((s1.drainImages c).postImage c (.test p n kind sids)).drainImages c
  if kind = testMarch then s2.march c p sids else if kind = testTsv then s2.loopTest c else s2

/-- The payload of SELFTEST (R407). -/
def selftestShape (b : List Byte) : Bool :=
  shaped b 4 [] && decide (fieldAt b 0 1 < 32) && decide (fieldAt b 1 1 < 2) && decide (fieldAt b 3 1 < 16)

/-- SELFTEST (R407): HANDLE once the test has started. -/
def State.selftest (s : State) (k : Slot) (c : Cmd) (kind : BitVec 2) : State :=
  let ch := chAt c.payload 0
  let p := pcAt c.payload 1
  let sids := BitVec.ofNat 4 (fieldAt c.payload 3 1)
  s.valid k c (selftestShape c.payload)
    (match s.askTest ch p kind sids with
      | .badArg => s.fails k c stBadArg
      | .busy => s.fails k c stBusy 0x02
      | .noQuiesce => s.fails k c stNeedsQuiesce
      | .starts => (s.startTest ch p kind sids).ok k c (natBytes 2 (s.mgmt.lastHandle + 1).toNat))

/-- SELFTEST TEST 00h; a TEST that names none is refused here. -/
def execSelftestMarch (k : Slot) (s : State) : Result :=
  .next (s.serve k (isOpFirst 0x0800 2 2) true none (fun c t =>
    t.valid k c (fieldAt c.payload 2 1 == 0) (t.selftest k c testMarch)))

/-- SELFTEST TEST 01h. -/
def execSelftestTsvLoopback (k : Slot) (s : State) : Result :=
  .next (s.serve k (isOpAt 0x0800 2 1) true none (fun c t => t.selftest k c testTsv))

/-- SELFTEST TEST 02h. -/
def execSelftestDatapathLoopback (k : Slot) (s : State) : Result :=
  .next (s.serve k (isOpAt 0x0800 2 2) true none (fun c t => t.selftest k c testDatapath))

/-- The test that holds a pseudo-channel. -/
def PseudoChannel.testHandle (q : PseudoChannel) : Option (BitVec 16) :=
  match q.op with
  | some (.test n) => some n
  | _ => none

/-- A test ends: its result, event type 8 with its handle, and the quiesce it held is free (R71, R408). -/
def State.endTest (s : State) (c : Ch) (p : Pc) (n : BitVec 16) (f : TestResult → TestResult) : State :=
  let s1 := s.updMgmt (fun m => { m with tests := m.tests.map (fun x => if x.handle = n then f x else x) })
  let s2 := s1.updCh c (fun h =>
    ((List.finRange 2).filter (fun q => h.pcs[q].testHandle == some n)).foldl (fun (h : Channel) q =>
      (h.updTaper (·.endEntry 48 q)).opEnds q) h)
  s2.event 8 0 (byteOf c.val) (byteOf p.val) (n.setWidth 32)

/-- SELFTEST_END (R408). -/
def execSelftestEnd (c : Ch) (p : Pc) (rep : TestReport) (s : State) : Result :=
  match s.chans[c].pcs[p].testHandle with
  | some n =>
    .next (if s.thermal.trip then s else s.endTest c p n (fun x =>
      { x with status := if rep.nfail = 0 then 1 else 2, progress := rep.progress, nfail := rep.nfail, first := rep.first
               elapsed := rep.elapsed }))
  | none => .next s

/-- TEST_END_ON_RELEASE: the running test or CAL_RUN of a pseudo-channel whose quiesce has been released ends at its step
boundary; every trim keeps its value and CAL_RUN reports ABORTED (R71, R218, R408). After a trip it ends likewise
(Table 10-4). -/
def execTestEndOnRelease (c : Ch) (p : Pc) (s : State) : Result :=
  let h := s.chans[c]
  let due (pcs : List Pc) : Bool := s.thermal.trip || pcs.any (fun q => h.pcs[q].releaseHeld)
  match h.pcs[p].op with
  | some (.test n) =>
    .next (if due ((List.finRange 2).filter (fun q => h.pcs[q].testHandle == some n))
      then s.endTest c p n (fun x => { x with status := 3 }) else s)
  | some (.calRun _ k seq) =>
    .next (if due (h.runPcs k seq) then
      (h.runPcs k seq).foldl (fun (t : State) q => t.updCh c (fun h => (h.updTaper (·.endEntry 45 q)).opEnds q))
        (s.respond k seq { status := stAborted })
    else s)
  | _ => .next s

end Sys2Proof.Machine
end

