-- ==== Sys2Proof/Machine/JmpRepair.lean ====
section
/-! DEFINITION. REPAIR_COMMIT: hard repair of rows, permanent lane and TSV repairs (R277 to R279, R286, R405). -/

namespace Sys2Proof.Machine

/-! ## Rows -/

/-- The anti-fuse word of an entry's spare in its layer. -/
def State.spareWord (s : State) (c : Ch) (p : Pc) (w : BitVec 32) : Word32 :=
  sparseGet (s.dies[layerOf c (bankSid (remapBank w))]).antifuse (antifuseWord c p (remapBank w) (remapSpare w))

/-- The record a hard repair intends (Table 5-19). -/
def recordOf (row : Row) : Word32 := row.setWidth 32 ||| 0x80000000

/-- The row also goes to the repair copy row of its bank in S0 while ADAPT_ACT is 1, under the Managed code as every reserved
row (R277 step 2, R234, Table 8-4a). -/
def State.repairCopy (s : State) (c : Ch) (p : Pc) (w : BitVec 32) : State :=
  if s.chans[c].regs.adaptAct then
    s.updPc c p (fun q => match q.copy with
      | some k => q.pasteCells s.rows 0 ⟨(remapBank w).val % 16, by omega⟩ (BitVec.ofNat 15 (s.rows - 4))
          (if q.managed then k.cells else k.cells.map (fun x => (x.1, encodeCheck x.1)))
      | none => q)
  else s

/-- A record for a row is programmed by FUSE_PGM: each bit of RA that is 1, then VALID, which is not blown when a bit of RA has
failed (R277 step 3, R279). A layer whose service bus failed takes no bit. -/
def State.programRecord (s : State) (l : Fin 16) (a : Nat) (row : Row) (failBits : Word32) : State :=
  if s.busFailed.getLsbD l.val then s
  else
    let ra : Word32 := row.setWidth 32
    let s1 := s.programBits l a ra failBits
    if sparseGet (s1.dies[l]).antifuse a &&& ra = ra then s1.programBits l a 0x80000000 failBits else s1

/-- The record reads back as intended by FUSE_RD (R277 step 4). -/
def State.verifyRecord (s : State) (l : Fin 16) (a : Nat) (row : Row) : Bool × State :=
  if s.busFailed.getLsbD l.val then (false, s)
  else
    let (v, s1) := s.fuseRd l a
    (v == recordOf row, s1)

/-- A request for the row copy, or its release, goes to the channel and is taken (R13, R17). -/
def State.handImage (s : State) (c : Ch) (x : Transfer) : State := ((s.drainImages c).postImage c x).drainImages c

/-- Steps 1 to 6 of R277 for an entry, within the command (assumption 127). The row keeps its content through the copy; a record that
does not read back as intended makes the spare bad and moves the entry (R279). -/
def State.hardRepair (s : State) (k : Slot) (c : Cmd) (ch : Ch) (p : Pc) (e : Fin 8) (failBits : Word32) : State :=
  let w := s.chans[ch].pcs[p].remap[e]
  let l := layerOf ch (bankSid (remapBank w))
  let a := antifuseWord ch p (remapBank w) (remapSpare w)
  let s1 := (s.journalRemap ch p e (remapSetState w 3) .hardStart).updPc ch p (fun q => { q with op := some (.hardRepair e) })
  let s2 := (s1.handImage ch (.copyRow p e)).repairCopy ch p w
  let (done, s3) := (s2.programRecord l a (remapRow w) failBits).verifyRecord l a (remapRow w)
  let s5 := (s3.handImage ch (.release p)).updCh ch (·.opEnds p)
  let (n, s4) := s5.pulses (recordOf (remapRow w) &&& ~~~(s.spareWord ch p w) == 0) (!done)
  if done then ((s4.journalRemap ch p e 0 .hardDone).promote ch p).ok k c [0, n, 0, 0]
  else ((s4.markSpareBad ch p e).moveEntry ch p e).answer k c { status := stNvFail, payload := [0, n, 0, 0] }

/-- The entry and pseudo-channel that UNIT names for a row (R405). -/
def rowUnitOk (b : List Byte) : Bool :=
  shaped b 4 [3] && fieldAt b 0 1 == 0 && decide (fieldAt b 1 1 < 32) && decide (fieldAt b 2 1 % 128 < 8)

/-- REPAIR_COMMIT KIND 00h (R277, R405). -/
def execRepairCommitRow (k : Slot) (failBits : Word32) (s : State) : Result :=
  .next (s.serve k (isOpFirst 0x0703 0 2) true (some 2) (fun c t =>
    let ch := chAt c.payload 1
    let p : Pc := Fin.ofNat 2 (fieldAt c.payload 2 1 / 128)
    let e : Fin 8 := Fin.ofNat 8 (fieldAt c.payload 2 1)
    let q := t.chans[ch].pcs[p]
    t.valid k c (rowUnitOk c.payload && decide (2 ≤ remapState q.remap[e]))
      (if q.op.isSome then t.fails k c stBusy 0x02
       else if !q.qact then t.fails k c stNeedsQuiesce
       else t.hardRepair k c ch p e failBits)))

/-! ## Lanes and TSVs -/

/-- A lane record (Table 16-3). -/
def laneRecordWord (c : Ch) (unit pos : Nat) : Word32 :=
  BitVec.ofNat 32 (2 ^ 31 + c.val * 2 ^ 26 + unit * 2 ^ 23 + pos * 2 ^ 18)

/-- A TSV record (Table 16-3). -/
def tsvRecordWord (c : Ch) (g pos : Nat) : Word32 :=
  BitVec.ofNat 32 (2 ^ 31 + c.val * 2 ^ 26 + g * 2 ^ 22 + pos * 2 ^ 17)

/-- Queue the record of a permanent repair for the lowest free word of its region (R286, R469): NV_FAIL where the region is
locked or closed, or has no free record. -/
def State.commitRecord (s : State) (k : Slot) (c : Cmd) (r : Nat) (record : Word32) : State :=
  if s.writeLocked r || s.regionClosed r then s.fails k c stNvFail 0x07
  else match s.freeRecord r with
    | none => s.fails k c stNvFail 0x0B
    | some w => ((s.takeTurn k).markCmd k c.seq .started).queueFuse w record (some (k, c.seq))

/-- REPAIR_COMMIT KIND 01h (R286, R405). -/
def execRepairCommitLane (k : Slot) (s : State) : Result :=
  .next (s.serve k (isOpAt 0x0703 0 1) true (some 2) (fun c t =>
    let ch := chAt c.payload 1
    let unit := fieldAt c.payload 2 1
    let u := t.chans[ch].map.unit (Fin.ofNat 6 unit)
    t.valid k c (shaped c.payload 4 [3] && decide (fieldAt c.payload 1 1 < 32) && decide (unit < 6) && u.en)
      (t.commitRecord k c 2 (laneRecordWord ch unit u.pos))))

/-- REPAIR_COMMIT KIND 02h (R286, R405). -/
def execRepairCommitTsv (k : Slot) (s : State) : Result :=
  .next (s.serve k (isOpAt 0x0703 0 2) true (some 2) (fun c t =>
    let ch := chAt c.payload 1
    let g := fieldAt c.payload 2 1
    match t.chans[ch].tsv.repair[Fin.ofNat 16 g] with
    | some pos =>
      t.valid k c (shaped c.payload 4 [3] && decide (fieldAt c.payload 1 1 < 32) && decide (g < 16))
        (t.commitRecord k c 3 (tsvRecordWord ch g pos.val))
    | none => t.fails k c stBadArg))

end Sys2Proof.Machine
end

