-- ==== Sys2Proof/Machine/JmpStore.lean ====
section
/-! DEFINITION. JMP commands on the stores: NV_WRITE, FW_STAGE and FW_ACTIVATE (R410 to R412, R173, R174, R450). -/

namespace Sys2Proof.Machine

/-- NV_WRITE (R410, R450): the whole range changes at the COMMIT record. -/
def execNvWrite (k : Slot) (s : State) : Result :=
  .next (s.serve k (isOp opNvWrite) false none (fun c t =>
    t.uploadChunk k c nvBuffer
      (fun spec total => shaped spec 8 [4, 5, 6, 7] && decide (1 ≤ total) && decide (total ≤ 0x10000)
        && decide (fieldAt spec 0 4 + total ≤ 0x100000))
      (fun u last =>
        if t.poolShort then (t.abandon k).fails k c stNvFail
        else if last then
          t.programUpload k c nvBuffer u (.userWrite (fieldAt u.spec 0 4) u.bytes (t.nv.ctag + 1))
        else t.keepChunk k c nvBuffer u)))

/-! ## Staging -/

/-- The sectors of an image slot are erased, and their service pages programmed anew, before the first bytes of a full write
(Table 15-9, R429). -/
def NonVolatile.clearSlot (n : NonVolatile) (b : Bool) : NonVolatile :=
  (List.range 12).foldl (fun (m : NonVolatile) k =>
    match m.physical (12 * b.toNat + k) with
    | some (i, _) => m.updSector i (fun y =>
        { y.erased 0 with assigned := some y.logical, prog := servicePages, aseq := y.aseq + 1, ctag := 0 })
    | none => m) n

/-- FW_STAGE KIND 00h (R411): each chunk is programmed into the inactive slot, which is staging from the first one. -/
def execFwStageImage (k : Slot) (s : State) : Result :=
  .next (s.serve k (isOpFirst opFwStage 8 1) false none (fun c t =>
    t.uploadChunk k c imageArea
      (fun spec total => spec.all (· == 0) && decide (1 ≤ total) && decide (total ≤ 1572864))
      (fun u last =>
        if t.poolShort then (t.abandon k).fails k c stNvFail
        else if t.nvFree then
          (t.updNv (fun n => (if chunkOffset c = 0 then n.clearSlot (!n.activeB) else n).updImage (!n.activeB) (fun x =>
            { x with status := 2, bytes := u.bytes }))).programUpload k c imageArea u (.imageChunk (!t.nv.activeB) last)
        else t.wakeQuince)))

/-- FW_STAGE KIND 01h (R411): a table image is held in SRAM. -/
def execFwStageTable (k : Slot) (s : State) : Result :=
  .next (s.serve k (isOpAt opFwStage 8 1) false none (fun c t =>
    t.uploadChunk k c tableArea
      (fun spec total => (spec.drop 1).all (· == 0) && total == 8480)
      (fun u last =>
        if last then
          ((t.putUpload k none).updMgmt (fun m => { m with table := some u.bytes, tableOwner := some k })).ok k c
        else (t.updMgmt (fun m => { m with table := none })).keepChunk k c tableArea u)))

/-! ## Activation -/

/-- The key of an index in KEYSEL (Table 16-2): 0 the image key, 1 the table key. -/
def State.keySelected (s : State) (n : Nat) : List Byte :=
  Config.baltilKey (((sparseGet s.fuse.words 0x142).extractLsb' (4 * n) 4).toNat)

/-- The payload of FW_ACTIVATE (R412). -/
def activateShape (b : List Byte) : Bool := shaped b 8 [2, 3] && decide (fieldAt b 1 1 ≤ 1)

/-- RAISE is set (R412). -/
def raises (c : Cmd) : Bool := (c.payload.getD 1 0).getLsbD 0

/-- FW_ACTIVATE KIND 00h (R412, R466): the tests of the staged image, then the ACTIVE record, which is the commit point. The
image carries its own signature, so that the check is over the image alone (log 5). -/
def execFwActivateImage (k : Slot) (s : State) : Result :=
  .next (s.serve k (isOpFirst opFwActivate 0 1) false (some 1) (fun c t =>
    let x := t.nv.image (!t.nv.activeB)
    t.valid k c (activateShape c.payload && fieldAt c.payload 0 1 == 0 && x.status == 3
        && (!raises c || decide (Config.imageSvn x.bytes ≤ 32)))
      (if imageArea.heldByOther t k then t.fails k c stBusy 0x01
       else if !Config.ecdsaVerify (t.keySelected 0) x.bytes [] then t.fails k c stDenied 0x08
       else if Config.imageSvn x.bytes < t.fuse.arc then t.fails k c stDenied 0x09
       else t.program k c .single none none (.imageActive (!t.nv.activeB)))))

/-- Fields of a table image are as Table 6-10 has them: MAGIC, FORMAT, the reserved word, entry words 60 to 63. -/
def tableFormatOk (b : List Byte) : Bool :=
  b.length == 8480 && fieldAt b 0 4 == 0x7A3C0001 && fieldAt b 4 2 == 1 && fieldAt b 12 4 == 0 && fieldAt b 136 8 == 0

/-- DIGEST matches the contents (R174). -/
def tableDigestOk (b : List Byte) : Bool := Config.sha384 (b.take 0x2090) == (b.drop 0x2090).take 48

/-- SIG verifies against the Baltil table key (R174). -/
def State.tableSigned (s : State) (b : List Byte) : Bool :=
  Config.ecdsaVerify (s.keySelected 1) ((b.drop 0x2090).take 48) (b.drop 0x20C0)

/-- The table bank that a table image fills (R173). -/
def bankOfImage (b : List Byte) (signed : Bool) : TableBank :=
  { verified := true, signed := signed, complete := true, tver := BitVec.ofNat 16 (fieldAt b 6 2)
    steps := ((List.range 1024).map (fun i => (i, BitVec.ofNat 64 (fieldAt b (0x90 + 8 * i) 8)))).filter (fun x => x.2 != 0)
    entries := ((List.range 64).map (fun i => (i, BitVec.ofNat 16 (fieldAt b (0x10 + 2 * i) 2)))).filter (fun x => x.2 != 0) }

/-- The shadow bank of a channel is writable: no swap is armed and no old bank drains (R15, R170). -/
def Channel.shadowWritable (h : Channel) : Bool := !h.taper.armed && !h.taper.draining

/-- Write the staged table to the shadow banks it may be written to and arm them all (R412, R174). ARMED are the channels
armed, SKIPPED the others of CHMASK. -/
def State.armTable (s : State) (k : Slot) (c : Cmd) (b : List Byte) : State :=
  let mask := fieldAt c.payload 4 4
  let chs := (maskChs mask).filter (fun ch => (fieldAt b 8 4).testBit ch.val && s.chans[ch].shadowWritable)
  let bank := bankOfImage b (s.tableSigned b)
  let armed := chs.foldl (fun acc ch => acc + 2 ^ ch.val) 0
  let s1 := chs.foldl (fun (t : State) ch => t.updCh ch (·.updTaper (fun x => { x with shadow := bank, armed := true }))) s
  (s1.updMgmt (fun m => { m with table := none, tableOwner := none })).ok k c (natBytes 4 armed ++ natBytes 4 (mask - armed))

/-- FW_ACTIVATE KIND 01h (R412, R174): in lab mode SIG is not required. -/
def execFwActivateTable (k : Slot) (s : State) : Result :=
  .next (s.serve k (isOpAt opFwActivate 0 1) false (some 1) (fun c t =>
    match t.mgmt.table with
    | none => t.fails k c stBadArg
    | some b =>
      t.valid k c (activateShape c.payload && decide (fieldAt c.payload 4 4 ≠ 0) && tableFormatOk b)
        (if tableArea.heldByOther t k then t.fails k c stBusy 0x01
         else if tableDigestOk b && (t.mgmt.lab || t.tableSigned b) then t.armTable k c b
         else t.fails k c stDenied 0x08)))

end Sys2Proof.Machine
end

