-- ==== Sys2Proof/Machine/JmpFuse.lean ====
section
/-! DEFINITION. JMP commands on fuses and anti-fuses, and the fuse controller (R414 to R417, R467 to R473). -/

namespace Sys2Proof.Machine

/-! ## Reads -/

/-- Payload fields TARGET and WORD (R414, R415). -/
def fuseTarget (b : List Byte) : Nat := fieldAt b 0 1
@[inherit_doc fuseTarget] def fuseWordOf (b : List Byte) : Nat := fieldAt b 2 2

/-- A TARGET that names a layer names one of the stack (R414). -/
def State.layerNamed (s : State) (target : Nat) : Bool := decide (1 ≤ target) && decide (target ≤ s.layerCount)

/-- The layer of a TARGET. -/
def targetLayer (target : Nat) : Fin 16 := Fin.ofNat 16 (target - 1)

/-- FUSE_READ (R414): base-die words from the shadow, layer words raw by FUSE_RD (R472). -/
def execFuseRead (k : Slot) (s : State) : Result :=
  .next (s.serve k (isOp 0x0A00) false none (fun c t =>
    let b := c.payload
    let w := fuseWordOf b
    let n := fieldAt b 4 2
    let l := targetLayer (fuseTarget b)
    let words := (List.range n).map (fun i => w + i)
    let base := fuseTarget b == 0
    t.valid k c (shaped b 6 [1] && decide (1 ≤ n)
        && (if base then decide (n ≤ 64) && decide (w + n ≤ 0x200)
            else t.layerNamed (fuseTarget b) && decide (n ≤ 16) && decide (w + n ≤ 0x800)))
      (if base then
        (if words.any (fun x => t.readLocked (regionOf x)) then t.fails k c stDenied 0x07
         else t.ok k c (words.flatMap (fun x => wordBytes (sparseGet t.fuse.words x))))
       else if t.busFailed.getLsbD l.val then t.fails k c stTimeout 0x0A
       else (t.fuseRdAll l words).2.ok k c ((t.fuseRdAll l words).1.flatMap wordBytes))))

/-- A word is read through a copy slot since the last load (R417). -/
def State.copyInUse (s : State) (w : Nat) : Bool :=
  (List.range 8).any (fun j => s.fuse.slotsUsed.getLsbD j
    && ((sparseGet s.fuse.words (0x1F0 + 2 * j)).extractLsb' 0 9).toNat == w)

/-- FLAGS of FUSE_MARGIN (R417). -/
def State.marginFlags (s : State) (w : Nat) (normal tight : BitVec 39) : Nat :=
  bitsToNat [s.copyInUse w, regionOf w < 6 && s.fuse.invalid.getLsbD (regionOf w),
    (match fuseDecode normal with
      | some v => fuseEncode v != normal
      | none => false), normal != tight]

/-- The answer of FUSE_MARGIN (R417). -/
def State.marginPayload (s : State) (w : Nat) (normal tight : BitVec 39) : List Byte :=
  wordBytes (normal.extractLsb' 0 32) ++ wordBytes (tight.extractLsb' 0 32)
    ++ [(normal.extractLsb' 32 7).setWidth 8, (tight.extractLsb' 32 7).setWidth 8, byteOf (s.marginFlags w normal tight), 0]

/-- FUSE_MARGIN (R417, R470): what the two margins read of the word. -/
def execFuseMargin (k : Slot) (sense : FuseSense) (s : State) : Result :=
  .next (s.serve k (isOp 0x0A03) false none (fun c t =>
    let w := fieldAt c.payload 0 2
    let f := t.sensedWith [sense] w
    t.valid k c (shaped c.payload 4 [2, 3] && decide (w < 0x200))
      (if t.readLocked (regionOf w) then t.fails k c stDenied 0x07
       else t.ok k c (t.marginPayload w f.1 f.2))))

/-! ## Programs -/

/-- A command's word goes to the fuse controller; it is STARTED until its first pulse (R467). -/
def State.startFuse (s : State) (k : Slot) (c : Cmd) (w : Nat) (bits : Word32) : State :=
  ((s.takeTurn k).markCmd k c.seq .started).queueFuse w bits (some (k, c.seq))

/-- Program a layer word of 400h to 7FFh (R473): one FUSE_PGM for each bit not yet set, at most three attempts each. -/
def State.programLayer (s : State) (k : Slot) (c : Cmd) (l : Fin 16) (w : Nat) (bits failBits : Word32) : State :=
  let old := sparseGet (s.dies[l]).antifuse w
  let want := bits &&& ~~~old
  let failed := want &&& failBits
  let (n, s2) := (s.programBits l w bits failBits).pulses (want == 0) (failed != 0)
  s2.answer k c { status := if failed = 0 then stOk else stNvFail, payload := wordBytes failed ++ [n, 0, 0, 0] }

/-- FUSE_PROGRAM (R415, R469, R473). -/
def execFuseProgram (k : Slot) (failBits : Word32) (s : State) : Result :=
  .next (s.serve k (isOp 0x0A01) false (some 0) (fun c t =>
    let b := c.payload
    let w := fuseWordOf b
    let bits : Word32 := BitVec.ofNat 32 (fieldAt b 4 4)
    let l := targetLayer (fuseTarget b)
    t.valid k c (shaped b 8 [1] && (if fuseTarget b = 0 then decide (w < 0x200)
        else t.layerNamed (fuseTarget b) && decide (0x400 ≤ w) && decide (w < 0x800)))
      (if fuseTarget b = 0 then
        (if (t.fuseAllowed w bits).1 = stOk then t.startFuse k c w bits
         else t.fails k c (t.fuseAllowed w bits).1 (t.fuseAllowed w bits).2)
       else if t.busFailed.getLsbD l.val then t.fails k c stTimeout 0x0A
       else t.programLayer k c l w bits failBits)))

/-- The precondition of a lock (R471): the region's CRC word, sensed afresh, is not 0 and matches the region. -/
def State.lockReady (s : State) (r : Nat) : Bool :=
  let f := s.sensedWith []
  let vals := (regionWords r).map (fun w => (w, resolveWord f w))
  let words : List (Nat × Word32) := vals.filterMap (fun x => x.2.map (fun v => (x.1, v)))
  vals.all (fun x => x.2.isSome) && resolveWord f (regionLast r) != some 0
    && resolveWord f (regionLast r) == some (regionCrc words (regionFirst r) (regionLast r))

/-- The lock word of a region and kind (R471). -/
def lockValue (r kind : Nat) : Word32 := BitVec.ofNat 32 (0x4C4B0000 + 2 * r + kind)

/-- FUSE_LOCK of a kind (R471, R416): a lock in force answers OK without a pulse. -/
def State.fuseLock (s : State) (k : Slot) (c : Cmd) (kind : Nat) : State :=
  let r := fieldAt c.payload 0 1
  s.valid k c (shaped c.payload 4 [2, 3] && decide (r < 6) && fieldAt c.payload 1 1 == kind)
    (if s.fuseBlown (Fin.ofNat 512 (0x1C0 + 2 * r + kind)) then s.ok k c
     else if s.lockReady r then s.startFuse k c (0x1C0 + 2 * r + kind) (lockValue r kind)
     else s.fails k c stDenied 0x0C)

/-- FUSE_LOCK KIND 00h. -/
def execFuseLockWrite (k : Slot) (s : State) : Result :=
  .next (s.serve k (isOpFirst 0x0A02 1 1) false (some 0) (fun c t => t.fuseLock k c 0))

/-- FUSE_LOCK KIND 01h. -/
def execFuseLockRead (k : Slot) (s : State) : Result :=
  .next (s.serve k (isOpAt 0x0A02 1 1) false (some 0) (fun c t => t.fuseLock k c 1))

/-! ## The controller -/

/-- What a command returns for its word (R405, R415, R416, R467): FAILBITS and PULSES as its layout has them. -/
def fuseAnswer (c : Cmd) (failBits : Word32) (n : Byte) : List Byte :=
  if c.opcode = 0x0A01 then wordBytes failBits ++ [n, 0, 0, 0]
  else if c.opcode = 0x0703 then [c.payload.getD 0 0, n, 0, 0]
  else []

/-- The words a command still has queued. -/
def State.queuedFor (s : State) (owner : Option (Slot × BitVec 16)) : Bool :=
  owner.isSome && s.fuseQueue.any (fun j => j.owner == owner)

/-- Drop the words a command still has queued. -/
def State.dropQueued (s : State) (owner : Option (Slot × BitVec 16)) : State :=
  { s with fuseQueue := s.fuseQueue.filter (fun j => owner.isNone || j.owner != owner) }

/-- Answer an image's activation: the reset that starts it follows the response (R412). -/
def State.activated (s : State) (k : Slot) (seq : BitVec 16) (status : Byte) : State :=
  (s.respond k seq { status := status }).updMgmt (fun m => { m with activation := some (k, seq) })

/-- Answer the owner of a word: a failure ends the request, else its last word does. -/
def State.answerWord (s : State) (owner : Option (Slot × BitVec 16)) (status detail : Byte) (failBits : Word32) (n : Byte) :
    State :=
  match owner with
  | none => s
  | some (k, seq) =>
    match s.sessions[k].find seq with
    | none => s
    | some c =>
      if status = stOk && s.queuedFor owner then s
      else if c.opcode = opFwActivate then (s.dropQueued owner).activated k seq status
      else (s.dropQueued owner).respond k seq { status := status, detail := detail, payload := fuseAnswer c failBits n }

/-- The controller takes a word (R467): a word that is not 0 takes no pulse; the others are blown, and those bits that do not
verify are reported. -/
def State.programWord (s : State) (j : FuseJob) (failBits : BitVec 39) : State :=
  if s.rawFuse j.word.val ≠ 0 then s.answerWord j.owner stBadArg 0 0 0
  else
    let failed := (j.bits &&& failBits) != 0
    let s1 := s.blow j.word.val j.bits failBits
    let (n, s2) := s1.pulses (j.bits == 0) failed
    s2.answerWord j.owner (if failed then stNvFail else stOk) 0 (failWord j.bits failBits) n

/-- After a trip no pulse starts: the request of a word that the trip stopped part-way has failed, the bits that are not blown with
it; any other is refused (Table 10-4, R299; log 130). -/
def State.wordAfterTrip (s : State) (j : FuseJob) : State :=
  let raw := s.rawFuse j.word.val
  if raw = 0 || (raw &&& ~~~j.bits) ≠ 0 then s.answerWord j.owner stDenied 0x04 0 0
  else
    let (n, s1) := s.pulses false false
    s1.answerWord j.owner stNvFail 0 (failWord j.bits (~~~raw)) n

/-- FUSE_WORD_PROGRAM (R467). -/
def execFuseWordProgram (failBits : BitVec 39) (s : State) : Result :=
  match s.fuseQueue with
  | [] => .next s
  | j :: rest =>
    if s.inReset || !s.fuse.loaded then .next s
    else
      let s1 := { s with fuseQueue := rest }
      .next (if s.thermal.trip then s1.wordAfterTrip j else s1.programWord j failBits)

end Sys2Proof.Machine
end

