-- ==== Sys2Proof/Machine/Complete.lean ====
section
/-! DEFINITION. The end of a Quince operation: what it makes valid, the response of the command it serves, and the retirement
of a worn sector (R380, R410 to R412, R436, R438, R439). -/

namespace Sys2Proof.Machine

/-- The ARC words a RAISE programs: from 1D0h upward, those still 0, until ARC is the security version (R466). -/
def State.raiseWords (s : State) (svn : Nat) : List Nat :=
  ((List.range 32).filter (fun i => s.rawFuse (0x1D0 + i) == 0)).take
    (svn - ((List.range 32).filter (fun i => s.rawFuse (0x1D0 + i) != 0)).length)

/-- The image is marked active (R412): the staging area is free; a RAISE queues its words after
its ARC_PEND record, else the response is sent and the
reset follows. -/
def State.imageActivated (s : State) (k : Slot) (c : Cmd) : State :=
  let words := s.raiseWords (s.nv.image s.nv.activeB).svn
  let svn := (s.nv.image s.nv.activeB).svn
  let s1 := s.updMgmt (fun m => { m with imageOwner := none })
  if raises c && !words.isEmpty then
    words.foldl (fun (t : State) i => t.queueFuse (0x1D0 + i) (BitVec.ofNat 32 (0x41524300 + i)) (some (k, c.seq)))
      ((s1.updNv (·.note (.arcPend svn))).markCmd k c.seq .committed)
  else s1.activated k c.seq stOk

/-- The object of an upload whose commit point is a program. -/
def uploadObject (op : BitVec 16) : OwnedObject := if op = opMapImport then importBuffer else nvBuffer

/-- The response of a command whose program has completed; before: the state before it. -/
def State.programDone (s before : State) (k : Slot) (c : Cmd) (cont : NvCont) : State :=
  match cont with
  | .options _ => s.optionAnswer k c
  | .mark _ _ _ _ => s.ok k c (natBytes 4 before.nv.nextSeq)
  | .retProfile _ _ => s.ok k c s.profilePayload
  | .userWrite _ _ _ | .mapImport _ => (s.dropUpload k (uploadObject c.opcode)).ok k c
  | .imageChunk _ complete => (if complete then s.putUpload k none else s).ok k c
  | .imageActive _ => s.imageActivated k c
  | .nothing | .eraseSector _ | .baseErase _ | .baseline _ _ => s

/-- The response of a command whose program has failed: NV_FAIL, and its upload is abandoned (R380). -/
def State.programFailed (s : State) (k : Slot) (c : Cmd) : State := (s.abandonBy k c.opcode).fails k c stNvFail

/-- Give the command an operation serves its response. -/
def State.answerOp (s before : State) (o : NvOp) (ok : Bool) : State :=
  match o.owner with
  | none => s
  | some (k, seq) =>
    match s.sessions[k].find seq with
    | none => s
    | some c => if ok then s.programDone before k c o.cont else s.programFailed k c

/-- The sector of an operation is retired where it failed, took too many pulses or fails its margin (R439, Table 15-6). -/
def State.wornSector (s : State) (o : NvOp) (ok : Bool) (pulses : Nat) (margin : Margin) : State :=
  match o.sector with
  | none => s
  | some i => if !ok || decide (retireLimit o.kind < pulses) then s.retire i.val 1
              else if !strictPassed margin then s.retire i.val 2 else s

/-- The status an operation ends with (R436). -/
def NvOp.status (o : NvOp) (ok : Bool) : NvStatus :=
  if ok then .ok else match o.kind with
    | .eraseMain | .eraseParam => .efail
    | _ => .pfail

/-- What Lantern C does next: after the erase of a baseline's sector, the record in its lower pages (R212), which is what stands
then; a record that is due (R212); an erase of a pool sector (R443). -/
def State.nextOp (s : State) (o : NvOp) (ok : Bool) : State :=
  match o.cont with
  | .baseErase i =>
    if ok && s.mgmt.ready then s.startNv .lower (some i) (some 0) (.baseline s.passedBaselines i) none else s.driveBaselines
  | _ => (s.driveBaselines).keepErased

/-- QUINCE_OP_COMPLETE (R436): an operation that verifies within the fail limit of Table 15-6 has succeeded, and a Lantern that it
stalled goes on (R435); while the management plane is down the controller keeps the result (Table 15-8). -/
def execQuinceOpComplete (verified : Bool) (pulses : Nat) (margin : Margin) (s : State) : Result :=
  match s.quince.op with
  | none => .next s
  | some o =>
    let ok := verified && decide (pulses ≤ failLimit o.kind)
    let s1 := { s with
      nv := s.nv.opEnds o ok
      mgmt := { s.mgmt with stall := false }
      quince := { s.quince with op := none, status := some (o.status ok), result := if s.mgmt.ready then none else some (ok, pulses) } }
    let s2 := if ok then s1.commitNv o.cont pulses else s1
    let s3 := s2.answerOp s o ok
    .next ((s3.wornSector o ok pulses margin).nextOp o ok)

end Sys2Proof.Machine
end

