-- ==== Sys2Proof/Machine/Service.lean ====
section
/-! DEFINITION. The restart of the management plane, the telemetry snapshot, RELEASE, the reset that starts an activated
image, and writes of window words and of registers without a row of their own (R8, R27, R348 to R353, R363, R412). -/

namespace Sys2Proof.Machine

/-! ## The management plane -/

/-- The ledger events totalled while the plane was down are recorded (R12, Table 1-3). -/
def State.recordOwed (s : State) : State :=
  s.mgmt.owed.foldl (fun (t : State) x => t.record x.1 x.2) (s.updMgmt (fun m => { m with owed := [] }))

/-- After a restart the image's table is staged and armed where the active one is another (R180); the first load is
TABLE_LOAD's. -/
def State.restage (s : State) : State :=
  if s.power.tables && !s.thermal.trip then s.updAll (·.stageImage s.imageTable) else s

/-- MGMT_RESTART: Dzixia reads what the controller kept, records what is owed, resumes map loads and sets MGMT_READY (R27, R12, R180,
R244, Table 15-8); pool sectors are kept erased (R443). -/
def execMgmtRestart (s : State) : Result :=
  if s.inReset || !s.power.booted || s.mgmt.ready then .next s
  else
    let s1 := (s.recordOwed.restage).updMgmt (fun m => { m with ready := true })
    let s2 : State := { s1 with quince := { s1.quince with result := none } }
    .next (((s2.resumeLoads).evalHealth).rebuildSnap).keepErased

/-- TELEMETRY_SNAPSHOT (R363, R483). -/
def execTelemetrySnapshot (s : State) : Result := .next (if s.serves then (s.evalHealth).rebuildSnap else s)

/-- ACTIVATION_RESET: 1 s after the response of an FW_ACTIVATE of an image (R412). -/
def execActivationReset (s : State) : Result :=
  .next (if s.mgmt.activation.isSome then s.mgmtReset 7 [] else s)

/-! ## RELEASE -/

/-- The effect of RELEASE for the holder of the claim (R353): the collected response is freed, the claim ends; the release
of the response of an image's activation starts that image (R412). -/
def State.release (s : State) (t : Transport) : State :=
  let w := s.window t
  match (if w.respValid then w.collected else none) with
  | none => s.updWindow t (·.endClaim)
  | some (k, seq) =>
    let s1 := (s.releaseResponse k seq).updWindow t (·.endClaim)
    if s.mgmt.activation = some (k, seq) then s1.mgmtReset 7 [] else s1

/-- RELEASE (R353). -/
def execRelease (t : Transport) (tag : BitVec 16) (s : State) : Result := .next (s.doorbell t tag (s.release t))

/-! ## Writes of window words -/

/-- A write of MBX_DOORBELL by its fields ACT, CSESS and TAG (Table 13-7). -/
def State.ring (s : State) (t : Transport) (w : Word32) : State :=
  let tag : BitVec 16 := w.extractLsb' 0 16
  match (w.extractLsb' 30 2).toNat with
  | 1 => s.doorbell t tag (s.submit t)
  | 2 => s.doorbell t tag (s.collect t (w.extractLsb' 16 8))
  | 3 => s.doorbell t tag (s.release t)
  | _ => s.doorbell t tag s

/-- A word of a request window (R350: accepted from any requester at any time). -/
def State.writeRequest (s : State) (t : Transport) (i : Fin 256) (w : Word32) : State :=
  s.updWindow t (fun x => { x with req := x.req.set i w })

/-- The W1C bit of WICK_STAT in a transport's window (Table 11-4). -/
def State.clearSyncIgn (s : State) (t : Transport) (w : Word32) : State :=
  if w.getLsbD 23 then s.updWick (fun x => { x with syncIgn := x.syncIgn.set (windowIx t) false }) else s

/-- A write of a window word at an aligned offset (Table 13-1, R182): reserved and read-only words ignore it. -/
def State.windowWrite (s : State) (t : Transport) (offset : BitVec 16) (w : Word32) : State :=
  let k := offset.toNat / 4
  if s.inReset then s
  else if k = 3 then (if w.getLsbD 19 then s.updWindow t (fun x => { x with mgmtRst := false }) else s)
  else if k = 4 then s.ring t w
  else if k = 6 then s.clearSyncIgn t w
  else if h : 0x40 ≤ k ∧ k < 0x140 then s.writeRequest t ⟨k - 0x40, by omega⟩ w
  else if t = .host && decide (0x400 ≤ k) && decide (k < 0x440) && k % 2 == 0 then s.trnWrite (Fin.ofNat 32 ((k - 0x400) / 2)) w
  else s

/-- A write of a byte register of the I2C target (Tables 18-1 to 18-5, R493): read-only and reserved ones ignore it. -/
def I2c.writeReg (x : I2c) (address : BitVec 7) (v : Byte) : I2c :=
  match address.toNat with
  | 0x10 => { x with stat := x.stat &&& ~~~(v &&& 0x7E) }
  | 0x11 => { x with cfg := v.extractLsb' 0 3 }
  | 0x12 => { x with alt := v.extractLsb' 0 7 }
  | 0x13 => { x with hold := v.extractLsb' 0 6 }
  | _ => x

/-- REGISTER_WRITE: a register without a row of its own, by the types of its fields (R8). -/
def execRegisterWrite (target : RegTarget) (s : State) : Result :=
  .next (if s.inReset then s
    else match target with
      | .trnCtl c w => s.trnWrite c w
      | .i2cCfg b => s.updI2c (·.writeReg 0x11 b)
      | .altAddr b => s.updI2c (·.writeReg 0x12 b)
      | .sdaHold b => s.updI2c (·.writeReg 0x13 b)
      | .i2cStat b => s.updI2c (·.writeReg 0x10 b)
      | .wickStat t w => s.clearSyncIgn t w
      | .requestWord t i w => s.writeRequest t i w)

end Sys2Proof.Machine
end

