-- ==== Sys2Proof/Machine/Sideband.lean ====
section
/-! DEFINITION. The I2C target (R487 to R503). -/

namespace Sys2Proof.Machine

/-! ## Byte registers -/

/-- The TAP holds the sideband pins: EXTEST, HIGHZ or CLAMP is in force (R513). -/
def State.tapHolds (s : State) : Bool := s.tap.ir == 0 || s.tap.ir == 3 || s.tap.ir == 4

/-- The I2C target works: out of stack reset, and the TAP does not hold its pins (R341, R513). -/
def State.i2cWorks (s : State) : Bool := !s.inReset && !s.tapHolds

/-- HEALTH, 00h (Table 17-6). -/
def State.healthByte (s : State) : Byte :=
  byteOf (bitsToNat [s.mgmt.ready, s.anyFail, s.holding, s.thermal.cattrip, s.mgmt.replace] * 4 + s.mgmt.health.toNat)

/-- SMODE, 02h (Table 18-1). -/
def State.smode (s : State) : Byte := s.modeByte

/-- TFAULT, 03h: a SID has a layer without a valid sensor, a base-die cluster has none (Table 18-1). -/
def State.tfault (s : State) : Byte :=
  let layers (sid : Sid) : List (List (Fin 128)) := (sidLayers sid).map layerSensors
  byteOf ((List.finRange 4).foldl (fun acc sid =>
      if s.sidPresent sid && s.thermal.blind (layers sid) then acc + 2 ^ sid.val else acc) 0
    + (if s.thermal.blind ((List.finRange 8).map clusterSensors) then 16 else 0))

/-- A reading as the byte registers hold it; 8000h for none (Table 18-1). -/
def hotWord (r : Option Int) : BitVec 16 :=
  match r with
  | some x => BitVec.ofInt 16 x
  | none => 0x8000

/-- HOT_STACK: the hottest valid reading of the stack, base die included (Table 18-1). -/
def State.hotStack (s : State) : BitVec 16 :=
  hotWord ((List.finRange 5).foldl (fun acc u => maxReading acc (s.unitReading u)) none)

/-- HOT_BASE (Table 18-1). -/
def State.hotBase (s : State) : BitVec 16 := hotWord (s.unitReading 4)

/-- The 2-byte value that begins at a byte register (Table 18-1). -/
def State.hotAt (s : State) (address : Nat) : BitVec 16 :=
  if address = 4 then s.hotStack
  else if address = 14 then s.hotBase
  else hotWord (s.unitReading (Fin.ofNat 5 ((address - 6) / 2)))

/-- What a single-byte register reads (Table 18-1); reserved ones read 0. -/
def State.i2cByte (s : State) (address : Nat) : Byte :=
  match address with
  | 0x00 => s.healthByte
  | 0x01 => s.thermal.temp.setWidth 8
  | 0x02 => s.smode
  | 0x03 => s.tfault
  | 0x10 => s.i2c.status
  | 0x11 => s.i2c.cfg.setWidth 8
  | 0x12 => s.i2c.alt.setWidth 8
  | 0x13 => s.i2c.hold.setWidth 8
  | _ => if 4 ≤ address ∧ address < 16 then (s.hotAt (address - 1)).setWidth 8 else 0

/-! ## Addressing -/

/-- The primary address (R488). -/
def State.i2cPrimary (s : State) : BitVec 7 := 0x4C#7 + s.power.saddr.setWidth 7

/-- The target acknowledges an address (R488). -/
def State.i2cMatch (s : State) (cfg : BitVec 3) (alt a : BitVec 7) : Bool :=
  decide (8 ≤ a.toNat) && decide (a.toNat < 0x78)
    && (a == s.i2cPrimary
      || (cfg.getLsbD 2 && (if cfg.getLsbD 1 then ((a ^^^ s.i2cPrimary) &&& ~~~alt) == 0 else a == alt)))

/-- The first START of a transaction: the settings written before it come into force (R491). -/
def I2c.begin (x : I2c) : I2c :=
  if x.active then x
  else { x with active := true, cfgLive := x.cfg, altLive := x.alt, trace := [], held := [], claimWord := none, part := [],
                lastWrite := false }

/-- The target is addressed (R488, R492): a read after a claim of the transaction returns its MBX_CLAIM word. -/
def I2c.addressed (x : I2c) (read : Bool) : I2c :=
  { x with
    ack := true, lastWrite := !read, sending := [], claimWord := none, part := [],
    phase := if !read then .command else match x.claimWord with
      | some w => .claimRead (some w)
      | none => .reading }

/-- I2C_ADDRESS (R488, R496): a sleeping target does not acknowledge the first address of a transaction, and is awake after
its own. -/
def execI2cAddress (a : BitVec 7) (read : Bool) (s : State) : Result :=
  if !s.i2cWorks then .next s
  else
    let x := s.i2c.begin
    let y : I2c := { x with trace := x.trace ++ [byteOf (2 * a.toNat + read.toNat)] }
    let hit := s.i2cMatch x.cfgLive x.altLive a
    let off : I2c := { y with phase := .ignore, ack := false }
    .next { s with i2c :=
      if s.i2c.asleep && !s.i2c.active then
        (if hit then { off with asleep := false, stat := off.stat ||| 0x40 } else off)
      else if hit then y.addressed read else off }

/-! ## Writes -/

/-- PEC is in use in the transaction (R502). -/
def I2c.pec (x : I2c) : Bool := x.cfgLive.getLsbD 0

/-- Bytes the target has acknowledged. -/
def I2c.took (x : I2c) (bytes : List Byte) : I2c := { x with trace := x.trace ++ bytes, ack := true }

/-- A byte is not acknowledged, and the bus is ignored until the next START (R492). -/
def I2c.refuse (x : I2c) (bytes : List Byte) : I2c := { x with trace := x.trace ++ bytes, ack := false, phase := .ignore }

/-- I2C_POINTER_SET (R489, R492). -/
def execI2cPointerSet (byte : BitVec 7) (s : State) : Result :=
  .next (if s.i2c.phase = .command then
    s.updI2c (fun x => { x.took [byte.setWidth 8] with pointer := byte, windowLast := false, phase := .bytes })
  else s)

/-- WINDOW_OFFSET_SET (R492). -/
def execWindowOffsetSet (offset : BitVec 16) (s : State) : Result :=
  .next (if s.i2c.phase = .command then
    s.updI2c (fun x => { x.took ([0x80] ++ natBytes 2 offset.toNat) with
      offset := offset &&& 0xFFFC, windowLast := true, phase := .window })
  else s)

/-- One window word at the current offset (R493, R494, R502): a doorbell is held until STOP, the last one written; with PEC
every word is held. -/
def State.i2cWord (s : State) (w : Word32) : State :=
  let o := s.i2c.offset
  let s1 := s.updI2c (fun x => { x with offset := x.offset + 4 })
  let isBell (h : Held) : Bool := match h with
    | .doorbell _ => true
    | _ => false
  if o = 0x0010 then s1.updI2c (fun x => { x with held := x.held.filter (fun h => !isBell h) ++ [.doorbell w] })
  else if s.i2c.pec then s1.updI2c (fun x => { x with held := x.held ++ [.word o w] })
  else s1.windowWrite .manager o w

/-- The words of a byte string; fewer than four bytes left wait for the rest of their word, which is discarded if it does not come
(R493). -/
def State.i2cWords (s : State) : List Byte → State
  | a :: b :: c :: d :: rest => (s.i2cWord (BitVec.ofNat 32 (bytesToNat [a, b, c, d]))).i2cWords rest
  | left => s.updI2c (fun x => { x with part := left })

/-- Window bytes after those of a word that is not complete. -/
def State.i2cWindow (s : State) (bytes : List Byte) : State := s.i2cWords (s.i2c.part ++ bytes)

/-- I2C_BYTE_WRITE (R493, R502): a byte of a register or of a window word; one that is not due is not acknowledged. -/
def execI2cByteWrite (byte : Byte) (s : State) : Result :=
  match s.i2c.phase with
  | .bytes =>
    .next (s.updI2c (fun x =>
      let y := { x.took [byte] with pointer := x.pointer + 1 }
      if x.pec then { y with held := y.held ++ [.register x.pointer byte] } else y.writeReg x.pointer byte))
  | .window => .next ((s.updI2c (·.took [byte])).i2cWindow [byte])
  | .claimed => .next (s.updI2c (·.refuse [byte]))
  | _ => .next s

/-- I2C_CLAIM (R492, R350): a requester byte of 00h is not acknowledged. -/
def execI2cClaim (requester : Byte) (s : State) : Result :=
  .next (if s.i2c.phase ≠ .command then s
    else if requester = 0 then s.updI2c (·.refuse [0x82, 0])
    else
      let free := s.manager.claim.isNone
      let s1 := s.updWindow .manager (·.grant s.timeUs)
      let word : Word32 := if free then (s1.manager.claim.getD 0).setWidth 32 else 0
      s1.updI2c (fun x => { x.took [0x82, requester] with claimWord := some word, phase := .claimed }))

/-- INVALID_COMMAND_BYTE (R492). -/
def execInvalidCommandByte (byte : Byte) (s : State) : Result :=
  .next (if s.i2c.phase = .command ∧ 0x83 ≤ byte.toNat then s.updI2c (·.refuse [byte]) else s)

/-! ## Reads -/

/-- Bytes with their PEC, each with the pointer and offset that hold once it has been sent (R490, R492, R502). -/
def I2c.withPec (x : I2c) (sent bytes : List Byte) (p : BitVec 7) (o : BitVec 16) : List (Byte × BitVec 7 × BitVec 16) :=
  let last := bytes.getLastD 0
  (bytes.dropLast.map (fun b => (b, x.pointer, x.offset))) ++ [(last, p, o)]
    ++ (if x.pec then [(crc8 (x.trace ++ sent ++ bytes), p, o)] else [])

/-- The unit captured when a read has no captured byte left (R490, R492, R495): the claim word, a window word, a 2-byte value
or a byte register. -/
def State.i2cCapture (s : State) : List (Byte × BitVec 7 × BitVec 16) :=
  let x := s.i2c
  match x.phase with
  | .claimRead (some w) => x.withPec [] (wordBytes w) x.pointer x.offset
  | .reading =>
    if x.windowLast then x.withPec [] (wordBytes (s.windowRead .manager x.offset)) x.pointer (x.offset + 4)
    else if 4 ≤ x.pointer.toNat ∧ x.pointer.toNat < 16 ∧ x.pointer.toNat % 2 = 0 then
      let w := s.hotAt x.pointer.toNat
      let first := x.withPec [] [w.extractLsb' 8 8] (x.pointer + 1) x.offset
      first ++ x.withPec (first.map (·.1)) [w.extractLsb' 0 8] (x.pointer + 2) x.offset
    else x.withPec [] [s.i2cByte x.pointer.toNat] (x.pointer + 1) x.offset
  | _ => [(0xFF, x.pointer, x.offset)]

/-- The target sends one byte of a read. -/
def State.i2cSend (s : State) : State :=
  let x := s.i2c
  let q := if x.sending.isEmpty then s.i2cCapture else x.sending
  let phase : I2cPhase := match x.phase with
    | .claimRead _ => .claimRead none
    | y => y
  match q with
  | [] => s
  | (b, p, o) :: rest =>
    s.updI2c (fun x => { x with
      sending := rest, pointer := p, offset := o, phase := phase, trace := x.trace ++ [b], out := x.out ++ [b] })

/-- Send n bytes. -/
def State.i2cSends : Nat → State → State
  | 0, s => s
  | n + 1, s => State.i2cSends n s.i2cSend

/-- The target is read. -/
def I2cPhase.isRead : I2cPhase → Bool
  | .reading | .claimRead _ | .mute => true
  | _ => false

/-- WINDOW_DATA. A write: command 81h where a command byte is due, then the window bytes (R492). A read: as many bytes as
the controller clocks, from the claim, the window or the byte registers as the segment was addressed (R489, R490, R492). -/
def execWindowData (read : Bool) (bytes : List Byte) (s : State) : Result :=
  if read then
    .next (if s.i2c.phase.isRead then State.i2cSends bytes.length (s.updI2c (fun x => { x with out := [] })) else s)
  else match s.i2c.phase with
    | .command =>
      .next ((s.updI2c (fun x => { x.took ([0x81] ++ bytes) with windowLast := true, phase := .window })).i2cWindow bytes)
    | .window => .next ((s.updI2c (·.took bytes)).i2cWindow bytes)
    | .claimed => .next (s.updI2c (·.refuse bytes))
    | _ => .next s

/-! ## The end of a transaction -/

/-- A held write takes effect (R494, R502). -/
def State.i2cRelease (s : State) : Held → State
  | .register a v => s.updI2c (·.writeReg a v)
  | .word o w => s.windowWrite .manager o w
  | .doorbell w => s.windowWrite .manager 0x0010 w

/-- The transaction is over. -/
def I2c.ended (x : I2c) (phase : I2cPhase) : I2c :=
  { x with phase := phase, active := false, held := [], sending := [], claimWord := none, part := [] }

/-- The PEC of the last write segment matches (R502). -/
def I2c.pecMatches (x : I2c) (pec : Option Byte) : Bool :=
  match pec with
  | some b => x.lastWrite && x.phase != .ignore && crc8 x.trace == b
  | none => false

/-- I2C_STOP (R494, R502): held writes commit; with PEC only where the last byte is a PEC that matches, else PEC_ERR is
set where anything was held or a PEC was sent. -/
def execI2cStop (pec : Option Byte) (s : State) : Result :=
  if !s.i2cWorks || !s.i2c.active then .next s
  else
    let x := s.i2c
    let done := { s with i2c := x.ended .idle }
    if x.pec && !x.pecMatches pec then
      .next (if x.held.isEmpty && (pec.isNone || x.phase == .ignore) then done
        else done.updI2c (fun y => { y with stat := y.stat ||| 0x10 }))
    else .next (x.held.foldl State.i2cRelease done)

/-- I2C_BUS_ERROR (R501). -/
def execI2cBusError (s : State) : Result :=
  .next (if s.i2cWorks && s.i2c.active then s.updI2c (fun x => { x.ended .ignore with stat := x.stat ||| 0x02 }) else s)

/-- I2C_LOW_TIMEOUT (R498): SDA_STUCK or SCL_STUCK, and the transaction ends as a bus error ends it. -/
def execI2cLowTimeout (sda : Bool) (s : State) : Result :=
  .next (if s.i2cWorks then
    s.updI2c (fun x => { x.ended .ignore with stat := x.stat ||| (if sda then 0x08 else 0x04) })
  else s)

/-- I2C_STRETCH_TIMEOUT (R497): a read returns FFh from then on, a write's later bytes are not acknowledged. -/
def execI2cStretchTimeout (s : State) : Result :=
  .next (if s.i2cWorks && s.i2c.active then
    s.updI2c (fun x => { x with stat := x.stat ||| 0x20, sending := [], phase := if x.phase.isRead then .mute else .ignore })
  else s)

/-- I2C_SLEEP: never while a claim made through the target is held (R496). -/
def execI2cSleep (s : State) : Result :=
  .next (if s.i2cWorks && s.manager.claim.isNone then s.updI2c (fun x => { x with asleep := true }) else s)

/-- I2C_SWAP_DETECT (R503): with swapping enabled the swap is to be made, else SWAP_SUSPECT is set. -/
def execI2cSwapDetect (s : State) : Result :=
  .next (if s.i2cWorks then
    s.updI2c (fun x => if s.swapEn then { x with swapDue := true } else { x with suspect := true })
  else s)

/-- The record of a swap: the manual gives it no type of Table 17-3; INTERNAL takes it, its firmware code free. -/
def State.recordSwap (s : State) : State :=
  let (v, s1) := s.free 32
  s1.ledger 0x11 ([0, 0] ++ wordBytes v)

/-- I2C_SWAP (R503): a declared swap is made, at most one a second, and recorded. -/
def execI2cSwap (s : State) : Result :=
  let soon := match s.i2c.swapAt with
    | some t => decide (s.timeUs < t + 1000000)
    | none => false
  .next (if s.i2cWorks && s.swapEn && s.i2c.swapDue && !soon then
    (s.updI2c (fun x => { x with swapped := !x.swapped, swapDue := false, swapAt := some s.timeUs })).recordSwap
  else s)

end Sys2Proof.Machine
end

