-- ==== Sys2Proof/Machine/TestPorts.lean ====
section
/-! DEFINITION. The IEEE 1500 wrapper (R504 to R510) and the IEEE 1149.1 TAP (R511 to R513). -/

namespace Sys2Proof.Machine

/-! ## The wrapper -/

/-- Load the WIR (R504): leaving EXTEST sets the training results back (R508). -/
def State.loadWir (s : State) (code : Byte) : State :=
  let s1 := if s.wrapper.wir ≠ code then s.leaveExtest else s
  { s1 with wrapper := { s1.wrapper with wir := code, refused := false } }

/-- An instruction whose conditions are not met acts as BYPASS with REFUSED (R504). -/
def State.refuseWir (s : State) : State :=
  let s1 := s.loadWir 0
  { s1 with wrapper := { s1.wrapper with refused := true, capture := 0 } }

/-- Set what the selected data register captures next. -/
def State.setCapture (s : State) (v : BitVec 64) : State := { s with wrapper := { s.wrapper with capture := v } }

/-- What CaptureWR loads the WIR with (R504). -/
def State.wirCapture (s : State) : Byte :=
  byteOf (0x51 + bitsToNat [s.i2c.suspect, !s.factoryClosed, s.wrapper.refused] * 2)

/-- Use the wrapper, silent in stack reset (R341). -/
def State.wrapperRow (s : State) (body : State) : Result := .next (if s.inReset then s else body)

/-- W1500_BYPASS; reserved codes act so too (R504). -/
def execW1500Bypass (s : State) : Result := s.wrapperRow ((s.loadWir 0).setCapture 0)

/-- DEVICE_ID's value (Table 18-7). -/
def State.deviceIdWord (s : State) : Nat := (s.idRev.toNat % 16) * 2 ^ 28 + 0x0132 * 2 ^ 12 + 0x2A6

/-- DEVICE_ID. -/
def execDeviceId (s : State) : Result := s.wrapperRow ((s.loadWir 1).setCapture (BitVec.ofNat 64 s.deviceIdWord))

/-- EXTEST may act: no pseudo-channel is ready and no training stage runs (R508). -/
def State.extestAllowed (s : State) : Bool :=
  s.chans.toList.all (fun h => !h.pcs[0].ready && !h.pcs[1].ready && !h.trn.busy)

/-- Kind of an LVI bump by its place in its channel's 119 (Tables 2-1, 2-2): ALERT_n and RDQS are outputs. -/
def bumpOutput (i : Nat) : Bool :=
  let k := i % 119
  k == 24 || (decide (25 ≤ k) && decide (41 ≤ (k - 25) % 47) && decide ((k - 25) % 47 < 45))
@[inherit_doc bumpOutput] def bumpInput (i : Nat) : Bool :=
  let k := i % 119
  decide (k < 24) || (decide (25 ≤ k) && decide (37 ≤ (k - 25) % 47) && decide ((k - 25) % 47 < 41))

/-- The 3,808 cells with those cleared that a property names. -/
def clearCells (cells : BitVec 3808) (drop : Nat → Bool) : BitVec 3808 :=
  cells &&& BitVec.ofNat 3808 ((List.range 32).foldl (fun acc c =>
    acc + ((List.range 119).foldl (fun a k => if drop k then a else a + 2 ^ k) 0) * 2 ^ (119 * c)) 0)

/-- EXTEST_RX (R508): the boundary register captures the static levels; output-only cells capture 0. -/
def execExtestRx (levels : BitVec 3808) (s : State) : Result :=
  s.wrapperRow (if !s.extestAllowed then s.refuseWir
    else
      let s1 := s.loadWir 2
      { s1 with wrapper := { s1.wrapper with extest := true, wbr := clearCells levels bumpOutput } })

/-- EXTEST_TX (R508): the cells drive the output and bidirectional bumps; input-only cells are ignored. -/
def execExtestTx (cells : BitVec 3808) (s : State) : Result :=
  s.wrapperRow (if !s.extestAllowed then s.refuseWir
    else
      let s1 := s.loadWir 3
      { s1 with wrapper := { s1.wrapper with extest := true, wbr := clearCells cells bumpInput } })

/-- MBX_ACCESS's capture: ERR, OFFSET and the held word (R505). -/
def mbxCapture (err : Bool) (offset : BitVec 16) (word : Word32) : BitVec 64 :=
  BitVec.ofNat 64 (err.toNat * 2 ^ 48 + offset.toNat * 2 ^ 32 + word.toNat)

/-- A read through MBX_ACCESS: MBX_CLAIM grants a claim (R350, R505). -/
def State.mbxRead (s : State) (offset : BitVec 16) : State :=
  if offset = 0x0020 then
    let s1 := s.updWindow .host (·.grant s.timeUs)
    s1.setCapture (mbxCapture false offset (if s.host.claim.isSome then 0 else (s1.host.claim.getD 0).setWidth 32))
  else s.setCapture (mbxCapture false offset (s.windowRead .host offset))

/-- MBX_ACCESS at UpdateWR (R505): an unaligned OFFSET makes no access. -/
def execMbxAccess (wr : Bool) (offset : BitVec 16) (word : Word32) (s : State) : Result :=
  let s1 := s.loadWir 4
  s.wrapperRow (if offset.toNat % 4 ≠ 0 then s1.setCapture (mbxCapture true offset 0)
    else if wr then (s1.windowWrite .host offset word).setCapture (mbxCapture false offset 0)
    else s1.mbxRead offset)

/-- LANE_REPAIR's capture: the selection and the register; 0 for a reserved UNIT (R506). -/
def Channel.laneCapture (h : Channel) (c : Ch) (unit : Fin 8) : BitVec 64 :=
  if hu : unit.val < 5 then
    BitVec.ofNat 64 (c.val * 2 ^ 35 + unit.val * 2 ^ 32
      + (if hs : unit.val < 4 then h.map.sg[unit.val].toNat else h.map.ca.toNat))
  else 0

/-- LANE_REPAIR at UpdateWR (R506, R44, R45). -/
def execLaneRepair (wr : Bool) (c : Ch) (unit : Fin 8) (word : Word32) (s : State) : Result :=
  let s1 := s.loadWir 5
  let s2 := { s1 with wrapper := { s1.wrapper with selCh := c, selUnit := unit } }
  let s3 := if h : unit.val < 5 then (if wr then s2.updCh c (·.writeMap ⟨unit.val, h⟩ word) else s2) else s2
  s.wrapperRow (s3.setCapture (s3.chans[c].laneCapture c unit))

/-- TEMP_READ (R507). -/
def execTempRead (s : State) : Result :=
  s.wrapperRow ((s.loadWir 6).setCapture (BitVec.ofNat 64 (s.thermal.temp.toNat * 2 ^ 45 + s.thermal.trip.toNat * 2 ^ 44
    + s.hotStack.toNat * 2 ^ 16 + s.hotBase.toNat)))

/-- STATE of MBIST: a refusal, or how the test stands that it started last (R509). -/
def State.mbistCode (s : State) : Nat :=
  if s.wrapper.mbistState = 1 then
    match s.mgmt.tests.find? (fun x => x.handle == s.wrapper.mbistHandle) with
    | some x => x.status.toNat + 1
    | none => 0
  else s.wrapper.mbistState.toNat

/-- MBIST's capture (R509). -/
def State.mbistCapture (s : State) : BitVec 64 :=
  BitVec.ofNat 64 (s.mbistCode * 2 ^ 29 + s.wrapper.mbistSel.toNat * 2 ^ 16 + s.wrapper.mbistHandle.toNat)

/-- GO of MBIST (R509, R514): a test starts as SELFTEST would; after a trip none does. -/
def State.mbistGo (s : State) (c : Ch) (p : Pc) (kind : BitVec 2) (sids : BitVec 4) : State :=
  let put (t : State) (code : BitVec 3) : State := { t with wrapper := { t.wrapper with mbistState := code } }
  if s.thermal.trip then put s 5
  else match s.askTest c p kind sids with
    | .badArg => put s 7
    | .busy => put s 6
    | .noQuiesce => put s 5
    | .starts =>
      let s1 := s.startTest c p kind sids
      { s1 with wrapper := { s1.wrapper with mbistState := 1, mbistHandle := s1.mgmt.lastHandle } }

/-- MBIST at UpdateWR (R509). -/
def execMbist (w : Word32) (s : State) : Result :=
  let s1 := s.loadWir 7
  let s2 := { s1 with wrapper := { s1.wrapper with mbistSel := w.extractLsb' 16 13 &&& 0x1FF8 } }
  let s3 := if w.getLsbD 31 then
      s2.mbistGo (w.extractLsb' 24 5).toFin ⟨(w.getLsbD 23).toNat, by cases w.getLsbD 23 <;> decide⟩ (w.extractLsb' 29 2)
        (w.extractLsb' 19 4)
    else s2
  s.wrapperRow (s3.setCapture s3.mbistCapture)

/-- A trace entry as FACTORY reads it: step address, thread, Taper cycle (R175); 0 where none is listed. -/
def State.traceEntry (s : State) (c : Ch) (i : Fin 256) : BitVec 64 :=
  match s.chans[c].taper.trace[i.val]? with
  | some (a, n, cycle) => BitVec.ofNat 64 (a.toNat * 2 ^ 48 + (n % 2 ^ 16) * 2 ^ 32 + cycle % 2 ^ 32)
  | none => 0

/-- FACTORY (R510, R471): raw access while FACTORY_CLOSE is not blown, the trace buffer while lab mode is active; no pulse
starts after a trip (Table 10-4). -/
def execFactory (op : FactoryOp) (s : State) : Result :=
  s.wrapperRow (match op with
    | .trace c i => if s.mgmt.lab then (s.loadWir 8).setCapture (s.traceEntry c i) else s.refuseWir
    | .readFuse w =>
      if s.factoryClosed then s.refuseWir else (s.loadWir 8).setCapture ((s.rawFuse w.val).setWidth 64)
    | .program w bits =>
      if s.factoryClosed then s.refuseWir
      else if s.thermal.trip then (s.loadWir 8).setCapture 0
      else ((s.loadWir 8).blow w.val bits 0).setCapture 0)

/-! ## The TAP -/

/-- Use the TAP while its rails are good (R511). -/
def State.tapRow (s : State) (body : State) : Result := .next (if s.tapAlive then body else s)

/-- Select a TAP instruction with what its data register captures. -/
def State.selectTap (s : State) (ir : BitVec 4) (capture : Word32) : State := { s with tap := { s.tap with ir := ir, capture := capture } }

/-- The I2C target stops with its pins held (R513). -/
def State.holdPins (s : State) : State := s.updI2c (·.ended .ignore)

/-- What the boundary cells capture (Table 18-9): RESET_n, CATTRIP and TEMP with their enables as they stand; the other pins
are free values. -/
def State.sampleCells (s : State) : BitVec 24 × State :=
  let (v, s1) := s.free 24
  let known : BitVec 24 := BitVec.ofNat 24 ((!s.power.resetN).toNat * 2 ^ 2 + s.thermal.cattrip.toNat * 2 ^ 14 + 2 ^ 15
    + s.thermal.temp.toNat * 2 ^ 16 + 2 ^ 19)
  ((v &&& 0xF03FFB#24) ||| known, s1)

/-- TAP_EXTEST (R511 to R513): the cells drive the pins. -/
def execTapExtest (s : State) : Result :=
  let (v, s1) := s.sampleCells
  s.tapRow ((s1.selectTap 0 (v.setWidth 32)).holdPins)

/-- SAMPLE_PRELOAD (R511): the cells take what is shifted in. -/
def execSamplePreload (cells : BitVec 24) (s : State) : Result :=
  let (v, s1) := s.sampleCells
  let s2 := s1.selectTap 1 (v.setWidth 32)
  s.tapRow { s2 with tap := { s2.tap with cells := cells } }

/-- IDCODE's value (R511). -/
def State.idcodeWord (s : State) : Word32 := BitVec.ofNat 32 ((s.idRev.toNat % 16) * 2 ^ 28 + 0x0132 * 2 ^ 12 + 0x2A7)

/-- IDCODE. -/
def execIdcode (s : State) : Result := s.tapRow (s.selectTap 2 s.idcodeWord)

/-- HIGHZ. -/
def execHighz (s : State) : Result := s.tapRow ((s.selectTap 3 0).holdPins)

/-- CLAMP. -/
def execClamp (s : State) : Result := s.tapRow ((s.selectTap 4 0).holdPins)

/-- TAP_BYPASS; unlisted codes act so too (R511). -/
def execTapBypass (s : State) : Result := s.tapRow (s.selectTap 15 0)

/-- What drives the CATTRIP pin, none for high impedance (R513): high while the trip latch is set, whatever the TAP does; nothing while
VDDSB is not good (R328). -/
def State.cattripPin (s : State) : Option Bool :=
  if s.thermal.trip then some true
  else if !s.power.rails[4] || s.tap.ir == 3 then none
  else if s.tap.ir = 0 ∨ s.tap.ir = 4 then (if s.tap.cells.getLsbD 15 then some (s.tap.cells.getLsbD 14) else none)
  else some s.thermal.cattrip

/-- What drives TEMP[2:0] (R328, R341, R513). -/
def State.tempPins (s : State) : Option (BitVec 3) :=
  if !s.power.rails[4] || s.tap.ir == 3 then none
  else if s.tap.ir = 0 ∨ s.tap.ir = 4 then (if s.tap.cells.getLsbD 19 then some (s.tap.cells.extractLsb' 16 3) else none)
  else some (if s.inReset then 4 else s.thermal.temp)

end Sys2Proof.Machine
end

