-- ==== Sys2Proof/Machine/Dispatch.lean ====
section
/-! DEFINITION. One arm per command: the meaning of each row of the opcode table. -/

namespace Sys2Proof.Machine

/-- The effect of a command on everything but the queue. -/
def exec (i : Instr) (s : State) : Host.Outcome State Fault Refusal :=
  match i with
  | .act ch pc sid bg ba row ok => Sys2Proof.Machine.execAct ch pc sid bg ba row ok s
  | .pre ch pc sid bg ba ok => Sys2Proof.Machine.execPre ch pc sid bg ba ok s
  | .prea ch pc sid all ok => Sys2Proof.Machine.execPrea ch pc sid all ok s
  | .refab ch pc sid ok => Sys2Proof.Machine.execRefab ch pc sid ok s
  | .refpb ch pc sid bg ba ok => Sys2Proof.Machine.execRefpb ch pc sid bg ba ok s
  | .rfm ch pc sid bg ba ok => Sys2Proof.Machine.execRfm ch pc sid bg ba ok s
  | .pde ch pcs ok => Sys2Proof.Machine.execPde ch pcs ok s
  | .pdx ch pcs ok => Sys2Proof.Machine.execPdx ch pcs ok s
  | .sre ch managed ok => Sys2Proof.Machine.execSre ch managed ok s
  | .srx ch ok => Sys2Proof.Machine.execSrx ch ok s
  | .nop ch bus op ok => Sys2Proof.Machine.execNop ch bus op ok s
  | .rd ch pc sid bg ba col ok => Sys2Proof.Machine.execRd ch pc sid bg ba col ok s
  | .rda ch pc sid bg ba col ok => Sys2Proof.Machine.execRda ch pc sid bg ba col ok s
  | .wr ch pc sid bg ba col burst ok => Sys2Proof.Machine.execWr ch pc sid bg ba col burst ok s
  | .wra ch pc sid bg ba col burst ok => Sys2Proof.Machine.execWra ch pc sid bg ba col burst ok s
  | .rdt ch pc tb ok => Sys2Proof.Machine.execRdt ch pc tb ok s
  | .wrt ch pc tb bits ok => Sys2Proof.Machine.execWrt ch pc tb bits ok s
  | .mrr ch pc ma ok => Sys2Proof.Machine.execMrr ch pc ma ok s
  | .mrw ch ma value ok => Sys2Proof.Machine.execMrw ch ma value ok s
  | .lmw ch len ok => Sys2Proof.Machine.execLmw ch len ok s
  | .resync ch ok => Sys2Proof.Machine.execResync ch ok s
  | .binReqWrite ch bin ok => Sys2Proof.Machine.execBinReqWrite ch bin ok s
  | .modePcWrite ch modes ok => Sys2Proof.Machine.execModePcWrite ch modes ok s
  | .fillGo ch go pat ok => Sys2Proof.Machine.execFillGo ch go pat ok s
  | .adaptEnWrite ch en ok => Sys2Proof.Machine.execAdaptEnWrite ch en ok s
  | .quiesceWrite ch bits ok => Sys2Proof.Machine.execQuiesceWrite ch bits ok s
  | .alertCauseClear ch mask ok => Sys2Proof.Machine.execAlertCauseClear ch mask ok s
  | .spareErr ch ok => Sys2Proof.Machine.execSpareErr ch ok s
  | .slip ch ok => Sys2Proof.Machine.execSlip ch ok s
  | .dparErr ch ok => Sys2Proof.Machine.execDparErr ch ok s
  | .caErr ch ok => Sys2Proof.Machine.execCaErr ch ok s
  | .forceHold ch on ok => Sys2Proof.Machine.execForceHold ch on ok s
  | .prechargeTimerExpiry ch pc sid bg ba => Sys2Proof.Machine.execPrechargeTimerExpiry ch pc sid bg ba s
  | .binChange => Sys2Proof.Machine.execBinChange s
  | .adaptChangeApply ch => Sys2Proof.Machine.execAdaptChangeApply ch s
  | .reservedRowClearDone ch => Sys2Proof.Machine.execReservedRowClearDone ch s
  | .fillComplete ch pc => Sys2Proof.Machine.execFillComplete ch pc s
  | .lmwWindowEnd ch => Sys2Proof.Machine.execLmwWindowEnd ch s
  | .idleGap ch pc => Sys2Proof.Machine.execIdleGap ch pc s
  | .issue ch tid => Sys2Proof.Machine.execIssue ch tid s
  | .issueif ch tid => Sys2Proof.Machine.execIssueif ch tid s
  | .setcnt ch tid => Sys2Proof.Machine.execSetcnt ch tid s
  | .loop ch tid => Sys2Proof.Machine.execLoop ch tid s
  | .call ch tid => Sys2Proof.Machine.execCall ch tid s
  | .ret ch tid => Sys2Proof.Machine.execRet ch tid s
  | .fetch ch tid => Sys2Proof.Machine.execFetch ch tid s
  | .count ch tid => Sys2Proof.Machine.execCount ch tid s
  | .alert ch tid => Sys2Proof.Machine.execAlert ch tid s
  | .report ch tid => Sys2Proof.Machine.execReport ch tid s
  | .stepNop ch tid => Sys2Proof.Machine.execStepNop ch tid s
  | .calendarAction ch pc env => Sys2Proof.Machine.execCalendarAction ch pc env s
  | .tableSwap ch => Sys2Proof.Machine.execTableSwap ch s
  | .oldBankDrain ch => Sys2Proof.Machine.execOldBankDrain ch s
  | .transferImageTake ch => Sys2Proof.Machine.execTransferImageTake ch s
  | .leaseEnd ch tid => Sys2Proof.Machine.execLeaseEnd ch tid s
  | .tableScan ch corrected bad => Sys2Proof.Machine.execTableScan ch corrected bad s
  | .trnGo ch word => Sys2Proof.Machine.execTrnGo ch word s
  | .trnAbort ch => Sys2Proof.Machine.execTrnAbort ch s
  | .trnFinish ch => Sys2Proof.Machine.execTrnFinish ch s
  | .stageComplete ch rep => Sys2Proof.Machine.execStageComplete ch rep s
  | .trackingWindow ch counts => Sys2Proof.Machine.execTrackingWindow ch counts s
  | .clampMs ch lane => Sys2Proof.Machine.execClampMs ch lane s
  | .lmwDue ch => Sys2Proof.Machine.execLmwDue ch s
  | .recentringPassComplete ch => Sys2Proof.Machine.execRecentringPassComplete ch s
  | .recentringResult ch results => Sys2Proof.Machine.execRecentringResult ch results s
  | .txSlewStep ch lane => Sys2Proof.Machine.execTxSlewStep ch lane s
  | .tsvCalEval ch reports => Sys2Proof.Machine.execTsvCalEval ch reports s
  | .tsvSpareMove ch group pos => Sys2Proof.Machine.execTsvSpareMove ch group pos s
  | .serviceResponse bus frame => Sys2Proof.Machine.execServiceResponse bus frame s
  | .serviceTimeout bus => Sys2Proof.Machine.execServiceTimeout bus s
  | .trefiAccrual ch pc sid => Sys2Proof.Machine.execTrefiAccrual ch pc sid s
  | .internalRef ch pc sid => Sys2Proof.Machine.execInternalRef ch pc sid s
  | .sampleTick base core => Sys2Proof.Machine.execSampleTick base core s
  | .profileBatchStart ch pc sid groups => Sys2Proof.Machine.execProfileBatchStart ch pc sid groups s
  | .profileVerdict ch pc moment => Sys2Proof.Machine.execProfileVerdict ch pc moment s
  | .deltaLogWrite ch pc => Sys2Proof.Machine.execDeltaLogWrite ch pc s
  | .snapshotGeneration => Sys2Proof.Machine.execSnapshotGeneration s
  | .mapLoad => Sys2Proof.Machine.execMapLoad s
  | .decoderGapDecode ch pc env reread leaseLow => Sys2Proof.Machine.execDecoderGapDecode ch pc env reread leaseLow s
  | .scrubCredit ch pc => Sys2Proof.Machine.execScrubCredit ch pc s
  | .scrubOverdue ch pc => Sys2Proof.Machine.execScrubOverdue ch pc s
  | .leakInterval ch pc => Sys2Proof.Machine.execLeakInterval ch pc s
  | .remapApply ch pc entry => Sys2Proof.Machine.execRemapApply ch pc entry s
  | .rowCopyTimeout ch pc => Sys2Proof.Machine.execRowCopyTimeout ch pc s
  | .journalReplay lost => Sys2Proof.Machine.execJournalReplay lost s
  | .sramSweep corrected bad => Sys2Proof.Machine.execSramSweep corrected bad s
  | .tripLatchSet sensor reading repeatOk => Sys2Proof.Machine.execTripLatchSet sensor reading repeatOk s
  | .tripRecord => Sys2Proof.Machine.execTripRecord s
  | .histogramSecond => Sys2Proof.Machine.execHistogramSecond s
  | .histogramFold => Sys2Proof.Machine.execHistogramFold s
  | .wickBandSearch counts rail => Sys2Proof.Machine.execWickBandSearch counts rail s
  | .bandFailRetry => Sys2Proof.Machine.execBandFailRetry s
  | .lockDeclared => Sys2Proof.Machine.execLockDeclared s
  | .sync inverted => Sys2Proof.Machine.execSync inverted s
  | .setupTimeout => Sys2Proof.Machine.execSetupTimeout s
  | .lossOfReference => Sys2Proof.Machine.execLossOfReference s
  | .lossOfLock => Sys2Proof.Machine.execLossOfLock s
  | .refckRestored => Sys2Proof.Machine.execRefckRestored s
  | .spreadFollowerConverged period depth => Sys2Proof.Machine.execSpreadFollowerConverged period depth s
  | .holdoverLimit => Sys2Proof.Machine.execHoldoverLimit s
  | .linkholdRcMove => Sys2Proof.Machine.execLinkholdRcMove s
  | .relockComplete => Sys2Proof.Machine.execRelockComplete s
  | .railGood rail => Sys2Proof.Machine.execRailGood rail s
  | .railLost rail => Sys2Proof.Machine.execRailLost rail s
  | .porRelease => Sys2Proof.Machine.execPorRelease s
  | .resetAssert widthNs => Sys2Proof.Machine.execResetAssert widthNs s
  | .resetRelease saddr => Sys2Proof.Machine.execResetRelease saddr s
  | .fuseShadowLoad senses => Sys2Proof.Machine.execFuseShadowLoad senses s
  | .optionShadowLoad => Sys2Proof.Machine.execOptionShadowLoad s
  | .sramFill => Sys2Proof.Machine.execSramFill s
  | .bootVerify okA okB => Sys2Proof.Machine.execBootVerify okA okB s
  | .tableLoad => Sys2Proof.Machine.execTableLoad s
  | .layerDiscovery => Sys2Proof.Machine.execLayerDiscovery s
  | .tsvTest faults => Sys2Proof.Machine.execTsvTest faults s
  | .powerUpFill => Sys2Proof.Machine.execPowerUpFill s
  | .channelReady ch => Sys2Proof.Machine.execChannelReady ch s
  | .watchdogExpiry core => Sys2Proof.Machine.execWatchdogExpiry core s
  | .lockstepDisagree => Sys2Proof.Machine.execLockstepDisagree s
  | .fetchTrap => Sys2Proof.Machine.execFetchTrap s
  | .dataLoadError address => Sys2Proof.Machine.execDataLoadError address s
  | .mgmtRestart => Sys2Proof.Machine.execMgmtRestart s
  | .wrapperReset => Sys2Proof.Machine.execWrapperReset s
  | .tapReset => Sys2Proof.Machine.execTapReset s
  | .domainWake group => Sys2Proof.Machine.execDomainWake group s
  | .quinceIdleOff => Sys2Proof.Machine.execQuinceIdleOff s
  | .mbxClaim t => Sys2Proof.Machine.execMbxClaim t s
  | .claimExpiry t => Sys2Proof.Machine.execClaimExpiry t s
  | .submit t tag => Sys2Proof.Machine.execSubmit t tag s
  | .collect t tag session => Sys2Proof.Machine.execCollect t tag session s
  | .release t tag => Sys2Proof.Machine.execRelease t tag s
  | .mgmtRstClear t => Sys2Proof.Machine.execMgmtRstClear t s
  | .registerWrite target => Sys2Proof.Machine.execRegisterWrite target s
  | .leaseExpiry slot => Sys2Proof.Machine.execLeaseExpiry slot s
  | .challengeExpiry slot => Sys2Proof.Machine.execChallengeExpiry slot s
  | .unlockLockoutEnd slot => Sys2Proof.Machine.execUnlockLockoutEnd slot s
  | .serviceTurnEnd slot => Sys2Proof.Machine.execServiceTurnEnd slot s
  | .telemetrySnapshot => Sys2Proof.Machine.execTelemetrySnapshot s
  | .activationReset => Sys2Proof.Machine.execActivationReset s
  | .open_ slot => Sys2Proof.Machine.execOpen slot s
  | .close slot => Sys2Proof.Machine.execClose slot s
  | .keepalive slot => Sys2Proof.Machine.execKeepalive slot s
  | .abort slot => Sys2Proof.Machine.execAbort slot s
  | .list slot => Sys2Proof.Machine.execList slot s
  | .getId slot => Sys2Proof.Machine.execGetId slot s
  | .getConfig slot => Sys2Proof.Machine.execGetConfig slot s
  | .getCaps slot => Sys2Proof.Machine.execGetCaps slot s
  | .getHealth slot => Sys2Proof.Machine.execGetHealth slot s
  | .ledgerRead slot => Sys2Proof.Machine.execLedgerRead slot s
  | .ledgerMark slot => Sys2Proof.Machine.execLedgerMark slot s
  | .getThermal slot => Sys2Proof.Machine.execGetThermal slot s
  | .thermalCfg slot => Sys2Proof.Machine.execThermalCfg slot s
  | .calStatus slot => Sys2Proof.Machine.execCalStatus slot s
  | .calSave slot => Sys2Proof.Machine.execCalSave slot s
  | .calRestore slot => Sys2Proof.Machine.execCalRestore slot s
  | .calVisRead slot => Sys2Proof.Machine.execCalVisRead slot s
  | .calVisSet slot => Sys2Proof.Machine.execCalVisSet slot s
  | .calVisStore slot => Sys2Proof.Machine.execCalVisStore slot s
  | .calRunMode0 slot => Sys2Proof.Machine.execCalRunMode0 slot s
  | .calRunMode1 slot => Sys2Proof.Machine.execCalRunMode1 slot s
  | .calRunMode2 slot => Sys2Proof.Machine.execCalRunMode2 slot s
  | .calRunEnd ch pc res => Sys2Proof.Machine.execCalRunEnd ch pc res s
  | .laneMap slot => Sys2Proof.Machine.execLaneMap slot s
  | .retStatus slot => Sys2Proof.Machine.execRetStatus slot s
  | .retProfileRead slot => Sys2Proof.Machine.execRetProfileRead slot s
  | .retProfileSet slot => Sys2Proof.Machine.execRetProfileSet slot s
  | .retMapExport slot => Sys2Proof.Machine.execRetMapExport slot s
  | .retMapImport slot => Sys2Proof.Machine.execRetMapImport slot s
  | .adaptiveRefRead slot => Sys2Proof.Machine.execAdaptiveRefRead slot s
  | .adaptiveRefStore slot => Sys2Proof.Machine.execAdaptiveRefStore slot s
  | .rhCfgRead slot => Sys2Proof.Machine.execRhCfgRead slot s
  | .rhCfgSet slot => Sys2Proof.Machine.execRhCfgSet slot s
  | .eccModeRead slot => Sys2Proof.Machine.execEccModeRead slot s
  | .eccModeStore slot => Sys2Proof.Machine.execEccModeStore slot s
  | .eccStatus slot => Sys2Proof.Machine.execEccStatus slot s
  | .leakyCfg slot => Sys2Proof.Machine.execLeakyCfg slot s
  | .scrubCfg slot => Sys2Proof.Machine.execScrubCfg slot s
  | .scrubStatus slot => Sys2Proof.Machine.execScrubStatus slot s
  | .eccInjectArm slot => Sys2Proof.Machine.execEccInjectArm slot s
  | .eccInjectCancel slot => Sys2Proof.Machine.execEccInjectCancel slot s
  | .rawWrite slot => Sys2Proof.Machine.execRawWrite slot s
  | .rawRead slot env => Sys2Proof.Machine.execRawRead slot env s
  | .remapList slot => Sys2Proof.Machine.execRemapList slot s
  | .remapAdd slot => Sys2Proof.Machine.execRemapAdd slot s
  | .repairPlan slot => Sys2Proof.Machine.execRepairPlan slot s
  | .repairCommitRow slot failBits => Sys2Proof.Machine.execRepairCommitRow slot failBits s
  | .repairCommitLane slot => Sys2Proof.Machine.execRepairCommitLane slot s
  | .repairCommitTsv slot => Sys2Proof.Machine.execRepairCommitTsv slot s
  | .spares slot => Sys2Proof.Machine.execSpares slot s
  | .selftestMarch slot => Sys2Proof.Machine.execSelftestMarch slot s
  | .selftestTsvLoopback slot => Sys2Proof.Machine.execSelftestTsvLoopback slot s
  | .selftestDatapathLoopback slot => Sys2Proof.Machine.execSelftestDatapathLoopback slot s
  | .selftestEnd ch pc rep => Sys2Proof.Machine.execSelftestEnd ch pc rep s
  | .testEndOnRelease ch pc => Sys2Proof.Machine.execTestEndOnRelease ch pc s
  | .selftestResult slot => Sys2Proof.Machine.execSelftestResult slot s
  | .nvRead slot => Sys2Proof.Machine.execNvRead slot s
  | .nvWrite slot => Sys2Proof.Machine.execNvWrite slot s
  | .fwStageImage slot => Sys2Proof.Machine.execFwStageImage slot s
  | .fwStageTable slot => Sys2Proof.Machine.execFwStageTable slot s
  | .fwActivateImage slot => Sys2Proof.Machine.execFwActivateImage slot s
  | .fwActivateTable slot => Sys2Proof.Machine.execFwActivateTable slot s
  | .fwInfo slot => Sys2Proof.Machine.execFwInfo slot s
  | .fuseRead slot => Sys2Proof.Machine.execFuseRead slot s
  | .fuseProgram slot failBits => Sys2Proof.Machine.execFuseProgram slot failBits s
  | .fuseLockWrite slot => Sys2Proof.Machine.execFuseLockWrite slot s
  | .fuseLockRead slot => Sys2Proof.Machine.execFuseLockRead slot s
  | .fuseMargin slot sense => Sys2Proof.Machine.execFuseMargin slot sense s
  | .fuseWordProgram failBits => Sys2Proof.Machine.execFuseWordProgram failBits s
  | .clkStatus slot => Sys2Proof.Machine.execClkStatus slot s
  | .ditherSeedRead slot => Sys2Proof.Machine.execDitherSeedRead slot s
  | .ditherSeedStore slot => Sys2Proof.Machine.execDitherSeedStore slot s
  | .eventPoll slot => Sys2Proof.Machine.execEventPoll slot s
  | .eventMask slot => Sys2Proof.Machine.execEventMask slot s
  | .unlockChallenge slot => Sys2Proof.Machine.execUnlockChallenge slot s
  | .unlockResponse slot => Sys2Proof.Machine.execUnlockResponse slot s
  | .quinceOpComplete ok pulses margin => Sys2Proof.Machine.execQuinceOpComplete ok pulses margin s
  | .quincePatrol sector corrected margin readable young => Sys2Proof.Machine.execQuincePatrol sector corrected margin readable young s
  | .wearLevel cold => Sys2Proof.Machine.execWearLevel cold s
  | .journalCompact => Sys2Proof.Machine.execJournalCompact s
  | .ledgerPageProgram => Sys2Proof.Machine.execLedgerPageProgram s
  | .ledgerScan lost lifeValid => Sys2Proof.Machine.execLedgerScan lost lifeValid s
  | .powerHoursIncrement => Sys2Proof.Machine.execPowerHoursIncrement s
  | .i2cAddress address read => Sys2Proof.Machine.execI2cAddress address read s
  | .i2cPointerSet byte => Sys2Proof.Machine.execI2cPointerSet byte s
  | .i2cByteWrite byte => Sys2Proof.Machine.execI2cByteWrite byte s
  | .windowOffsetSet offset => Sys2Proof.Machine.execWindowOffsetSet offset s
  | .windowData read bytes => Sys2Proof.Machine.execWindowData read bytes s
  | .i2cClaim requester => Sys2Proof.Machine.execI2cClaim requester s
  | .invalidCommandByte byte => Sys2Proof.Machine.execInvalidCommandByte byte s
  | .i2cStop pec => Sys2Proof.Machine.execI2cStop pec s
  | .i2cBusError => Sys2Proof.Machine.execI2cBusError s
  | .i2cLowTimeout sda => Sys2Proof.Machine.execI2cLowTimeout sda s
  | .i2cStretchTimeout => Sys2Proof.Machine.execI2cStretchTimeout s
  | .i2cSleep => Sys2Proof.Machine.execI2cSleep s
  | .i2cSwapDetect => Sys2Proof.Machine.execI2cSwapDetect s
  | .i2cSwap => Sys2Proof.Machine.execI2cSwap s
  | .w1500Bypass => Sys2Proof.Machine.execW1500Bypass s
  | .deviceId => Sys2Proof.Machine.execDeviceId s
  | .extestRx levels => Sys2Proof.Machine.execExtestRx levels s
  | .extestTx cells => Sys2Proof.Machine.execExtestTx cells s
  | .mbxAccess wr offset word => Sys2Proof.Machine.execMbxAccess wr offset word s
  | .laneRepair wr ch unit word => Sys2Proof.Machine.execLaneRepair wr ch unit word s
  | .tempRead => Sys2Proof.Machine.execTempRead s
  | .mbist word => Sys2Proof.Machine.execMbist word s
  | .factory op => Sys2Proof.Machine.execFactory op s
  | .tapExtest => Sys2Proof.Machine.execTapExtest s
  | .samplePreload cells => Sys2Proof.Machine.execSamplePreload cells s
  | .idcode => Sys2Proof.Machine.execIdcode s
  | .highz => Sys2Proof.Machine.execHighz s
  | .clamp => Sys2Proof.Machine.execClamp s
  | .tapBypass => Sys2Proof.Machine.execTapBypass s
  | .allSidRefreshWindowEnd ch pc => Sys2Proof.Machine.execAllSidRefreshWindowEnd ch pc s
  | .quinceWakeComplete => Sys2Proof.Machine.execQuinceWakeComplete s

end Sys2Proof.Machine
end

