-- ==== Sys2Proof/Safety.lean ====
section
/-! DEFINITION. What counts as a safe run of the MX32, and the conditions under which a command has its own effect, in the
terms the statements use. -/

namespace Sys2Proof.Safety

open Sys2Proof.Machine

/-! ## Runs -/

/-- A step that stops with a fault or a refusal is unsafe: only a RESET_n pulse of undefined width (R327) stops the block. -/
def stops : Host.Outcome State Fault Refusal → Bool
  | .next _ => false
  | .fault _ => true
  | .refused _ => true

/-- The stored user area is in its canonical form: addresses rise, and no listed byte is the erased value (R409). -/
def userCanonical (s : State) : Prop := memWf (fun _ => some 0xFF) s.nv.user = true

/-- The CATTRIP pin shows the trip latch (R297). -/
def pinShowsTrip (s : State) : Prop := s.thermal.cattrip = s.thermal.trip

/-- Quince has its 255 physical main sectors (R423). -/
def sectorsWhole (s : State) : Prop := s.nv.sectors.length = 255

/-! ## LVI commands -/

/-- The channel takes commands in: LVI inputs are live, the group is powered, no discard, link hold or LMW window is in
force, the command capture does not slip, and the parity check does not fail (R59, R78, R84, R86, R91, R100). -/
def admits (s : State) (c : Ch) (ok : Sampled) : Bool :=
  !s.lviDead && !s.isGated c && !s.chans[c].intake.discard && !s.chans[c].intake.held && s.chans[c].intake.lmw.isNone
    && !s.chans[c].captureSlips ok && (!ok.fails || !s.chans[c].regs.caparEn) && !(s.mgmt.lab && s.chans[c].regs.nextCaErr)

/-- The numbered row and column commands, with channel and what sampling them gave; SRX, NOP and RESYNC have rules of their
own. -/
def lviCommand : Instr → Option (Ch × Sampled)
  | .act c _ _ _ _ _ ok | .pre c _ _ _ _ ok | .prea c _ _ _ ok | .refab c _ _ ok | .refpb c _ _ _ _ ok
  | .rfm c _ _ _ _ ok | .pde c _ ok | .pdx c _ ok | .sre c _ ok | .rd c _ _ _ _ _ ok | .rda c _ _ _ _ _ ok
  | .wr c _ _ _ _ _ _ ok | .wra c _ _ _ _ _ _ ok | .rdt c _ _ ok | .wrt c _ _ _ ok | .mrr c _ _ ok | .mrw c _ _ ok
  | .lmw c _ ok | .binReqWrite c _ ok | .modePcWrite c _ ok | .fillGo c _ _ ok | .adaptEnWrite c _ ok
  | .quiesceWrite c _ ok | .alertCauseClear c _ ok | .spareErr c ok | .slip c ok | .dparErr c ok | .caErr c ok
  | .forceHold c _ ok => some (c, ok)
  | _ => none

/-- The entry of a command starts a thread without an uncorrectable word (R159, R178). -/
def starts (s : State) (c : Ch) (entry : Nat) : Bool :=
  entryValid (s.chans[c].taper.active.entryWord entry) && !s.chans[c].taper.active.entryFault entry

/-- A command of the entry that names pseudo-channels pcs is taken: it is admitted outside self-refresh, its thread starts,
and not every pseudo-channel it names is failed (R63, Table 3-4). -/
def takes (s : State) (c : Ch) (ok : Sampled) (entry : Nat) (pcs : BitVec 2) : Bool :=
  admits s c ok && !s.chans[c].regs.srAct && starts s c entry && !s.chans[c].allFailed pcs

/-- The command was numbered (R72). -/
def numbered (s t : State) (c : Ch) : Prop := t.chans[c].regs.seqCnt = s.chans[c].regs.seqCnt + 1

/-- Nothing but a channel has changed. -/
def onlyChannel (s t : State) (c : Ch) : Prop := t = { s with chans := s.chans.set c t.chans[c] }

/-- Every byte of every pseudo-channel's core-die memory reads as before. -/
def memKept (s t : State) : Prop :=
  ∀ (c : Ch) (p : Pc) (a : Nat), t.chans[c].pcs[p].readByte t.rows a = s.chans[c].pcs[p].readByte s.rows a

/-- Every bank of a channel is in the state it was in. -/
def phasesKept (s t : State) (c : Ch) : Prop :=
  ∀ (p : Pc) (i : Fin 64), t.chans[c].pcs[p].banks[i].phase = s.chans[c].pcs[p].banks[i].phase

/-- Nothing but a channel has changed, apart from the model's counter of free values (assumption 2). -/
def channelOnly (s t : State) (c : Ch) : Prop := t = { s with chans := s.chans.set c t.chans[c], fresh := t.fresh }

/-- The active table is the Baltil table, whose threads are whole in their commands (assumption 5). -/
def baltil (s : State) (c : Ch) : Prop := s.chans[c].taper.active.baltil = true

/-- The chain of a command is posted: with the Baltil table by the command, with a staged one by its thread's steps (R10, R156). -/
def chained (s t : State) (c : Ch) (p : Pc) (a : Posted) : Prop :=
  t.chans[c].pcs[p].calendar
    = s.chans[c].pcs[p].calendar ++ (if s.chans[c].taper.active.baltil then [a] else [])

/-- A byte lies in a row that the profiler writes: a profiling copy row, or a row that waits for its restore (R239 to R241,
Table 8-4a). -/
def profilerByte (s : State) (c : Ch) (p : Pc) (a : Nat) : Prop :=
  (∃ k : Fin 64, a / 1152 = (copyBank k).val * 32768 + (copyRowOf s.rows k).toNat)
    ∨ ∃ r ∈ s.chans[c].pcs[p].restores, a / 1152 = r.bank.val * 32768 + r.row % 32768

/-- Every byte of core-die memory reads as before, but for rows of one pseudo-channel that the profiler writes (R235, R240). -/
def memKeptButProfiler (s t : State) (c : Ch) (p : Pc) : Prop :=
  ∀ (d : Ch) (q : Pc) (a : Nat), ¬(d = c ∧ q = p ∧ profilerByte s c p a) →
    t.chans[d].pcs[q].readByte t.rows a = s.chans[d].pcs[q].readByte s.rows a

/-- The channel's threads have placed all that they owe (R129). -/
def nothingOwed (s : State) (c : Ch) : Prop := ∀ x ∈ s.chans[c].taper.threads, x.owed = []

/-- No soft-repair change waits for the layers of a channel to leave self-refresh (R139). -/
def noRepairDue (s : State) (c : Ch) : Prop := ∀ p : Pc, s.chans[c].pcs[p].sparesDue = []

/-! ## JMP commands -/

/-- Session k has the command x ready and Lantern A/B serves it: the plane runs, x is the command its sequence number names,
a trip leaves its opcode, the session's role and unlocked class are those the row asks for (Table 14-2, tests 1 to 4). -/
def served (s : State) (k : Slot) (x : Cmd) (op : BitVec 16) (hostOnly : Bool := false) (scope : Option (Fin 5) := none) :
    Prop :=
  s.serves = true ∧ s.sessions[k].head = some x ∧ s.sessions[k].find x.seq = some x ∧ x.opcode = op
    ∧ (s.thermal.trip = true → tripOp op = true) ∧ (hostOnly = true → s.sessions[k].transport = .host)
    ∧ ∀ b, scope = some b → s.sessions[k].scope.getLsbD b.val = true

/-- Session k has the urgent command x ready and it is served (R360). -/
def servedUrgent (s : State) (k : Slot) (x : Cmd) (op : BitVec 16) : Prop :=
  s.serves = true ∧ s.sessions[k].urgent = some x ∧ s.sessions[k].find x.seq = some x ∧ x.opcode = op

/-- The command x of session k has completed with the response r (R353, R367). -/
def answered (t : State) (k : Slot) (x : Cmd) (r : Response) : Prop :=
  t.sessions[k].find x.seq = some { x with state := .done, resp := some r }

/-- The command x of session k has started and not completed (R367). -/
def begun (t : State) (k : Slot) (x : Cmd) : Prop := t.sessions[k].find x.seq = some { x with state := .started }

/-- OK with a payload. -/
def okResp (payload : List Byte) : Response := { status := stOk, payload := payload }

/-- OK with a payload of the telemetry snapshot, its age in milliseconds (R363). -/
def snapResp (s : State) (payload : List Byte) : Response :=
  { status := stOk, snap := true, payload := payload, age := BitVec.ofNat 16 (min ((s.timeUs - s.mgmt.snapAt) / 1000) 0xFFFF) }

/-- OK where every bit verified, else NV_FAIL, with a payload (R415, R467). -/
def fuseResp (verified : Bool) (payload : List Byte) : Response :=
  { status := if verified then stOk else stNvFail, payload := payload }

/-- Nothing but session k and the round-robin turn has changed (R362). -/
def onlySession (s t : State) (k : Slot) : Prop :=
  t = { s with sessions := t.sessions, mgmt := { s.mgmt with turn := k } }
    ∧ ∀ j : Slot, j ≠ k → t.sessions[j] = s.sessions[j]

/-- The command completes with the response and has no other effect. -/
def reports (i : Instr) (s : State) (k : Slot) (x : Cmd) (r : Response) : Prop :=
  ∃ t, exec i s = .next t ∧ answered t k x r ∧ onlySession s t k

/-- The images in a channel's transfer area, oldest first (R17). -/
def imagesOf (s : State) (c : Ch) : List Transfer := s.chans[c].taper.images.map (·.2)

/-- The program of a command runs in Quince: the command has begun, and the operation makes cont valid when it completes
(R367, R435). -/
def programs (t : State) (k : Slot) (x : Cmd) (kind : NvKind) (cont : NvCont) : Prop :=
  begun t k x ∧ (t.quince.op).map (fun o => (o.kind, o.cont, o.owner)) = some (kind, cont, some (k, x.seq))

/-- A word of a command waits for the fuse controller behind those that waited (R467). -/
def queuesFuse (s t : State) (k : Slot) (x : Cmd) (w : Nat) (bits : Word32) : Prop :=
  begun t k x ∧ t.fuseQueue = s.fuseQueue ++ [{ word := Fin.ofNat 512 w, bits := fuseEncode bits, owner := some (k, x.seq) }]
    ∧ t.nv = s.nv ∧ t.chans = s.chans

/-- A chunk continues or begins an upload of session k on the object o: u is what the session then holds, last tells whether
TOTAL is reached (R376, R378). -/
def uploads (s : State) (k : Slot) (x : Cmd) (o : OwnedObject) (u : Upload) (last : Bool) : Prop :=
  16 ≤ x.payload.length ∧ chunkFits x = true ∧ last = !x.cont
    ∧ ((∃ v, s.sessions[k].upload = some v ∧ v.continues x = true ∧ u = { v with bytes := v.bytes ++ chunkData x })
      ∨ (s.sessions[k].upload = none ∧ chunkOffset x = 0 ∧ o.heldByOther s k = false
        ∧ u = { opcode := x.opcode, spec := chunkSpec x, total := chunkTotal x, bytes := chunkData x }))

/-! ## Taper steps -/

/-- The thread tid stands at a step of the opcode whose word is good, as x with the word w, and its execution goes on after
the step: neither flag END nor a revoked lease ends it (Tables 6-1, 6-6). -/
def stands (s : State) (c : Ch) (tid opc : Nat) (x : Thread) : Prop :=
  s.chans[c].taper.find tid = some x ∧ s.chans[c].taper.stepFault x = false
    ∧ stepOpc (s.chans[c].taper.word x) = opc ∧ (stepFlg (s.chans[c].taper.word x)).getLsbD 3 = false
    ∧ ∀ l, x.lease = some l → l.revoked = false

/-- The thread stands at an address afterwards, one step further (R153). -/
def goesOn (s t : State) (c : Ch) (tid : Nat) (next : BitVec 10) : Prop :=
  ((t.chans[c].taper.find tid).map (·.ptr)) = some next ∧ t.chans[c].cnt.steps = bump s.chans[c].cnt.steps

end Sys2Proof.Safety
end

