-- ==== Sys2Proof/Certificates/Slice0/Obligations.lean ====
section
/-! DEFINITION. The statements about the MX32 model, for the provers. -/

open Sys2Proof Sys2Proof.Machine Sys2Proof.Safety

/-! ## The machine -/

/-- A step carries out the command at the front of the queue with the queue's rest; on an empty queue the block idles for
one step of the timebase (the model's choice, assumption 1). -/
def Obligations.StepRunsFrontCommand : Prop :=
  (∀ (i : Instr) (rest : List Instr) (s : State),
      step { s with pending := i :: rest } = exec i { s with pending := rest })
    ∧ ∀ s : State, s.pending = [] → step s = .next (idle s)

/-- No command puts anything into the queue or takes anything from it (the queue is the sender's). -/
def Obligations.CommandsKeepQueue : Prop :=
  ∀ (i : Instr) (s t : State), exec i s = .next t → t.pending = s.pending

/-- The state right after reset (Tables 3-9, 3-12, 10-3, 12-9, 13-5; R186, R222, R294): nothing waits, no bank is open, no
debt stands, POST_LIM is 8, TEMP is 100b, no trip stands, the stores are as shipped (the model's choice, log 15), and the three
invariants hold. -/
def Obligations.ResetLeavesMachine : Prop :=
  State.reset.pending = [] ∧ State.reset.thermal.temp = 4 ∧ State.reset.thermal.trip = false
    ∧ (∀ c : Ch, State.reset.chans[c].regs.postLim = 8 ∧ State.reset.chans[c].regs.causes = 0
        ∧ State.reset.chans[c].regs.seqCnt = 0 ∧ State.reset.chans[c].ready = false)
    ∧ (∀ (c : Ch) (p : Pc) (i : Fin 64), State.reset.chans[c].pcs[p].banks[i].phase = .closed
        ∧ State.reset.chans[c].pcs[p].banks[i].debt = 0)
    ∧ State.reset.mgmt.ready = false ∧ State.reset.mgmt.health = 0
    ∧ (∀ k : Slot, State.reset.sessions[k].live = false)
    ∧ State.reset.wick.state = .off ∧ State.reset.nv.user = []
    ∧ userCanonical State.reset ∧ pinShowsTrip State.reset ∧ sectorsWhole State.reset

/-- Every step keeps the stored user area in its canonical form, CATTRIP equal to the trip latch and the 255 physical main
sectors of Quince (R297, R409, R423). -/
def Obligations.StepKeepsStoreAndTripInvariants : Prop :=
  ∀ s t : State, userCanonical s → pinShowsTrip s → sectorsWhole s → step s = .next t →
    userCanonical t ∧ pinShowsTrip t ∧ sectorsWhole t

/-- A trip stands until a stack reset (R296): the only commands after which the latch is clear are a RESET_n pulse and the
loss of a rail. -/
def Obligations.TripStandsUntilStackReset : Prop :=
  ∀ (i : Instr) (s t : State), s.thermal.trip = true → exec i s = .next t →
    t.thermal.trip = true ∨ (∃ w, i = .resetAssert w ∧ 1000 ≤ w) ∨ ∃ r, i = .railLost r

/-- A RESET_n pulse of 1 us or more resets the stack, one below 100 ns is ignored, and one between them, whose outcome R327
leaves undefined, is the one stop of the block: every other command answers a next state. -/
def Obligations.ResetPulsesAndTheOneStop : Prop :=
  ∀ (i : Instr) (s : State),
    ((∃ t, exec i s = .next t) ∨ ∃ w, i = .resetAssert w ∧ 100 ≤ w ∧ w < 1000 ∧ exec i s = .fault .resetPulseUndefined)
      ∧ (∀ w : Nat, i = .resetAssert w → w < 100 → exec i s = .next s)
      ∧ (∀ w : Nat, i = .resetAssert w → 100 ≤ w → w < 1000 → exec i s = .fault .resetPulseUndefined)
      ∧ (∀ w : Nat, i = .resetAssert w → 1000 ≤ w → ∃ t, exec i s = .next t ∧ t.power.resetN = true ∧ t.timeUs = 0
          ∧ t.wick.state = .off ∧ t.thermal.trip = false ∧ (s.fuseQueue = [] → t.nv.efuse = s.nv.efuse)
          ∧ (∀ f : Nat, t.rawFuse f &&& s.rawFuse f = s.rawFuse f) ∧ t.dies = s.dies ∧ t.tap = s.tap
          ∧ t.mgmt.ready = false ∧ ∀ (c : Ch) (p : Pc), t.chans[c].ready = false ∧ t.chans[c].pcs[p].ready = false)

/-! ## Row commands -/

/-- ACT (R57, R60, R72): a closed bank opens the row, served unless the row is unservable, which sets RSV_ROW; the command
is numbered, no other bank of the channel changes state and no byte of memory. -/
def Obligations.ActOpensRow : Prop :=
  ∀ (c : Ch) (p : Pc) (sid : Sid) (bg : Bg) (ba : Ba) (row : Row) (ok : Sampled) (s : State),
    takes s c ok (if s.unservable s.chans[c] sid row then 1 else 0) (pcMask p) = true →
    s.chans[c].pcs[p].powerDown = false → s.chans[c].pcs[p].banks[bankIx sid bg ba].phase = .closed →
    ∃ t, exec (.act c p sid bg ba row ok) s = .next t ∧ numbered s t c
      ∧ t.chans[c].pcs[p].banks[bankIx sid bg ba].phase = .opened row (!s.unservable s.chans[c] sid row)
      ∧ (s.unservable s.chans[c] sid row = true → t.chans[c].regs.causes.getLsbD causeRsvRow = true ∧ onlyChannel s t c)
      ∧ (∀ (q : Pc) (i : Fin 64), q ≠ p ∨ i ≠ bankIx sid bg ba →
          t.chans[c].pcs[q].banks[i] = s.chans[c].pcs[q].banks[i])
      ∧ memKept s t

/-- PRE and PREA (R61, R537): the open banks named are closed, a closing bank goes on closing; nothing outside the channel
changes, and no byte of memory. -/
def Obligations.PrechargeClosesBanks : Prop :=
  (∀ (c : Ch) (p : Pc) (sid : Sid) (bg : Bg) (ba : Ba) (ok : Sampled) (s : State),
    takes s c ok 2 (pcMask p) = true → s.chans[c].pcs[p].powerDown = false →
    ∃ t, exec (.pre c p sid bg ba ok) s = .next t ∧ numbered s t c ∧ onlyChannel s t c ∧ memKept s t
      ∧ (∀ i : Fin 64, t.chans[c].pcs[p].banks[i].phase = match s.chans[c].pcs[p].banks[i].phase with
          | .opened r v => if i = bankIx sid bg ba then .closed else .opened r v
          | x => x))
  ∧ (∀ (c : Ch) (p : Pc) (sid : Sid) (all : Bool) (ok : Sampled) (s : State),
    takes s c ok 3 (pcMask p) = true → s.chans[c].pcs[p].powerDown = false →
    ∃ t, exec (.prea c p sid all ok) s = .next t ∧ numbered s t c ∧ onlyChannel s t c ∧ memKept s t
      ∧ (∀ i : Fin 64, t.chans[c].pcs[p].banks[i].phase = match s.chans[c].pcs[p].banks[i].phase with
          | .opened r v => if all = true ∨ bankSid i = sid then .closed else .opened r v
          | x => x))

/-- REFab, REFpb and RFM with the banks they name closed (R85, R199, R223, R249): each is numbered and stays in its
channel; a received REFpb lowers the debt of its bank by one advance, to the floor at most, while the debt is within
the limit and little work is carried over; an RFM of the Baltil table frees the bank's most urgent tracker entry (Table
8-2); REFab marks its SID as within tRFCab. They leave every bank of the channel in its state and every byte of memory
but for the rows of the profiler's copies and restores (R223, R235, R240, R248, R249). -/
def Obligations.RefreshCommandsTakeEffect : Prop :=
  ((∀ (c : Ch) (p : Pc) (sid : Sid) (ok : Sampled) (s : State),
    takes s c ok 4 (pcMask p) = true → (∀ i ∈ sidBanks sid, s.chans[c].pcs[p].banks[i].phase = .closed) →
    ∃ t, exec (.refab c p sid ok) s = .next t ∧ numbered s t c ∧ onlyChannel s t c
      ∧ t.chans[c].pcs[p].inRefab.getLsbD sid.val = true)
  ∧ (∀ (c : Ch) (p : Pc) (sid : Sid) (bg : Bg) (ba : Ba) (ok : Sampled) (s : State),
    takes s c ok 5 (pcMask p) = true → s.chans[c].pcs[p].banks[bankIx sid bg ba].phase = .closed →
    ∃ t, exec (.refpb c p sid bg ba ok) s = .next t ∧ numbered s t c ∧ onlyChannel s t c
      ∧ (s.chans[c].pcs[p].ready = true → s.chans[c].pcs[p].qact = false → s.chans[c].pcs[p].carriedIn sid ≤ 42 →
          -(s.limitRows s.chans[c] sid) < s.chans[c].pcs[p].banks[bankIx sid bg ba].debt →
          s.chans[c].pcs[p].banks[bankIx sid bg ba].debt ≤ s.limitRows s.chans[c] sid →
          t.chans[c].pcs[p].banks[bankIx sid bg ba].debt
            = max (s.chans[c].pcs[p].banks[bankIx sid bg ba].debt - s.advance) (-(s.limitRows s.chans[c] sid))))
  ∧ (∀ (c : Ch) (p : Pc) (sid : Sid) (bg : Bg) (ba : Ba) (ok : Sampled) (s : State),
    takes s c ok 6 (pcMask p) = true → s.chans[c].pcs[p].banks[bankIx sid bg ba].phase = .closed →
    ∃ t, exec (.rfm c p sid bg ba ok) s = .next t ∧ numbered s t c ∧ onlyChannel s t c
      ∧ (∀ e, trackUrgent s.chans[c].pcs[p].banks[bankIx sid bg ba].tracker = some e → baltil s c →
          s.chans[c].pcs[p].refreshNop = false →
          s.chans[c].pcs[p].qact = false ∨ s.chans[c].pcs[p].banks[bankIx sid bg ba].rfm.isSome = true →
          ∀ e' ∈ t.chans[c].pcs[p].banks[bankIx sid bg ba].tracker, e'.row ≠ e.row)))
  ∧ (∀ (c : Ch) (p : Pc) (sid : Sid) (bg : Bg) (ba : Ba) (ok : Sampled) (i : Instr) (s t : State),
    i = .refab c p sid ok ∨ i = .refpb c p sid bg ba ok ∨ i = .rfm c p sid bg ba ok →
    exec i s = .next t → phasesKept s t c ∧ memKeptButProfiler s t c p)

/-- PDE, PDX, SRE and SRX (R63, R71, R90, R91, R94, R146): power-down begins and ends for the named pseudo-channels that are
not failed; self-refresh begins in the mode the flag names, native self-refresh with SREF_ENTER to every SID present, and
ends with debt zero, every layer present out of self-refresh. -/
def Obligations.PowerDownAndSelfRefresh : Prop :=
  (∀ (c : Ch) (pcs : BitVec 2) (ok : Sampled) (s : State),
    takes s c ok 7 pcs = true → pcs ≠ 0 → s.chans[c].namesPowerDown pcs = false →
    ∃ t, exec (.pde c pcs ok) s = .next t ∧ numbered s t c ∧ onlyChannel s t c ∧ memKept s t
      ∧ (∀ p : Pc, t.chans[c].pcs[p].powerDown
          = (s.chans[c].pcs[p].powerDown || (pcs.getLsbD p.val && !s.chans[c].pcs[p].failed)))
      ∧ ∀ p : Pc, pcs.getLsbD p.val = true → s.chans[c].pcs[p].failed = false → s.chans[c].pcs[p].quiesce = true →
          s.chans[c].pcs[p].allClosed = true → t.chans[c].pcs[p].qact = true)
  ∧ (∀ (c : Ch) (pcs : BitVec 2) (ok : Sampled) (s : State),
    takes s c ok 8 pcs = true → pcs ≠ 0 →
    (∀ p : Pc, pcs.getLsbD p.val = true → s.chans[c].pcs[p].powerDown = true ∧ s.chans[c].pcs[p].qact = false) →
    ∃ t, exec (.pdx c pcs ok) s = .next t ∧ numbered s t c ∧ onlyChannel s t c ∧ memKept s t
      ∧ (∀ p : Pc, t.chans[c].pcs[p].powerDown
          = (s.chans[c].pcs[p].powerDown && !(pcs.getLsbD p.val && !s.chans[c].pcs[p].failed))))
  ∧ (∀ (c : Ch) (managed : Bool) (ok : Sampled) (s : State),
    takes s c ok (if managed then 10 else 9) 0 = true →
    (∀ p : Pc, s.chans[c].pcs[p].allClosed = true ∧ s.chans[c].pcs[p].qact = false) →
    ∃ t, exec (.sre c managed ok) s = .next t ∧ numbered s t c ∧ memKept s t
      ∧ t.chans[c].regs.srAct = true ∧ t.chans[c].regs.srManaged = managed ∧ t.chans[c].tsv.clocks = managed
      ∧ (managed = true → t.chans[c].tsv.coreSr = s.chans[c].tsv.coreSr
          ∧ ∀ (p : Pc) (i : Fin 64), t.chans[c].pcs[p].banks[i].debt = 0)
      ∧ (managed = false → baltil s c → t.chans[c].tsv.coreSr = s.chans[c].tsv.coreSr ||| srefMask s.sids true 0))
  ∧ (∀ (c : Ch) (ok : Sampled) (s : State),
    admits s c ok = true → s.chans[c].regs.srAct = true → s.wick.state ≠ .linkhold → starts s c 11 = true →
    ∃ t, exec (.srx c ok) s = .next t ∧ numbered s t c ∧ (noRepairDue s c → memKept s t)
      ∧ t.chans[c].regs.srAct = false ∧ t.chans[c].tsv.clocks = true
      ∧ (s.chans[c].regs.srManaged = false → baltil s c →
          t.chans[c].tsv.coreSr = s.chans[c].tsv.coreSr &&& ~~~(srefMask s.sids true 0))
      ∧ (∀ p : Pc, t.chans[c].pcs[p].powerDown = false)
      ∧ (nothingOwed s c → ∀ (p : Pc) (i : Fin 64), t.chans[c].pcs[p].banks[i].debt = 0))

/-- A NOP that passes its parity check changes nothing but the counts of column NOPs, which admit a RESYNC, and of
mismatches on an unused spare of its bus (R39, R59, R72, R80). RESYNC recognised after eight column NOPs ends a discard
and link hold's hold, restores every crossing, sets SEQ_CNT to 0, sends alignment frames and closes every open bank
(R80, R81, R101, R126, R321). -/
def Obligations.NopAndResync : Prop :=
  (∀ (c : Ch) (bus : Bus) (ok : Sampled) (s : State), admits s c ok = true →
    ∃ t, exec (.nop c bus 15 ok) s = .next t ∧ onlyChannel s t c
      ∧ t.chans[c] = { s.chans[c].sampled ok bus with intake := { s.chans[c].intake with
          colNops := match bus with
            | .row => s.chans[c].intake.colNops
            | .col => min (s.chans[c].intake.colNops + 1) 8 } })
  ∧ (∀ (c : Ch) (s : State), s.lviDead = false → s.isGated c = false → 8 ≤ s.chans[c].intake.colNops →
    s.chans[c].intake.lmw = none → entryValid (s.chans[c].taper.active.entryWord 24) = true →
    s.chans[c].regs.srAct = false → s.chans[c].regs.nextCaErr = false →
    ¬(s.chans[c].intake.held = true ∧ s.wick.state = .linkhold) →
    ∃ t, exec (.resync c .good) s = .next t ∧ onlyChannel s t c ∧ memKept s t
      ∧ t.chans[c].intake.discard = false ∧ t.chans[c].intake.held = false ∧ t.chans[c].intake.colNops = 0
      ∧ t.chans[c].intake.outside = false ∧ t.chans[c].regs.seqCnt = 0 ∧ t.chans[c].tsv.frame = alignFrame
      ∧ (∀ p : Pc, t.chans[c].pcs[p].writeOutside = false ∧ t.chans[c].pcs[p].readOutside = false)
      ∧ ∀ (p : Pc) (i : Fin 64) (r : Row) (v : Bool), t.chans[c].pcs[p].banks[i].phase ≠ .opened r v)

/-! ## Discards -/

/-- A command that fails its parity check with CAPAR_EN 1 has no effect and begins a discard: CA_PARITY is set,
ERR_IDX takes the index the command would have received, SEQ_CNT does not count it (R72, R78). A command whose capture
slips does the same and is counted as a slip, and the capture stands outside its window (R98, R100). While a discard is
in force a numbered command has no effect on the mode registers and the pseudo-channels, and with the Baltil table none but to
break a run of column NOPs and to count mismatches of its bus's unused spare (R39, R78, R80). Reset, a trip and a
power-gated group make the channel deaf to every numbered command (R91, R297, R341). -/
def Obligations.ParityDiscardAndDeafness : Prop :=
  (∀ (i : Instr) (c : Ch) (ok : Sampled) (s : State), lviCommand i = some (c, ok) → s.lviDead = false → s.isGated c = false →
    s.chans[c].intake.discard = false → s.chans[c].intake.held = false →
    (ok = .badParity ∧ s.chans[c].intake.outside = false ∧ s.chans[c].regs.caparEn = true) ∨ ok = .slipped →
    ∃ t, exec i s = .next t ∧ onlyChannel s t c
      ∧ t.chans[c].intake.discard = true ∧ t.chans[c].regs.causes = s.chans[c].regs.causes ||| 1
      ∧ t.chans[c].regs.errIdx = s.chans[c].regs.seqCnt ∧ t.chans[c].regs.seqCnt = s.chans[c].regs.seqCnt
      ∧ t.chans[c].pcs = s.chans[c].pcs ∧ t.chans[c].trn = s.chans[c].trn
      ∧ (baltil s c → t.chans[c].taper = s.chans[c].taper)
      ∧ (ok = .badParity → t.chans[c].cnt.parityErr = bump s.chans[c].cnt.parityErr
          ∧ t.chans[c].intake.outside = false)
      ∧ (ok = .slipped → t.chans[c].cnt.slips = bump s.chans[c].cnt.slips ∧ t.chans[c].intake.outside = true))
  ∧ (∀ (i : Instr) (c : Ch) (ok : Sampled) (s t : State), lviCommand i = some (c, ok) →
    s.chans[c].intake.discard = true → exec i s = .next t →
    onlyChannel s t c ∧ t.chans[c].regs = s.chans[c].regs ∧ t.chans[c].pcs = s.chans[c].pcs
      ∧ (baltil s c → ∃ (n m : Nat) (b : Bool), t.chans[c] = { s.chans[c] with
          intake := { s.chans[c].intake with colNops := n, outside := b }
          cnt := { s.chans[c].cnt with laneMism := m } }))
  ∧ (∀ (i : Instr) (c : Ch) (ok : Sampled) (s : State), lviCommand i = some (c, ok) →
    s.lviDead = true ∨ s.isGated c = true → exec i s = .next s)

/-! ## Column commands -/

/-- RD, RDA, WR and WRA to an open row post their chain, with the row the bank holds open, where the Baltil table is
active; RDA and WRA begin to close the bank (R10, R29, R60, R74, R102, R155). Nothing outside the channel changes, and no
byte of memory yet. RDT, WRT and MRR post their chains, MRR with the register as it stands when the command issues; LMW
opens its window and the MX32 drives its half of it on each pseudo-channel not in power-down (R65, R72, R86, R191,
R192). -/
def Obligations.ColumnCommandsPostChains : Prop :=
  (∀ (c : Ch) (p : Pc) (sid : Sid) (bg : Bg) (ba : Ba) (col : Col) (b : Burst) (row : Row) (v : Bool) (ok : Sampled)
    (s : State),
    s.chans[c].pcs[p].powerDown = false → s.chans[c].pcs[p].banks[bankIx sid bg ba].phase = .opened row v →
    (takes s c ok (if v then 12 else 14) (pcMask p) = true →
      ∃ t, exec (.rd c p sid bg ba col ok) s = .next t ∧ numbered s t c ∧ onlyChannel s t c ∧ memKept s t
        ∧ phasesKept s t c
        ∧ chained s t c p (if v then .read sid (bankNo bg ba) row col none else .unservable))
    ∧ (takes s c ok (if v then 13 else 14) (pcMask p) = true →
      ∃ t, exec (.rda c p sid bg ba col ok) s = .next t ∧ numbered s t c ∧ onlyChannel s t c ∧ memKept s t
        ∧ t.chans[c].pcs[p].banks[bankIx sid bg ba].phase = .closing row v
        ∧ (v = true → baltil s c → t.chans[c].pcs[p].banks[bankIx sid bg ba].postedPre = true)
        ∧ chained s t c p (if v then .read sid (bankNo bg ba) row col none else .unservable))
    ∧ (takes s c ok (if v then 15 else 17) (pcMask p) = true →
      ∃ t, exec (.wr c p sid bg ba col b ok) s = .next t ∧ numbered s t c ∧ onlyChannel s t c ∧ memKept s t
        ∧ phasesKept s t c ∧ chained s t c p (.write sid (bankNo bg ba) row col b v none))
    ∧ (takes s c ok (if v then 16 else 17) (pcMask p) = true →
      ∃ t, exec (.wra c p sid bg ba col b ok) s = .next t ∧ numbered s t c ∧ onlyChannel s t c ∧ memKept s t
        ∧ t.chans[c].pcs[p].banks[bankIx sid bg ba].phase = .closing row v
        ∧ (v = true → baltil s c → t.chans[c].pcs[p].banks[bankIx sid bg ba].postedPre = true)
        ∧ chained s t c p (.write sid (bankNo bg ba) row col b v none)))
  ∧ (∀ (c : Ch) (p : Pc) (tb : Fin 16) (bits : BitVec 624) (ma : Fin 32) (len : BitVec 2) (ok : Sampled) (s : State),
    s.chans[c].pcs[p].powerDown = false →
    (takes s c ok 19 (pcMask p) = true →
      ∃ t, exec (.rdt c p tb ok) s = .next t ∧ numbered s t c ∧ onlyChannel s t c ∧ memKept s t ∧ phasesKept s t c
        ∧ chained s t c p (.bufRead tb))
    ∧ (takes s c ok 20 (pcMask p) = true →
      ∃ t, exec (.wrt c p tb bits ok) s = .next t ∧ numbered s t c ∧ onlyChannel s t c ∧ memKept s t ∧ phasesKept s t c
        ∧ chained s t c p (.bufWrite tb bits))
    ∧ (takes s c ok 21 (pcMask p) = true →
      ∃ t, exec (.mrr c p ma ok) s = .next t ∧ numbered s t c ∧ onlyChannel s t c ∧ memKept s t ∧ phasesKept s t c
        ∧ chained s t c p (.modeRead (s.mrRead c ma) (s.chans[c].mrExt ma)))
    ∧ (takes s c ok 23 0 = true →
      ∃ t, exec (.lmw c len ok) s = .next t ∧ numbered s t c ∧ onlyChannel s t c ∧ memKept s t ∧ phasesKept s t c
        ∧ t.chans[c].intake.lmw = some len ∧ t.chans[c].pcs[p].drive = .pattern (lmwLength len)))

/-! ## Mode registers -/

/-- MRW (R64, Tables 3-6 to 3-15): the RW fields of MR01, MR03, MR04, MR05 and MR07 take the value as written, MR05 by
clearing; a write to MR00, MR06, MR09 or MR16 changes nothing, one to an unused number is ignored and counted. The
field rows of MR01, MR02, MR04 and MR05 (R67, R68, R69, R24, R112, R114): BIN_REQ; MODE_PCn, which takes a new value
only while QACT is 1; FILL_GO with a legal pattern on a quiesced pseudo-channel that is free, which starts the fill;
ADAPT_EN; the causes written 1. -/
def Obligations.ModeRegisterWrites : Prop :=
  (∀ (c : Ch) (ma : Fin 32) (v : BitVec 16) (ok : Sampled) (s : State), takes s c ok 22 0 = true →
    ∃ t, exec (.mrw c ma v ok) s = .next t ∧ numbered s t c ∧ memKept s t
      ∧ (ma.val = 1 → t.chans[c].regs.binReq = v.extractLsb' 0 2)
      ∧ (ma.val = 3 → t.chans[c].regs.mr03 = v.extractLsb' 0 13)
      ∧ (ma.val = 4 → t.chans[c].regs.postLim = v.extractLsb' 2 4 ∧ t.chans[c].regs.adaptEn = v.getLsbD 0)
      ∧ (ma.val = 5 → t.chans[c].regs.causes = s.chans[c].regs.causes &&& ~~~(v.extractLsb' 0 10))
      ∧ (ma.val = 7 → t.chans[c].regs.policy = v.extractLsb' 0 2)
      ∧ (ma.val ∈ [0, 6, 9, 16] → onlyChannel s t c ∧ t.chans[c].pcs = s.chans[c].pcs
          ∧ t.chans[c].regs = { s.chans[c].regs with seqCnt := s.chans[c].regs.seqCnt + 1 })
      ∧ (17 ≤ ma.val → onlyChannel s t c ∧ t.chans[c].cnt.mrwIgnored = bump s.chans[c].cnt.mrwIgnored
          ∧ t.chans[c].regs = { s.chans[c].regs with seqCnt := s.chans[c].regs.seqCnt + 1 }))
  ∧ (∀ (c : Ch) (ok : Sampled) (s : State), takes s c ok 22 0 = true →
    (∀ bin, ∃ t, exec (.binReqWrite c bin ok) s = .next t ∧ numbered s t c ∧ onlyChannel s t c ∧ memKept s t
        ∧ t.chans[c].regs.binReq = bin ∧ t.chans[c].pcs = s.chans[c].pcs)
    ∧ (∀ modes : BitVec 2, ∃ t, exec (.modePcWrite c modes ok) s = .next t ∧ numbered s t c ∧ onlyChannel s t c
        ∧ memKept s t ∧ ∀ p : Pc, t.chans[c].pcs[p].managed
            = if s.chans[c].pcs[p].qact then modes.getLsbD p.val else s.chans[c].pcs[p].managed)
    ∧ (∀ (go : BitVec 2) (pat : BitVec 4), ∃ t, exec (.fillGo c go pat ok) s = .next t ∧ numbered s t c
        ∧ onlyChannel s t c ∧ memKept s t ∧ t.chans[c].regs.fillPat = pat
        ∧ ∀ p : Pc, go.getLsbD p.val = true → s.chans[c].pcs[p].qact = true → s.chans[c].pcs[p].op = none →
            fillLegal pat s.chans[c].pcs[p].managed = true →
            t.chans[c].pcs[p].op = some .fill ∧ t.chans[c].pcs[p].fillBusy = true ∧ t.chans[c].pcs[p].fillPat = pat)
    ∧ (∀ en, ∃ t, exec (.adaptEnWrite c en ok) s = .next t ∧ numbered s t c ∧ memKept s t
        ∧ t.chans[c].regs.adaptEn = en ∧ t.chans[c].regs.adaptAct = s.chans[c].regs.adaptAct
        ∧ t.chans[c].regs.postLim = s.chans[c].regs.postLim)
    ∧ (∀ mask, ∃ t, exec (.alertCauseClear c mask ok) s = .next t ∧ numbered s t c ∧ onlyChannel s t c ∧ memKept s t
        ∧ t.chans[c].regs.causes = s.chans[c].regs.causes &&& ~~~mask ∧ t.chans[c].pcs = s.chans[c].pcs))

/-- QUIESCE_WRITE (R71, R115): QUIESCE takes the bits; QACT follows a bit written 1 where the pseudo-channel is in
power-down with every bank closed; written 0 with no operation, QACT is 0 at once, the debt is zero; with an operation
it is held. A pending change of ADAPT_EN with both pseudo-channels quiesced and free: to 1 it takes effect with a
blind lap, to 0 it starts the clearing of the reserved rows, whose end makes them read 0, ADAPT_ACT read 0 and the maps
DISABLED (R69, R117, R229). -/
def Obligations.QuiesceAndAdaptiveRefresh : Prop :=
  (∀ (c : Ch) (bits : BitVec 2) (ok : Sampled) (s : State), takes s c ok 22 0 = true →
    ∃ t, exec (.quiesceWrite c bits ok) s = .next t ∧ numbered s t c ∧ onlyChannel s t c ∧ memKept s t
      ∧ ∀ p : Pc, t.chans[c].pcs[p].quiesce = bits.getLsbD p.val
        ∧ t.chans[c].pcs[p].op = s.chans[c].pcs[p].op
        ∧ (bits.getLsbD p.val = true → t.chans[c].pcs[p].qact
            = (s.chans[c].pcs[p].qact || (s.chans[c].pcs[p].powerDown && s.chans[c].pcs[p].allClosed)))
        ∧ (bits.getLsbD p.val = false → s.chans[c].pcs[p].op = none →
            t.chans[c].pcs[p].qact = false ∧ (s.chans[c].pcs[p].qact = true → nothingOwed s c →
              ∀ i : Fin 64, t.chans[c].pcs[p].banks[i].debt = 0))
        ∧ (bits.getLsbD p.val = false → s.chans[c].pcs[p].op.isSome = true → s.chans[c].pcs[p].qact = true →
            t.chans[c].pcs[p].qact = true ∧ t.chans[c].pcs[p].releaseHeld = true))
  ∧ ((∀ (c : Ch) (s : State), s.chans[c].regs.adaptEn ≠ s.chans[c].regs.adaptAct →
    (∀ p : Pc, s.chans[c].pcs[p].qact = true ∧ s.chans[c].pcs[p].op = none) →
    ∃ t, exec (.adaptChangeApply c) s = .next t ∧ memKept s t
      ∧ (s.chans[c].regs.adaptEn = true → t.chans[c].regs.adaptAct = true
          ∧ ∀ (p : Pc) (i : Fin 64), t.chans[c].pcs[p].banks[i].blind = s.rows)
      ∧ (s.chans[c].regs.adaptEn = false → onlyChannel s t c ∧ t.chans[c].regs.clearing = 3
          ∧ t.chans[c].regs.adaptAct = true ∧ ∀ p : Pc, t.chans[c].pcs[p].op = some .clearing))
  ∧ (∀ (c : Ch) (s : State), s.chans[c].regs.clearing ≠ 0 →
    ∃ t, exec (.reservedRowClearDone c) s = .next t ∧ (∀ d : Ch, d ≠ c → t.chans[d].pcs = s.chans[d].pcs)
      ∧ t.chans[c].regs.adaptAct = false ∧ t.chans[c].regs.clearing = 0
      ∧ ∀ p : Pc, t.chans[c].pcs[p].mapState = .disabled ∧ t.chans[c].pcs[p].op = none
          ∧ t.chans[c].pcs[p].filled = s.chans[c].pcs[p].filled
          ∧ ∀ a : Nat, t.chans[c].pcs[p].readByte t.rows a
              = if accessReserved s.rows (a / 72) then 0 else s.chans[c].pcs[p].readByte s.rows a))

/-- The lab controls (Table 3-16a): in lab mode SPARE_ERR, SLIP, DPAR_ERR and CA_ERR arm their one event and FORCE_HOLD
stands as written; outside lab mode MR12 and MR15 ignore the write and it is counted (R64). -/
def Obligations.LabControlsArm : Prop :=
  ∀ (c : Ch) (on : Bool) (ok : Sampled) (s : State), takes s c ok 22 0 = true →
    (∃ t, exec (.spareErr c ok) s = .next t ∧ numbered s t c ∧ onlyChannel s t c
      ∧ (s.mgmt.lab = true → t.chans[c].regs.nextSpareErr = true)
      ∧ (s.mgmt.lab = false → t.chans[c].cnt.mrwIgnored = bump s.chans[c].cnt.mrwIgnored
          ∧ t.chans[c].regs.nextSpareErr = s.chans[c].regs.nextSpareErr))
    ∧ (∃ t, exec (.slip c ok) s = .next t ∧ numbered s t c ∧ onlyChannel s t c
      ∧ (s.mgmt.lab = true → t.chans[c].regs.nextSlip = true)
      ∧ (s.mgmt.lab = false → t.chans[c].regs.nextSlip = s.chans[c].regs.nextSlip))
    ∧ (∃ t, exec (.dparErr c ok) s = .next t ∧ numbered s t c ∧ onlyChannel s t c
      ∧ (s.mgmt.lab = true → t.chans[c].regs.nextDparErr = true)
      ∧ (s.mgmt.lab = false → t.chans[c].regs.nextDparErr = s.chans[c].regs.nextDparErr))
    ∧ (∃ t, exec (.caErr c ok) s = .next t ∧ numbered s t c ∧ onlyChannel s t c
      ∧ (s.mgmt.lab = true → t.chans[c].regs.nextCaErr = true)
      ∧ (s.mgmt.lab = false → t.chans[c].regs.nextCaErr = s.chans[c].regs.nextCaErr))
    ∧ (∃ t, exec (.forceHold c on ok) s = .next t ∧ numbered s t c
      ∧ (s.mgmt.lab = true → t.chans[c].regs.mr15.getLsbD 0 = on
          ∧ (on = true → s.chans[c].regs.mr15.getLsbD 0 = false → s.wick.state = .run → s.wick.frozenAt = none →
              (s.wick.spread = false ∨ s.wick.followOk = true) →
              t.wick.state = .holdover ∧ t.wick.lock = false))
      ∧ (s.mgmt.lab = false → onlyChannel s t c ∧ t.chans[c].regs.mr15 = s.chans[c].regs.mr15))

/-! ## Events of a channel -/

/-- The precharge timer closes a closing bank (R155, R537); an LMW window ends with its driven cycles gathered, outside a
holdover episode and while the management plane runs, and the MX32 drives no longer (R87, R191, R201, R316); the 64th idle
CK begins an idle gap where MR07 allows it, and the last tRFCab of an all-SID window ends it (R199). Each stays in its
channel and leaves every byte of memory. A fill that completes gives every access of the SIDs present the pattern of Table
4-7, but for rows reserved under R6 and cells that no row reaches, sets FILLED, clears FILL_BUSY and frees the
pseudo-channel (R112, R115, R141). -/
def Obligations.FillsAndChannelTimers : Prop :=
  (∀ (c : Ch) (p : Pc) (s : State),
    (∀ (sid : Sid) (bg : Bg) (ba : Ba) (r : Row) (v : Bool),
      s.chans[c].pcs[p].banks[bankIx sid bg ba].phase = .closing r v →
      ∃ t, exec (.prechargeTimerExpiry c p sid bg ba) s = .next t ∧ onlyChannel s t c ∧ memKept s t
        ∧ t.chans[c].pcs[p].banks[bankIx sid bg ba].phase = .closed
        ∧ t.chans[c].pcs[p].banks[bankIx sid bg ba].postedPre = false
        ∧ (s.chans[c].pcs[p].banks[bankIx sid bg ba].postedPre = true →
            t.chans[c].tsv.frame = preFrame p sid bg ba true)
        ∧ ∀ i : Fin 64, i ≠ bankIx sid bg ba →
            t.chans[c].pcs[p].banks[i].phase = s.chans[c].pcs[p].banks[i].phase)
    ∧ (∀ len, s.chans[c].intake.lmw = some len →
      ∃ t, exec (.lmwWindowEnd c) s = .next t ∧ onlyChannel s t c ∧ memKept s t ∧ t.chans[c].intake.lmw = none
        ∧ t.chans[c].intake.gathered = s.chans[c].intake.gathered
            + (if s.wick.state == .run && s.mgmt.ready then lmwLength len / 2 - 2 else 0)
        ∧ t.chans[c].pcs[p].drive = .idle ∧ phasesKept s t c)
    ∧ (s.chans[c].regs.policy.getLsbD 0 = true →
      ∃ t, exec (.idleGap c p) s = .next t ∧ onlyChannel s t c ∧ memKept s t ∧ t.chans[c].pcs[p].idleGap = true
        ∧ phasesKept s t c)
    ∧ (∃ t, exec (.allSidRefreshWindowEnd c p) s = .next t ∧ onlyChannel s t c ∧ memKept s t
        ∧ t.chans[c].pcs[p].refWindow = false ∧ t.chans[c].pcs[p].inRefab = 0 ∧ phasesKept s t c))
  ∧ (∀ (c : Ch) (p : Pc) (s : State), s.chans[c].pcs[p].op = some .fill →
    ∃ t, exec (.fillComplete c p) s = .next t ∧ onlyChannel s t c
      ∧ t.chans[c].pcs[p].filled = true ∧ t.chans[c].pcs[p].fillBusy = false ∧ t.chans[c].pcs[p].op = none
      ∧ ∀ a : Nat, s.sidPresent (accessOf (a / 72)).1 = true → accessSpare (a / 72) = false →
          ¬(s.chans[c].regs.adaptAct = true ∧ accessReserved s.rows (a / 72) = true) →
          t.chans[c].pcs[p].readByte t.rows a
            = accessByte (patternData s.chans[c].pcs[p].fillPat (a / 72))
                (patternCheck s.chans[c].pcs[p].fillPat s.chans[c].pcs[p].managed (a / 72)) (a % 72))

/-! ## The data path -/

/-- A write chain's actions fire in turn (R156): the host's burst fills the write FIFOs (R97); the DPAR verdict stages a
passing write's access with its TSV WR next, one that fails is counted, sets DPAR_WRITE and stages nothing (R29, R76, R103), a
write to an unservable row is dropped; where staging holds four, the oldest slips (R97, R100); a staged table's thread learns
the verdict and its steps decide (R10, R149). The commit stores the 64 data bytes and the check field as they arrive at the core
die, and no other byte (R95, R96, R103, R133). -/
def Obligations.WriteChainCommits : Prop :=
  ∀ (c : Ch) (p : Pc) (env : LineEnv) (rest : List Posted) (s : State), s.isGated c = false →
    (∀ (sid : Sid) (bank : Fin 16) (row : Row) (col : Col) (b : Burst) (v : Bool) (o : Option Nat),
      s.chans[c].pcs[p].calendar = .write sid bank row col b v o :: rest →
      ∃ t, exec (.calendarAction c p env) s = .next t ∧ onlyChannel s t c ∧ memKept s t
        ∧ t.chans[c].pcs[p].calendar = .unload :: rest
        ∧ t.chans[c].pcs[p].writeFifo = s.chans[c].pcs[p].writeFifo
            ++ [{ access := accessNo sid bank row col, burst := b, served := v, owner := o }])
    ∧ (∀ (w : WriteEntry) (fifo : List WriteEntry), s.chans[c].pcs[p].calendar = .unload :: rest →
      s.chans[c].pcs[p].writeFifo = w :: fifo → s.mgmt.lab = false → s.chans[c].pcs[p].inject = none →
      ∃ t, exec (.calendarAction c p env) s = .next t ∧ onlyChannel s t c ∧ memKept s t
        ∧ t.chans[c].pcs[p].writeFifo = fifo
        ∧ (s.writeFails c p w.burst env = true → t.chans[c].regs.causes.getLsbD causeDparWrite = true)
        ∧ (s.writeFails c p w.burst env = true → w.owner = none →
            t.chans[c].cnt.dparFail = bump s.chans[c].cnt.dparFail
              ∧ t.chans[c].pcs[p].staging = s.chans[c].pcs[p].staging ∧ t.chans[c].pcs[p].calendar = rest)
        ∧ (s.writeFails c p w.burst env = false → w.served = false →
            t.chans[c].pcs[p].staging = s.chans[c].pcs[p].staging ∧ t.chans[c].pcs[p].calendar = rest)
        ∧ (s.writeFails c p w.burst env = false → w.served = true →
            ∃ x : Staged, x.access = w.access ∧ x.owner = w.owner ∧ x.verdict = true ∧ x.data = w.burst.data
              ∧ x.check = writeCheck s.chans[c].pcs[p].managed w.burst.data w.burst.ecc
              ∧ (s.chans[c].pcs[p].staging.length < 4 →
                  t.chans[c].pcs[p].staging = s.chans[c].pcs[p].staging ++ [x]
                    ∧ t.chans[c].taper = s.chans[c].taper.verdict w.owner true)
              ∧ (4 ≤ s.chans[c].pcs[p].staging.length →
                  t.chans[c].pcs[p].staging = s.chans[c].pcs[p].staging.tail ++ [x]
                    ∧ t.chans[c].intake.discard = true ∧ t.chans[c].cnt.slips = bump s.chans[c].cnt.slips)
              ∧ (w.owner = none → t.chans[c].pcs[p].calendar = x.commit :: rest)
              ∧ (w.owner.isSome = true → t.chans[c].pcs[p].calendar = rest)))
    ∧ (∀ (sid : Sid) (bank : Fin 16) (row : Row) (col : Col) (data : BitVec 512) (check : BitVec 64),
      s.chans[c].pcs[p].calendar = .commit sid bank row col data check :: rest →
      ∃ t, exec (.calendarAction c p env) s = .next t ∧ (env.tsvLimited = [] → onlyChannel s t c)
        ∧ t.chans[c].pcs[p].calendar = rest
        ∧ t.chans[c].pcs[p].staging = unstage (accessNo sid bank row col) s.chans[c].pcs[p].staging
        ∧ (∀ k : Nat, k < 72 →
            t.chans[c].pcs[p].readByte t.rows (byteAddr (accessNo sid bank row col) k)
              = accessByte (data ^^^ env.flips.extractLsb' 0 512) (check ^^^ env.flips.extractLsb' 512 64) k)
        ∧ (∀ a : Nat, a / 72 ≠ accessNo sid bank row col →
            t.chans[c].pcs[p].readByte t.rows a = s.chans[c].pcs[p].readByte s.rows a)
        ∧ ∀ q : Pc, q ≠ p → t.chans[c].pcs[q] = s.chans[c].pcs[q])

/-- The actions of a read chain that does not slip and finds no echo (R97, R102, R156): the TSV read capture takes what the
core die returns, its stored bits as they arrive (R132, R538); the decoder loads the return FIFO with the burst of the
captured access; the launch drives it on the lanes outside lab mode with its spares (R35, R39). A slip loads the content of
Table 4-6 and begins a discard (R100). A mode-register read loads its value (R65), a read of an unservable row Table 4-6's
content (R60), RDT's chain drives its buffer and WRT's writes it (R192). Every byte of memory reads as before. -/
def Obligations.ReadChainsReturn : Prop :=
  ∀ (c : Ch) (p : Pc) (env : LineEnv) (rest : List Posted) (s : State),
    (∀ (sid : Sid) (bank : Fin 16) (row : Row) (col : Col) (o : Option Nat),
      s.chans[c].pcs[p].calendar = .read sid bank row col o :: rest →
      ∃ t r, exec (.calendarAction c p env) s = .next t ∧ memKept s t
        ∧ t.chans[c].pcs[p].tsvCapture = s.chans[c].pcs[p].tsvCapture ++ [r]
        ∧ t.chans[c].pcs[p].calendar = .decode :: rest ∧ r.access = accessNo sid bank row col ∧ r.owner = o
        ∧ (s.dies[layerOf c (accessOf (accessNo sid bank row col)).1].coreRl ≠ 0 → env.cells = 0 →
            r.data = s.chans[c].pcs[p].readData s.rows r.access ^^^ env.flips.extractLsb' 0 512
              ∧ r.check = s.chans[c].pcs[p].readCheck s.rows r.access ^^^ env.flips.extractLsb' 512 64))
    ∧ (∀ (r : TsvRead) (cap : List TsvRead), s.chans[c].pcs[p].calendar = .decode :: rest →
      s.chans[c].pcs[p].tsvCapture = r :: cap →
      ∃ t, exec (.calendarAction c p env) s = .next t ∧ memKept s t ∧ t.chans[c].pcs[p].tsvCapture = cap
        ∧ t.chans[c].pcs[p].calendar = .launch :: rest
        ∧ (s.readSlips c p env = false → s.chans[c].pcs[p].echo = none →
            t.chans[c].pcs[p].returns = s.chans[c].pcs[p].returns
              ++ [readBurst s.chans[c].pcs[p].managed s.chans[c].regs.dparEn
                    (s.chans[c].pcs[p].decoderInput r).1 (s.chans[c].pcs[p].decoderInput r).2])
        ∧ (s.readSlips c p env = true →
            t.chans[c].pcs[p].returns = s.chans[c].pcs[p].returns
                ++ [unservableBurst s.chans[c].pcs[p].managed s.chans[c].regs.dparEn]
              ∧ t.chans[c].cnt.slips = bump s.chans[c].cnt.slips
              ∧ (s.isGated c = false → t.chans[c].intake.discard = true)))
    ∧ (∀ (b : OutBurst) (fifo : List OutBurst), s.chans[c].pcs[p].calendar = .launch :: rest →
      s.chans[c].pcs[p].returns = b :: fifo → s.mgmt.lab = false → env.slip = false →
      ∃ t, exec (.calendarAction c p env) s = .next t ∧ memKept s t
        ∧ t.chans[c].pcs[p].lanes = some (b.withSpares s.chans[c].map p)
        ∧ t.chans[c].pcs[p].returns = fifo ∧ t.chans[c].pcs[p].calendar = rest)
    ∧ (∀ (v : BitVec 16) (ext : List (BitVec 16)), s.chans[c].pcs[p].calendar = .modeRead v ext :: rest →
      s.readSlips c p env = false →
      ∃ t, exec (.calendarAction c p env) s = .next t ∧ onlyChannel s t c ∧ memKept s t
        ∧ t.chans[c].pcs[p].returns = s.chans[c].pcs[p].returns
            ++ [mrrBurst s.chans[c].pcs[p].managed s.chans[c].regs.dparEn v ext]
        ∧ t.chans[c].pcs[p].calendar = .launch :: rest ∧ t.chans[c].regs = s.chans[c].regs)
    ∧ (s.chans[c].pcs[p].calendar = .unservable :: rest →
      ∃ t, exec (.calendarAction c p env) s = .next t ∧ onlyChannel s t c ∧ memKept s t
        ∧ t.chans[c].pcs[p].returns = s.chans[c].pcs[p].returns
            ++ [unservableBurst s.chans[c].pcs[p].managed s.chans[c].regs.dparEn]
        ∧ t.chans[c].pcs[p].errs.rsvRd = bump s.chans[c].pcs[p].errs.rsvRd)
    ∧ (∀ tb : Fin 16, s.chans[c].pcs[p].calendar = .bufRead tb :: rest → env.slip = false →
      s.chans[c].pcs[p].readOutside = false →
      ∃ t, exec (.calendarAction c p env) s = .next t ∧ memKept s t
        ∧ t.chans[c].pcs[p].lanes = some (bufferBurst (s.chans[c].pcs[p].buffer tb))
        ∧ t.chans[c].pcs[p].calendar = rest)
    ∧ (∀ (tb : Fin 16) (bits : BitVec 624), s.chans[c].pcs[p].calendar = .bufWrite tb bits :: rest →
      s.writeSlips c p env = false →
      ∃ t, exec (.calendarAction c p env) s = .next t ∧ onlyChannel s t c ∧ memKept s t
        ∧ t.chans[c].pcs[p].buffers = s.chans[c].pcs[p].buffers.set tb (some bits))

/-! ## The Taper -/

/-- The steps SETCNT, LOOP, CALL, RET and NOP of a thread that goes on (Table 6-2, R153): the loop counter takes WCNT,
falls by one and branches while it is not zero, the return register takes the next address, the pointer takes it back;
the address after SETCNT and NOP is TGT where BCND is true. Nothing outside the channel changes but the model's own
counter. The steps FETCH, COUNT, ALERT and REPORT of a thread that goes on (Table 6-2): the address is the source's,
EMPTY says there was none; the counter, the MR05 cause and the completion code are those of TCMD, and REPORT says that the
thread's work is complete (R169). -/
def Obligations.TaperFlowAndReportSteps : Prop :=
  (∀ (c : Ch) (tid : Nat) (x : Thread) (s : State) (w : BitVec 64), w = s.chans[c].taper.word x →
    (stands s c tid 3 x → ∃ t, exec (.setcnt c tid) s = .next t ∧ memKept s t ∧ channelOnly s t c
        ∧ goesOn s t c tid (if (s.branchTrue c { x with loops := stepWcnt w } (stepBcnd w)).1 then stepTgt w else x.ptr + 1)
        ∧ (t.chans[c].taper.find tid).map (·.loops) = some (stepWcnt w))
    ∧ (stands s c tid 4 x → ∃ t, exec (.loop c tid) s = .next t ∧ memKept s t ∧ channelOnly s t c
        ∧ goesOn s t c tid (if x.loops - 1 ≠ 0 then stepTgt w else x.ptr + 1)
        ∧ (t.chans[c].taper.find tid).map (·.loops) = some (x.loops - 1))
    ∧ (stands s c tid 5 x → ∃ t, exec (.call c tid) s = .next t ∧ memKept s t ∧ channelOnly s t c
        ∧ goesOn s t c tid (stepTgt w) ∧ (t.chans[c].taper.find tid).map (·.ret) = some (x.ptr + 1))
    ∧ (stands s c tid 6 x → ∃ t, exec (.ret c tid) s = .next t ∧ memKept s t ∧ channelOnly s t c
        ∧ goesOn s t c tid x.ret)
    ∧ (stands s c tid 0 x → ∃ t, exec (.stepNop c tid) s = .next t ∧ memKept s t ∧ channelOnly s t c
        ∧ goesOn s t c tid (if (s.branchTrue c x (stepBcnd w)).1 then stepTgt w else x.ptr + 1)
        ∧ ((stepFlg w).getLsbD 2 = false → t.chans[c].pcs = s.chans[c].pcs)))
  ∧ (∀ (c : Ch) (tid : Nat) (x : Thread) (s : State) (w : BitVec 64), w = s.chans[c].taper.word x →
    (stands s c tid 7 x → ∃ t, exec (.fetch c tid) s = .next t ∧ memKept s t ∧ channelOnly s t c
        ∧ t.chans[c].cnt.steps = bump s.chans[c].cnt.steps
        ∧ (t.chans[c].taper.find tid).map (·.empty)
            = some (s.chans[c].fetchAddr s.rows x (tcmdAsrc (stepTcmd w))).isNone
        ∧ (t.chans[c].taper.find tid).map (·.addr)
            = some ((s.chans[c].fetchAddr s.rows x (tcmdAsrc (stepTcmd w))).getD x.addr))
    ∧ (stands s c tid 8 x → ∃ t, exec (.count c tid) s = .next t ∧ memKept s t ∧ channelOnly s t c
        ∧ goesOn s t c tid (if (s.branchTrue c x (stepBcnd w)).1 then stepTgt w else x.ptr + 1)
        ∧ t.chans[c].cnt.indexed = addCounts s.chans[c].cnt.indexed [(((stepTcmd w).extractLsb' 0 8).toNat, 1)])
    ∧ (stands s c tid 9 x → s.isGated c = false → (stepFlg w).getLsbD 2 = false →
        ∃ t, exec (.alert c tid) s = .next t ∧ memKept s t ∧ channelOnly s t c
        ∧ goesOn s t c tid (if (s.branchTrue c x (stepBcnd w)).1 then stepTgt w else x.ptr + 1)
        ∧ t.chans[c].regs.causes = (if ((stepTcmd w).extractLsb' 0 4).toNat < 10
            then s.chans[c].regs.causes ||| (1#10 <<< ((stepTcmd w).extractLsb' 0 4).toNat) else s.chans[c].regs.causes))
    ∧ (stands s c tid 10 x → ∃ t, exec (.report c tid) s = .next t ∧ memKept s t ∧ channelOnly s t c
        ∧ goesOn s t c tid (if (s.branchTrue c x (stepBcnd w)).1 then stepTgt w else x.ptr + 1)
        ∧ t.chans[c].taper.reported = (stepTcmd w).extractLsb' 0 8
        ∧ (t.chans[c].taper.find tid).map (·.reported) = some true))

/-- ISSUE, and ISSUEIF where its condition holds (Table 6-2): a TSV command that the thread's lease covers leaves as a frame and
its data-path action is posted (R10, R156, R166), but for a command that managed self-refresh does not carry (R121); a refresh
of an open bank is tried again (R135, R162); a step outside the lease is not executed and is counted, and the thread continues at
the next address (R166); ISSUEIF whose condition is false only moves to TGT. -/
def Obligations.TaperIssueSendsFrame : Prop :=
  ∀ (c : Ch) (tid : Nat) (x : Thread) (s : State) (w : BitVec 64), w = s.chans[c].taper.word x →
    (stands s c tid 1 x → ∃ t, exec (.issue c tid) s = .next t
        ∧ (tcmdTop (stepTcmd w) ≠ 10 ∨ noRepairDue s c → memKept s t)
        ∧ (s.issueForbidden c x w = true → goesOn s t c tid (x.ptr + 1)
            ∧ t.chans[c].tsv = s.chans[c].tsv ∧ t.chans[c].pcs = s.chans[c].pcs
            ∧ t.chans[c].cnt.leaseRefused = bump s.chans[c].cnt.leaseRefused)
        ∧ (s.issueForbidden c x w = false → s.issueWaits c x w = true →
            t.chans[c].taper = s.chans[c].taper ∧ t.chans[c].tsv = s.chans[c].tsv ∧ t.chans[c].pcs = s.chans[c].pcs)
        ∧ (s.issueForbidden c x w = false → s.issueWaits c x w = false →
            t.chans[c].cnt.steps = bump s.chans[c].cnt.steps
            ∧ (s.chans[c].carries (tcmdTop (stepTcmd w)) = true →
                ∀ f, tsvFrame (tcmdTop (stepTcmd w)) (tcmdX (stepTcmd w)) (tcmdSlot (stepTcmd w)) s.sids
                  (s.chans[c].stepAddr s.rows x (tcmdAsrc (stepTcmd w))) = some f → t.chans[c].tsv.frame = f)
            ∧ (s.chans[c].carries (tcmdTop (stepTcmd w)) = false → t.chans[c].tsv = s.chans[c].tsv)
            ∧ (dpcPcsel (stepDpc w) = 0 → ∀ act,
                chainOf (dpcDop (stepDpc w)) x (s.chans[c].stepAddr s.rows x (tcmdAsrc (stepTcmd w))) = some act →
                dpcDop (stepDpc w) ≠ 5 → dpcDop (stepDpc w) ≠ 6 →
                t.chans[c].pcs[(s.chans[c].stepAddr s.rows x (tcmdAsrc (stepTcmd w))).pc].calendar
                  = s.chans[c].pcs[(s.chans[c].stepAddr s.rows x (tcmdAsrc (stepTcmd w))).pc].calendar ++ [act])))
    ∧ (stands s c tid 2 x → ∃ t, exec (.issueif c tid) s = .next t
        ∧ (tcmdTop (stepTcmd w) ≠ 10 ∨ noRepairDue s c → memKept s t)
        ∧ ((s.branchTrue c x (stepBcnd w)).1 = true → s.issueForbidden c x w = false → s.issueWaits c x w = false →
            goesOn s t c tid (x.ptr + 1)
            ∧ (s.chans[c].carries (tcmdTop (stepTcmd w)) = true →
                ∀ f, tsvFrame (tcmdTop (stepTcmd w)) (tcmdX (stepTcmd w)) (tcmdSlot (stepTcmd w)) s.sids
                  (s.chans[c].stepAddr s.rows x (tcmdAsrc (stepTcmd w))) = some f → t.chans[c].tsv.frame = f))
        ∧ ((s.branchTrue c x (stepBcnd w)).1 = false → goesOn s t c tid (stepTgt w) ∧ t.chans[c].tsv = s.chans[c].tsv))

/-- Table banks and leases (R16, R17, R129, R164, R169, R170, R177): an armed swap at a boundary makes the verified shadow
bank active; the old bank that has drained is the unverified shadow; the scan restages a table with corrected words; the
oldest transfer image is taken with its number, and with no held write the area then holds the rest; from a full area a held
write takes the place that comes free; a lease that reaches its set end leaves no lease, and what its thread has not placed is
carried over. -/
def Obligations.TaperTablesAndImages : Prop :=
  ∀ (c : Ch) (s : State),
    (s.chans[c].taper.armed = true → s.chans[c].taper.shadow.verified = true → s.chans[c].taper.shadow.complete = true →
      s.chans[c].swapBoundary = true → s.wick.state ≠ .linkhold → s.chans[c].taper.stopped = false →
      ∃ t, exec (.tableSwap c) s = .next t ∧ memKept s t ∧ t.chans[c].taper.active = s.chans[c].taper.shadow
        ∧ t.chans[c].taper.armed = false
        ∧ (t.chans[c].taper.draining = true ↔ s.chans[c].taper.threads ≠ []))
    ∧ (s.chans[c].taper.draining = true → (s.chans[c].taper.threads.all (fun x => !x.oldBank)) = true →
      ∃ t, exec (.oldBankDrain c) s = .next t ∧ onlyChannel s t c ∧ memKept s t
        ∧ t.chans[c].taper.draining = false ∧ t.chans[c].taper.shadow.verified = false
        ∧ t.chans[c].taper.active = s.chans[c].taper.active)
    ∧ (∀ (corrected : List (Fin 1088)) (bad : Option (Fin 1088)), s.power.booted = true → corrected ≠ [] →
      s.chans[c].taper.armed = false →
      ∃ t, exec (.tableScan c corrected bad) s = .next t ∧ memKept s t
        ∧ t.chans[c].cnt.tableCe = bump s.chans[c].cnt.tableCe corrected.length
        ∧ (s.chans[c].taper.draining = false → t.chans[c].taper.armed = true
            ∧ t.chans[c].taper.shadow.verified = true ∧ t.chans[c].taper.shadow.bad = [])
        ∧ (s.chans[c].taper.draining = true → t.chans[c].taper.shadow = s.chans[c].taper.shadow
            ∧ t.chans[c].cnt.bankWrites = bump s.chans[c].cnt.bankWrites))
    ∧ (∀ (n : Nat) (p : Pc) (x : Option Inject) (rest : List (Nat × Transfer)),
      s.chans[c].taper.images = (n, .inject p x) :: rest →
      ∃ t, exec (.transferImageTake c) s = .next t ∧ onlyChannel s t c ∧ memKept s t
        ∧ (s.chans[c].taper.held = [] → t.chans[c].taper.images = rest)
        ∧ (∀ y more, s.chans[c].taper.held = y :: more → rest.length < 16 →
            t.chans[c].taper.images = rest ++ [(s.chans[c].taper.imageSeq + 1, y)] ∧ t.chans[c].taper.held = more)
        ∧ t.chans[c].taper.imageTaken = n ∧ t.chans[c].pcs[p].inject = x)
    ∧ (∀ (tid : Nat) (x : Thread) (l : Lease), s.chans[c].taper.find tid = some x → x.lease = some l → l.setEnd = true →
      ∃ t, exec (.leaseEnd c tid) s = .next t ∧ memKept s t
        ∧ t.chans[c].pcs[x.addr.pc] = s.chans[c].pcs[x.addr.pc].carry x.owed
        ∧ ∀ y, t.chans[c].taper.find tid = some y → y.lease = none)

/-! ## Wick -/

/-- Acquisition (R307 to R313, Table 11-3): a band search in SEARCH that finds its band leaves it in ACQUIRE, one that finds
none sets BAND_FAIL and is retried; the first lock leads to SETUP with SYNC_EN and to RUN without it; SYNC in SETUP realigns
the dividers, elsewhere it sets SYNC_IGN; SETUP times out to RUN with SYNC_MISSED. -/
def Obligations.WickAcquires : Prop :=
  (∀ (counts : List Nat) (rail : RailSide) (s : State), s.wick.state = .search →
    ∃ t, exec (.wickBandSearch counts rail) s = .next t ∧ t.chans = s.chans ∧ t.nv = s.nv
      ∧ (∀ b, bandFound counts (feedbackInteger s.wick.binAct) rail = some b →
          t.wick.state = .acquire ∧ t.wick.band = BitVec.ofNat 5 b ∧ t.wick.bandFail = false)
      ∧ (bandFound counts (feedbackInteger s.wick.binAct) rail = none → t.wick.state = .search ∧ t.wick.bandFail = true))
  ∧ (∀ s : State, s.wick.state = .search → s.wick.bandFail = true →
    ∃ t, exec .bandFailRetry s = .next t ∧ t.wick.state = .search ∧ t.wick.lock = false ∧ t.wick.outputs = false
      ∧ t = { s with wick := t.wick })
  ∧ (∀ s : State, s.wick.state = .acquire → s.wick.locked = false →
    ∃ t, exec .lockDeclared s = .next t ∧ t = { s with wick := t.wick } ∧ t.wick.lock = true ∧ t.wick.locked = true
      ∧ t.wick.rcMgmt = false
      ∧ t.wick.state = (if s.quince.shadow.syncEn then .setup else .run)
      ∧ (s.quince.shadow.syncEn = false → t.wick.outputs = true))
  ∧ (∀ (inv : Bool) (s : State), ∃ t, exec (.sync inv) s = .next t ∧ t = { s with wick := t.wick }
      ∧ (s.wick.state = .setup → s.quince.shadow.syncEn = true →
          t.wick.state = .run ∧ t.wick.syncDone = true ∧ t.wick.outputs = true
            ∧ t.wick.refInv = (s.wick.refInv || inv))
      ∧ (¬(s.wick.state = .setup ∧ s.quince.shadow.syncEn = true) →
          t = { s with wick := { s.wick with syncIgn := Vector.replicate 2 true } }))
  ∧ (∀ s : State, s.wick.state = .setup → ∃ t, exec .setupTimeout s = .next t ∧ t = { s with wick := t.wick }
      ∧ t.wick.state = .run ∧ t.wick.syncMissed = true ∧ t.wick.outputs = true)
  ∧ (∀ (per dep : BitVec 16) (s : State), s.wick.state = .run →
    ∃ t, exec (.spreadFollowerConverged per dep) s = .next t ∧ t = { s with wick := t.wick } ∧ t.wick.followOk = true
      ∧ t.wick.sscPeriod = per ∧ t.wick.sscDepth = dep)

/-- Holdover (R314 to R320): in RUN a loss of reference or of lock freezes the control word, sets PLL_HOLDOVER in
every channel that is not power-gated and counts the episode; tHOLD later the channels that are not failed enter link hold,
without a trip; a valid reference closes the loop in HOLDOVER; the lock ends the episode, in link hold after the channels
have left core-die self-refresh; after 1 ms in link hold the management clocks run from the RC oscillator. The change of
bin (R67, R134, R324): with every channel that is not failed in self-refresh, one BIN_REQ among them that is not BIN_ACT
and is within the part's maximum, and Wick in RUN, BIN_ACT takes the bin, the core dies their CORE_RL and Wick searches;
a bin above the maximum sets BIN_DENIED in every channel and changes nothing else. -/
def Obligations.WickHoldsOverAndChangesBin : Prop :=
  ((∀ s : State, s.wick.state = .run → s.wick.frozenAt = none → (s.wick.spread = false ∨ s.wick.followOk = true) →
    (∃ t, exec .lossOfReference s = .next t ∧ memKept s t ∧ t.wick.state = .holdover ∧ t.wick.lock = false
      ∧ t.wick.refOk = false ∧ t.wick.frozenAt = some s.timeUs ∧ t.wick.frac = t.wick.frozen
      ∧ t.wick.holds = bump s.wick.holds
      ∧ ∀ c : Ch, s.isGated c = false → t.chans[c].regs.causes.getLsbD causeHoldover = true)
    ∧ (∃ t, exec .lossOfLock s = .next t ∧ memKept s t ∧ t.wick.state = .holdover ∧ t.wick.lock = false
      ∧ t.wick.closed = s.wick.refOk
      ∧ ∀ c : Ch, s.isGated c = false → t.chans[c].regs.causes.getLsbD causeHoldover = true))
  ∧ (∀ s : State, s.wick.state = .holdover →
    (∃ t, exec .holdoverLimit s = .next t ∧ memKept s t ∧ t.wick.state = .linkhold ∧ t.wick.outputs = false
      ∧ ∀ c : Ch, (s.chans[c].regs.srAct = false → s.chans[c].isFailed = false → s.thermal.trip = false →
            t.chans[c].intake.held = true ∧ t.chans[c].tsv.clocks = false
              ∧ t.chans[c].tsv.coreSr = s.chans[c].tsv.coreSr ||| srefMask s.sids true 0)
          ∧ (s.chans[c].regs.srAct = true → t.chans[c].intake = s.chans[c].intake)
          ∧ (s.chans[c].isFailed = true ∨ s.thermal.trip = true → t.chans[c] = s.chans[c]))
    ∧ (s.wick.closed = false → s.holdForced = false →
      ∃ t, exec .refckRestored s = .next t ∧ memKept s t ∧ t.chans = s.chans ∧ t.wick.refOk = true ∧ t.wick.closed = true
        ∧ t.wick.state = .holdover)
    ∧ (s.wick.closed = true → ∃ t, exec .lockDeclared s = .next t ∧ memKept s t ∧ t.wick.state = .run
        ∧ t.wick.lock = true ∧ t.wick.frozenAt = none
        ∧ t.wick.lastHoldUs = s.timeUs - s.wick.frozenAt.getD s.timeUs))
  ∧ (∀ s : State, s.wick.state = .linkhold →
    (s.wick.lock = false → ∃ t, exec .linkholdRcMove s = .next t ∧ t = { s with wick := t.wick }
        ∧ t.wick.rcMgmt = true ∧ t.wick.state = .linkhold)
    ∧ (s.wick.lock = true → s.thermal.trip = false → ∃ t, exec .relockComplete s = .next t
        ∧ ((∀ c : Ch, noRepairDue s c) → memKept s t)
        ∧ t.wick.state = .run ∧ t.wick.frozenAt = none ∧ t.wick.outputs = true
        ∧ ∀ c : Ch, s.chans[c].regs.srAct = false → t.chans[c].tsv.coreSr = 0 ∧ t.chans[c].tsv.clocks = true)))
  ∧ (∀ (b : BitVec 2) (s : State), s.wick.state = .run → s.allAsleep = true → s.binAsked = (some b, true) → b ≠ s.wick.binAct →
    (b.toNat ≤ s.maxBin.toNat → ∃ t, exec .binChange s = .next t ∧ memKept s t ∧ t.wick.binAct = b
      ∧ t.wick.state = .search ∧ t.wick.outputs = false ∧ t.nv = s.nv
      ∧ (∀ l : Fin 16, s.dies[l].present = true → t.dies[l].coreRl = BitVec.ofNat 6 (coreRlOf b))
      ∧ ∀ (c : Ch) (p : Pc), t.chans[c].regs.binDenied = false ∧ t.chans[c].pcs[p].ready = false)
    ∧ (s.maxBin.toNat < b.toNat → ∃ t, exec .binChange s = .next t ∧ memKept s t ∧ t.wick = s.wick
      ∧ ∀ c : Ch, t.chans[c].regs.binDenied = true ∧ t.chans[c].pcs = s.chans[c].pcs))

/-! ## Thermal -/

/-- The trip (R296, R297, R161): the condition sets the latch and CATTRIP, stops every Taper and puts every channel that is
not failed into core-die self-refresh; with no word waiting for the fuse controller no eFuse bit changes. Lantern C then
writes the trip record once. -/
def Obligations.TripStopsStack : Prop :=
  (∀ (i : Fin 128) (r : BitVec 16) (again : Bool) (s : State), s.trips i r again = true →
    ∃ t, exec (.tripLatchSet i r again) s = .next t ∧ memKept s t ∧ t.thermal.trip = true ∧ t.thermal.cattrip = true
      ∧ t.thermal.tripBy = some (i, r) ∧ (s.fuseQueue = [] → t.nv.efuse = s.nv.efuse)
      ∧ ∀ c : Ch, t.chans[c].taper.stopped = true ∧ t.chans[c].taper.threads = []
          ∧ (s.chans[c].isFailed = false → t.chans[c].tsv.clocks = false
              ∧ t.chans[c].tsv.coreSr = s.chans[c].tsv.coreSr ||| srefMask s.sids true 0)
          ∧ ∀ p : Pc, t.chans[c].pcs[p].calendar = [] ∧ t.chans[c].pcs[p].staging = [])
  ∧ (∀ (x : Fin 128 × BitVec 16) (s : State), s.thermal.tripBy = some x → s.power.booted = true → s.quince.op = none →
    ∃ t, exec .tripRecord s = .next t ∧ t.thermal.tripBy = none ∧ t.thermal.trip = s.thermal.trip ∧ t.chans = s.chans
      ∧ (t.nv.ledger.getLast?.map (·.typ)) = some 0x0B)

/-- A sample tick reads every sensor present (R287, R289, R294); a second of the histograms counts the highest reading
of each unit (R302); the hourly fold takes the counts from the hub into the lifetime counters (R303). After a sample
tick, a SID present none of whose sensors is valid refreshes at 4x (R220), and TEMP[2:0] is 100b where a group that
governs it has no valid sensor (R292). -/
def Obligations.SamplesHistogramsAndBlindSensors : Prop :=
  ((∀ (base core : List Reading) (s : State), s.inReset = false →
    ∃ t, exec (.sampleTick base core) s = .next t ∧ memKept s t ∧ t.thermal.ticked = true
      ∧ (∀ i : Fin 128, s.sensorPresent i = true → t.thermal.sensors[i]
          = s.thermal.sensors[i].take (tickReading (base.map s.trimmed) (core.map s.trimmed) i.val))
      ∧ (∀ i : Fin 128, s.sensorPresent i = false → t.thermal.sensors[i] = s.thermal.sensors[i])
      ∧ t.thermal.trip = s.thermal.trip ∧ t.wick = s.wick)
  ∧ (∀ s : State, s.inReset = false →
    ∃ t, exec .histogramSecond s = .next t ∧ t = { s with thermal := t.thermal }
      ∧ t.thermal.second = Vector.replicate 5 none
      ∧ ∀ u : Fin 5, t.thermal.hist[u] = addSecond s.thermal.hist[u] s.thermal.second[u])
  ∧ (∀ s : State, s.mgmt.ready = true →
    ∃ t, exec .histogramFold s = .next t ∧ memKept s t ∧ t.thermal.hist = Vector.replicate 5 []
      ∧ ∀ u : Fin 5, t.nv.lifeHist[u] = addCounts s.nv.lifeHist[u] s.thermal.hist[u]))
  ∧ (∀ (base core : List Reading) (s t : State), s.inReset = false → exec (.sampleTick base core) s = .next t →
    (∀ sid : Sid, s.sidPresent sid = true → t.unitReading ⟨sid.val, by omega⟩ = none → t.thermal.mode[sid] = .x4)
    ∧ (t.thermal.blind t.tempGroups = true → t.thermal.temp = 4))

/-! ## Power and resets -/

/-- Rails and resets (R326, R327, R329, R336): a rail reports good; the power-on reset is released with every rail
good; a lost rail and a RESET_n pulse of 1 us or more reset the stack and keep the stores' contents, but for the word that the
fuse controller was to program; core dies that lose VDD2 or VPP lose their registers and soft mappings (R141); a pulse below
100 ns is ignored; the release samples the straps. The other resets and domains (R330, R332, R334, R339, R504, R511): a
wrapper reset loads BYPASS, a TAP reset selects IDCODE, CK activity powers a gated group up. -/
def Obligations.RailsResetsAndDomains : Prop :=
  ((∀ (r : Rail) (s : State), ∃ t, exec (.railGood r) s = .next t ∧ t.power.rails = s.power.rails.set (railIx r) true
      ∧ t = { s with power := { s.power with rails := t.power.rails } })
  ∧ (∀ s : State, s.power.rails = Vector.replicate 7 true →
    ∃ t, exec .porRelease s = .next t ∧ t = { s with power := { s.power with por := false } })
  ∧ (∀ (r : Rail) (s : State), ∃ t, exec (.railLost r) s = .next t ∧ t.power.por = true
      ∧ t.power.rails = s.power.rails.set (railIx r) false ∧ t.timeUs = 0 ∧ t.wick.state = .off
      ∧ t.thermal.trip = false ∧ (s.fuseQueue = [] → s.quince.op = none → t.nv.efuse = s.nv.efuse) ∧ t.mgmt.ready = false
      ∧ (∀ l : Fin 16, t.dies[l].antifuse = s.dies[l].antifuse)
      ∧ (r = .vdd2 ∨ r = .vpp →
          (∀ l : Fin 16, t.dies[l].coreRl = 0 ∧ t.dies[l].tsvRep = [] ∧ t.dies[l].pend = none)
          ∧ ∀ (c : Ch) (p : Pc), t.chans[c].pcs[p].sparesDue = [] ∧ ∀ m ∈ t.chans[c].pcs[p].spares, m.hard = true))
  ∧ (∀ (a : BitVec 2) (s : State), s.power.resetN = true →
    ∃ t, exec (.resetRelease a) s = .next t ∧ t = { s with power := { s.power with resetN := false, saddr := a } }))
  ∧ ((∀ s : State, s.inReset = false → ∃ t, exec .wrapperReset s = .next t ∧ t.wrapper.wir = 0 ∧ t.wrapper.refused = false
      ∧ t.wrapper.extest = false ∧ memKept s t ∧ t.nv = s.nv ∧ t.tap = s.tap)
  ∧ (∀ s : State, s.tapAlive = true → ∃ t, exec .tapReset s = .next t ∧ t = { s with tap := { s.tap with ir := 2 } })
  ∧ (∀ (g : Fin 8) (s : State), s.inReset = false → s.power.gated.getLsbD g.val = true →
    ∃ t, exec (.domainWake g) s = .next t ∧ t.power.gated.getLsbD g.val = false ∧ t = { s with power := t.power }
      ∧ ∀ h : Fin 8, h ≠ g → t.power.gated.getLsbD h.val = s.power.gated.getLsbD h.val))

/-- The power-up sequence of Table 12-6 (R113, R125, R134, R179, R215, R229, R336, R343): each step runs after the one before
it and marks that it has ended. -/
def Obligations.PowerUpSequence : Prop :=
  ∀ s : State, s.inReset = false →
    (s.fuse.loaded = true → s.power.optionLoaded = false → ∃ t, exec .optionShadowLoad s = .next t
      ∧ t.power.optionLoaded = true ∧ t.quince.shadow = s.storedOptions
      ∧ t.wick.binAct = (if s.maxBin.toNat < s.storedOptions.binDef.toNat then s.maxBin else s.storedOptions.binDef)
      ∧ t.wick.state = .search ∧ ∀ c : Ch, t.chans[c].regs.mr03 = s.storedOptions.chans[c].mr03)
    ∧ (s.fuse.loaded = true → ∃ t, exec .sramFill s = .next t ∧ t.power.sramFilled = true ∧ t.mgmt.sramBad = []
        ∧ t.chans = s.chans)
    ∧ (∀ okB, s.power.sramFilled = true → s.power.optionLoaded = true → s.power.booted = false →
        s.mgmt.recovery = false → s.nv.activeB = false → s.mgmt.otherImage = false → s.nv.imageA.status ≠ 2 →
        ∃ t, exec (.bootVerify true okB) s = .next t ∧ t.power.booted = true ∧ t.mgmt.runsB = false ∧ t.chans = s.chans)
    ∧ (s.thermal.trip = false →
      (s.power.booted = true → s.wick.state = .run → ∃ t, exec .tableLoad s = .next t ∧ t.power.tables = true ∧ memKept s t
        ∧ ∀ c : Ch, t.chans[c].tsv.clocks = (s.chans[c].tsv.clocks || !s.power.tables))
      ∧ (s.power.discovered = false → s.power.tables = true → (∀ c : Ch, s.chans[c].taper.active.verified = true) →
        s.discovered = true → ∃ t, exec .layerDiscovery s = .next t ∧ t.power.discovered = true
          ∧ t.layers = BitVec.ofNat 2 (s.found.length / 4 - 1) ∧ t.dens = s.dies[0].dens
          ∧ (∀ l : Fin 16, s.dies[l].present = true → t.dies[l].coreRl = BitVec.ofNat 6 (coreRlOf s.wick.binAct))
          ∧ ∀ (c : Ch) (p : Pc), t.chans[c].pcs[p].dram = s.chans[c].pcs[p].dram
              ∧ ∀ i : Fin 64, t.chans[c].pcs[p].banks[i].blind = t.rows)
      ∧ (∀ faults, s.power.journal = true → s.power.tsvTested = false →
        ∃ t, exec (.tsvTest faults) s = .next t ∧ t.power.tsvTested = true ∧ memKept s t
          ∧ ∀ c : Ch, t.chans[c].tsv.marginal = [] ∧ t.chans[c].tsv.trims = [])
      ∧ (s.power.tsvTested = true → s.power.fillDone = false → ∃ t, exec .powerUpFill s = .next t
        ∧ t.power.fillDone = true ∧ ∀ (c : Ch) (p : Pc), t.chans[c].pcs[p].filled
            = (s.chans[c].pcs[p].filled || (s.chans[c].pcs[p].managed && !s.quince.shadow.chans[c].waive)))
      ∧ (∀ c : Ch, s.power.fillDone = true → s.chans[c].isFailed = false →
        ∃ t, exec (.channelReady c) s = .next t ∧ onlyChannel s t c
          ∧ t.chans[c] = { s.chans[c] with ready := true }))

/-- A management-plane reset (R12, R25 to R27, R342, R343, R369): while a Lantern runs, a watchdog with no Quince
operation, a lockstep disagreement, a fetch trap and a data-load error each take the plane down with their cause; the
core-die memory, Wick and the trip latch are untouched. The management plane (R27, R363, R412): a restart of Dzixia
sets MGMT_READY and records what was owed; the telemetry snapshot leaves every channel's memory; the reset that starts
an activated image has cause 111b. -/
def Obligations.ManagementPlaneResetsAndRuns : Prop :=
  (∀ (i : Instr) (cause : BitVec 3) (s : State), s.lanternsRun = true →
    (∃ core, i = .watchdogExpiry core ∧ s.quince.op = none ∧ cause = watchdogCause core)
      ∨ (i = .lockstepDisagree ∧ cause = 4) ∨ (i = .fetchTrap ∧ cause = 5) ∨ (∃ a, i = .dataLoadError a ∧ cause = 6) →
    ∃ t, exec i s = .next t ∧ t.mgmt.ready = false ∧ t.mgmt.rstCause = cause ∧ t.power.booted = false
      ∧ t.host.mgmtRst = true ∧ t.manager.mgmtRst = true ∧ memKept s t ∧ t.wick = s.wick ∧ t.thermal = s.thermal
      ∧ (∀ c : Ch, t.chans[c].taper.armed = false ∧ t.chans[c].taper.images = []
          ∧ t.chans[c].taper.active = s.chans[c].taper.active ∧ t.chans[c].regs = s.chans[c].regs))
  ∧ ((∀ s : State, s.inReset = false → s.power.booted = true → s.mgmt.ready = false →
    ∃ t, exec .mgmtRestart s = .next t ∧ t.mgmt.ready = true ∧ t.mgmt.owed = [] ∧ t.quince.result = none ∧ memKept s t
      ∧ t.wick = s.wick ∧ t.thermal = s.thermal)
  ∧ (∀ s : State, s.serves = true → ∃ t, exec .telemetrySnapshot s = .next t ∧ memKept s t ∧ t.mgmt.ready = s.mgmt.ready
      ∧ t.mgmt.snapAt = s.timeUs ∧ t.thermal = s.thermal ∧ t.wick = s.wick ∧ t.nv.user = s.nv.user)
  ∧ (∀ s : State, s.mgmt.activation.isSome = true → ∃ t, exec .activationReset s = .next t ∧ t.mgmt.ready = false
      ∧ t.mgmt.rstCause = 7 ∧ t.mgmt.activation = none ∧ t.power.booted = false ∧ memKept s t))

/-! ## Training -/

/-- Training control (R48, R183 to R187): GO of an accepted stage sets BUSY and names the stage, and the pseudo-channels it
acts on leave RDY; in stage 2 the MX32 holds its RDQS. ABORT ends the running stage with the trims of its lanes as they
were and those of the others as they stand, and gives its duration (Table 7-2); FINISH sets RDY of a pseudo-channel whose
stage 7 passed and FAIL of one whose training failed. A running stage that completes sets DONE, clears BUSY, reports
its duration and keeps every byte of memory (R189). -/
def Obligations.TrainingControl : Prop :=
  ((∀ (c : Ch) (w : Word32) (s : State), w.getLsbD 30 = false → w.getLsbD 29 = false → s.chans[c].trn.busy = false →
    s.chans[c].goAccepted (w.extractLsb' 23 3).toNat
      (stageUnits (w.extractLsb' 23 3).toNat (w.extractLsb' 27 2)) = true →
    ∃ t, exec (.trnGo c w) s = .next t ∧ onlyChannel s t c ∧ memKept s t ∧ phasesKept s t c
      ∧ t.chans[c].trn.busy = true ∧ t.chans[c].trn.done = false ∧ t.chans[c].trn.last = w.extractLsb' 23 3
      ∧ (w.extractLsb' 23 3 = 2 → ∀ p : Pc, t.chans[c].pcs[p].drive = .rdqsStatic)
      ∧ ∀ p : Pc, (stageUnits (w.extractLsb' 23 3).toNat (w.extractLsb' 27 2)).getLsbD p.val = true →
          t.chans[c].pcs[p].ready = false)
  ∧ (∀ (c : Ch) (s : State), s.chans[c].trn.busy = true →
    ∃ t, exec (.trnAbort c) s = .next t ∧ onlyChannel s t c ∧ memKept s t ∧ phasesKept s t c
      ∧ t.chans[c].trn.busy = false ∧ t.chans[c].trn.done = true ∧ t.chans[c].trn.aborted = true
      ∧ t.chans[c].trn.elapsed = s.chans[c].trn.duration s.timeUs
      ∧ ∀ k : Fin 100, (s.chans[c].trn.trims k = false → t.chans[c].lanes[k] = s.chans[c].lanes[k])
          ∧ ∀ old, s.chans[c].trn.saved = some old → s.chans[c].trn.trims k = true →
              t.chans[c].lanes[k] = s.chans[c].lanes[k].returnTo old[k])
  ∧ (∀ (c : Ch) (s : State), s.chans[c].trn.busy = false →
    ∃ t, exec (.trnFinish c) s = .next t ∧ memKept s t
      ∧ ∀ p : Pc, s.chans[c].pcs[p].tsvFailed = false →
          ((s.chans[c].trn.bad 0 || s.chans[c].trn.bad ⟨p.val + 1, by omega⟩) = true →
            t.chans[c].pcs[p].failed = true ∧ t.chans[c].pcs[p].ready = false)
          ∧ (s.chans[c].trn.bad 0 = false → s.chans[c].trn.bad ⟨p.val + 1, by omega⟩ = false →
              (s.chans[c].trn.stageRes 7)[p.val + 1] = 0 →
              t.chans[c].pcs[p].ready = true ∧ t.chans[c].pcs[p].failed = false)))
  ∧ (∀ (c : Ch) (rep : StageReport) (s : State), s.chans[c].trn.busy = true →
    ∃ t, exec (.stageComplete c rep) s = .next t ∧ memKept s t
      ∧ t.chans[c].trn.busy = false ∧ t.chans[c].trn.done = true ∧ t.chans[c].trn.aborted = false
      ∧ t.chans[c].trn.elapsed = s.chans[c].trn.duration s.timeUs
      ∧ ∀ c' : Ch, c' ≠ c → t.chans[c'].trn = s.chans[c'].trn)

/-- Tracking and re-centring (R21, R38, R197, R198, R201 to R205): a window of one lane moves its live delay as the counts
say, and leaves a replaced lane; a lane held at its clamp counts a rejected result, another does not; the due flag sets once
stage 7 has passed and clears when a pass has gathered its 120 cycles in RUN, which captures the eyes; a plausible result
becomes the lane's pending target with the net steps since the capture; the transmit delay of a lane or of a group's RDQS
slews one code toward its target. -/
def Obligations.LinkTracksAndRecentres : Prop :=
  (∀ (c : Ch) (x : LaneCount) (s : State), s.mgmt.lab = false →
    ∃ t, exec (.trackingWindow c [x]) s = .next t ∧ onlyChannel s t c ∧ memKept s t
      ∧ t.chans[c].lanes[x.lane] = (if s.chans[c].map.replaced x.lane then s.chans[c].lanes[x.lane]
          else s.chans[c].lanes[x.lane].window x.early x.late)
      ∧ ∀ k : Fin 100, k ≠ x.lane → t.chans[c].lanes[k] = s.chans[c].lanes[k])
  ∧ (∀ (c : Ch) (k : Fin 100) (s : State),
    (s.chans[c].lanes[k].drift = 64 ∨ s.chans[c].lanes[k].drift = -64 → s.chans[c].map.replaced k = false →
      ∃ t, exec (.clampMs c k) s = .next t ∧ memKept s t ∧ t.chans[c].lanes[k].rejects = s.chans[c].lanes[k].rejects + 1
        ∧ t.chans[c].lanes[k].live = s.chans[c].lanes[k].live)
    ∧ (s.chans[c].lanes[k].drift ≠ 64 → s.chans[c].lanes[k].drift ≠ -64 → exec (.clampMs c k) s = .next s))
  ∧ (∀ (c : Ch) (s : State), s.chans[c].trn.passed7 = true →
    ∃ t, exec (.lmwDue c) s = .next t ∧ onlyChannel s t c ∧ t.chans[c].regs.lmwDue = true
      ∧ t.chans[c].pcs = s.chans[c].pcs)
  ∧ (∀ (c : Ch) (s : State), 120 ≤ s.chans[c].intake.gathered → s.wick.state = .run → s.mgmt.ready = true →
    ∃ t, exec (.recentringPassComplete c) s = .next t ∧ onlyChannel s t c ∧ t.chans[c].regs.lmwDue = false
      ∧ t.chans[c].intake.gathered = 0 ∧ t.chans[c].pcs = s.chans[c].pcs
      ∧ ∀ k : Fin 100, t.chans[c].lanes[k] = { s.chans[c].lanes[k] with since := 0 })
  ∧ (∀ (c : Ch) (e : EyeResult) (s : State), s.mgmt.ready = true → s.chans[c].lanes[e.lane].plausible e = true →
    s.chans[c].map.replaced e.lane = false →
    ∃ t, exec (.recentringResult c { lanes := [e] }) s = .next t ∧ onlyChannel s t c ∧ t.chans[c].lanes[e.lane].rejects = 0
      ∧ (t.chans[c].lanes[e.lane].pending).map (·.rx) = some e.rx
      ∧ t.chans[c].lanes[e.lane].net = s.chans[c].lanes[e.lane].since
      ∧ t.chans[c].lanes[e.lane].live = s.chans[c].lanes[e.lane].live
      ∧ ∀ k : Fin 100, k ≠ e.lane → t.chans[c].lanes[k] = s.chans[c].lanes[k])
  ∧ (∀ (c : Ch) (target : BitVec 12) (s : State),
    (∀ k : Fin 100, s.chans[c].lanes[k].txTarget = some target →
      ∃ t, exec (.txSlewStep c ⟨k.val, by omega⟩) s = .next t ∧ onlyChannel s t c
        ∧ (s.chans[c].lanes[k].liveTx.toNat < target.toNat → t.chans[c].lanes[k].liveTx = s.chans[c].lanes[k].liveTx + 1)
        ∧ (target.toNat < s.chans[c].lanes[k].liveTx.toNat → t.chans[c].lanes[k].liveTx = s.chans[c].lanes[k].liveTx - 1)
        ∧ ∀ j : Fin 100, j ≠ k → t.chans[c].lanes[j] = s.chans[c].lanes[j])
    ∧ (∀ g : Fin 4, s.chans[c].rdqs[g].target = some target →
      ∃ t, exec (.txSlewStep c ⟨100 + g.val, by omega⟩) s = .next t ∧ onlyChannel s t c ∧ t.chans[c].lanes = s.chans[c].lanes
        ∧ (s.chans[c].rdqs[g].live.toNat < target.toNat → t.chans[c].rdqs[g].live = s.chans[c].rdqs[g].live + 1)
        ∧ (target.toNat < s.chans[c].rdqs[g].live.toNat → t.chans[c].rdqs[g].live = s.chans[c].rdqs[g].live - 1)))

/-- TSV calibration (R216, R217): a report that the reads come late moves the read fine delay one code later while it
has range and no read chain is in flight; a TSV marked marginal with its group's spare free begins to move layer by layer. A
service bus (R136 to R138): DONE of a CFG_WR of CORE_RL takes effect in its layer alone and sends the next command; a
missing answer is repeated up to three times; at PENDING of an anti-fuse command the engine polls. -/
def Obligations.TsvCalibrationAndServiceBus : Prop :=
  ((∀ (c : Ch) (r : TsvReport) (s : State), s.chans[c].tsv.clocks = true → s.chans[c].taper.stopped = false →
    r.late = true → r.early = false → r.lasted = false → s.chans[c].trimFree r = true →
    0 ≤ s.chans[c].tsv.trim (readDelayIx r.group r.pos.val r.sid) →
    s.chans[c].tsv.trim (readDelayIx r.group r.pos.val r.sid) < 63 →
    ∃ t, exec (.tsvCalEval c [r]) s = .next t ∧ onlyChannel s t c ∧ memKept s t
      ∧ t.chans[c].tsv.trim (readDelayIx r.group r.pos.val r.sid)
        = s.chans[c].tsv.trim (readDelayIx r.group r.pos.val r.sid) + 1)
  ∧ (∀ (c : Ch) (g : Fin 16) (pos : Fin 18) (s : State), s.mgmt.ready = true →
    s.chans[c].tsv.marginal.contains (g, pos.castSucc) = true → s.chans[c].tsv.repair[g] = none →
    s.chans[c].tsv.move = none →
    ∃ t, exec (.tsvSpareMove c g pos) s = .next t ∧ memKept s t ∧ t.chans[c].tsv.move = some (g, pos, [], false)
      ∧ t.chans[c].tsv.repair = s.chans[c].tsv.repair ∧ t.nv = s.nv))
  ∧ (∀ (i : Fin 2) (x : SvcCmd) (s : State), s.buses[i].cmd = some x →
    (∀ f : BitVec 48, responseCrcOk f = true → responseLid f = x.lid → x.purpose = .config → x.pendingOp = false →
      s.dies[x.lid].pend = none →
      (responseStatus f = 0 → x.sop = 0 → x.addr = 1 → ∃ t, exec (.serviceResponse i f) s = .next t ∧ t.chans = s.chans
        ∧ t.dies[x.lid] = { s.dies[x.lid] with coreRl := x.wdata.extractLsb' 0 6 } ∧ t.buses[i] = (s.buses[i]).next
        ∧ ∀ l : Fin 16, l ≠ x.lid → t.dies[l] = s.dies[l])
      ∧ (responseStatus f = 1 → x.sop = 3 ∨ x.sop = 4 → ∃ t, exec (.serviceResponse i f) s = .next t ∧ t.chans = s.chans
        ∧ t.buses[i].sent = serviceFrame x.lid 8 0 0 ∧ (t.buses[i].cmd).map (·.pendingOp) = some true
        ∧ t.dies[x.lid].pend.isSome = true))
    ∧ (x.repeats < 3 → ∃ t, exec (.serviceTimeout i) s = .next t ∧ t.nv = s.nv
        ∧ (x.sop ≠ 5 → x.sop ≠ 6 → t.chans = s.chans)
        ∧ (t.buses[i].cmd).map (·.repeats) = some (x.repeats + 1)
        ∧ t.buses[i].sent = if x.pendingOp then serviceFrame x.lid 8 0 0 else serviceFrame x.lid x.sop x.addr x.wdata))

/-! ## Refresh, retention and scrubbing -/

/-- A 975 ns tick of an obliged pseudo-channel and a present SID (R223, R224): at a multiple of the mode's spacing the debt of
every bank of the SID rises by one advance and no other bank's does, and a debt that rises above the limit sets REF_URGENT. -/
def Obligations.TickAccruesDebt : Prop :=
  ∀ (c : Ch) (p : Pc) (sid : Sid) (s : State), s.chans[c].obliged p = true → s.sidPresent sid = true → s.isGated c = false →
    ∃ t, exec (.trefiAccrual c p sid) s = .next t ∧ onlyChannel s t c ∧ memKept s t ∧ phasesKept s t c
      ∧ t.chans[c].pcs[p].ticks[sid] = s.chans[c].pcs[p].ticks[sid] + 1
      ∧ (∀ i : Fin 64, t.chans[c].pcs[p].banks[i].debt = s.chans[c].pcs[p].banks[i].debt
          + if bankSid i = sid ∧ (s.chans[c].pcs[p].ticks[sid] + 1) % (s.thermal.mode[sid]).ticks = 0
            then (s.advance : Int) else 0)
      ∧ ((∃ i : Fin 64, s.aboveLimit c p i = false ∧ t.aboveLimit c p i = true) →
          t.chans[c].regs.causes.getLsbD causeRefUrgent = true)

/-- An internal REF of a pseudo-channel and SID that the MX32 refreshes (R251) leaves every bank's state and every byte of
memory but for the rows of the profiler's copies and restores; where nothing is carried over in the SID it advances the
cursor of every bank of the SID whose debt is within the limit by one advance, round the bank's rows (R222), and with the
Baltil table leaves its debt. -/
def Obligations.InternalRefreshAdvancesCursors : Prop :=
  ∀ (c : Ch) (p : Pc) (sid : Sid) (s : State), s.chans[c].selfRefreshes p sid = true → s.sidPresent sid = true →
    ∃ t, exec (.internalRef c p sid) s = .next t ∧ onlyChannel s t c ∧ memKeptButProfiler s t c p ∧ phasesKept s t c
      ∧ (s.chans[c].pcs[p].carriedIn sid = 0 → ∀ i : Fin 64, bankSid i = sid →
          s.chans[c].pcs[p].banks[i].debt ≤ s.limitRows s.chans[c] sid → s.chans[c].pcs[p].banks[i].cursor < s.rows →
          t.chans[c].pcs[p].banks[i].cursor = (s.chans[c].pcs[p].banks[i].cursor + s.advance) % s.rows
            ∧ (baltil s c → t.chans[c].pcs[p].banks[i].debt = s.chans[c].pcs[p].banks[i].debt))

/-- Profiling (R239, R240, R242): a batch that may start stands at step N with its groups; with its rows copied its test
interval ends; with its reads decoded, a step in which no row is in error goes to the next step with every group, the last
gives its groups code V, and a group in error at step S has code N and its rows restored; pending verdicts become durable as
records of the delta log. -/
def Obligations.ProfilingRuns : Prop :=
  (∀ (c : Ch) (p : Pc) (sid : Sid) (groups : List Nat) (s : State), s.mayProfile c p sid = true → groups ≠ [] →
    groups.length ≤ 16 → groups.Nodup → groups.all (groupOk s.rows sid s.chans[c].regs.adaptAct) = true →
    ∃ t, exec (.profileBatchStart c p sid groups) s = .next t ∧ onlyChannel s t c ∧ memKept s t ∧ phasesKept s t c
      ∧ (t.chans[c].pcs[p].batch).map (fun b => (b.sid, b.step, b.groups.map (·.index))) = some (sid, 0, groups))
  ∧ (∀ (c : Ch) (p : Pc) (b : ProfileBatch) (s : State), s.chans[c].pcs[p].batch = some b →
    (b.ended = false → b.groups.all (fun g => g.copied == 4) = true →
      ∃ t, exec (.profileVerdict c p .intervalEnd) s = .next t ∧ onlyChannel s t c ∧ memKept s t
        ∧ t.chans[c].pcs[p].batch = some { b with ended := true } ∧ t.chans[c].pcs[p].bins = s.chans[c].pcs[p].bins)
    ∧ (b.decided = true → b.groups.all (fun g => g.bad == 0) = true →
      (b.step < 2 → b.groups ≠ [] → ∃ t, exec (.profileVerdict c p .readsDecoded) s = .next t ∧ onlyChannel s t c ∧ memKept s t
        ∧ (t.chans[c].pcs[p].batch).map (fun x => (x.step, x.groups.map (·.index)))
            = some (b.step + 1, b.groups.map (·.index))
        ∧ t.chans[c].pcs[p].bins = s.chans[c].pcs[p].bins)
      ∧ (b.step = 2 → b.groups.all (fun g => groupOk s.rows b.sid s.chans[c].regs.adaptAct g.index) = true →
        ∃ t, exec (.profileVerdict c p .readsDecoded) s = .next t ∧ onlyChannel s t c ∧ t.chans[c].pcs[p].batch = none
        ∧ (∀ g ∈ b.groups, sparseGet t.chans[c].pcs[p].bins g.index = 2)
        ∧ ∀ a : Nat, accessReserved s.rows (a / 72) = false →
            t.chans[c].pcs[p].readByte t.rows a = s.chans[c].pcs[p].readByte s.rows a))
    ∧ (∀ g : ProfileGroup, b.decided = true → b.groups = [g] → g.bad ≠ 0 → b.step = 1 →
      ∃ t, exec (.profileVerdict c p .readsDecoded) s = .next t ∧ onlyChannel s t c ∧ t.chans[c].pcs[p].batch = none
        ∧ sparseGet t.chans[c].pcs[p].bins g.index = 0
        ∧ t.chans[c].pcs[p].restores = s.chans[c].pcs[p].restores ++ g.restores s.rows none))
  ∧ (∀ (c : Ch) (p : Pc) (s : State), s.power.booted = true → s.chans[c].pcs[p].undurable = true →
    s.chans[c].pcs[p].mapState ≠ .disabled →
    ∃ t, exec (.deltaLogWrite c p) s = .next t ∧ memKept s t ∧ t.chans[c].pcs[p].undurable = false
      ∧ (t.nv.deltaLog.drop s.nv.deltaLog.length).map (·.item)
          = s.chans[c].pcs[p].liveMap.delta (s.nv.logged (pcUnit c p))
      ∧ t.nv.deltaSeq = s.nv.deltaSeq + (s.chans[c].pcs[p].liveMap.delta (s.nv.logged (pcUnit c p))).length
      ∧ t.nv.user = s.nv.user)

/-- Maps (R243, R244): a generation that is due is numbered and erases the delta log, it holds the live maps that stand, and
an imported map becomes LOADED; the load at power-up leaves a pseudo-channel without adaptive refresh DISABLED and one
without a durable map in FALLBACK, and begins the load of the durable map that its reads of Quince give (which of them fail is
free, log 132), whose last image takes up its state. -/
def Obligations.MapsLoadAndGenerate : Prop :=
  (∀ s : State, s.power.booted = true → s.generationDue = true → ∃ t, exec .snapshotGeneration s = .next t
      ∧ t.nv.gen = s.nv.gen + 1 ∧ t.nv.deltaLog = [] ∧ t.nv.user = s.nv.user
      ∧ (∀ (c : Ch) (p : Pc) (e : Nat × BitVec 2), e ∈ s.chans[c].pcs[p].bins → e.1 < 393216) →
          ∀ (c : Ch) (p : Pc),
            (s.mapStands c p = true → t.chans[c].pcs[p].mapState = .loaded
              ∧ t.durable c p = some t.chans[c].pcs[p].liveMap)
            ∧ (s.mapStands c p = false → t.chans[c].pcs[p].mapState = s.chans[c].pcs[p].mapState)
            ∧ ∀ a : Nat, accessReserved s.rows (a / 72) = false →
                t.chans[c].pcs[p].readByte t.rows a = s.chans[c].pcs[p].readByte s.rows a)
  ∧ (∀ s : State, s.power.booted = true → ∃ t, exec .mapLoad s = .next t ∧ memKept s t
      ∧ (∀ k : Fin 3, t.nv.slots[k] = s.nv.slots[k] ∨ t.nv.slots[k] = none)
      ∧ t.nv.deltaLog.Sublist s.nv.deltaLog
      ∧ ∀ (c : Ch) (p : Pc),
          (s.chans[c].regs.adaptAct = false → t.chans[c].pcs[p].mapState = .disabled)
          ∧ (s.chans[c].regs.adaptAct = true → t.chans[c].pcs[p].mapState = .fallback ∧ t.chans[c].pcs[p].bins = [])
          ∧ (s.chans[c].regs.adaptAct = true → t.durable c p = none
              ∨ .mapDone p none ∈ t.chans[c].taper.images.map (·.2) ++ t.chans[c].taper.held))
  ∧ (∀ (c : Ch) (p : Pc) (n : Nat) (old : Option MapState) (rest : List (Nat × Transfer)) (s : State),
    s.chans[c].taper.images = (n, .mapDone p old) :: rest →
    ∃ t, exec (.transferImageTake c) s = .next t ∧ memKept s t ∧ t.chans[c].taper.imageTaken = n
      ∧ t.chans[c].pcs[p].mapState = mapStateOf (s.durable c p))

/-- Scrub credit is earned up to 64 while the lap clock runs, a lap beyond twice its target is overdue, a leak
interval takes one count from the bucket (R260, R262, R268); the SRAM sweep counts what it corrects (R281). A decoder
gap takes the oldest captured scrub or profiling read where no host read waits to be decoded (R265 to R267): an access
that needs no write-back leaves every byte of memory; one whose write-back the lease is too low for waits, and is counted as
deferred; a write-back stores what R267 says in that access and no other. -/
def Obligations.ScrubAndBucketClocks : Prop :=
  (∀ (c : Ch) (p : Pc) (s : State),
    (s.chans[c].pcs[p].lapRuns = true →
      (∃ t, exec (.scrubCredit c p) s = .next t ∧ onlyChannel s t c ∧ memKept s t
        ∧ t.chans[c].pcs[p].scrub.credit = min 64 (s.chans[c].pcs[p].scrub.credit + 1))
      ∧ (s.chans[c].pcs[p].scrub.overdue = false →
          ∃ t, exec (.scrubOverdue c p) s = .next t ∧ memKept s t ∧ t.chans[c].pcs[p].scrub.overdue = true))
    ∧ (∃ t, exec (.leakInterval c p) s = .next t ∧ onlyChannel s t c ∧ memKept s t
        ∧ t.chans[c].pcs[p].bucket.count = s.chans[c].pcs[p].bucket.count - 1
        ∧ t.chans[c].pcs[p].bucket.last = none)
    ∧ (∀ (n : Nat) (bad : List Nat), ∃ t, exec (.sramSweep n bad) s = .next t
        ∧ t = { s with mgmt := { s.mgmt with sramCe := bump s.mgmt.sramCe n, sramBad := s.mgmt.sramBad ++ bad } }))
  ∧ (∀ (c : Ch) (p : Pc) (env reread : LineEnv) (low : Bool) (x : Captured) (rest : List Captured) (s : State),
    s.chans[c].pcs[p].captured = x :: rest →
    (s.chans[c].pcs[p].tsvCapture ≠ [] → exec (.decoderGapDecode c p env reread low) s = .next s)
    ∧ (s.chans[c].pcs[p].tsvCapture = [] →
      (x.profiling = true ∨ scrubWriteback (s.chans[c].pcs[p].decodes s.rows x.access s.chans[c].regs.adaptAct)
          (s.gapRead c p x.access env x.owner).2.1 (s.gapRead c p x.access env x.owner).1.ods
          (s.gapRead c p x.access env x.owner).1.data (s.gapRead c p x.access env x.owner).1.check = none →
        ∃ t, exec (.decoderGapDecode c p env reread low) s = .next t ∧ memKept s t ∧ t.chans[c].pcs[p].captured = rest)
      ∧ (∀ w, x.profiling = false →
          scrubWriteback (s.chans[c].pcs[p].decodes s.rows x.access s.chans[c].regs.adaptAct)
            (s.gapRead c p x.access env x.owner).2.1 (s.gapRead c p x.access env x.owner).1.ods
            (s.gapRead c p x.access env x.owner).1.data (s.gapRead c p x.access env x.owner).1.check = some w →
        (low = true → ∃ t, exec (.decoderGapDecode c p env reread low) s = .next t ∧ onlyChannel s t c ∧ memKept s t
          ∧ t.chans[c].pcs[p].captured = x :: rest ∧ t.chans[c].pcs[p].errs = s.chans[c].pcs[p].errs
          ∧ t.chans[c].pcs[p].scrub.deferred = bump s.chans[c].pcs[p].scrub.deferred)
        ∧ (low = false → ∃ t, exec (.decoderGapDecode c p env reread low) s = .next t
          ∧ t.chans[c].pcs[p].captured = rest
          ∧ t.chans[c].pcs[p].scrub.writebacks = bump s.chans[c].pcs[p].scrub.writebacks
          ∧ (∀ k : Nat, k < 72 → t.chans[c].pcs[p].readByte t.rows (byteAddr x.access k) = accessByte w.1 w.2 k)
          ∧ ∀ a : Nat, a / 72 ≠ x.access →
              t.chans[c].pcs[p].readByte t.rows a = s.chans[c].pcs[p].readByte s.rows a))))

/-! ## Row repair and service buses -/

/-- A pending remap of a quiesced pseudo-channel whose spare is good starts its row copy (R273, R274); without a
release for 2 ms the row is written back, no byte of another row changes, and the operation ends. The journal replay (R276)
ends with its step of the power-up sequence marked; a gap in it sets REMAP_LOST. -/
def Obligations.RemapCopiesRowAndReplays : Prop :=
  ((∀ (c : Ch) (p : Pc) (e : Fin 8) (s : State), s.mgmt.ready = true → remapState s.chans[c].pcs[p].remap[e] = 1 →
    s.chans[c].pcs[p].qact = true → s.chans[c].pcs[p].op = none →
    s.chans[c].pcs[p].inTest s.rows (remapBank s.chans[c].pcs[p].remap[e]) (remapRow s.chans[c].pcs[p].remap[e]) = false →
    s.chans[c].pcs[p].badSpares.contains
      (spareKey (remapBank s.chans[c].pcs[p].remap[e]) (remapSpare s.chans[c].pcs[p].remap[e])) = false →
    ∃ t, exec (.remapApply c p e) s = .next t ∧ memKept s t ∧ t.chans[c].pcs[p].op = some (.rowCopy e)
      ∧ (t.chans[c].pcs[p].copy).map (·.entry) = some e ∧ t.chans[c].pcs[p].remap = s.chans[c].pcs[p].remap)
  ∧ (∀ (c : Ch) (p : Pc) (e : Fin 8) (s : State), s.chans[c].pcs[p].op = some (.rowCopy e) →
    ∃ t, exec (.rowCopyTimeout c p) s = .next t ∧ onlyChannel s t c ∧ t.chans[c].pcs[p].op = none
      ∧ t.chans[c].pcs[p].copy = none ∧ t.chans[c].pcs[p].remap = s.chans[c].pcs[p].remap
      ∧ ∀ (k : RowCopy) (a : Nat), s.chans[c].pcs[p].copy = some k →
          a / 1152 ≠ (remapBank s.chans[c].pcs[p].remap[k.entry]).val * 32768
            + (remapRow s.chans[c].pcs[p].remap[k.entry]).toNat →
          t.chans[c].pcs[p].readByte t.rows a = s.chans[c].pcs[p].readByte s.rows a))
  ∧ (∀ (lost : Option Word32) (s : State), s.power.booted = true → s.power.discovered = true →
    ∃ t, exec (.journalReplay lost) s = .next t ∧ t.power.journal = true ∧ t.thermal = s.thermal ∧ t.wick = s.wick
      ∧ (lost.isSome = true → t.mgmt.remapLost = true) ∧ t.nv.user = s.nv.user)

/-! ## The mailbox windows -/

/-- A claim (R350): out of stack reset an unclaimed window pair grants the tag one above the last, never 0; a claimed
one grants nothing; the claim ends with its expiry, and MGMT_RST is cleared in its own window alone (R348, R349). The
events of a session (R358, R361, R362, R370, R371): its lease expires and frees the slot but for GEN; a challenge
expires; a lockout ends; a turn passes on. -/
def Obligations.WindowClaimsAndSessionTimers : Prop :=
  (∀ (tr other : Transport) (s : State), other ≠ tr →
    (s.inReset = false → (s.window tr).claim = none →
      ∃ t, exec (.mbxClaim tr) s = .next t ∧ (t.window tr).claim = some (t.window tr).lastTag
        ∧ (t.window tr).lastTag = (if (s.window tr).lastTag = 0xFFFF then 1 else (s.window tr).lastTag + 1)
        ∧ (t.window tr).lastTag ≠ 0 ∧ (t.window tr).respValid = false ∧ t.window other = s.window other
        ∧ t.chans = s.chans ∧ t.nv = s.nv)
    ∧ ((s.window tr).claim ≠ none → exec (.mbxClaim tr) s = .next s)
    ∧ (∃ t, exec (.claimExpiry tr) s = .next t ∧ (t.window tr).claim = none ∧ (t.window tr).respValid = false
        ∧ t.window other = s.window other ∧ t.sessions = s.sessions ∧ t.chans = s.chans)
    ∧ (s.inReset = false → ∃ t, exec (.mgmtRstClear tr) s = .next t ∧ (t.window tr).mgmtRst = false
        ∧ t.window other = s.window other ∧ t.sessions = s.sessions ∧ t.chans = s.chans))
  ∧ (∀ (k : Slot) (s : State),
    (s.sessions[k].live = true → s.stalled = false → ∃ t, exec (.leaseExpiry k) s = .next t
      ∧ t.sessions[k] = { gen := s.sessions[k].gen } ∧ memKept s t ∧ t.nv.user = s.nv.user ∧ t.wick = s.wick)
    ∧ (∃ t, exec (.challengeExpiry k) s = .next t ∧ t.sessions[k] = { s.sessions[k] with challenge := none }
        ∧ t = { s with sessions := t.sessions } ∧ ∀ j : Slot, j ≠ k → t.sessions[j] = s.sessions[j])
    ∧ (∃ t, exec (.unlockLockoutEnd k) s = .next t
        ∧ t.sessions[k] = { s.sessions[k] with lockout := false, fails := 0 }
        ∧ t = { s with sessions := t.sessions } ∧ ∀ j : Slot, j ≠ k → t.sessions[j] = s.sessions[j])
    ∧ (∃ t, exec (.serviceTurnEnd k) s = .next t ∧ t.mgmt.turn = k ∧ t.chans = s.chans
        ∧ t.sessions[k].cmds = s.sessions[k].cmds ∧ t.sessions[k].parked = s.sessions[k].cmds.any (fun c => c.state == .started)))

/-- The doorbell (R351 to R353): with a tag that is not the claim's it is ignored and counted; SUBMIT answers the code of the
acceptance checks; COLLECT of a session with a completed response shows the oldest; RELEASE ends the claim and drops the
response collected. -/
def Obligations.DoorbellActs : Prop :=
  ∀ (tr : Transport) (tag : BitVec 16) (s : State), s.inReset = false →
    ((s.window tr).claim ≠ some tag → ∀ id : Byte,
      exec (.submit tr tag) s = .next { s with mgmt := { s.mgmt with doorbells := bump s.mgmt.doorbells } }
        ∧ exec (.collect tr tag id) s = .next { s with mgmt := { s.mgmt with doorbells := bump s.mgmt.doorbells } }
        ∧ exec (.release tr tag) s = .next { s with mgmt := { s.mgmt with doorbells := bump s.mgmt.doorbells } })
    ∧ ((s.window tr).claim = some tag →
      (∃ t, exec (.submit tr tag) s = .next t ∧ (t.window tr).accValid = true
        ∧ (t.window tr).accCode = (s.accept tr (s.window tr).frame).2.1
        ∧ (t.window tr).accSess = (s.accept tr (s.window tr).frame).2.2 ∧ t.chans = s.chans ∧ t.nv = s.nv)
      ∧ (∀ (id : Byte) (k : Slot) (x : Cmd) (r : Response), s.slotOf tr id = some k →
          s.sessions[k].oldest = some (x, r) →
          ∃ t, exec (.collect tr tag id) s = .next t ∧ (t.window tr).respValid = true
            ∧ (t.window tr).collected = some (k, x.seq) ∧ (t.window tr).resp = responseFrame id x r
            ∧ t.sessions = s.sessions ∧ t.chans = s.chans)
      ∧ (∀ id : Byte, (∀ k : Slot, s.slotOf tr id = some k → s.sessions[k].oldest = none) →
          ∃ t, exec (.collect tr tag id) s = .next t ∧ (t.window tr).respValid = false ∧ t.sessions = s.sessions
            ∧ t.chans = s.chans)
      ∧ (∃ t, exec (.release tr tag) s = .next t ∧ (t.window tr).claim = none)
      ∧ (∃ t, exec (.claimExpiry tr) s = .next t ∧ (t.window tr).claim = none ∧ t.sessions = s.sessions)
      ∧ (∀ (k : Slot) (seq : BitVec 16) (x : Cmd), (s.window tr).respValid = true →
          (s.window tr).collected = some (k, seq) → s.sessions[k].find seq = some x → x.opcode ≠ opClose →
          x.opcode ≠ opOpen → s.mgmt.activation = none →
          ∃ t, exec (.release tr tag) s = .next t ∧ (t.window tr).claim = none ∧ (t.window tr).respValid = false
            ∧ t.sessions[k].find seq = none ∧ (∀ j : Slot, j ≠ k → t.sessions[j] = s.sessions[j])
            ∧ t.chans = s.chans))

/-- Acceptance (R352, R357, R359, Table 13-9): a frame with reserved bits or an excess length is BAD_ARG, one whose CRC fails
is CRC_ERROR, any further one while the plane is not ready is BUSY; an OPEN with SESSION 0 and a free slot opens a session
with a new GEN that is never 0 (in the lowest free slot and numbered from 1: the model's choice, log 21). -/
def Obligations.AcceptanceOrder : Prop :=
  ∀ (tr : Transport) (f : Frame) (s : State),
    ((992 < f.len ∨ f.rsv = false) → (s.accept tr f).2.1 = stBadArg ∧ (s.accept tr f).1 = s)
    ∧ (f.len ≤ 992 → f.rsv = true → f.crcOk = false → (s.accept tr f).2.1 = stCrcError ∧ (s.accept tr f).1 = s)
    ∧ (f.len ≤ 992 → f.rsv = true → f.crcOk = true → s.mgmt.ready = false → (s.accept tr f).2.1 = stBusy)
    ∧ (f.len ≤ 992 → f.rsv = true → f.crcOk = true → s.mgmt.ready = true → s.stalled = false → f.opcode = opOpen →
        f.session = 0 → (∃ k : Slot, s.sessions[k].live = false) →
        ∃ k : Slot, (s.accept tr f).2.1 = stOk ∧ s.sessions[k].live = false
          ∧ (∀ j : Slot, j.val < k.val → s.sessions[j].live = true)
          ∧ (s.accept tr f).1.sessions[k].live = true ∧ (s.accept tr f).1.sessions[k].gen ≠ 0
          ∧ (s.accept tr f).1.sessions[k].transport = tr)

/-- A register without a row of its own (R8): out of stack reset TRN_CTL, the I2C settings, WICK_STAT's W1C bit and the words
of a request window take the write as their fields' types say. -/
def Obligations.RegisterWritesByFieldType : Prop :=
  ∀ s : State, s.inReset = false →
    (∀ (c : Ch) (w : Word32), w.getLsbD 31 = false → w.getLsbD 30 = false → w.getLsbD 29 = false →
      ∃ t, exec (.registerWrite (.trnCtl c w)) s = .next t ∧ onlyChannel s t c ∧ t.chans[c].pcs = s.chans[c].pcs
        ∧ t.chans[c].trn.pcsel = w.extractLsb' 27 2 ∧ t.chans[c].trn.warm = w.getLsbD 26
        ∧ t.chans[c].trn.stage = w.extractLsb' 23 3 ∧ t.chans[c].trn.busy = s.chans[c].trn.busy)
    ∧ (∀ b : Byte, ∃ t, exec (.registerWrite (.i2cCfg b)) s = .next t
        ∧ t = { s with i2c := { s.i2c with cfg := b.extractLsb' 0 3 } })
    ∧ (∀ b : Byte, ∃ t, exec (.registerWrite (.altAddr b)) s = .next t
        ∧ t = { s with i2c := { s.i2c with alt := b.extractLsb' 0 7 } })
    ∧ (∀ b : Byte, ∃ t, exec (.registerWrite (.sdaHold b)) s = .next t
        ∧ t = { s with i2c := { s.i2c with hold := b.extractLsb' 0 6 } })
    ∧ (∀ b : Byte, ∃ t, exec (.registerWrite (.i2cStat b)) s = .next t
        ∧ t = { s with i2c := { s.i2c with stat := s.i2c.stat &&& ~~~(b &&& 0x7E) } })
    ∧ (∀ (tr : Transport) (i : Fin 256) (w : Word32), ∃ t, exec (.registerWrite (.requestWord tr i w)) s = .next t
        ∧ (t.window tr).req[i] = w ∧ (∀ j : Fin 256, j ≠ i → (t.window tr).req[j] = (s.window tr).req[j])
        ∧ (t.window tr).claim = (s.window tr).claim ∧ t.sessions = s.sessions ∧ t.chans = s.chans)
    ∧ (∀ (tr : Transport) (w : Word32), ∃ t, exec (.registerWrite (.wickStat tr w)) s = .next t
        ∧ t = { s with wick := { s.wick with syncIgn := t.wick.syncIgn } }
        ∧ (w.getLsbD 23 = false → t = s) ∧ (w.getLsbD 23 = true → tr = .host → t.wick.syncIgn[0] = false
            ∧ t.wick.syncIgn[1] = s.wick.syncIgn[1]))

/-! ## Stores and fuses -/

/-- Quince and the ledger (R330, R334, R438, R443, R445, R446, R477, R479, R261): with the controller free the journal
compacts, every waiting record of the ledger is programmed, one that waits alone in the open sector, an idle domain switches
off with its lines emptied and a wake ends its stall; a patrol read of a page within its limits is counted; a wear-levelling
move starts the erase of the sector it empties; the power-up scan without a LIFE snapshot restarts the lifetime counters; an
hour is counted. A Quince operation ends (R436): where no baseline record waits the controller is free again; a failed one
makes nothing valid; a user-area write that completes puts its bytes into force and leaves every other byte of the area. -/
def Obligations.StoresAndQuince : Prop :=
  (∀ s : State,
    (s.nvFree = true → s.power.booted = true →
      (∃ t, exec .journalCompact s = .next t ∧ t = { s with nv := s.nv.compact })
      ∧ (∃ t, exec .ledgerPageProgram s = .next t ∧ (∀ r ∈ t.nv.ledger, r.stored = true)
          ∧ (∀ r : LedgerRec, s.nv.ledger.filter (fun y => !y.stored) = [r] → s.nv.ledgerPlace.isSome = true →
              t.nv.ledger = s.nv.ledger.map (fun y =>
                if y.seq = r.seq then { y with stored := true, place := s.nv.mainSector.val } else y))
          ∧ t = { s with nv := { s.nv with
              ledger := t.nv.ledger, sectors := t.nv.sectors, mainSector := t.nv.mainSector, erases := t.nv.erases
              journal := t.nv.journal } })
      ∧ (∀ (i : Fin 266) (n : Nat) (m : Margin) (x : Sector) (l : Fin 70), s.nv.sectors[i.val]? = some x →
          x.use = .mapped l → n ≤ 8 → m.atProgram ≤ 4 → m.atErase ≤ 4 →
          ∃ t, exec (.quincePatrol i n m true false) s = .next t
            ∧ t = { s with quince := { s.quince with reads := bump s.quince.reads } })
      ∧ (∀ (cold : Bool) (i j : Nat), s.nv.wearMove cold = some (i, j) → i < 255 →
          ∃ t, exec (.wearLevel cold) s = .next t ∧ (t.quince.op).map (·.kind) = some .eraseMain
            ∧ (t.quince.op).map (fun o => o.sector.map (·.val)) = some (some i) ∧ t.nv.user = s.nv.user
            ∧ t.chans = s.chans))
    ∧ (s.nvFree = true → ∃ t, exec .quinceIdleOff s = .next t
        ∧ t = { s with power := { s.power with quinceOff := true, quinceWaking := false }
                       quince := { s.quince with lines := [], targets := [] } })
    ∧ (s.power.quinceWaking = true → ∃ t, exec .quinceWakeComplete s = .next t ∧ t.power.quinceOff = false
        ∧ t.mgmt.stall = false ∧ t.nv.user = s.nv.user ∧ (s.mgmt.baseDue = false → t.nv = s.nv) ∧ t.chans = s.chans)
    ∧ (s.power.booted = true → s.mgmt.ready = false → ∃ t, exec (.ledgerScan none false) s = .next t
        ∧ t.mgmt.lifeUnknown = true ∧ t.nv.powerHours = 0 ∧ t.nv.ledger = s.nv.ledger ∧ t.nv.user = s.nv.user)
    ∧ (s.inReset = false → ∃ t, exec .powerHoursIncrement s = .next t ∧ t.nv.powerHours = s.nv.powerHours + 1
        ∧ memKept s t ∧ ∀ (c : Ch) (p : Pc), t.chans[c].pcs[p].ueNow = []))
  ∧ (∀ (o : NvOp) (s : State), s.quince.op = some o →
    (∀ (verified : Bool) (pulses : Nat) (margin : Margin), ∃ t, exec (.quinceOpComplete verified pulses margin) s = .next t
      ∧ (s.mgmt.baseDue = false → (∀ i, o.cont ≠ .baseErase i) →
          4 ≤ (t.nv.sectors.filter (fun x => x.use == .pool true)).length → t.quince.op = none)
      ∧ t.mgmt.stall = false
      ∧ memKept s t ∧ t.thermal = s.thermal ∧ t.wick = s.wick
      ∧ (verified = false ∨ failLimit o.kind < pulses → t.nv.user = s.nv.user))
    ∧ (∀ (addr : Nat) (bytes : List Byte) (tag : Nat), o.cont = .userWrite addr bytes tag →
      ∃ t, exec (.quinceOpComplete true 1 { atProgram := 0, atErase := 0 }) s = .next t
        ∧ (∀ k : Nat, k < bytes.length → (memFind t.nv.user (addr + k)).getD 0xFF = bytes.getD k 0)
        ∧ ∀ a : Nat, a < addr ∨ addr + bytes.length ≤ a → memFind t.nv.user a = memFind s.nv.user a))

/-- The eFuse (R459, R467): the shadow is loaded once after each stack reset, with every word resolved as R462 and R464 say;
the controller programs the next queued word: bits are added and never cleared, but for those that do not verify. -/
def Obligations.FusesLoadAndProgram : Prop :=
  (∀ (senses : List FuseSense) (s : State), s.inReset = false → s.fuse.loaded = false →
    ∃ t, exec (.fuseShadowLoad senses) s = .next t ∧ t.fuse.loaded = true ∧ t.nv.efuse = s.nv.efuse
      ∧ t.fuse.words = (loadShadow (s.sensedWith senses)).words
      ∧ t.fuse.invalid = (loadShadow (s.sensedWith senses)).invalid ∧ memKept s t)
  ∧ (∀ (senses : List FuseSense) (s : State), s.fuse.loaded = true → exec (.fuseShadowLoad senses) s = .next s)
  ∧ (∀ (w : Nat) (bits failed : BitVec 39) (s : State), (s.blow w bits failed).rawFuse w
      = s.rawFuse w ||| (bits &&& ~~~failed))

/-! ## Sideband and test ports -/

/-- Addressing the I2C target (R488, R491, R496): awake, it acknowledges its addresses and takes a command byte after
a write address; it leaves others unacknowledged; asleep, its own address wakes it unacknowledged with WAKE_NACK.
Command bytes of the I2C target where one is due (R489, R490, R492, R493): a pointer, a window offset, a claim with a
requester byte other than 00h, and an invalid byte, which is not acknowledged; then a byte-register write at the
pointer, or window words at the offset. -/
def Obligations.I2cTransfers : Prop :=
  (∀ (a : BitVec 7) (s : State), s.i2cWorks = true →
    (s.i2c.asleep = false → s.i2cMatch s.i2c.begin.cfgLive s.i2c.begin.altLive a = true →
      ∃ t, exec (.i2cAddress a false) s = .next t ∧ t.i2c.ack = true ∧ t.i2c.phase = .command ∧ t.i2c.active = true
        ∧ t = { s with i2c := t.i2c })
    ∧ (s.i2c.asleep = false → s.i2cMatch s.i2c.begin.cfgLive s.i2c.begin.altLive a = false → ∀ read : Bool,
      ∃ t, exec (.i2cAddress a read) s = .next t ∧ t.i2c.ack = false ∧ t.i2c.phase = .ignore ∧ t = { s with i2c := t.i2c })
    ∧ (s.i2c.asleep = true → s.i2c.active = false → s.i2cMatch s.i2c.cfg s.i2c.alt a = true → ∀ read : Bool,
      ∃ t, exec (.i2cAddress a read) s = .next t ∧ t.i2c.ack = false ∧ t.i2c.asleep = false
        ∧ t.i2c.stat = s.i2c.stat ||| 0x40 ∧ t = { s with i2c := t.i2c }))
  ∧ ((∀ s : State, s.i2c.phase = .command →
    (∀ b : BitVec 7, ∃ t, exec (.i2cPointerSet b) s = .next t ∧ t.i2c.pointer = b ∧ t.i2c.phase = .bytes
      ∧ t.i2c.windowLast = false ∧ t = { s with i2c := t.i2c })
    ∧ (∀ o : BitVec 16, ∃ t, exec (.windowOffsetSet o) s = .next t ∧ t.i2c.offset = o &&& 0xFFFC ∧ t.i2c.phase = .window
      ∧ t.i2c.windowLast = true ∧ t = { s with i2c := t.i2c })
    ∧ (∀ b : Byte, b ≠ 0 → s.manager.claim = none → ∃ t, exec (.i2cClaim b) s = .next t ∧ t.manager.claim.isSome = true
      ∧ t.i2c.claimWord = t.manager.claim.map (fun g => g.setWidth 32) ∧ t.i2c.ack = true ∧ t.host = s.host)
    ∧ (∃ t, exec (.i2cClaim 0) s = .next t ∧ t.i2c.ack = false ∧ t.manager = s.manager)
    ∧ (∀ b : Byte, 0x83 ≤ b.toNat → ∃ t, exec (.invalidCommandByte b) s = .next t ∧ t.i2c.ack = false
      ∧ t.i2c.phase = .ignore ∧ t = { s with i2c := t.i2c }))
  ∧ (∀ (b : Byte) (s : State), s.i2c.phase = .bytes → s.i2c.cfgLive.getLsbD 0 = false →
    ∃ t, exec (.i2cByteWrite b) s = .next t ∧ t.i2c.pointer = s.i2c.pointer + 1 ∧ t.i2c.ack = true
      ∧ t = { s with i2c := t.i2c }
      ∧ (s.i2c.pointer = 0x11 → t.i2c.cfg = b.extractLsb' 0 3) ∧ (s.i2c.pointer = 0x13 → t.i2c.hold = b.extractLsb' 0 6))
  ∧ (∀ (a b c d : Byte) (s : State), s.inReset = false → s.i2c.phase = .window → s.i2c.cfgLive.getLsbD 0 = false →
    s.i2c.part = [] → s.i2c.offset = 0x0100 →
    ∃ t, exec (.windowData false [a, b, c, d]) s = .next t ∧ t.i2c.offset = 0x0104
      ∧ t.manager.req[0] = BitVec.ofNat 32 (bytesToNat [a, b, c, d]) ∧ t.host = s.host ∧ t.chans = s.chans)
  ∧ (∀ (bytes : List Byte) (s : State), s.i2c.phase = .reading →
    ∃ t, exec (.windowData true bytes) s = .next t ∧ t.i2c.out.length = bytes.length ∧ t = { s with i2c := t.i2c }))

/-- The end of a transaction and the bus's faults (R494, R496 to R498, R501 to R503): STOP ends it and, without PEC, commits
what is held; a bus error, a line held low and a stretch set their bits of I2C_STAT; the target sleeps while no claim made
through it stands; swapped lines are suspected or swapped as the fuse says. -/
def Obligations.I2cEndsAndFaults : Prop :=
  ∀ s : State, s.i2cWorks = true →
    (s.i2c.active = true → s.i2c.held = [] → s.i2c.cfgLive.getLsbD 0 = false →
      ∃ t, exec (.i2cStop none) s = .next t ∧ t = { s with i2c := s.i2c.ended .idle })
    ∧ (s.i2c.active = true → (∃ t, exec .i2cBusError s = .next t ∧ t.i2c.stat = s.i2c.stat ||| 0x02 ∧ t.i2c.active = false
        ∧ t.i2c.held = [] ∧ t = { s with i2c := t.i2c })
      ∧ (∃ t, exec .i2cStretchTimeout s = .next t ∧ t.i2c.stat = s.i2c.stat ||| 0x20 ∧ t.i2c.sending = []
        ∧ t = { s with i2c := t.i2c }))
    ∧ (∀ sda : Bool, ∃ t, exec (.i2cLowTimeout sda) s = .next t
        ∧ t.i2c.stat = s.i2c.stat ||| (if sda then 0x08 else 0x04) ∧ t.i2c.active = false ∧ t = { s with i2c := t.i2c })
    ∧ (s.manager.claim = none → ∃ t, exec .i2cSleep s = .next t ∧ t.i2c.asleep = true ∧ t = { s with i2c := t.i2c })
    ∧ (∃ t, exec .i2cSwapDetect s = .next t ∧ t = { s with i2c := t.i2c }
        ∧ (s.swapEn = true → t.i2c.swapDue = true) ∧ (s.swapEn = false → t.i2c.suspect = true))
    ∧ (s.swapEn = true → s.i2c.swapDue = true → s.i2c.swapAt = none → ∃ t, exec .i2cSwap s = .next t
        ∧ t.i2c.swapped = !s.i2c.swapped ∧ t.i2c.swapDue = false ∧ t.i2c.swapAt = some s.timeUs ∧ t.chans = s.chans)

/-- The wrapper's instructions (R504 to R510): each out of stack reset loads its code; EXTEST acts only where no
pseudo-channel is ready and no stage runs, else it is refused and acts as BYPASS; LANE_REPAIR selects a unit; MBX_ACCESS at an
offset that is not a multiple of four makes no access; raw fuse access ends with FACTORY_CLOSE (the outcome of a raw program and
the capture of a raw read are the model's choice, log 53). -/
def Obligations.WrapperInstructions : Prop :=
  ∀ s : State, s.inReset = false →
    (∃ t, exec .w1500Bypass s = .next t ∧ t.wrapper.wir = 0 ∧ t.wrapper.refused = false ∧ memKept s t ∧ t.nv = s.nv)
    ∧ (∃ t, exec .deviceId s = .next t ∧ t.wrapper.wir = 1 ∧ t.wrapper.capture = BitVec.ofNat 64 s.deviceIdWord
        ∧ memKept s t ∧ t.nv = s.nv)
    ∧ (∀ v : BitVec 3808,
      (s.extestAllowed = true → (∃ t, exec (.extestRx v) s = .next t ∧ t.wrapper.wir = 2 ∧ t.wrapper.extest = true
          ∧ t.wrapper.wbr = clearCells v bumpOutput ∧ memKept s t)
        ∧ (∃ t, exec (.extestTx v) s = .next t ∧ t.wrapper.wir = 3 ∧ t.wrapper.extest = true
          ∧ t.wrapper.wbr = clearCells v bumpInput ∧ memKept s t))
      ∧ (s.extestAllowed = false → ∃ t, exec (.extestRx v) s = .next t ∧ exec (.extestTx v) s = .next t
          ∧ t.wrapper.wir = 0 ∧ t.wrapper.refused = true ∧ memKept s t))
    ∧ (∀ (wr : Bool) (o : BitVec 16) (w : Word32), o.toNat % 4 ≠ 0 → ∃ t, exec (.mbxAccess wr o w) s = .next t
        ∧ t.wrapper.wir = 4 ∧ t.wrapper.capture = mbxCapture true o 0 ∧ t.host = s.host ∧ t.sessions = s.sessions)
    ∧ (∀ (i : Fin 256) (w : Word32), ∃ t, exec (.mbxAccess true (BitVec.ofNat 16 (256 + 4 * i.val)) w) s = .next t
        ∧ t.wrapper.wir = 4 ∧ t.host.req[i] = w ∧ t.manager = s.manager ∧ t.sessions = s.sessions)
    ∧ (∀ (c : Ch) (u : Fin 8) (w : Word32), ∃ t, exec (.laneRepair false c u w) s = .next t ∧ t.wrapper.wir = 5
        ∧ t.wrapper.selCh = c ∧ t.wrapper.selUnit = u ∧ t.wrapper.capture = s.chans[c].laneCapture c u ∧ memKept s t)
    ∧ (∃ t, exec .tempRead s = .next t ∧ t.wrapper.wir = 6 ∧ memKept s t ∧ t.nv = s.nv
        ∧ t.wrapper.capture = BitVec.ofNat 64 (s.thermal.temp.toNat * 2 ^ 45 + s.thermal.trip.toNat * 2 ^ 44
          + s.hotStack.toNat * 2 ^ 16 + s.hotBase.toNat))
    ∧ (∀ w : Word32, w.getLsbD 31 = true → s.thermal.trip = false →
        s.askTest (w.extractLsb' 24 5).toFin ⟨(w.getLsbD 23).toNat, by cases w.getLsbD 23 <;> decide⟩
          (w.extractLsb' 29 2) (w.extractLsb' 19 4) = .starts →
        ∃ t, exec (.mbist w) s = .next t ∧ t.wrapper.wir = 7 ∧ t.wrapper.mbistState = 1
          ∧ t.wrapper.mbistHandle = t.mgmt.lastHandle)
    ∧ (∀ (w : Fin 512) (bits : BitVec 39), s.factoryClosed = false → s.thermal.trip = false →
        (∃ t, exec (.factory (.program w bits)) s = .next t ∧ t.wrapper.wir = 8
          ∧ t.rawFuse w.val = s.rawFuse w.val ||| bits ∧ t.nv.user = s.nv.user ∧ memKept s t)
        ∧ (∃ t, exec (.factory (.readFuse w)) s = .next t ∧ t.wrapper.capture = (s.rawFuse w.val).setWidth 64
          ∧ t.nv = s.nv))
    ∧ (s.factoryClosed = true → ∀ (w : Fin 512) (bits : BitVec 39), ∃ t, exec (.factory (.program w bits)) s = .next t
        ∧ t.wrapper.refused = true ∧ t.wrapper.wir = 0 ∧ t.nv = s.nv)

/-- The TAP (R511 to R513): while the trip latch is set CATTRIP is driven high under every instruction; under EXTEST, HIGHZ
and CLAMP neither the I2C target nor the TEMP[2:0] pins follow the machine. With its rails good each instruction selects its
code, and nothing outside the TAP, the I2C target and the model's own counter changes. -/
def Obligations.TapInstructions : Prop :=
  (∀ s : State, (s.thermal.trip = true → s.cattripPin = some true)
    ∧ (s.tap.ir = 0 ∨ s.tap.ir = 3 ∨ s.tap.ir = 4 → s.i2cWorks = false
        ∧ ∀ th : Thermal, ({ s with thermal := th } : State).tempPins = s.tempPins))
  ∧ ∀ s : State, s.tapAlive = true →
    (∃ t, exec .tapExtest s = .next t ∧ t.tap.ir = 0 ∧ t.tap.cells = s.tap.cells ∧ t.i2c = s.i2c.ended .ignore
      ∧ t = { s with tap := t.tap, i2c := t.i2c, fresh := t.fresh })
    ∧ (∀ v : BitVec 24, ∃ t, exec (.samplePreload v) s = .next t ∧ t.tap.ir = 1 ∧ t.tap.cells = v
      ∧ t = { s with tap := t.tap, fresh := t.fresh })
    ∧ (∃ t, exec .idcode s = .next t ∧ t = { s with tap := { s.tap with ir := 2, capture := s.idcodeWord } })
    ∧ (∃ t, exec .highz s = .next t ∧ t.tap.ir = 3 ∧ t.i2c = s.i2c.ended .ignore ∧ t = { s with tap := t.tap, i2c := t.i2c })
    ∧ (∃ t, exec .clamp s = .next t ∧ t.tap.ir = 4 ∧ t.i2c = s.i2c.ended .ignore ∧ t = { s with tap := t.tap, i2c := t.i2c })
    ∧ (∃ t, exec .tapBypass s = .next t ∧ t = { s with tap := { s.tap with ir := 15, capture := 0 } })

/-! ## JMP commands that report -/

/-- Identity, telemetry and clock (R363, R382, R386, R390, R397, R399, R406, R413, R418): each answers OK with its payload,
telemetry from the snapshot, and has no other effect. -/
def Obligations.JmpTelemetryAnswers : Prop :=
  ∀ (k : Slot) (x : Cmd) (s : State),
    (x.payload = [] →
      (served s k x 0x0100 → reports (.getId k) s k x (okResp s.idPayload))
      ∧ (served s k x 0x0102 → reports (.getCaps k) s k x (okResp capsPayload))
      ∧ (served s k x 0x0101 → reports (.getConfig k) s k x (snapResp s (s.snapOf 0x0101 0)))
      ∧ (served s k x 0x0200 → reports (.getHealth k) s k x (snapResp s (s.snapOf 0x0200 0)))
      ∧ (served s k x 0x0300 → reports (.getThermal k) s k x (snapResp s (s.snapOf 0x0300 0)))
      ∧ (served s k x 0x0904 → reports (.fwInfo k) s k x (snapResp s (s.snapOf 0x0904 0)))
      ∧ (served s k x 0x0B00 → reports (.clkStatus k) s k x (okResp (s.clkPayload s.sessions[k].transport))))
    ∧ (∀ (c : Ch) (m : Fin 4), m ≠ 0 → x.payload = [byteOf c.val, byteOf m.val, 0, 0] →
      (served s k x 0x0500 → reports (.retStatus k) s k x
        (snapResp s ((maskPcs m.val).flatMap (fun p => s.snapOf 0x0500 (2 * c.val + p.val)))))
      ∧ (served s k x 0x0601 → reports (.eccStatus k) s k x
        (snapResp s ((maskPcs m.val).flatMap (fun p => s.snapOf 0x0601 (2 * c.val + p.val)))))
      ∧ (served s k x 0x0604 → reports (.scrubStatus k) s k x
        (snapResp s ((maskPcs m.val).flatMap (fun p => s.snapOf 0x0604 (2 * c.val + p.val))))))
    ∧ (∀ (c : Ch) (part : Fin 3), x.payload = [byteOf c.val, byteOf part.val, 0, 0] → served s k x 0x0400 →
        reports (.calStatus k) s k x (snapResp s ([byteOf c.val, byteOf part.val, byteOf s.coefficients.toNat,
          byteOf (partLanes part.val).length] ++ s.snapOf 0x0400 (8 * c.val + 2 * part.val + s.coefficients.toNat))))
    ∧ (∀ (c : Ch) (p : Pc), x.payload = [byteOf c.val, byteOf p.val, 0, 0] → served s k x 0x0704 →
        reports (.spares k) s k x (snapResp s (s.snapOf 0x0704 (2 * c.val + p.val))))

/-- Lists and stores read (R375, R380, R383, R389, R391, R395, R402, R404, R408, R409, R414, R417): lane map, remap entries,
repair plan, test result, user-area bytes, ledger records, retention settings, activation threshold, fuse words and margins,
and the stored options answer OK with what the machine holds and have no other effect, but for the page lines that a read of
the user area loads (R431, R432). -/
def Obligations.JmpReadsAnswer : Prop :=
  ∀ (k : Slot) (x : Cmd) (s : State),
    (∀ c : Ch, x.payload = [byteOf c.val, 0, 0, 0] → served s k x 0x0405 → reports (.laneMap k) s k x
      (okResp ([byteOf c.val, 0, 0, 0] ++ s.chans[c].map.sg.toList.flatMap wordBytes ++ wordBytes s.chans[c].map.ca)))
    ∧ (∀ (c : Ch) (p : Pc), x.payload = [byteOf c.val, byteOf p.val, 0, 0] →
      (served s k x 0x0700 → reports (.remapList k) s k x (okResp (s.chans[c].pcs[p].remap.toList.flatMap wordBytes
          ++ [byteOf s.chans[c].pcs[p].cands.length, 0, 0, 0])))
      ∧ (served s k x 0x0702 → ∃ r, reports (.repairPlan k) s k x (okResp r)
          ∧ r.take 1 = [byteOf s.chans[c].pcs[p].cands.length]
          ∧ (s.chans[c].pcs[p].cands.length ≤ 16 → r.length = 84)))
    ∧ (∀ y ∈ s.mgmt.tests.find? (fun y => y.handle.toNat == fieldAt x.payload 0 2), shaped x.payload 4 [2, 3] = true →
      served s k x 0x0801 → reports (.selftestResult k) s k x (okResp (natBytes 2 y.handle.toNat ++ [y.status, 0]
        ++ wordBytes y.progress ++ wordBytes y.nfail ++ wordBytes y.first ++ wordBytes y.elapsed)))
    ∧ (∀ addr len : Nat, 1 ≤ len → len ≤ 976 → addr + len ≤ 0x100000 →
      x.payload = natBytes 4 addr ++ natBytes 2 len ++ [0, 0] → s.nvFree = true →
      (∀ a : Nat, a < 0x100000 → s.quince.executeOnly (62 * 0x20000 + a) = false) → served s k x 0x0900 →
      ∃ t, exec (.nvRead k) s = .next t ∧ (∀ j : Slot, j ≠ k → t.sessions[j] = s.sessions[j])
        ∧ t = { s with
            sessions := t.sessions, mgmt := { s.mgmt with turn := k }
            quince := { s.quince with
              lines := t.quince.lines, reads := t.quince.reads, busErrors := t.quince.busErrors } }
        ∧ answered t k x (okResp ([byteOf ((userPages addr len).any s.nv.userBlank).toNat, 0, 0, 0]
            ++ (List.range len).map (fun i => (memFind s.nv.user (addr + i)).getD 0xFF))))
    ∧ (∀ (start count classes : Nat) (recs : List LedgerRec) (a b : LedgerRec), 1 ≤ count → count ≤ 64 →
      classes < 0x4000 → start < 2 ^ 32 → x.payload = natBytes 4 start ++ natBytes 2 count ++ natBytes 2 classes →
      s.nvFree = true → served s k x 0x0201 → recs = s.selectRecords start count classes → recs.head? = some a →
      recs.getLast? = some b →
      reports (.ledgerRead k) s k x (okResp (natBytes 4 a.seq ++ natBytes 4 (b.seq + 1) ++ natBytes 2 recs.length ++ zeros 6
        ++ recs.flatMap (·.bytes))))
    ∧ (x.payload = zeros 8 → served s k x 0x0501 →
      reports (.retProfileRead k) s k x (okResp (natBytes 2 s.nv.pace ++ natBytes 2 s.nv.rlimit)))
    ∧ (x.payload = zeros 4 → served s k x 0x0505 true →
      reports (.rhCfgRead k) s k x (okResp (natBytes 2 s.chans[0].th ++ [0, 0])))
    ∧ (∀ w n : Nat, 1 ≤ n → n ≤ 64 → w + n ≤ 0x200 → x.payload = [0, 0] ++ natBytes 2 w ++ natBytes 2 n →
      ((List.range n).map (fun i => w + i)).all (fun i => !s.readLocked (regionOf i)) = true → served s k x 0x0A00 →
      reports (.fuseRead k) s k x (okResp (((List.range n).map (fun i => w + i)).flatMap
        (fun i => wordBytes (sparseGet s.fuse.words i)))))
    ∧ (∀ (sense : FuseSense) (w : Fin 512), x.payload = natBytes 2 w.val ++ [0, 0] → s.readLocked (regionOf w.val) = false →
      served s k x 0x0A03 → reports (.fuseMargin k sense) s k x
        (okResp (s.marginPayload w.val (s.sensedWith [sense] w.val).1 (s.sensedWith [sense] w.val).2)))
    ∧ (x.payload = zeros 12 →
      (served s k x 0x0403 → reports (.calVisRead k) s k x (okResp [byteOf s.coefficients.toNat,
        byteOf s.storedOptions.calVis.toNat, byteOf s.visLock.toNat, 0]))
      ∧ (served s k x 0x0504 → ∃ r, reports (.adaptiveRefRead k) s k x (okResp r) ∧ r.length = 8)
      ∧ (served s k x 0x0600 → reports (.eccModeRead k) s k x (okResp (s.storedOptions.chans.toList.flatMap
          (fun y => [y.mode.setWidth 8, byteOf y.waive.toNat] ++ natBytes 2 y.mr03.toNat)))))
    ∧ (x.payload = zeros 8 → served s k x 0x0B01 → ∃ t b, exec (.ditherSeedRead k) s = .next t
      ∧ answered t k x (okResp ([b, s.storedOptions.lockCnt.setWidth 8, byteOf s.storedOptions.syncEn.toNat,
          s.storedOptions.binDef.setWidth 8] ++ natBytes 3 s.storedOptions.seed.toNat ++ [0]))
      ∧ t.chans = s.chans ∧ t.nv = s.nv ∧ ∀ j : Slot, j ≠ k → t.sessions[j] = s.sessions[j])

/-! ## Sessions and the unlock -/

/-- The session's own commands (R358, R360, R361, R420, R421, R539): OPEN grants its lease and mask; CLOSE aborts what has not
committed and, once nothing is outstanding, answers; KEEPALIVE answers the time left; ABORT of a waiting command answers both;
LIST answers; EVENT_POLL removes the oldest records and clears LOST; EVENT_MASK sets the mask and answers the old one. -/
def Obligations.JmpSessionCommands : Prop :=
  ∀ (k : Slot) (x : Cmd) (s : State),
    (∀ lease mask : Nat, lease ≤ 3600 → mask < 2 ^ 32 → x.payload = natBytes 2 lease ++ natBytes 4 mask ++ [0, 0] →
      served s k x opOpen →
      ∃ t, exec (.open_ k) s = .next t ∧ onlySession s t k
        ∧ answered t k x (okResp ([transportCode s.sessions[k].transport, 0]
            ++ natBytes 2 (if lease = 0 then 10 else lease) ++ [4, 0, 0, 0]))
        ∧ t.sessions[k].lease = (if lease = 0 then 10 else lease) ∧ t.sessions[k].mask = BitVec.ofNat 32 mask)
    ∧ (x.payload = [] → servedUrgent s k x opClose →
      (∃ t, exec (.close k) s = .next t ∧ memKept s t ∧ ∀ y ∈ t.sessions[k].cmds, y.seq ≠ x.seq →
          y.state ≠ .queued ∧ y.state ≠ .started)
      ∧ ((∀ y ∈ s.sessions[k].cmds, y.seq ≠ x.seq → y.state = .done) → ∃ n, reports (.close k) s k x
          (okResp [byteOf s.sessions[k].cancelled, n, 0, 0])))
    ∧ (x.payload = [] → servedUrgent s k x opKeepalive → reports (.keepalive k) s k x
        (okResp (natBytes 2 (s.sessions[k].leaseLeft s.timeUs) ++ [0, 0])))
    ∧ (∀ y : Cmd, x.payload = natBytes 2 y.seq.toNat ++ [0, 0] → s.sessions[k].find y.seq = some y → y.seq ≠ x.seq →
      servedUrgent s k x opAbort →
      (y.state = .queued → ∃ t, exec (.abort k) s = .next t ∧ memKept s t ∧ answered t k x (okResp [])
          ∧ answered t k y { status := stAborted })
      ∧ (y.state = .committed ∨ y.state = .done → reports (.abort k) s k x { status := stAlreadyDone }))
    ∧ (x.payload = [] → served s k x 0x0005 → ∃ r, reports (.list k) s k x (okResp r)
        ∧ r.take 1 = [byteOf ((List.finRange 16).filter (fun j => s.sessions[j].live)).length])
    ∧ (∀ n : Fin 31, n ≠ 0 → x.payload = [byteOf n.val, 0, 0, 0] → served s k x 0x0C00 →
      ∃ t, exec (.eventPoll k) s = .next t ∧ onlySession s t k
        ∧ answered t k x (okResp ([byteOf (min n.val s.sessions[k].events.length), byteOf (min s.sessions[k].lost 255), 0, 0]
            ++ (s.sessions[k].events.take n.val).flatMap (·.bytes)))
        ∧ t.sessions[k].events = s.sessions[k].events.drop n.val ∧ t.sessions[k].lost = 0)
    ∧ (∀ mask : Nat, mask < 2 ^ 32 → x.payload = natBytes 4 mask → served s k x 0x0C01 →
      ∃ t, exec (.eventMask k) s = .next t ∧ onlySession s t k ∧ answered t k x (okResp (wordBytes s.sessions[k].mask))
        ∧ t.sessions[k].mask = BitVec.ofNat 32 mask ∧ t.sessions[k].events = s.sessions[k].events)

/-- The maintenance unlock (R370, R371, R422): a challenge hands out a nonce and remembers it; a response that verifies adds
its classes; one that does not is DENIED with DETAIL 08h, spends the challenge, grants nothing, and is the third failure
that locks the session out. -/
def Obligations.JmpUnlockGrants : Prop :=
  ∀ (k : Slot) (x : Cmd) (s : State),
    (x.payload = [] → s.sessions[k].lockout = false → served s k x 0x0D00 →
      ∃ t nonce, exec (.unlockChallenge k) s = .next t ∧ t.sessions[k].challenge = some nonce
        ∧ answered t k x (okResp (natBytes 32 nonce.toNat ++ natBytes 2 60 ++ [0, 0]))
        ∧ t.sessions[k].scope = s.sessions[k].scope ∧ t.chans = s.chans ∧ t.nv = s.nv)
    ∧ (∀ nonce : BitVec 256, s.sessions[k].challenge = some nonce → shaped x.payload 196 [97, 98, 99] = true →
      fieldAt x.payload 96 1 < 32 → served s k x 0x0D01 →
      ∃ t, exec (.unlockResponse k) s = .next t ∧ t.sessions[k].challenge = none ∧ memKept s t
        ∧ (s.unlockVerifies k nonce x.payload = true → s.labClose = true →
            t.sessions[k].scope = (BitVec.ofNat 5 (fieldAt x.payload 96 1) &&& 0x0F) ||| s.sessions[k].scope
              ∧ t.mgmt.lab = s.mgmt.lab ∧ answered t k x (okResp [t.sessions[k].scope.setWidth 8, 0, 0, 0]))
        ∧ (s.unlockVerifies k nonce x.payload = true → s.labClose = false →
            t.sessions[k].scope = BitVec.ofNat 5 (fieldAt x.payload 96 1) ||| s.sessions[k].scope
              ∧ (t.mgmt.lab = true ↔ s.mgmt.lab = true ∨ (BitVec.ofNat 5 (fieldAt x.payload 96 1)).getLsbD 4 = true)
              ∧ answered t k x (okResp [t.sessions[k].scope.setWidth 8, 0, 0, 0]))
        ∧ (s.unlockVerifies k nonce x.payload = false → answered t k x { status := stDenied, detail := 0x08 }
            ∧ t.sessions[k].scope = s.sessions[k].scope ∧ t.sessions[k].fails = s.sessions[k].fails + 1
            ∧ (2 ≤ s.sessions[k].fails → t.sessions[k].lockout = true)))

/-! ## JMP commands that set -/

/-- Settings (R207, R264, R268, R283, R385, R388, R395, R398, R400): THERMAL_CFG sets the thresholds it names; CAL_VIS sets the
mode that VISLOCK allows; RH_CFG, LEAKY_CFG, SCRUB_CFG and ECC_INJECT leave their image in the transfer areas, last, and no
byte of memory changes. -/
def Obligations.JmpSettingsTakeEffect : Prop :=
  ∀ (k : Slot) (x : Cmd) (s : State),
    (∀ (units : BitVec 5) (thr : Nat), units ≠ 0 → 1500 ≤ thr → thr ≤ 5200 →
      (∀ u : Fin 5, units.getLsbD u.val = true → s.unitPresent u = true) →
      x.payload = [units.setWidth 8, 0] ++ natBytes 2 thr → served s k x 0x0301 →
      ∃ t, exec (.thermalCfg k) s = .next t ∧ answered t k x (okResp []) ∧ t.chans = s.chans ∧ t.thermal = s.thermal
        ∧ ∀ u : Fin 5, t.mgmt.thr[u] = if units.getLsbD u.val then (thr : Int) else s.mgmt.thr[u])
    ∧ (∀ mode : Bool, calVisShape x.payload = true → fieldAt x.payload 0 1 = 1 → fieldAt x.payload 1 1 = mode.toNat →
      (mode = true → s.visLock = false) → served s k x 0x0403 true →
      ∃ t, exec (.calVisSet k) s = .next t ∧ t.mgmt.visible = mode ∧ t.chans = s.chans ∧ t.nv = s.nv
        ∧ answered t k x (okResp [byteOf (mode && !s.visLock).toNat, byteOf s.storedOptions.calVis.toNat,
            byteOf s.visLock.toNat, 0]))
    ∧ (∀ th : Nat, 500 ≤ th → th ≤ 16000 → s.areasFree (List.finRange 32) = true →
      x.payload = [1, 0] ++ natBytes 2 th → served s k x 0x0505 true →
      ∃ t, exec (.rhCfgSet k) s = .next t ∧ answered t k x (okResp (natBytes 2 th ++ [0, 0])) ∧ memKept s t
        ∧ ∀ c : Ch, imagesOf t c = imagesOf s c ++ [.threshold th])
    ∧ (∀ (c : Ch) (m : Fin 4) (n thr : Nat), m ≠ 0 → n ≤ 22 → 1 ≤ thr → thr < 65536 →
      s.areasFree [c] (maskPcs m.val).length = true →
      x.payload = [byteOf c.val, byteOf m.val, byteOf n, 0] ++ natBytes 2 thr → served s k x 0x0602 →
      ∃ t, exec (.leakyCfg k) s = .next t ∧ answered t k x (okResp []) ∧ memKept s t
        ∧ imagesOf t c = imagesOf s c ++ (maskPcs m.val).map (fun p => .leaky p n thr)
        ∧ ∀ c' : Ch, c' ≠ c → t.chans[c'] = s.chans[c'])
    ∧ (∀ (c : Ch) (m : Fin 4) (en : Bool) (target : Nat), m ≠ 0 → 1 ≤ target → target ≤ 720 →
      s.areasFree [c] (maskPcs m.val).length = true →
      x.payload = [byteOf c.val, byteOf m.val, byteOf en.toNat, 0] ++ natBytes 2 target → served s k x 0x0603 →
      ∃ t, exec (.scrubCfg k) s = .next t ∧ answered t k x (okResp []) ∧ memKept s t
        ∧ imagesOf t c = imagesOf s c ++ (maskPcs m.val).map (fun p => .scrub p en target)
        ∧ ∀ c' : Ch, c' ≠ c → t.chans[c'] = s.chans[c'])
    ∧ (∀ (w : Word32) (ctl : Byte), w = addrAt x.payload 0 → ctl = x.payload.getD 4 0 → w.getLsbD 0 = false →
      ctl.toNat < 16 → s.areasFree [addrCh w] = true → served s k x 0x0605 true →
      (ctl.getLsbD 3 = true → x.payload.length = 16 → ∃ t, exec (.eccInjectCancel k) s = .next t
        ∧ answered t k x (okResp []) ∧ memKept s t
        ∧ imagesOf t (addrCh w) = imagesOf s (addrCh w) ++ [.inject (addrPc w) none])
      ∧ (ctl.getLsbD 3 = false → shaped x.payload 16 [6, 7, 14, 15] = true →
        (ctl.getLsbD 0 = true ∨ s.addrOk w = true) → symsOk x.payload (fieldAt x.payload 5 1) = true →
        ∃ t a, exec (.eccInjectArm k) s = .next t ∧ answered t k x (okResp []) ∧ memKept s t
          ∧ imagesOf t (addrCh w) = imagesOf s (addrCh w) ++ [.inject (addrPc w) (some a)]
          ∧ a.access = (if ctl.getLsbD 0 then none else some (addrAccess w)) ∧ a.counted = ctl.getLsbD 1
          ∧ a.write = ctl.getLsbD 2 ∧ a.syms.length = fieldAt x.payload 5 1))

/-- Stored options and settings that Quince programs (R380, R384, R388, R391, R394, R396, R419): equal values answer and
program nothing; others begin one program, with the next number, that makes them valid; a mark and the retention settings
begin the program of their record, in an erased lower page. Until it completes no setting changes. -/
def Obligations.JmpStoresProgram : Prop :=
  ∀ (k : Slot) (x : Cmd) (s : State), s.nvFree = true → sectorsWhole s →
    (∀ (mask : Nat) (f : ChanOption → ChanOption) (o : OptionImage), o = s.storedOptions →
      (calVisShape x.payload = true → fieldAt x.payload 0 1 = 2 → fieldAt x.payload 1 1 ≤ 1 →
        mask = fieldAt x.payload 4 4 → 0 < mask → fieldAt x.payload 8 1 < 64 → fieldAt x.payload 9 1 < 4 →
        (f = fun y => { y with txeq1 := BitVec.ofNat 3 (fieldAt x.payload 8 1 / 8)
                               txeq0 := BitVec.ofNat 3 (fieldAt x.payload 8 1)
                               mr07 := BitVec.ofNat 2 (fieldAt x.payload 9 1) }) → served s k x 0x0403 true →
        ∃ t, exec (.calVisStore k) s = .next t ∧ t.chans = s.chans ∧ t.nv = s.nv
          ∧ (({ o with calVis := decide (fieldAt x.payload 1 1 = 1) } : OptionImage).onChannels mask f ≠ o →
            programs t k x .single (.options
              { ({ o with calVis := decide (fieldAt x.payload 1 1 = 1) } : OptionImage).onChannels mask f with seq := o.seq + 1 }))
          ∧ (({ o with calVis := decide (fieldAt x.payload 1 1 = 1) } : OptionImage).onChannels mask f = o →
            onlySession s t k ∧ ∃ r, answered t k x (okResp r)))
      ∧ (adaptiveShape x.payload = true → fieldAt x.payload 0 1 = 1 → mask = fieldAt x.payload 4 4 → 0 < mask →
        fieldAt x.payload 8 1 ≤ 1 → (f = fun y => { y with adapt := decide (fieldAt x.payload 8 1 = 1) }) →
        served s k x 0x0504 true →
        ∃ t, exec (.adaptiveRefStore k) s = .next t ∧ t.chans = s.chans ∧ t.nv = s.nv
          ∧ (o.onChannels mask f ≠ o → programs t k x .single (.options { o.onChannels mask f with seq := o.seq + 1 }))
          ∧ (o.onChannels mask f = o → onlySession s t k ∧ ∃ r, answered t k x (okResp r)))
      ∧ (eccModeShape x.payload = true → fieldAt x.payload 0 1 = 1 → mask = fieldAt x.payload 4 4 → 0 < mask →
        fieldAt x.payload 8 1 < 4 → fieldAt x.payload 9 1 ≤ 1 → fieldAt x.payload 10 2 < 0x2000 →
        (f = fun y => { y with mode := BitVec.ofNat 2 (fieldAt x.payload 8 1)
                               waive := decide (fieldAt x.payload 9 1 = 1)
                               mr03 := BitVec.ofNat 13 (fieldAt x.payload 10 2) }) → served s k x 0x0600 true →
        ∃ t, exec (.eccModeStore k) s = .next t ∧ t.chans = s.chans ∧ t.nv = s.nv
          ∧ (o.onChannels mask f ≠ o → programs t k x .single (.options { o.onChannels mask f with seq := o.seq + 1 }))
          ∧ (o.onChannels mask f = o → onlySession s t k ∧ ∃ r, answered t k x (okResp r))))
    ∧ (∀ o : OptionImage, o = s.storedOptions → shaped x.payload 8 [7] = true → fieldAt x.payload 0 1 = 1 →
      fieldAt x.payload 1 1 ≤ 6 → fieldAt x.payload 2 1 ≤ 1 → fieldAt x.payload 3 1 < 4 → served s k x 0x0B01 true →
      ∃ t, exec (.ditherSeedStore k) s = .next t ∧ t.chans = s.chans ∧ t.nv = s.nv
        ∧ ((o.lockCnt.toNat, o.syncEn.toNat, o.binDef.toNat, o.seed.toNat)
            ≠ (fieldAt x.payload 1 1, fieldAt x.payload 2 1, fieldAt x.payload 3 1, fieldAt x.payload 4 3) →
          programs t k x .single (.options { o with
            seq := o.seq + 1, lockCnt := BitVec.ofNat 3 (fieldAt x.payload 1 1)
            syncEn := decide (fieldAt x.payload 2 1 = 1), binDef := BitVec.ofNat 2 (fieldAt x.payload 3 1)
            seed := BitVec.ofNat 24 (fieldAt x.payload 4 3) })))
    ∧ (4 ≤ x.payload.length → x.payload.length ≤ 36 → served s k x 0x0202 →
      ∃ t, exec (.ledgerMark k) s = .next t ∧ t.chans = s.chans ∧ t.nv = s.nv.ledgerOpen
        ∧ programs t k x .lower (.mark (BitVec.ofNat 32 (fieldAt x.payload 0 4)) (x.payload.drop 4)
            (s.sessions[k].transport == .manager) (sessionId k s.sessions[k])))
    ∧ (∀ pace limit : Nat, 1 ≤ pace → pace ≤ 3600 → 1 ≤ limit → limit ≤ 720 →
      x.payload = [1, 0] ++ natBytes 2 pace ++ natBytes 2 limit ++ [0, 0] → served s k x 0x0501 →
      ∃ t, exec (.retProfileSet k) s = .next t ∧ t.chans = s.chans ∧ t.nv = { s.nv with sectors := t.nv.sectors }
        ∧ programs t k x .lower (.retProfile pace limit))

/-- RAW_CHECK on a quiesced Managed pseudo-channel with an empty transfer area (R282, R401): the write stores its 64 data and 8
check bytes as given and no other byte; the read answers them as stored, returned by the die (R133) and carried up, and stores
nothing. -/
def Obligations.JmpRawAccess : Prop :=
  ∀ (k : Slot) (x : Cmd) (s : State) (w : Word32), w = addrAt x.payload 4 → s.addrOk w = true →
    s.chans[addrCh w].pcs[addrPc w].managed = true → s.reservedRow s.chans[addrCh w] (addrSid w) (addrRow w) = false →
    s.chans[addrCh w].pcs[addrPc w].op = none → s.chans[addrCh w].pcs[addrPc w].qact = true →
    s.chans[addrCh w].taper.images = [] → s.chans[addrCh w].taper.held = [] → served s k x 0x0606 true →
    (shaped x.payload 80 [1, 2, 3] = true → fieldAt x.payload 0 1 = 0 →
      ∃ t, exec (.rawWrite k) s = .next t ∧ answered t k x (okResp [])
        ∧ (∀ j : Nat, j < 72 →
            t.chans[addrCh w].pcs[addrPc w].readByte t.rows (byteAddr (addrAccess w) j)
              = accessByte (dataOfBytes ((x.payload.drop 8).take 64)) (checkOfBytes ((x.payload.drop 72).take 8)) j)
        ∧ ∀ (c : Ch) (p : Pc) (a : Nat), (c = addrCh w ∧ p = addrPc w → a / 72 ≠ addrAccess w) →
            t.chans[c].pcs[p].readByte t.rows a = s.chans[c].pcs[p].readByte s.rows a)
    ∧ (shaped x.payload 8 [1, 2, 3] = true → fieldAt x.payload 0 1 = 1 → ∀ env : LineEnv,
      ∃ t r, exec (.rawRead k env) s = .next t ∧ answered t k x (okResp r) ∧ memKept s t
        ∧ ((s.dies[layerOf (addrCh w) (addrSid w)]).coreRl ≠ 0 → r.take 72 = rawBytes
            (s.chans[addrCh w].pcs[addrPc w].readData s.rows (addrAccess w)
              ^^^ (dieErrors env.cells ^^^ env.flips).extractLsb' 0 512)
            (s.chans[addrCh w].pcs[addrPc w].readCheck s.rows (addrAccess w)
              ^^^ (dieErrors env.cells ^^^ env.flips).extractLsb' 512 64)))

/-! ## JMP commands of calibration and transfer -/

/-- Calibration (R208 to R211, R218, R387, R389): CAL_SAVE answers the first chunk of the blob; CAL_RESTORE keeps its chunks and
an accepted blob becomes the warm baseline of its channels, no live trim changing; CAL_RUN mode 0 marks a pass due; modes 1
and 2 hold the quiesced pseudo-channels and post their requests; the end of a run whose request has been taken answers and
frees them. -/
def Obligations.JmpCalibrates : Prop :=
  ∀ (k : Slot) (x : Cmd) (s : State),
    (∀ mask : Nat, mask < 2 ^ 32 → mask ≠ 0 → (∀ c ∈ maskChs mask, s.chans[c].trn.ever7 = true) →
      x.payload = zeros 4 ++ natBytes 4 mask ++ zeros 8 → served s k x 0x0401 true →
      (s.coefficients = true → ∃ t, exec (.calSave k) s = .next t ∧ t.chans = s.chans ∧ t.nv = s.nv
        ∧ answered t k x (chunkOf s.sessions[k].capNo (s.coefficientBlob mask) 0))
      ∧ (∀ b, s.coefficients = false → s.handleBlob mask = some b → ∃ t, exec (.calSave k) s = .next t ∧ t.chans = s.chans
        ∧ t.nv = s.nv ∧ answered t k x (chunkOf s.sessions[k].capNo b 0)))
    ∧ (∀ (u : Upload) (last : Bool), uploads s k x restoreBuffer u last → u.spec.all (· == 0) = true → 68 ≤ u.total →
      u.total ≤ 27204 → served s k x opCalRestore true →
      ∃ t, exec (.calRestore k) s = .next t ∧ (∀ c : Ch, t.chans[c].lanes = s.chans[c].lanes) ∧ t.nv = s.nv
        ∧ (last = false → answered t k x (okResp []) ∧ t.sessions[k].upload = some u ∧ t.mgmt.restoreOwner = some k
            ∧ t.chans = s.chans)
        ∧ (last = true → t.sessions[k].upload = none ∧ t.mgmt.restoreOwner = none
            ∧ (s.blobOk u.bytes = false → answered t k x { status := stBadArg } ∧ t.chans = s.chans)
            ∧ (s.blobOk u.bytes = true → (∀ y ∈ blobChannels u.bytes, s.chans[y.2].trn.started3 = false) →
                answered t k x (okResp []) ∧ ∀ y ∈ blobChannels u.bytes, ∀ r, s.restoredOf u.bytes y = some r →
                  t.chans[y.2].trn.restored = some r)))
    ∧ (∀ (c : Ch) (m : Fin 4), m ≠ 0 →
      (x.payload = [byteOf c.val, byteOf m.val, 0, 0] → s.chans[c].taper.images = [] → s.chans[c].taper.held = [] →
        served s k x 0x0404 true →
        ∃ t, exec (.calRunMode0 k) s = .next t ∧ answered t k x (okResp []) ∧ t.chans[c].pcs = s.chans[c].pcs
          ∧ t.chans[c].regs.lmwDue = (s.chans[c].regs.lmwDue || s.chans[c].trn.passed7)
          ∧ ∀ c' : Ch, c' ≠ c → t.chans[c'] = s.chans[c'])
      ∧ (∀ mode : Fin 3, mode ≠ 0 → x.payload = [byteOf c.val, byteOf m.val, byteOf mode.val, 0] →
        (∀ p ∈ maskPcs m.val, s.chans[c].pcs[p].op = none ∧ s.chans[c].pcs[p].qact = true) →
        s.areasFree [c] (maskPcs m.val).length = true → served s k x 0x0404 true →
        ∃ t, exec (if mode = 1 then .calRunMode1 k else .calRunMode2 k) s = .next t ∧ begun t k x ∧ memKept s t
          ∧ (∀ p ∈ maskPcs m.val, t.chans[c].pcs[p].op = some (.calRun mode.val k x.seq))
          ∧ imagesOf t c = imagesOf s c ++ (maskPcs m.val).map (fun p => .calRun p mode.val)
          ∧ ∀ p : Pc, p ∉ maskPcs m.val → t.chans[c].pcs[p] = s.chans[c].pcs[p]))
    ∧ (∀ (c : Ch) (p : Pc) (mode : Nat), s.chans[c].pcs[p].op = some (.calRun mode k x.seq) →
      s.sessions[k].find x.seq = some x → x.state = .started →
      s.chans[c].runTaken mode (s.chans[c].runPcs k x.seq) = true →
      (∃ t, exec (.calRunEnd c p .rejected) s = .next t ∧ answered t k x { status := stCalRejected }
        ∧ t.chans[c].pcs[p].op = none ∧ t.chans[c].lanes = s.chans[c].lanes ∧ t.chans[c].tsv.trims = s.chans[c].tsv.trims)
      ∧ (∀ (failed : BitVec 2) (spares : List (Fin 16 × Fin 18)) (elapsed : BitVec 16),
        ∃ t, exec (.calRunEnd c p (.finished failed spares elapsed)) s = .next t ∧ t.chans[c].pcs[p].op = none
          ∧ answered t k x (okResp (runPayload mode (s.chans[c].runPcs k x.seq) failed spares elapsed))))

/-- Transfers (R246, R375 to R378, R392, R393, R410 to R412, R173, R174): an export answers its first chunk; chunks of an import,
a user-area write, an image and a table are kept under their owner; the last chunk begins its program, where an import's image
passes its tests; a table is held; activation begins the ACTIVE record of a verified image, and arms a verified table in the
channels that take it. -/
def Obligations.JmpTransfersAndActivates : Prop :=
  ∀ (k : Slot) (x : Cmd) (s : State),
    (∀ mask : Nat, mask < 2 ^ 64 → mask ≠ 0 → x.payload = zeros 4 ++ natBytes 8 mask ++ zeros 4 → served s k x 0x0502 →
      reports (.retMapExport k) s k x (chunkOf s.sessions[k].capNo (s.exportImage mask) 0))
    ∧ (∀ (u : Upload) (last : Bool), uploads s k x importBuffer u last → u.spec.all (· == 0) = true → s.nvFree = true →
      served s k x opMapImport false (some 3) →
      ∃ t, exec (.retMapImport k) s = .next t ∧ t.chans = s.chans
        ∧ (last = false → answered t k x (okResp []) ∧ t.sessions[k].upload = some u ∧ t.mgmt.importOwner = some k)
        ∧ (last = true → s.imageOk u.bytes = true → programs t k x .single (.mapImport u.bytes))
        ∧ (last = true → s.imageOk u.bytes = false → answered t k x { status := stBadArg } ∧ t.sessions[k].upload = none))
    ∧ (∀ (u : Upload) (last : Bool), uploads s k x nvBuffer u last → shaped u.spec 8 [4, 5, 6, 7] = true → 1 ≤ u.total →
      u.total ≤ 0x10000 → fieldAt u.spec 0 4 + u.total ≤ 0x100000 → s.poolShort = false → s.nvFree = true →
      served s k x opNvWrite →
      ∃ t, exec (.nvWrite k) s = .next t ∧ t.nv = s.nv ∧ t.chans = s.chans
        ∧ (last = false → answered t k x (okResp []) ∧ t.sessions[k].upload = some u ∧ t.mgmt.nvOwner = some k)
        ∧ (last = true → programs t k x .single (.userWrite (fieldAt u.spec 0 4) u.bytes (s.nv.ctag + 1))))
    ∧ (∀ (u : Upload) (last : Bool), uploads s k x imageArea u last → u.spec.all (· == 0) = true → fieldAt x.payload 8 1 = 0 →
      1 ≤ u.total → u.total ≤ 1572864 → s.poolShort = false → s.nvFree = true → served s k x opFwStage →
      ∃ t, exec (.fwStageImage k) s = .next t ∧ t.chans = s.chans ∧ t.nv.user = s.nv.user
        ∧ programs t k x .single (.imageChunk (!s.nv.activeB) last)
        ∧ (t.nv.image (!s.nv.activeB)).status = 2 ∧ (t.nv.image (!s.nv.activeB)).bytes = u.bytes
        ∧ t.nv.image s.nv.activeB = s.nv.image s.nv.activeB)
    ∧ (∀ (u : Upload) (last : Bool), uploads s k x tableArea u last → fieldAt x.payload 8 1 = 1 →
      (u.spec.drop 1).all (· == 0) = true → u.total = 8480 → served s k x opFwStage →
      ∃ t, exec (.fwStageTable k) s = .next t ∧ answered t k x (okResp []) ∧ t.chans = s.chans ∧ t.nv = s.nv
        ∧ t.mgmt.tableOwner = some k ∧ t.mgmt.table = (if last then some u.bytes else none)
        ∧ t.sessions[k].upload = if last then none else some u)
    ∧ (activateShape x.payload = true →
      (fieldAt x.payload 0 1 = 0 → (s.nv.image (!s.nv.activeB)).status = 3 → raises x = false →
        imageArea.heldByOther s k = false → s.nvFree = true → served s k x opFwActivate false (some 1) →
        ∃ t, exec (.fwActivateImage k) s = .next t ∧ t.chans = s.chans ∧ t.nv.user = s.nv.user
          ∧ (Config.ecdsaVerify (s.keySelected 0) (s.nv.image (!s.nv.activeB)).bytes [] = true →
              s.fuse.arc ≤ Config.imageSvn (s.nv.image (!s.nv.activeB)).bytes →
              programs t k x .single (.imageActive (!s.nv.activeB)))
          ∧ (Config.ecdsaVerify (s.keySelected 0) (s.nv.image (!s.nv.activeB)).bytes [] = true →
              Config.imageSvn (s.nv.image (!s.nv.activeB)).bytes < s.fuse.arc →
              answered t k x { status := stDenied, detail := 0x09 })
          ∧ (Config.ecdsaVerify (s.keySelected 0) (s.nv.image (!s.nv.activeB)).bytes [] = false →
              answered t k x { status := stDenied, detail := 0x08 }))
      ∧ (∀ b, s.mgmt.table = some b → fieldAt x.payload 0 1 = 1 → fieldAt x.payload 4 4 ≠ 0 → tableFormatOk b = true →
        tableArea.heldByOther s k = false → served s k x opFwActivate false (some 1) →
        ∃ t, exec (.fwActivateTable k) s = .next t ∧ memKept s t
          ∧ (tableDigestOk b = true → (s.mgmt.lab = true ∨ s.tableSigned b = true) → t.mgmt.table = none
              ∧ (∃ r, answered t k x (okResp r))
              ∧ ∀ c : Ch,
                  (c ∈ maskChs (fieldAt x.payload 4 4) → (fieldAt b 8 4).testBit c.val = true →
                    s.chans[c].shadowWritable = true →
                    t.chans[c].taper.armed = true ∧ t.chans[c].taper.shadow = bankOfImage b (s.tableSigned b))
                  ∧ t.chans[c].taper.active = s.chans[c].taper.active)
          ∧ (¬(tableDigestOk b = true ∧ (s.mgmt.lab = true ∨ s.tableSigned b = true)) →
              answered t k x { status := stDenied, detail := 0x08 } ∧ t.chans = s.chans)))

/-! ## JMP commands of repair, test and fuses -/

/-- Repairs (R270, R271, R277, R286, R403, R405): REMAP_ADD takes a free entry and the lowest spare, or answers that it knows
the row; a hard repair whose bits verify leaves the record in the spare's blank anti-fuse word and the entry empty, if no
candidate waits for one; lane and TSV repairs go to the lowest free record of their region. -/
def Obligations.JmpRepairs : Prop :=
  ∀ (k : Slot) (x : Cmd) (s : State),
    (∀ (w : Word32) (bank : Fin 64), w = addrAt x.payload 0 → bank = bankAt (addrSid w) (addrBank w) → x.payload.length = 4 →
      s.addrOk w = true → s.reservedRow s.chans[addrCh w] (addrSid w) (addrRow w) = false → served s k x 0x0701 →
      (s.chans[addrCh w].pcs[addrPc w].rowKnown bank (addrRow w) = true →
        reports (.remapAdd k) s k x (okResp [2, 255, 0, 0]))
      ∧ (∀ (e : Fin 8) (spare : Fin 4), s.chans[addrCh w].pcs[addrPc w].rowKnown bank (addrRow w) = false →
        (List.finRange 8).find? (fun e => remapState s.chans[addrCh w].pcs[addrPc w].remap[e] == 0) = some e →
        s.chooseSpare (addrCh w) (addrPc w) bank = some spare →
        ∃ t, exec (.remapAdd k) s = .next t ∧ answered t k x (okResp [0, byteOf e.val, 0, 0]) ∧ memKept s t
          ∧ t.chans[addrCh w].pcs[addrPc w].remap
            = s.chans[addrCh w].pcs[addrPc w].remap.set e (remapWord 1 bank spare 2 (addrRow w)))
      ∧ (s.chans[addrCh w].pcs[addrPc w].rowKnown bank (addrRow w) = false →
        ((List.finRange 8).find? (fun e => remapState s.chans[addrCh w].pcs[addrPc w].remap[e] == 0) = none
          ∨ s.chooseSpare (addrCh w) (addrPc w) bank = none) →
        ∃ t, exec (.remapAdd k) s = .next t ∧ answered t k x (okResp [1, 255, 0, 0]) ∧ memKept s t
          ∧ t.chans[addrCh w].pcs[addrPc w].remap = s.chans[addrCh w].pcs[addrPc w].remap
          ∧ (s.chans[addrCh w].pcs[addrPc w].cands.length < 16 →
              t.chans[addrCh w].pcs[addrPc w].cands.length = s.chans[addrCh w].pcs[addrPc w].cands.length + 1)))
    ∧ (∀ w : Word32, w = addrAt x.payload 0 → x.payload.length = 4 →
      (s.rows ≤ (addrRow w).toNat ∨ s.reservedRow s.chans[addrCh w] (addrSid w) (addrRow w) = true) → served s k x 0x0701 →
      reports (.remapAdd k) s k x { status := stBadArg })
    ∧ (∀ (c : Ch) (p : Pc) (e : Fin 8) (failBits w : Word32), w = s.chans[c].pcs[p].remap[e] →
      x.payload = [0, byteOf c.val, byteOf (128 * p.val + e.val), 0] → 2 ≤ remapState w →
      s.chans[c].pcs[p].op = none → s.chans[c].pcs[p].qact = true → s.spareWord c p w = 0 →
      s.busFailed.getLsbD (layerOf c (bankSid (remapBank w))).val = false → s.chans[c].taper.images = [] →
      s.chans[c].taper.held = [] → served s k x 0x0703 true (some 2) →
      ∃ t, exec (.repairCommitRow k failBits) s = .next t
        ∧ (failBits &&& recordOf (remapRow w) = 0 → (s.chans[c].pcs[p].cands = [] → t.chans[c].pcs[p].remap[e] = 0)
            ∧ t.spareWord c p w = recordOf (remapRow w) ∧ ∃ n, answered t k x (okResp [0, n, 0, 0]))
        ∧ (failBits.getLsbD 31 = true → (t.spareWord c p w).getLsbD 31 = false
            ∧ answered t k x { status := stNvFail, payload := [0, 3, 0, 0] }))
    ∧ (∀ (c : Ch) (unit : Fin 6) (w : Nat), x.payload = [1, byteOf c.val, byteOf unit.val, 0] →
      (s.chans[c].map.unit unit).en = true → s.writeLocked 2 = false → s.regionClosed 2 = false →
      s.freeRecord 2 = some w → served s k x 0x0703 true (some 2) →
      ∃ t, exec (.repairCommitLane k) s = .next t
        ∧ queuesFuse s t k x w (laneRecordWord c unit.val (s.chans[c].map.unit unit).pos))
    ∧ (∀ (c : Ch) (g : Fin 16) (pos : Fin 18) (w : Nat), x.payload = [2, byteOf c.val, byteOf g.val, 0] →
      s.chans[c].tsv.repair[g] = some pos → s.writeLocked 3 = false → s.regionClosed 3 = false →
      s.freeRecord 3 = some w → served s k x 0x0703 true (some 2) →
      ∃ t, exec (.repairCommitTsv k) s = .next t ∧ queuesFuse s t k x w (tsvRecordWord c g.val pos.val))

/-- Tests (R71, R407, R408, R514, R515): an accepted test answers its handle and holds the quiesce of its pseudo-channels,
the march clearing FILLED; its end enters the result and frees them; a release ends a test or a run, the run's command being
ABORTED. -/
def Obligations.JmpTestsRun : Prop :=
  (∀ (k : Slot) (x : Cmd) (c : Ch) (p : Pc) (sids : BitVec 4) (kind : Fin 3) (i : Instr) (s : State),
    x.payload = [byteOf c.val, byteOf p.val, byteOf kind.val, sids.setWidth 8] → s.chans[c].taper.images = [] →
    s.chans[c].taper.held = [] →
    s.askTest c p (BitVec.ofNat 2 kind.val) sids = .starts → served s k x 0x0800 true →
    (i = match kind with
      | 0 => .selftestMarch k
      | 1 => .selftestTsvLoopback k
      | 2 => .selftestDatapathLoopback k) →
    ∃ t, exec i s = .next t ∧ answered t k x (okResp (natBytes 2 (s.mgmt.lastHandle + 1).toNat))
      ∧ t.mgmt.lastHandle = s.mgmt.lastHandle + 1
      ∧ (t.mgmt.tests.getLast?).map (fun y => (y.handle, y.ch, y.pc, y.status)) = some (s.mgmt.lastHandle + 1, c, p, 0)
      ∧ (∀ q ∈ testPcs (BitVec.ofNat 2 kind.val) p, t.chans[c].pcs[q].op = some (.test (s.mgmt.lastHandle + 1)))
      ∧ (kind = 0 → t.chans[c].pcs[p].filled = false) ∧ (kind ≠ 0 → memKept s t)
      ∧ ∀ c' : Ch, c' ≠ c → t.chans[c'] = s.chans[c'])
  ∧ (∀ (k : Slot) (x : Cmd) (c : Ch) (p : Pc) (sids : BitVec 4) (kind : Fin 3) (i : Instr) (s : State),
    x.payload = [byteOf c.val, byteOf p.val, byteOf kind.val, sids.setWidth 8] →
    (sids = 0 ∨ ∃ d : Sid, sids.getLsbD d.val = true ∧ s.sidPresent d = false) → served s k x 0x0800 true →
    (i = match kind with
      | 0 => .selftestMarch k
      | 1 => .selftestTsvLoopback k
      | 2 => .selftestDatapathLoopback k) → reports i s k x { status := stBadArg })
  ∧ (∀ (c : Ch) (p : Pc) (rep : TestReport) (n : BitVec 16) (s : State), s.chans[c].pcs[p].op = some (.test n) →
    s.thermal.trip = false →
    ∃ t, exec (.selftestEnd c p rep) s = .next t ∧ t.chans[c].pcs[p].op = none ∧ memKept s t
      ∧ ∀ y ∈ t.mgmt.tests, y.handle = n → y.status = (if rep.nfail = 0 then 1 else 2) ∧ y.nfail = rep.nfail
          ∧ y.first = rep.first ∧ y.progress = rep.progress ∧ y.elapsed = rep.elapsed)
  ∧ (∀ (c : Ch) (p : Pc) (s : State), s.chans[c].pcs[p].releaseHeld = true →
    (∀ n : BitVec 16, s.chans[c].pcs[p].op = some (.test n) →
      ∃ t, exec (.testEndOnRelease c p) s = .next t ∧ t.chans[c].pcs[p].op = none ∧ memKept s t
        ∧ ∀ y ∈ t.mgmt.tests, y.handle = n → y.status = 3)
    ∧ (∀ (mode : Nat) (k : Slot) (x : Cmd), s.chans[c].pcs[p].op = some (.calRun mode k x.seq) →
      s.sessions[k].find x.seq = some x → x.state = .started →
      ∃ t, exec (.testEndOnRelease c p) s = .next t ∧ t.chans[c].pcs[p].op = none ∧ memKept s t
        ∧ answered t k x { status := stAborted } ∧ t.chans[c].lanes = s.chans[c].lanes))

/-- Fuse commands (R415, R416, R467, R471, R473): an allowed base-die word and a lock whose region is ready wait for the fuse
controller; a lock in force answers OK; a layer word takes the bits that verify; the controller blows the bits of the next
word that is 0, but those that do not verify, and answers its command. -/
def Obligations.JmpFusesProgram : Prop :=
  (∀ (k : Slot) (x : Cmd) (failBits : Word32) (s : State),
    (∀ (w : Fin 512) (bits : Word32), x.payload = [0, 0] ++ natBytes 2 w.val ++ natBytes 4 bits.toNat →
      (s.fuseAllowed w.val bits).1 = stOk → served s k x 0x0A01 false (some 0) →
      ∃ t, exec (.fuseProgram k failBits) s = .next t ∧ queuesFuse s t k x w.val bits)
    ∧ (∀ (l : Fin 16) (w : Nat) (bits : Word32), 0x400 ≤ w → w < 0x800 → l.val < s.layerCount →
      x.payload = [byteOf (l.val + 1), 0] ++ natBytes 2 w ++ natBytes 4 bits.toNat → s.busFailed.getLsbD l.val = false →
      served s k x 0x0A01 false (some 0) →
      ∃ t n, exec (.fuseProgram k failBits) s = .next t ∧ t.chans = s.chans
        ∧ answered t k x (fuseResp (decide (bits &&& ~~~sparseGet (s.dies[l]).antifuse w &&& failBits = 0))
            (wordBytes (bits &&& ~~~sparseGet (s.dies[l]).antifuse w &&& failBits) ++ [n, 0, 0, 0]))
        ∧ sparseGet (t.dies[l]).antifuse w = sparseGet (s.dies[l]).antifuse w
            ||| (bits &&& ~~~sparseGet (s.dies[l]).antifuse w &&& ~~~failBits)
        ∧ ∀ j : Fin 16, j ≠ l → t.dies[j] = s.dies[j])
    ∧ (∀ (r : Fin 6) (kind : Fin 2) (i : Instr), x.payload = [byteOf r.val, byteOf kind.val, 0, 0] →
      served s k x 0x0A02 false (some 0) → (i = if kind = 0 then .fuseLockWrite k else .fuseLockRead k) →
      (s.fuseBlown (Fin.ofNat 512 (0x1C0 + 2 * r.val + kind.val)) = true → ∃ t, exec i s = .next t
        ∧ answered t k x (okResp []) ∧ t.fuseQueue = s.fuseQueue ∧ t.nv.efuse = s.nv.efuse)
      ∧ (s.fuseBlown (Fin.ofNat 512 (0x1C0 + 2 * r.val + kind.val)) = false → s.lockReady r.val = true →
        ∃ t, exec i s = .next t ∧ queuesFuse s t k x (0x1C0 + 2 * r.val + kind.val) (lockValue r.val kind.val))
      ∧ (s.fuseBlown (Fin.ofNat 512 (0x1C0 + 2 * r.val + kind.val)) = false → s.lockReady r.val = false →
        ∃ t, exec i s = .next t ∧ answered t k x { status := stDenied, detail := 0x0C } ∧ t.fuseQueue = s.fuseQueue
          ∧ t.nv.efuse = s.nv.efuse ∧ t.chans = s.chans)))
  ∧ (∀ (failBits : BitVec 39) (j : FuseJob) (rest : List FuseJob) (s : State), s.fuseQueue = j :: rest → s.inReset = false →
    s.fuse.loaded = true → s.thermal.trip = false → s.rawFuse j.word.val = 0 →
    ∃ t, exec (.fuseWordProgram failBits) s = .next t ∧ t.rawFuse j.word.val = j.bits &&& ~~~failBits ∧ t.chans = s.chans
      ∧ (∀ w : Nat, w ≠ j.word.val → t.rawFuse w = s.rawFuse w)
      ∧ (j.owner = none → t.fuseQueue = rest)
      ∧ ∀ (k : Slot) (x : Cmd), j.owner = some (k, x.seq) → s.sessions[k].find x.seq = some x → x.state ≠ .done →
          (∀ y ∈ rest, y.owner ≠ j.owner) →
          (x.opcode = 0x0A01 → ∃ n, answered t k x
            (fuseResp (decide (j.bits &&& failBits = 0))
            (wordBytes (failWord j.bits failBits) ++ [n, 0, 0, 0])))
          ∧ (x.opcode = 0x0A02 → answered t k x
            (fuseResp (decide (j.bits &&& failBits = 0))
            ([]))))
end

