-- ==== Sys2Proof/Laws/State.lean ====
section
/-! SUPPORT. One lemma per field for each update of the state, a channel, a pseudo-channel and the ledger, so that no proof
unfolds a record update. -/

set_option Elab.async false

namespace Sys2Proof.Machine

/-! ## Updates of State -/

@[simp] theorem State.updCh_pending (s : State) (c : Ch) (f : Channel → Channel) :
    (s.updCh c f).pending = s.pending := rfl
@[simp] theorem State.updCh_timeUs (s : State) (c : Ch) (f : Channel → Channel) : (s.updCh c f).timeUs = s.timeUs := rfl
@[simp] theorem State.updCh_fresh (s : State) (c : Ch) (f : Channel → Channel) : (s.updCh c f).fresh = s.fresh := rfl
@[simp] theorem State.updCh_chans (s : State) (c : Ch) (f : Channel → Channel) :
    (s.updCh c f).chans = s.chans.set c (f s.chans[c]) := rfl
@[simp] theorem State.updCh_dies (s : State) (c : Ch) (f : Channel → Channel) : (s.updCh c f).dies = s.dies := rfl
@[simp] theorem State.updCh_buses (s : State) (c : Ch) (f : Channel → Channel) : (s.updCh c f).buses = s.buses := rfl
@[simp] theorem State.updCh_busFailed (s : State) (c : Ch) (f : Channel → Channel) :
    (s.updCh c f).busFailed = s.busFailed := rfl
@[simp] theorem State.updCh_layers (s : State) (c : Ch) (f : Channel → Channel) : (s.updCh c f).layers = s.layers := rfl
@[simp] theorem State.updCh_dens (s : State) (c : Ch) (f : Channel → Channel) : (s.updCh c f).dens = s.dens := rfl
@[simp] theorem State.updCh_wick (s : State) (c : Ch) (f : Channel → Channel) : (s.updCh c f).wick = s.wick := rfl
@[simp] theorem State.updCh_thermal (s : State) (c : Ch) (f : Channel → Channel) :
    (s.updCh c f).thermal = s.thermal := rfl
@[simp] theorem State.updCh_power (s : State) (c : Ch) (f : Channel → Channel) : (s.updCh c f).power = s.power := rfl
@[simp] theorem State.updCh_nv (s : State) (c : Ch) (f : Channel → Channel) : (s.updCh c f).nv = s.nv := rfl
@[simp] theorem State.updCh_fuse (s : State) (c : Ch) (f : Channel → Channel) : (s.updCh c f).fuse = s.fuse := rfl
@[simp] theorem State.updCh_fuseQueue (s : State) (c : Ch) (f : Channel → Channel) :
    (s.updCh c f).fuseQueue = s.fuseQueue := rfl
@[simp] theorem State.updCh_quince (s : State) (c : Ch) (f : Channel → Channel) : (s.updCh c f).quince = s.quince := rfl
@[simp] theorem State.updCh_host (s : State) (c : Ch) (f : Channel → Channel) : (s.updCh c f).host = s.host := rfl
@[simp] theorem State.updCh_manager (s : State) (c : Ch) (f : Channel → Channel) :
    (s.updCh c f).manager = s.manager := rfl
@[simp] theorem State.updCh_sessions (s : State) (c : Ch) (f : Channel → Channel) :
    (s.updCh c f).sessions = s.sessions := rfl
@[simp] theorem State.updCh_mgmt (s : State) (c : Ch) (f : Channel → Channel) : (s.updCh c f).mgmt = s.mgmt := rfl
@[simp] theorem State.updCh_i2c (s : State) (c : Ch) (f : Channel → Channel) : (s.updCh c f).i2c = s.i2c := rfl
@[simp] theorem State.updCh_wrapper (s : State) (c : Ch) (f : Channel → Channel) :
    (s.updCh c f).wrapper = s.wrapper := rfl
@[simp] theorem State.updCh_tap (s : State) (c : Ch) (f : Channel → Channel) : (s.updCh c f).tap = s.tap := rfl

@[simp] theorem State.updAll_pending (s : State) (f : Channel → Channel) : (s.updAll f).pending = s.pending := rfl
@[simp] theorem State.updAll_timeUs (s : State) (f : Channel → Channel) : (s.updAll f).timeUs = s.timeUs := rfl
@[simp] theorem State.updAll_fresh (s : State) (f : Channel → Channel) : (s.updAll f).fresh = s.fresh := rfl
@[simp] theorem State.updAll_chans (s : State) (f : Channel → Channel) : (s.updAll f).chans = s.chans.map f := rfl
@[simp] theorem State.updAll_dies (s : State) (f : Channel → Channel) : (s.updAll f).dies = s.dies := rfl
@[simp] theorem State.updAll_buses (s : State) (f : Channel → Channel) : (s.updAll f).buses = s.buses := rfl
@[simp] theorem State.updAll_busFailed (s : State) (f : Channel → Channel) : (s.updAll f).busFailed = s.busFailed := rfl
@[simp] theorem State.updAll_layers (s : State) (f : Channel → Channel) : (s.updAll f).layers = s.layers := rfl
@[simp] theorem State.updAll_dens (s : State) (f : Channel → Channel) : (s.updAll f).dens = s.dens := rfl
@[simp] theorem State.updAll_wick (s : State) (f : Channel → Channel) : (s.updAll f).wick = s.wick := rfl
@[simp] theorem State.updAll_thermal (s : State) (f : Channel → Channel) : (s.updAll f).thermal = s.thermal := rfl
@[simp] theorem State.updAll_power (s : State) (f : Channel → Channel) : (s.updAll f).power = s.power := rfl
@[simp] theorem State.updAll_nv (s : State) (f : Channel → Channel) : (s.updAll f).nv = s.nv := rfl
@[simp] theorem State.updAll_fuse (s : State) (f : Channel → Channel) : (s.updAll f).fuse = s.fuse := rfl
@[simp] theorem State.updAll_fuseQueue (s : State) (f : Channel → Channel) : (s.updAll f).fuseQueue = s.fuseQueue := rfl
@[simp] theorem State.updAll_quince (s : State) (f : Channel → Channel) : (s.updAll f).quince = s.quince := rfl
@[simp] theorem State.updAll_host (s : State) (f : Channel → Channel) : (s.updAll f).host = s.host := rfl
@[simp] theorem State.updAll_manager (s : State) (f : Channel → Channel) : (s.updAll f).manager = s.manager := rfl
@[simp] theorem State.updAll_sessions (s : State) (f : Channel → Channel) : (s.updAll f).sessions = s.sessions := rfl
@[simp] theorem State.updAll_mgmt (s : State) (f : Channel → Channel) : (s.updAll f).mgmt = s.mgmt := rfl
@[simp] theorem State.updAll_i2c (s : State) (f : Channel → Channel) : (s.updAll f).i2c = s.i2c := rfl
@[simp] theorem State.updAll_wrapper (s : State) (f : Channel → Channel) : (s.updAll f).wrapper = s.wrapper := rfl
@[simp] theorem State.updAll_tap (s : State) (f : Channel → Channel) : (s.updAll f).tap = s.tap := rfl

@[simp] theorem State.updPc_pending (s : State) (c : Ch) (p : Pc) (f : PseudoChannel → PseudoChannel) :
    (s.updPc c p f).pending = s.pending := rfl
@[simp] theorem State.updPc_timeUs (s : State) (c : Ch) (p : Pc) (f : PseudoChannel → PseudoChannel) :
    (s.updPc c p f).timeUs = s.timeUs := rfl
@[simp] theorem State.updPc_fresh (s : State) (c : Ch) (p : Pc) (f : PseudoChannel → PseudoChannel) :
    (s.updPc c p f).fresh = s.fresh := rfl
@[simp] theorem State.updPc_chans (s : State) (c : Ch) (p : Pc) (f : PseudoChannel → PseudoChannel) :
    (s.updPc c p f).chans = s.chans.set c (s.chans[c].updPc p f) := rfl
@[simp] theorem State.updPc_dies (s : State) (c : Ch) (p : Pc) (f : PseudoChannel → PseudoChannel) :
    (s.updPc c p f).dies = s.dies := rfl
@[simp] theorem State.updPc_buses (s : State) (c : Ch) (p : Pc) (f : PseudoChannel → PseudoChannel) :
    (s.updPc c p f).buses = s.buses := rfl
@[simp] theorem State.updPc_busFailed (s : State) (c : Ch) (p : Pc) (f : PseudoChannel → PseudoChannel) :
    (s.updPc c p f).busFailed = s.busFailed := rfl
@[simp] theorem State.updPc_layers (s : State) (c : Ch) (p : Pc) (f : PseudoChannel → PseudoChannel) :
    (s.updPc c p f).layers = s.layers := rfl
@[simp] theorem State.updPc_dens (s : State) (c : Ch) (p : Pc) (f : PseudoChannel → PseudoChannel) :
    (s.updPc c p f).dens = s.dens := rfl
@[simp] theorem State.updPc_wick (s : State) (c : Ch) (p : Pc) (f : PseudoChannel → PseudoChannel) :
    (s.updPc c p f).wick = s.wick := rfl
@[simp] theorem State.updPc_thermal (s : State) (c : Ch) (p : Pc) (f : PseudoChannel → PseudoChannel) :
    (s.updPc c p f).thermal = s.thermal := rfl
@[simp] theorem State.updPc_power (s : State) (c : Ch) (p : Pc) (f : PseudoChannel → PseudoChannel) :
    (s.updPc c p f).power = s.power := rfl
@[simp] theorem State.updPc_nv (s : State) (c : Ch) (p : Pc) (f : PseudoChannel → PseudoChannel) :
    (s.updPc c p f).nv = s.nv := rfl
@[simp] theorem State.updPc_fuse (s : State) (c : Ch) (p : Pc) (f : PseudoChannel → PseudoChannel) :
    (s.updPc c p f).fuse = s.fuse := rfl
@[simp] theorem State.updPc_fuseQueue (s : State) (c : Ch) (p : Pc) (f : PseudoChannel → PseudoChannel) :
    (s.updPc c p f).fuseQueue = s.fuseQueue := rfl
@[simp] theorem State.updPc_quince (s : State) (c : Ch) (p : Pc) (f : PseudoChannel → PseudoChannel) :
    (s.updPc c p f).quince = s.quince := rfl
@[simp] theorem State.updPc_host (s : State) (c : Ch) (p : Pc) (f : PseudoChannel → PseudoChannel) :
    (s.updPc c p f).host = s.host := rfl
@[simp] theorem State.updPc_manager (s : State) (c : Ch) (p : Pc) (f : PseudoChannel → PseudoChannel) :
    (s.updPc c p f).manager = s.manager := rfl
@[simp] theorem State.updPc_sessions (s : State) (c : Ch) (p : Pc) (f : PseudoChannel → PseudoChannel) :
    (s.updPc c p f).sessions = s.sessions := rfl
@[simp] theorem State.updPc_mgmt (s : State) (c : Ch) (p : Pc) (f : PseudoChannel → PseudoChannel) :
    (s.updPc c p f).mgmt = s.mgmt := rfl
@[simp] theorem State.updPc_i2c (s : State) (c : Ch) (p : Pc) (f : PseudoChannel → PseudoChannel) :
    (s.updPc c p f).i2c = s.i2c := rfl
@[simp] theorem State.updPc_wrapper (s : State) (c : Ch) (p : Pc) (f : PseudoChannel → PseudoChannel) :
    (s.updPc c p f).wrapper = s.wrapper := rfl
@[simp] theorem State.updPc_tap (s : State) (c : Ch) (p : Pc) (f : PseudoChannel → PseudoChannel) :
    (s.updPc c p f).tap = s.tap := rfl

@[simp] theorem State.updSession_pending (s : State) (k : Slot) (f : Session → Session) :
    (s.updSession k f).pending = s.pending := rfl
@[simp] theorem State.updSession_timeUs (s : State) (k : Slot) (f : Session → Session) :
    (s.updSession k f).timeUs = s.timeUs := rfl
@[simp] theorem State.updSession_fresh (s : State) (k : Slot) (f : Session → Session) :
    (s.updSession k f).fresh = s.fresh := rfl
@[simp] theorem State.updSession_chans (s : State) (k : Slot) (f : Session → Session) :
    (s.updSession k f).chans = s.chans := rfl
@[simp] theorem State.updSession_dies (s : State) (k : Slot) (f : Session → Session) :
    (s.updSession k f).dies = s.dies := rfl
@[simp] theorem State.updSession_buses (s : State) (k : Slot) (f : Session → Session) :
    (s.updSession k f).buses = s.buses := rfl
@[simp] theorem State.updSession_busFailed (s : State) (k : Slot) (f : Session → Session) :
    (s.updSession k f).busFailed = s.busFailed := rfl
@[simp] theorem State.updSession_layers (s : State) (k : Slot) (f : Session → Session) :
    (s.updSession k f).layers = s.layers := rfl
@[simp] theorem State.updSession_dens (s : State) (k : Slot) (f : Session → Session) :
    (s.updSession k f).dens = s.dens := rfl
@[simp] theorem State.updSession_wick (s : State) (k : Slot) (f : Session → Session) :
    (s.updSession k f).wick = s.wick := rfl
@[simp] theorem State.updSession_thermal (s : State) (k : Slot) (f : Session → Session) :
    (s.updSession k f).thermal = s.thermal := rfl
@[simp] theorem State.updSession_power (s : State) (k : Slot) (f : Session → Session) :
    (s.updSession k f).power = s.power := rfl
@[simp] theorem State.updSession_nv (s : State) (k : Slot) (f : Session → Session) : (s.updSession k f).nv = s.nv := rfl
@[simp] theorem State.updSession_fuse (s : State) (k : Slot) (f : Session → Session) :
    (s.updSession k f).fuse = s.fuse := rfl
@[simp] theorem State.updSession_fuseQueue (s : State) (k : Slot) (f : Session → Session) :
    (s.updSession k f).fuseQueue = s.fuseQueue := rfl
@[simp] theorem State.updSession_quince (s : State) (k : Slot) (f : Session → Session) :
    (s.updSession k f).quince = s.quince := rfl
@[simp] theorem State.updSession_host (s : State) (k : Slot) (f : Session → Session) :
    (s.updSession k f).host = s.host := rfl
@[simp] theorem State.updSession_manager (s : State) (k : Slot) (f : Session → Session) :
    (s.updSession k f).manager = s.manager := rfl
@[simp] theorem State.updSession_sessions (s : State) (k : Slot) (f : Session → Session) :
    (s.updSession k f).sessions = s.sessions.set k (f s.sessions[k]) := rfl
@[simp] theorem State.updSession_mgmt (s : State) (k : Slot) (f : Session → Session) :
    (s.updSession k f).mgmt = s.mgmt := rfl
@[simp] theorem State.updSession_i2c (s : State) (k : Slot) (f : Session → Session) :
    (s.updSession k f).i2c = s.i2c := rfl
@[simp] theorem State.updSession_wrapper (s : State) (k : Slot) (f : Session → Session) :
    (s.updSession k f).wrapper = s.wrapper := rfl
@[simp] theorem State.updSession_tap (s : State) (k : Slot) (f : Session → Session) :
    (s.updSession k f).tap = s.tap := rfl

@[simp] theorem State.updMgmt_pending (s : State) (f : Mgmt → Mgmt) : (s.updMgmt f).pending = s.pending := rfl
@[simp] theorem State.updMgmt_timeUs (s : State) (f : Mgmt → Mgmt) : (s.updMgmt f).timeUs = s.timeUs := rfl
@[simp] theorem State.updMgmt_fresh (s : State) (f : Mgmt → Mgmt) : (s.updMgmt f).fresh = s.fresh := rfl
@[simp] theorem State.updMgmt_chans (s : State) (f : Mgmt → Mgmt) : (s.updMgmt f).chans = s.chans := rfl
@[simp] theorem State.updMgmt_dies (s : State) (f : Mgmt → Mgmt) : (s.updMgmt f).dies = s.dies := rfl
@[simp] theorem State.updMgmt_buses (s : State) (f : Mgmt → Mgmt) : (s.updMgmt f).buses = s.buses := rfl
@[simp] theorem State.updMgmt_busFailed (s : State) (f : Mgmt → Mgmt) : (s.updMgmt f).busFailed = s.busFailed := rfl
@[simp] theorem State.updMgmt_layers (s : State) (f : Mgmt → Mgmt) : (s.updMgmt f).layers = s.layers := rfl
@[simp] theorem State.updMgmt_dens (s : State) (f : Mgmt → Mgmt) : (s.updMgmt f).dens = s.dens := rfl
@[simp] theorem State.updMgmt_wick (s : State) (f : Mgmt → Mgmt) : (s.updMgmt f).wick = s.wick := rfl
@[simp] theorem State.updMgmt_thermal (s : State) (f : Mgmt → Mgmt) : (s.updMgmt f).thermal = s.thermal := rfl
@[simp] theorem State.updMgmt_power (s : State) (f : Mgmt → Mgmt) : (s.updMgmt f).power = s.power := rfl
@[simp] theorem State.updMgmt_nv (s : State) (f : Mgmt → Mgmt) : (s.updMgmt f).nv = s.nv := rfl
@[simp] theorem State.updMgmt_fuse (s : State) (f : Mgmt → Mgmt) : (s.updMgmt f).fuse = s.fuse := rfl
@[simp] theorem State.updMgmt_fuseQueue (s : State) (f : Mgmt → Mgmt) : (s.updMgmt f).fuseQueue = s.fuseQueue := rfl
@[simp] theorem State.updMgmt_quince (s : State) (f : Mgmt → Mgmt) : (s.updMgmt f).quince = s.quince := rfl
@[simp] theorem State.updMgmt_host (s : State) (f : Mgmt → Mgmt) : (s.updMgmt f).host = s.host := rfl
@[simp] theorem State.updMgmt_manager (s : State) (f : Mgmt → Mgmt) : (s.updMgmt f).manager = s.manager := rfl
@[simp] theorem State.updMgmt_sessions (s : State) (f : Mgmt → Mgmt) : (s.updMgmt f).sessions = s.sessions := rfl
@[simp] theorem State.updMgmt_mgmt (s : State) (f : Mgmt → Mgmt) : (s.updMgmt f).mgmt = f s.mgmt := rfl
@[simp] theorem State.updMgmt_i2c (s : State) (f : Mgmt → Mgmt) : (s.updMgmt f).i2c = s.i2c := rfl
@[simp] theorem State.updMgmt_wrapper (s : State) (f : Mgmt → Mgmt) : (s.updMgmt f).wrapper = s.wrapper := rfl
@[simp] theorem State.updMgmt_tap (s : State) (f : Mgmt → Mgmt) : (s.updMgmt f).tap = s.tap := rfl

@[simp] theorem State.updWick_pending (s : State) (f : Wick → Wick) : (s.updWick f).pending = s.pending := rfl
@[simp] theorem State.updWick_timeUs (s : State) (f : Wick → Wick) : (s.updWick f).timeUs = s.timeUs := rfl
@[simp] theorem State.updWick_fresh (s : State) (f : Wick → Wick) : (s.updWick f).fresh = s.fresh := rfl
@[simp] theorem State.updWick_chans (s : State) (f : Wick → Wick) : (s.updWick f).chans = s.chans := rfl
@[simp] theorem State.updWick_dies (s : State) (f : Wick → Wick) : (s.updWick f).dies = s.dies := rfl
@[simp] theorem State.updWick_buses (s : State) (f : Wick → Wick) : (s.updWick f).buses = s.buses := rfl
@[simp] theorem State.updWick_busFailed (s : State) (f : Wick → Wick) : (s.updWick f).busFailed = s.busFailed := rfl
@[simp] theorem State.updWick_layers (s : State) (f : Wick → Wick) : (s.updWick f).layers = s.layers := rfl
@[simp] theorem State.updWick_dens (s : State) (f : Wick → Wick) : (s.updWick f).dens = s.dens := rfl
@[simp] theorem State.updWick_wick (s : State) (f : Wick → Wick) : (s.updWick f).wick = f s.wick := rfl
@[simp] theorem State.updWick_thermal (s : State) (f : Wick → Wick) : (s.updWick f).thermal = s.thermal := rfl
@[simp] theorem State.updWick_power (s : State) (f : Wick → Wick) : (s.updWick f).power = s.power := rfl
@[simp] theorem State.updWick_nv (s : State) (f : Wick → Wick) : (s.updWick f).nv = s.nv := rfl
@[simp] theorem State.updWick_fuse (s : State) (f : Wick → Wick) : (s.updWick f).fuse = s.fuse := rfl
@[simp] theorem State.updWick_fuseQueue (s : State) (f : Wick → Wick) : (s.updWick f).fuseQueue = s.fuseQueue := rfl
@[simp] theorem State.updWick_quince (s : State) (f : Wick → Wick) : (s.updWick f).quince = s.quince := rfl
@[simp] theorem State.updWick_host (s : State) (f : Wick → Wick) : (s.updWick f).host = s.host := rfl
@[simp] theorem State.updWick_manager (s : State) (f : Wick → Wick) : (s.updWick f).manager = s.manager := rfl
@[simp] theorem State.updWick_sessions (s : State) (f : Wick → Wick) : (s.updWick f).sessions = s.sessions := rfl
@[simp] theorem State.updWick_mgmt (s : State) (f : Wick → Wick) : (s.updWick f).mgmt = s.mgmt := rfl
@[simp] theorem State.updWick_i2c (s : State) (f : Wick → Wick) : (s.updWick f).i2c = s.i2c := rfl
@[simp] theorem State.updWick_wrapper (s : State) (f : Wick → Wick) : (s.updWick f).wrapper = s.wrapper := rfl
@[simp] theorem State.updWick_tap (s : State) (f : Wick → Wick) : (s.updWick f).tap = s.tap := rfl

@[simp] theorem State.updNv_pending (s : State) (f : NonVolatile → NonVolatile) : (s.updNv f).pending = s.pending := rfl
@[simp] theorem State.updNv_timeUs (s : State) (f : NonVolatile → NonVolatile) : (s.updNv f).timeUs = s.timeUs := rfl
@[simp] theorem State.updNv_fresh (s : State) (f : NonVolatile → NonVolatile) : (s.updNv f).fresh = s.fresh := rfl
@[simp] theorem State.updNv_chans (s : State) (f : NonVolatile → NonVolatile) : (s.updNv f).chans = s.chans := rfl
@[simp] theorem State.updNv_dies (s : State) (f : NonVolatile → NonVolatile) : (s.updNv f).dies = s.dies := rfl
@[simp] theorem State.updNv_buses (s : State) (f : NonVolatile → NonVolatile) : (s.updNv f).buses = s.buses := rfl
@[simp] theorem State.updNv_busFailed (s : State) (f : NonVolatile → NonVolatile) :
    (s.updNv f).busFailed = s.busFailed := rfl
@[simp] theorem State.updNv_layers (s : State) (f : NonVolatile → NonVolatile) : (s.updNv f).layers = s.layers := rfl
@[simp] theorem State.updNv_dens (s : State) (f : NonVolatile → NonVolatile) : (s.updNv f).dens = s.dens := rfl
@[simp] theorem State.updNv_wick (s : State) (f : NonVolatile → NonVolatile) : (s.updNv f).wick = s.wick := rfl
@[simp] theorem State.updNv_thermal (s : State) (f : NonVolatile → NonVolatile) : (s.updNv f).thermal = s.thermal := rfl
@[simp] theorem State.updNv_power (s : State) (f : NonVolatile → NonVolatile) : (s.updNv f).power = s.power := rfl
@[simp] theorem State.updNv_nv (s : State) (f : NonVolatile → NonVolatile) : (s.updNv f).nv = f s.nv := rfl
@[simp] theorem State.updNv_fuse (s : State) (f : NonVolatile → NonVolatile) : (s.updNv f).fuse = s.fuse := rfl
@[simp] theorem State.updNv_fuseQueue (s : State) (f : NonVolatile → NonVolatile) :
    (s.updNv f).fuseQueue = s.fuseQueue := rfl
@[simp] theorem State.updNv_quince (s : State) (f : NonVolatile → NonVolatile) : (s.updNv f).quince = s.quince := rfl
@[simp] theorem State.updNv_host (s : State) (f : NonVolatile → NonVolatile) : (s.updNv f).host = s.host := rfl
@[simp] theorem State.updNv_manager (s : State) (f : NonVolatile → NonVolatile) : (s.updNv f).manager = s.manager := rfl
@[simp] theorem State.updNv_sessions (s : State) (f : NonVolatile → NonVolatile) :
    (s.updNv f).sessions = s.sessions := rfl
@[simp] theorem State.updNv_mgmt (s : State) (f : NonVolatile → NonVolatile) : (s.updNv f).mgmt = s.mgmt := rfl
@[simp] theorem State.updNv_i2c (s : State) (f : NonVolatile → NonVolatile) : (s.updNv f).i2c = s.i2c := rfl
@[simp] theorem State.updNv_wrapper (s : State) (f : NonVolatile → NonVolatile) : (s.updNv f).wrapper = s.wrapper := rfl
@[simp] theorem State.updNv_tap (s : State) (f : NonVolatile → NonVolatile) : (s.updNv f).tap = s.tap := rfl

@[simp] theorem State.updI2c_pending (s : State) (f : I2c → I2c) : (s.updI2c f).pending = s.pending := rfl
@[simp] theorem State.updI2c_timeUs (s : State) (f : I2c → I2c) : (s.updI2c f).timeUs = s.timeUs := rfl
@[simp] theorem State.updI2c_fresh (s : State) (f : I2c → I2c) : (s.updI2c f).fresh = s.fresh := rfl
@[simp] theorem State.updI2c_chans (s : State) (f : I2c → I2c) : (s.updI2c f).chans = s.chans := rfl
@[simp] theorem State.updI2c_dies (s : State) (f : I2c → I2c) : (s.updI2c f).dies = s.dies := rfl
@[simp] theorem State.updI2c_buses (s : State) (f : I2c → I2c) : (s.updI2c f).buses = s.buses := rfl
@[simp] theorem State.updI2c_busFailed (s : State) (f : I2c → I2c) : (s.updI2c f).busFailed = s.busFailed := rfl
@[simp] theorem State.updI2c_layers (s : State) (f : I2c → I2c) : (s.updI2c f).layers = s.layers := rfl
@[simp] theorem State.updI2c_dens (s : State) (f : I2c → I2c) : (s.updI2c f).dens = s.dens := rfl
@[simp] theorem State.updI2c_wick (s : State) (f : I2c → I2c) : (s.updI2c f).wick = s.wick := rfl
@[simp] theorem State.updI2c_thermal (s : State) (f : I2c → I2c) : (s.updI2c f).thermal = s.thermal := rfl
@[simp] theorem State.updI2c_power (s : State) (f : I2c → I2c) : (s.updI2c f).power = s.power := rfl
@[simp] theorem State.updI2c_nv (s : State) (f : I2c → I2c) : (s.updI2c f).nv = s.nv := rfl
@[simp] theorem State.updI2c_fuse (s : State) (f : I2c → I2c) : (s.updI2c f).fuse = s.fuse := rfl
@[simp] theorem State.updI2c_fuseQueue (s : State) (f : I2c → I2c) : (s.updI2c f).fuseQueue = s.fuseQueue := rfl
@[simp] theorem State.updI2c_quince (s : State) (f : I2c → I2c) : (s.updI2c f).quince = s.quince := rfl
@[simp] theorem State.updI2c_host (s : State) (f : I2c → I2c) : (s.updI2c f).host = s.host := rfl
@[simp] theorem State.updI2c_manager (s : State) (f : I2c → I2c) : (s.updI2c f).manager = s.manager := rfl
@[simp] theorem State.updI2c_sessions (s : State) (f : I2c → I2c) : (s.updI2c f).sessions = s.sessions := rfl
@[simp] theorem State.updI2c_mgmt (s : State) (f : I2c → I2c) : (s.updI2c f).mgmt = s.mgmt := rfl
@[simp] theorem State.updI2c_i2c (s : State) (f : I2c → I2c) : (s.updI2c f).i2c = f s.i2c := rfl
@[simp] theorem State.updI2c_wrapper (s : State) (f : I2c → I2c) : (s.updI2c f).wrapper = s.wrapper := rfl
@[simp] theorem State.updI2c_tap (s : State) (f : I2c → I2c) : (s.updI2c f).tap = s.tap := rfl

@[simp] theorem State.updWindow_pending (s : State) (w : Transport) (f : Window → Window) :
    (s.updWindow w f).pending = s.pending := by cases w <;> rfl
@[simp] theorem State.updWindow_timeUs (s : State) (w : Transport) (f : Window → Window) :
    (s.updWindow w f).timeUs = s.timeUs := by cases w <;> rfl
@[simp] theorem State.updWindow_fresh (s : State) (w : Transport) (f : Window → Window) :
    (s.updWindow w f).fresh = s.fresh := by cases w <;> rfl
@[simp] theorem State.updWindow_chans (s : State) (w : Transport) (f : Window → Window) :
    (s.updWindow w f).chans = s.chans := by cases w <;> rfl
@[simp] theorem State.updWindow_dies (s : State) (w : Transport) (f : Window → Window) :
    (s.updWindow w f).dies = s.dies := by cases w <;> rfl
@[simp] theorem State.updWindow_buses (s : State) (w : Transport) (f : Window → Window) :
    (s.updWindow w f).buses = s.buses := by cases w <;> rfl
@[simp] theorem State.updWindow_busFailed (s : State) (w : Transport) (f : Window → Window) :
    (s.updWindow w f).busFailed = s.busFailed := by cases w <;> rfl
@[simp] theorem State.updWindow_layers (s : State) (w : Transport) (f : Window → Window) :
    (s.updWindow w f).layers = s.layers := by cases w <;> rfl
@[simp] theorem State.updWindow_dens (s : State) (w : Transport) (f : Window → Window) :
    (s.updWindow w f).dens = s.dens := by cases w <;> rfl
@[simp] theorem State.updWindow_wick (s : State) (w : Transport) (f : Window → Window) :
    (s.updWindow w f).wick = s.wick := by cases w <;> rfl
@[simp] theorem State.updWindow_thermal (s : State) (w : Transport) (f : Window → Window) :
    (s.updWindow w f).thermal = s.thermal := by cases w <;> rfl
@[simp] theorem State.updWindow_power (s : State) (w : Transport) (f : Window → Window) :
    (s.updWindow w f).power = s.power := by cases w <;> rfl
@[simp] theorem State.updWindow_nv (s : State) (w : Transport) (f : Window → Window) :
    (s.updWindow w f).nv = s.nv := by cases w <;> rfl
@[simp] theorem State.updWindow_fuse (s : State) (w : Transport) (f : Window → Window) :
    (s.updWindow w f).fuse = s.fuse := by cases w <;> rfl
@[simp] theorem State.updWindow_fuseQueue (s : State) (w : Transport) (f : Window → Window) :
    (s.updWindow w f).fuseQueue = s.fuseQueue := by cases w <;> rfl
@[simp] theorem State.updWindow_quince (s : State) (w : Transport) (f : Window → Window) :
    (s.updWindow w f).quince = s.quince := by cases w <;> rfl
@[simp] theorem State.updWindow_sessions (s : State) (w : Transport) (f : Window → Window) :
    (s.updWindow w f).sessions = s.sessions := by cases w <;> rfl
@[simp] theorem State.updWindow_mgmt (s : State) (w : Transport) (f : Window → Window) :
    (s.updWindow w f).mgmt = s.mgmt := by cases w <;> rfl
@[simp] theorem State.updWindow_i2c (s : State) (w : Transport) (f : Window → Window) :
    (s.updWindow w f).i2c = s.i2c := by cases w <;> rfl
@[simp] theorem State.updWindow_wrapper (s : State) (w : Transport) (f : Window → Window) :
    (s.updWindow w f).wrapper = s.wrapper := by cases w <;> rfl
@[simp] theorem State.updWindow_tap (s : State) (w : Transport) (f : Window → Window) :
    (s.updWindow w f).tap = s.tap := by cases w <;> rfl

@[simp] theorem State.updWindow_host_host (s : State) (f : Window → Window) : (s.updWindow .host f).host = f s.host := rfl
@[simp] theorem State.updWindow_host_manager (s : State) (f : Window → Window) :
    (s.updWindow .host f).manager = s.manager := rfl
@[simp] theorem State.updWindow_manager_host (s : State) (f : Window → Window) :
    (s.updWindow .manager f).host = s.host := rfl
@[simp] theorem State.updWindow_manager_manager (s : State) (f : Window → Window) :
    (s.updWindow .manager f).manager = f s.manager := rfl
@[simp] theorem State.updWindow_window (s : State) (w : Transport) (f : Window → Window) :
    (s.updWindow w f).window w = f (s.window w) := by cases w <;> rfl
theorem State.updWindow_window_other (s : State) {w v : Transport} (f : Window → Window) (h : v ≠ w) :
    (s.updWindow w f).window v = s.window v := by cases w <;> cases v <;> first | rfl | exact absurd rfl h

/-! ## Causes, free values, ledger and events -/

@[simp] theorem State.setCause_pending (s : State) (c : Ch) (n : Nat) :
    (s.setCause c n).pending = s.pending := by unfold State.setCause; split <;> rfl
@[simp] theorem State.setCause_timeUs (s : State) (c : Ch) (n : Nat) :
    (s.setCause c n).timeUs = s.timeUs := by unfold State.setCause; split <;> rfl
@[simp] theorem State.setCause_fresh (s : State) (c : Ch) (n : Nat) :
    (s.setCause c n).fresh = s.fresh := by unfold State.setCause; split <;> rfl
@[simp] theorem State.setCause_dies (s : State) (c : Ch) (n : Nat) :
    (s.setCause c n).dies = s.dies := by unfold State.setCause; split <;> rfl
@[simp] theorem State.setCause_buses (s : State) (c : Ch) (n : Nat) :
    (s.setCause c n).buses = s.buses := by unfold State.setCause; split <;> rfl
@[simp] theorem State.setCause_busFailed (s : State) (c : Ch) (n : Nat) :
    (s.setCause c n).busFailed = s.busFailed := by unfold State.setCause; split <;> rfl
@[simp] theorem State.setCause_layers (s : State) (c : Ch) (n : Nat) :
    (s.setCause c n).layers = s.layers := by unfold State.setCause; split <;> rfl
@[simp] theorem State.setCause_dens (s : State) (c : Ch) (n : Nat) :
    (s.setCause c n).dens = s.dens := by unfold State.setCause; split <;> rfl
@[simp] theorem State.setCause_wick (s : State) (c : Ch) (n : Nat) :
    (s.setCause c n).wick = s.wick := by unfold State.setCause; split <;> rfl
@[simp] theorem State.setCause_thermal (s : State) (c : Ch) (n : Nat) :
    (s.setCause c n).thermal = s.thermal := by unfold State.setCause; split <;> rfl
@[simp] theorem State.setCause_power (s : State) (c : Ch) (n : Nat) :
    (s.setCause c n).power = s.power := by unfold State.setCause; split <;> rfl
@[simp] theorem State.setCause_nv (s : State) (c : Ch) (n : Nat) :
    (s.setCause c n).nv = s.nv := by unfold State.setCause; split <;> rfl
@[simp] theorem State.setCause_fuse (s : State) (c : Ch) (n : Nat) :
    (s.setCause c n).fuse = s.fuse := by unfold State.setCause; split <;> rfl
@[simp] theorem State.setCause_fuseQueue (s : State) (c : Ch) (n : Nat) :
    (s.setCause c n).fuseQueue = s.fuseQueue := by unfold State.setCause; split <;> rfl
@[simp] theorem State.setCause_quince (s : State) (c : Ch) (n : Nat) :
    (s.setCause c n).quince = s.quince := by unfold State.setCause; split <;> rfl
@[simp] theorem State.setCause_host (s : State) (c : Ch) (n : Nat) :
    (s.setCause c n).host = s.host := by unfold State.setCause; split <;> rfl
@[simp] theorem State.setCause_manager (s : State) (c : Ch) (n : Nat) :
    (s.setCause c n).manager = s.manager := by unfold State.setCause; split <;> rfl
@[simp] theorem State.setCause_sessions (s : State) (c : Ch) (n : Nat) :
    (s.setCause c n).sessions = s.sessions := by unfold State.setCause; split <;> rfl
@[simp] theorem State.setCause_mgmt (s : State) (c : Ch) (n : Nat) :
    (s.setCause c n).mgmt = s.mgmt := by unfold State.setCause; split <;> rfl
@[simp] theorem State.setCause_i2c (s : State) (c : Ch) (n : Nat) :
    (s.setCause c n).i2c = s.i2c := by unfold State.setCause; split <;> rfl
@[simp] theorem State.setCause_wrapper (s : State) (c : Ch) (n : Nat) :
    (s.setCause c n).wrapper = s.wrapper := by unfold State.setCause; split <;> rfl
@[simp] theorem State.setCause_tap (s : State) (c : Ch) (n : Nat) :
    (s.setCause c n).tap = s.tap := by unfold State.setCause; split <;> rfl

@[simp] theorem State.setCauseAll_pending (s : State) (n : Nat) : (s.setCauseAll n).pending = s.pending := rfl
@[simp] theorem State.setCauseAll_timeUs (s : State) (n : Nat) : (s.setCauseAll n).timeUs = s.timeUs := rfl
@[simp] theorem State.setCauseAll_fresh (s : State) (n : Nat) : (s.setCauseAll n).fresh = s.fresh := rfl
@[simp] theorem State.setCauseAll_dies (s : State) (n : Nat) : (s.setCauseAll n).dies = s.dies := rfl
@[simp] theorem State.setCauseAll_buses (s : State) (n : Nat) : (s.setCauseAll n).buses = s.buses := rfl
@[simp] theorem State.setCauseAll_busFailed (s : State) (n : Nat) : (s.setCauseAll n).busFailed = s.busFailed := rfl
@[simp] theorem State.setCauseAll_layers (s : State) (n : Nat) : (s.setCauseAll n).layers = s.layers := rfl
@[simp] theorem State.setCauseAll_dens (s : State) (n : Nat) : (s.setCauseAll n).dens = s.dens := rfl
@[simp] theorem State.setCauseAll_wick (s : State) (n : Nat) : (s.setCauseAll n).wick = s.wick := rfl
@[simp] theorem State.setCauseAll_thermal (s : State) (n : Nat) : (s.setCauseAll n).thermal = s.thermal := rfl
@[simp] theorem State.setCauseAll_power (s : State) (n : Nat) : (s.setCauseAll n).power = s.power := rfl
@[simp] theorem State.setCauseAll_nv (s : State) (n : Nat) : (s.setCauseAll n).nv = s.nv := rfl
@[simp] theorem State.setCauseAll_fuse (s : State) (n : Nat) : (s.setCauseAll n).fuse = s.fuse := rfl
@[simp] theorem State.setCauseAll_fuseQueue (s : State) (n : Nat) : (s.setCauseAll n).fuseQueue = s.fuseQueue := rfl
@[simp] theorem State.setCauseAll_quince (s : State) (n : Nat) : (s.setCauseAll n).quince = s.quince := rfl
@[simp] theorem State.setCauseAll_host (s : State) (n : Nat) : (s.setCauseAll n).host = s.host := rfl
@[simp] theorem State.setCauseAll_manager (s : State) (n : Nat) : (s.setCauseAll n).manager = s.manager := rfl
@[simp] theorem State.setCauseAll_sessions (s : State) (n : Nat) : (s.setCauseAll n).sessions = s.sessions := rfl
@[simp] theorem State.setCauseAll_mgmt (s : State) (n : Nat) : (s.setCauseAll n).mgmt = s.mgmt := rfl
@[simp] theorem State.setCauseAll_i2c (s : State) (n : Nat) : (s.setCauseAll n).i2c = s.i2c := rfl
@[simp] theorem State.setCauseAll_wrapper (s : State) (n : Nat) : (s.setCauseAll n).wrapper = s.wrapper := rfl
@[simp] theorem State.setCauseAll_tap (s : State) (n : Nat) : (s.setCauseAll n).tap = s.tap := rfl

@[simp] theorem State.free_snd_pending (s : State) (w : Nat) : ((s.free w).2).pending = s.pending := rfl
@[simp] theorem State.free_snd_timeUs (s : State) (w : Nat) : ((s.free w).2).timeUs = s.timeUs := rfl
@[simp] theorem State.free_snd_fresh (s : State) (w : Nat) : (s.free w).2.fresh = s.fresh + 1 := rfl
@[simp] theorem State.free_snd_chans (s : State) (w : Nat) : ((s.free w).2).chans = s.chans := rfl
@[simp] theorem State.free_snd_dies (s : State) (w : Nat) : ((s.free w).2).dies = s.dies := rfl
@[simp] theorem State.free_snd_buses (s : State) (w : Nat) : ((s.free w).2).buses = s.buses := rfl
@[simp] theorem State.free_snd_busFailed (s : State) (w : Nat) : ((s.free w).2).busFailed = s.busFailed := rfl
@[simp] theorem State.free_snd_layers (s : State) (w : Nat) : ((s.free w).2).layers = s.layers := rfl
@[simp] theorem State.free_snd_dens (s : State) (w : Nat) : ((s.free w).2).dens = s.dens := rfl
@[simp] theorem State.free_snd_wick (s : State) (w : Nat) : ((s.free w).2).wick = s.wick := rfl
@[simp] theorem State.free_snd_thermal (s : State) (w : Nat) : ((s.free w).2).thermal = s.thermal := rfl
@[simp] theorem State.free_snd_power (s : State) (w : Nat) : ((s.free w).2).power = s.power := rfl
@[simp] theorem State.free_snd_nv (s : State) (w : Nat) : ((s.free w).2).nv = s.nv := rfl
@[simp] theorem State.free_snd_fuse (s : State) (w : Nat) : ((s.free w).2).fuse = s.fuse := rfl
@[simp] theorem State.free_snd_fuseQueue (s : State) (w : Nat) : ((s.free w).2).fuseQueue = s.fuseQueue := rfl
@[simp] theorem State.free_snd_quince (s : State) (w : Nat) : ((s.free w).2).quince = s.quince := rfl
@[simp] theorem State.free_snd_host (s : State) (w : Nat) : ((s.free w).2).host = s.host := rfl
@[simp] theorem State.free_snd_manager (s : State) (w : Nat) : ((s.free w).2).manager = s.manager := rfl
@[simp] theorem State.free_snd_sessions (s : State) (w : Nat) : ((s.free w).2).sessions = s.sessions := rfl
@[simp] theorem State.free_snd_mgmt (s : State) (w : Nat) : ((s.free w).2).mgmt = s.mgmt := rfl
@[simp] theorem State.free_snd_i2c (s : State) (w : Nat) : ((s.free w).2).i2c = s.i2c := rfl
@[simp] theorem State.free_snd_wrapper (s : State) (w : Nat) : ((s.free w).2).wrapper = s.wrapper := rfl
@[simp] theorem State.free_snd_tap (s : State) (w : Nat) : ((s.free w).2).tap = s.tap := rfl

@[simp] theorem State.free_fst (s : State) (w : Nat) : (s.free w).1 = Config.freeBits w s.fresh := rfl

@[simp] theorem State.record_pending (s : State) (typ : Byte) (body : List Byte) :
    (s.record typ body).pending = s.pending := by unfold State.record; dsimp only; split <;> rfl
@[simp] theorem State.record_timeUs (s : State) (typ : Byte) (body : List Byte) :
    (s.record typ body).timeUs = s.timeUs := by unfold State.record; dsimp only; split <;> rfl
@[simp] theorem State.record_fresh (s : State) (typ : Byte) (body : List Byte) :
    (s.record typ body).fresh = s.fresh := by unfold State.record; dsimp only; split <;> rfl
@[simp] theorem State.record_chans (s : State) (typ : Byte) (body : List Byte) :
    (s.record typ body).chans = s.chans := by unfold State.record; dsimp only; split <;> rfl
@[simp] theorem State.record_dies (s : State) (typ : Byte) (body : List Byte) :
    (s.record typ body).dies = s.dies := by unfold State.record; dsimp only; split <;> rfl
@[simp] theorem State.record_buses (s : State) (typ : Byte) (body : List Byte) :
    (s.record typ body).buses = s.buses := by unfold State.record; dsimp only; split <;> rfl
@[simp] theorem State.record_busFailed (s : State) (typ : Byte) (body : List Byte) :
    (s.record typ body).busFailed = s.busFailed := by unfold State.record; dsimp only; split <;> rfl
@[simp] theorem State.record_layers (s : State) (typ : Byte) (body : List Byte) :
    (s.record typ body).layers = s.layers := by unfold State.record; dsimp only; split <;> rfl
@[simp] theorem State.record_dens (s : State) (typ : Byte) (body : List Byte) :
    (s.record typ body).dens = s.dens := by unfold State.record; dsimp only; split <;> rfl
@[simp] theorem State.record_wick (s : State) (typ : Byte) (body : List Byte) :
    (s.record typ body).wick = s.wick := by unfold State.record; dsimp only; split <;> rfl
@[simp] theorem State.record_thermal (s : State) (typ : Byte) (body : List Byte) :
    (s.record typ body).thermal = s.thermal := by unfold State.record; dsimp only; split <;> rfl
@[simp] theorem State.record_power (s : State) (typ : Byte) (body : List Byte) :
    (s.record typ body).power = s.power := by unfold State.record; dsimp only; split <;> rfl
@[simp] theorem State.record_fuse (s : State) (typ : Byte) (body : List Byte) :
    (s.record typ body).fuse = s.fuse := by unfold State.record; dsimp only; split <;> rfl
@[simp] theorem State.record_fuseQueue (s : State) (typ : Byte) (body : List Byte) :
    (s.record typ body).fuseQueue = s.fuseQueue := by unfold State.record; dsimp only; split <;> rfl
@[simp] theorem State.record_quince (s : State) (typ : Byte) (body : List Byte) :
    (s.record typ body).quince = s.quince := by unfold State.record; dsimp only; split <;> rfl
@[simp] theorem State.record_host (s : State) (typ : Byte) (body : List Byte) :
    (s.record typ body).host = s.host := by unfold State.record; dsimp only; split <;> rfl
@[simp] theorem State.record_manager (s : State) (typ : Byte) (body : List Byte) :
    (s.record typ body).manager = s.manager := by unfold State.record; dsimp only; split <;> rfl
@[simp] theorem State.record_sessions (s : State) (typ : Byte) (body : List Byte) :
    (s.record typ body).sessions = s.sessions := by unfold State.record; dsimp only; split <;> rfl
@[simp] theorem State.record_mgmt (s : State) (typ : Byte) (body : List Byte) :
    (s.record typ body).mgmt = s.mgmt := by unfold State.record; dsimp only; split <;> rfl
@[simp] theorem State.record_i2c (s : State) (typ : Byte) (body : List Byte) :
    (s.record typ body).i2c = s.i2c := by unfold State.record; dsimp only; split <;> rfl
@[simp] theorem State.record_wrapper (s : State) (typ : Byte) (body : List Byte) :
    (s.record typ body).wrapper = s.wrapper := by unfold State.record; dsimp only; split <;> rfl
@[simp] theorem State.record_tap (s : State) (typ : Byte) (body : List Byte) :
    (s.record typ body).tap = s.tap := by unfold State.record; dsimp only; split <;> rfl

@[simp] theorem State.ledger_pending (s : State) (typ : Byte) (body : List Byte) :
    (s.ledger typ body).pending = s.pending := by unfold State.ledger; split <;> simp
@[simp] theorem State.ledger_timeUs (s : State) (typ : Byte) (body : List Byte) :
    (s.ledger typ body).timeUs = s.timeUs := by unfold State.ledger; split <;> simp
@[simp] theorem State.ledger_fresh (s : State) (typ : Byte) (body : List Byte) :
    (s.ledger typ body).fresh = s.fresh := by unfold State.ledger; split <;> simp
@[simp] theorem State.ledger_chans (s : State) (typ : Byte) (body : List Byte) :
    (s.ledger typ body).chans = s.chans := by unfold State.ledger; split <;> simp
@[simp] theorem State.ledger_dies (s : State) (typ : Byte) (body : List Byte) :
    (s.ledger typ body).dies = s.dies := by unfold State.ledger; split <;> simp
@[simp] theorem State.ledger_buses (s : State) (typ : Byte) (body : List Byte) :
    (s.ledger typ body).buses = s.buses := by unfold State.ledger; split <;> simp
@[simp] theorem State.ledger_busFailed (s : State) (typ : Byte) (body : List Byte) :
    (s.ledger typ body).busFailed = s.busFailed := by unfold State.ledger; split <;> simp
@[simp] theorem State.ledger_layers (s : State) (typ : Byte) (body : List Byte) :
    (s.ledger typ body).layers = s.layers := by unfold State.ledger; split <;> simp
@[simp] theorem State.ledger_dens (s : State) (typ : Byte) (body : List Byte) :
    (s.ledger typ body).dens = s.dens := by unfold State.ledger; split <;> simp
@[simp] theorem State.ledger_wick (s : State) (typ : Byte) (body : List Byte) :
    (s.ledger typ body).wick = s.wick := by unfold State.ledger; split <;> simp
@[simp] theorem State.ledger_thermal (s : State) (typ : Byte) (body : List Byte) :
    (s.ledger typ body).thermal = s.thermal := by unfold State.ledger; split <;> simp
@[simp] theorem State.ledger_power (s : State) (typ : Byte) (body : List Byte) :
    (s.ledger typ body).power = s.power := by unfold State.ledger; split <;> simp
@[simp] theorem State.ledger_fuse (s : State) (typ : Byte) (body : List Byte) :
    (s.ledger typ body).fuse = s.fuse := by unfold State.ledger; split <;> simp
@[simp] theorem State.ledger_fuseQueue (s : State) (typ : Byte) (body : List Byte) :
    (s.ledger typ body).fuseQueue = s.fuseQueue := by unfold State.ledger; split <;> simp
@[simp] theorem State.ledger_quince (s : State) (typ : Byte) (body : List Byte) :
    (s.ledger typ body).quince = s.quince := by unfold State.ledger; split <;> simp
@[simp] theorem State.ledger_host (s : State) (typ : Byte) (body : List Byte) :
    (s.ledger typ body).host = s.host := by unfold State.ledger; split <;> simp
@[simp] theorem State.ledger_manager (s : State) (typ : Byte) (body : List Byte) :
    (s.ledger typ body).manager = s.manager := by unfold State.ledger; split <;> simp
@[simp] theorem State.ledger_sessions (s : State) (typ : Byte) (body : List Byte) :
    (s.ledger typ body).sessions = s.sessions := by unfold State.ledger; split <;> simp
@[simp] theorem State.ledger_i2c (s : State) (typ : Byte) (body : List Byte) :
    (s.ledger typ body).i2c = s.i2c := by unfold State.ledger; split <;> simp
@[simp] theorem State.ledger_wrapper (s : State) (typ : Byte) (body : List Byte) :
    (s.ledger typ body).wrapper = s.wrapper := by unfold State.ledger; split <;> simp
@[simp] theorem State.ledger_tap (s : State) (typ : Byte) (body : List Byte) :
    (s.ledger typ body).tap = s.tap := by unfold State.ledger; split <;> simp

@[simp] theorem State.event_pending (s : State) (typ : Nat) (u c p : Byte) (d : Word32) (q : Nat) :
    (s.event typ u c p d q).pending = s.pending := rfl
@[simp] theorem State.event_timeUs (s : State) (typ : Nat) (u c p : Byte) (d : Word32) (q : Nat) :
    (s.event typ u c p d q).timeUs = s.timeUs := rfl
@[simp] theorem State.event_fresh (s : State) (typ : Nat) (u c p : Byte) (d : Word32) (q : Nat) :
    (s.event typ u c p d q).fresh = s.fresh := rfl
@[simp] theorem State.event_chans (s : State) (typ : Nat) (u c p : Byte) (d : Word32) (q : Nat) :
    (s.event typ u c p d q).chans = s.chans := rfl
@[simp] theorem State.event_dies (s : State) (typ : Nat) (u c p : Byte) (d : Word32) (q : Nat) :
    (s.event typ u c p d q).dies = s.dies := rfl
@[simp] theorem State.event_buses (s : State) (typ : Nat) (u c p : Byte) (d : Word32) (q : Nat) :
    (s.event typ u c p d q).buses = s.buses := rfl
@[simp] theorem State.event_busFailed (s : State) (typ : Nat) (u c p : Byte) (d : Word32) (q : Nat) :
    (s.event typ u c p d q).busFailed = s.busFailed := rfl
@[simp] theorem State.event_layers (s : State) (typ : Nat) (u c p : Byte) (d : Word32) (q : Nat) :
    (s.event typ u c p d q).layers = s.layers := rfl
@[simp] theorem State.event_dens (s : State) (typ : Nat) (u c p : Byte) (d : Word32) (q : Nat) :
    (s.event typ u c p d q).dens = s.dens := rfl
@[simp] theorem State.event_wick (s : State) (typ : Nat) (u c p : Byte) (d : Word32) (q : Nat) :
    (s.event typ u c p d q).wick = s.wick := rfl
@[simp] theorem State.event_thermal (s : State) (typ : Nat) (u c p : Byte) (d : Word32) (q : Nat) :
    (s.event typ u c p d q).thermal = s.thermal := rfl
@[simp] theorem State.event_power (s : State) (typ : Nat) (u c p : Byte) (d : Word32) (q : Nat) :
    (s.event typ u c p d q).power = s.power := rfl
@[simp] theorem State.event_nv (s : State) (typ : Nat) (u c p : Byte) (d : Word32) (q : Nat) :
    (s.event typ u c p d q).nv = s.nv := rfl
@[simp] theorem State.event_fuse (s : State) (typ : Nat) (u c p : Byte) (d : Word32) (q : Nat) :
    (s.event typ u c p d q).fuse = s.fuse := rfl
@[simp] theorem State.event_fuseQueue (s : State) (typ : Nat) (u c p : Byte) (d : Word32) (q : Nat) :
    (s.event typ u c p d q).fuseQueue = s.fuseQueue := rfl
@[simp] theorem State.event_quince (s : State) (typ : Nat) (u c p : Byte) (d : Word32) (q : Nat) :
    (s.event typ u c p d q).quince = s.quince := rfl
@[simp] theorem State.event_host (s : State) (typ : Nat) (u c p : Byte) (d : Word32) (q : Nat) :
    (s.event typ u c p d q).host = s.host := rfl
@[simp] theorem State.event_manager (s : State) (typ : Nat) (u c p : Byte) (d : Word32) (q : Nat) :
    (s.event typ u c p d q).manager = s.manager := rfl
@[simp] theorem State.event_mgmt (s : State) (typ : Nat) (u c p : Byte) (d : Word32) (q : Nat) :
    (s.event typ u c p d q).mgmt = s.mgmt := rfl
@[simp] theorem State.event_i2c (s : State) (typ : Nat) (u c p : Byte) (d : Word32) (q : Nat) :
    (s.event typ u c p d q).i2c = s.i2c := rfl
@[simp] theorem State.event_wrapper (s : State) (typ : Nat) (u c p : Byte) (d : Word32) (q : Nat) :
    (s.event typ u c p d q).wrapper = s.wrapper := rfl
@[simp] theorem State.event_tap (s : State) (typ : Nat) (u c p : Byte) (d : Word32) (q : Nat) :
    (s.event typ u c p d q).tap = s.tap := rfl

@[simp] theorem State.ledgerEvent_pending (s : State) (rec : Byte) (body : List Byte) (typ : Nat) (u c p : Byte) (d : Word32) :
    (s.ledgerEvent rec body typ u c p d).pending = s.pending := by simp [State.ledgerEvent]
@[simp] theorem State.ledgerEvent_timeUs (s : State) (rec : Byte) (body : List Byte) (typ : Nat) (u c p : Byte) (d : Word32) :
    (s.ledgerEvent rec body typ u c p d).timeUs = s.timeUs := by simp [State.ledgerEvent]
@[simp] theorem State.ledgerEvent_fresh (s : State) (rec : Byte) (body : List Byte) (typ : Nat) (u c p : Byte) (d : Word32) :
    (s.ledgerEvent rec body typ u c p d).fresh = s.fresh := by simp [State.ledgerEvent]
@[simp] theorem State.ledgerEvent_chans (s : State) (rec : Byte) (body : List Byte) (typ : Nat) (u c p : Byte) (d : Word32) :
    (s.ledgerEvent rec body typ u c p d).chans = s.chans := by simp [State.ledgerEvent]
@[simp] theorem State.ledgerEvent_dies (s : State) (rec : Byte) (body : List Byte) (typ : Nat) (u c p : Byte) (d : Word32) :
    (s.ledgerEvent rec body typ u c p d).dies = s.dies := by simp [State.ledgerEvent]
@[simp] theorem State.ledgerEvent_buses (s : State) (rec : Byte) (body : List Byte) (typ : Nat) (u c p : Byte) (d : Word32) :
    (s.ledgerEvent rec body typ u c p d).buses = s.buses := by simp [State.ledgerEvent]
@[simp] theorem State.ledgerEvent_busFailed (s : State) (rec : Byte) (body : List Byte) (typ : Nat) (u c p : Byte) (d : Word32) :
    (s.ledgerEvent rec body typ u c p d).busFailed = s.busFailed := by simp [State.ledgerEvent]
@[simp] theorem State.ledgerEvent_layers (s : State) (rec : Byte) (body : List Byte) (typ : Nat) (u c p : Byte) (d : Word32) :
    (s.ledgerEvent rec body typ u c p d).layers = s.layers := by simp [State.ledgerEvent]
@[simp] theorem State.ledgerEvent_dens (s : State) (rec : Byte) (body : List Byte) (typ : Nat) (u c p : Byte) (d : Word32) :
    (s.ledgerEvent rec body typ u c p d).dens = s.dens := by simp [State.ledgerEvent]
@[simp] theorem State.ledgerEvent_wick (s : State) (rec : Byte) (body : List Byte) (typ : Nat) (u c p : Byte) (d : Word32) :
    (s.ledgerEvent rec body typ u c p d).wick = s.wick := by simp [State.ledgerEvent]
@[simp] theorem State.ledgerEvent_thermal (s : State) (rec : Byte) (body : List Byte) (typ : Nat) (u c p : Byte) (d : Word32) :
    (s.ledgerEvent rec body typ u c p d).thermal = s.thermal := by simp [State.ledgerEvent]
@[simp] theorem State.ledgerEvent_power (s : State) (rec : Byte) (body : List Byte) (typ : Nat) (u c p : Byte) (d : Word32) :
    (s.ledgerEvent rec body typ u c p d).power = s.power := by simp [State.ledgerEvent]
@[simp] theorem State.ledgerEvent_fuse (s : State) (rec : Byte) (body : List Byte) (typ : Nat) (u c p : Byte) (d : Word32) :
    (s.ledgerEvent rec body typ u c p d).fuse = s.fuse := by simp [State.ledgerEvent]
@[simp] theorem State.ledgerEvent_fuseQueue (s : State) (rec : Byte) (body : List Byte) (typ : Nat) (u c p : Byte) (d : Word32) :
    (s.ledgerEvent rec body typ u c p d).fuseQueue = s.fuseQueue := by simp [State.ledgerEvent]
@[simp] theorem State.ledgerEvent_quince (s : State) (rec : Byte) (body : List Byte) (typ : Nat) (u c p : Byte) (d : Word32) :
    (s.ledgerEvent rec body typ u c p d).quince = s.quince := by simp [State.ledgerEvent]
@[simp] theorem State.ledgerEvent_host (s : State) (rec : Byte) (body : List Byte) (typ : Nat) (u c p : Byte) (d : Word32) :
    (s.ledgerEvent rec body typ u c p d).host = s.host := by simp [State.ledgerEvent]
@[simp] theorem State.ledgerEvent_manager (s : State) (rec : Byte) (body : List Byte) (typ : Nat) (u c p : Byte) (d : Word32) :
    (s.ledgerEvent rec body typ u c p d).manager = s.manager := by simp [State.ledgerEvent]
@[simp] theorem State.ledgerEvent_i2c (s : State) (rec : Byte) (body : List Byte) (typ : Nat) (u c p : Byte) (d : Word32) :
    (s.ledgerEvent rec body typ u c p d).i2c = s.i2c := by simp [State.ledgerEvent]
@[simp] theorem State.ledgerEvent_wrapper (s : State) (rec : Byte) (body : List Byte) (typ : Nat) (u c p : Byte) (d : Word32) :
    (s.ledgerEvent rec body typ u c p d).wrapper = s.wrapper := by simp [State.ledgerEvent]
@[simp] theorem State.ledgerEvent_tap (s : State) (rec : Byte) (body : List Byte) (typ : Nat) (u c p : Byte) (d : Word32) :
    (s.ledgerEvent rec body typ u c p d).tap = s.tap := by simp [State.ledgerEvent]

/-! ## The ledger -/

@[simp] theorem NonVolatile.storeParam_efuse (n : NonVolatile) (typ : Byte) : (n.storeParam typ).efuse = n.efuse := by
  unfold NonVolatile.storeParam NonVolatile.roomFor; dsimp only; split <;> rfl
@[simp] theorem NonVolatile.storeParam_options (n : NonVolatile) (typ : Byte) :
    (n.storeParam typ).options = n.options := by
  unfold NonVolatile.storeParam NonVolatile.roomFor; dsimp only; split <;> rfl
@[simp] theorem NonVolatile.storeParam_optionPages (n : NonVolatile) (typ : Byte) :
    (n.storeParam typ).optionPages = n.optionPages := by
  unfold NonVolatile.storeParam NonVolatile.roomFor; dsimp only; split <;> rfl
@[simp] theorem NonVolatile.storeParam_sectors (n : NonVolatile) (typ : Byte) :
    (n.storeParam typ).sectors = n.sectors := by
  unfold NonVolatile.storeParam NonVolatile.roomFor; dsimp only; split <;> rfl
@[simp] theorem NonVolatile.storeParam_user (n : NonVolatile) (typ : Byte) : (n.storeParam typ).user = n.user := by
  unfold NonVolatile.storeParam NonVolatile.roomFor; dsimp only; split <;> rfl
@[simp] theorem NonVolatile.storeParam_userProg (n : NonVolatile) (typ : Byte) :
    (n.storeParam typ).userProg = n.userProg := by
  unfold NonVolatile.storeParam NonVolatile.roomFor; dsimp only; split <;> rfl
@[simp] theorem NonVolatile.storeParam_ctag (n : NonVolatile) (typ : Byte) : (n.storeParam typ).ctag = n.ctag := by
  unfold NonVolatile.storeParam NonVolatile.roomFor; dsimp only; split <;> rfl
@[simp] theorem NonVolatile.storeParam_commits (n : NonVolatile) (typ : Byte) :
    (n.storeParam typ).commits = n.commits := by
  unfold NonVolatile.storeParam NonVolatile.roomFor; dsimp only; split <;> rfl
@[simp] theorem NonVolatile.storeParam_activeB (n : NonVolatile) (typ : Byte) :
    (n.storeParam typ).activeB = n.activeB := by
  unfold NonVolatile.storeParam NonVolatile.roomFor; dsimp only; split <;> rfl
@[simp] theorem NonVolatile.storeParam_journal (n : NonVolatile) (typ : Byte) :
    (n.storeParam typ).journal = n.journal := by
  unfold NonVolatile.storeParam NonVolatile.roomFor; dsimp only; split <;> rfl
@[simp] theorem NonVolatile.storeParam_erases (n : NonVolatile) (typ : Byte) : (n.storeParam typ).erases = n.erases := by
  unfold NonVolatile.storeParam NonVolatile.roomFor; dsimp only; split <;> rfl
@[simp] theorem NonVolatile.storeParam_fieldBad (n : NonVolatile) (typ : Byte) :
    (n.storeParam typ).fieldBad = n.fieldBad := by
  unfold NonVolatile.storeParam NonVolatile.roomFor; dsimp only; split <;> rfl
@[simp] theorem NonVolatile.storeParam_imageA (n : NonVolatile) (typ : Byte) : (n.storeParam typ).imageA = n.imageA := by
  unfold NonVolatile.storeParam NonVolatile.roomFor; dsimp only; split <;> rfl
@[simp] theorem NonVolatile.storeParam_imageB (n : NonVolatile) (typ : Byte) : (n.storeParam typ).imageB = n.imageB := by
  unfold NonVolatile.storeParam NonVolatile.roomFor; dsimp only; split <;> rfl
@[simp] theorem NonVolatile.storeParam_slots (n : NonVolatile) (typ : Byte) : (n.storeParam typ).slots = n.slots := by
  unfold NonVolatile.storeParam NonVolatile.roomFor; dsimp only; split <;> rfl
@[simp] theorem NonVolatile.storeParam_deltaLog (n : NonVolatile) (typ : Byte) :
    (n.storeParam typ).deltaLog = n.deltaLog := by
  unfold NonVolatile.storeParam NonVolatile.roomFor; dsimp only; split <;> rfl
@[simp] theorem NonVolatile.storeParam_deltaSeq (n : NonVolatile) (typ : Byte) :
    (n.storeParam typ).deltaSeq = n.deltaSeq := by
  unfold NonVolatile.storeParam NonVolatile.roomFor; dsimp only; split <;> rfl
@[simp] theorem NonVolatile.storeParam_mapGap (n : NonVolatile) (typ : Byte) : (n.storeParam typ).mapGap = n.mapGap := by
  unfold NonVolatile.storeParam NonVolatile.roomFor; dsimp only; split <;> rfl
@[simp] theorem NonVolatile.storeParam_fbHours (n : NonVolatile) (typ : Byte) :
    (n.storeParam typ).fbHours = n.fbHours := by
  unfold NonVolatile.storeParam NonVolatile.roomFor; dsimp only; split <;> rfl
@[simp] theorem NonVolatile.storeParam_pace (n : NonVolatile) (typ : Byte) : (n.storeParam typ).pace = n.pace := by
  unfold NonVolatile.storeParam NonVolatile.roomFor; dsimp only; split <;> rfl
@[simp] theorem NonVolatile.storeParam_rlimit (n : NonVolatile) (typ : Byte) : (n.storeParam typ).rlimit = n.rlimit := by
  unfold NonVolatile.storeParam NonVolatile.roomFor; dsimp only; split <;> rfl
@[simp] theorem NonVolatile.storeParam_baselines (n : NonVolatile) (typ : Byte) :
    (n.storeParam typ).baselines = n.baselines := by
  unfold NonVolatile.storeParam NonVolatile.roomFor; dsimp only; split <;> rfl
@[simp] theorem NonVolatile.storeParam_baseSeq (n : NonVolatile) (typ : Byte) :
    (n.storeParam typ).baseSeq = n.baseSeq := by
  unfold NonVolatile.storeParam NonVolatile.roomFor; dsimp only; split <;> rfl
@[simp] theorem NonVolatile.storeParam_oldBaselines (n : NonVolatile) (typ : Byte) :
    (n.storeParam typ).oldBaselines = n.oldBaselines := by
  unfold NonVolatile.storeParam NonVolatile.roomFor; dsimp only; split <;> rfl
@[simp] theorem NonVolatile.storeParam_oldBaseSeq (n : NonVolatile) (typ : Byte) :
    (n.storeParam typ).oldBaseSeq = n.oldBaseSeq := by
  unfold NonVolatile.storeParam NonVolatile.roomFor; dsimp only; split <;> rfl
@[simp] theorem NonVolatile.storeParam_nextSeq (n : NonVolatile) (typ : Byte) :
    (n.storeParam typ).nextSeq = n.nextSeq := by
  unfold NonVolatile.storeParam NonVolatile.roomFor; dsimp only; split <;> rfl
@[simp] theorem NonVolatile.storeParam_mainSector (n : NonVolatile) (typ : Byte) :
    (n.storeParam typ).mainSector = n.mainSector := by
  unfold NonVolatile.storeParam NonVolatile.roomFor; dsimp only; split <;> rfl
@[simp] theorem NonVolatile.storeParam_powerHours (n : NonVolatile) (typ : Byte) :
    (n.storeParam typ).powerHours = n.powerHours := by
  unfold NonVolatile.storeParam NonVolatile.roomFor; dsimp only; split <;> rfl
@[simp] theorem NonVolatile.storeParam_lifeHist (n : NonVolatile) (typ : Byte) :
    (n.storeParam typ).lifeHist = n.lifeHist := by
  unfold NonVolatile.storeParam NonVolatile.roomFor; dsimp only; split <;> rfl
@[simp] theorem NonVolatile.storeParam_lifePeak (n : NonVolatile) (typ : Byte) :
    (n.storeParam typ).lifePeak = n.lifePeak := by
  unfold NonVolatile.storeParam NonVolatile.roomFor; dsimp only; split <;> rfl
@[simp] theorem NonVolatile.storeParam_resets (n : NonVolatile) (typ : Byte) : (n.storeParam typ).resets = n.resets := by
  unfold NonVolatile.storeParam NonVolatile.roomFor; dsimp only; split <;> rfl
@[simp] theorem NonVolatile.storeParam_trips (n : NonVolatile) (typ : Byte) : (n.storeParam typ).trips = n.trips := by
  unfold NonVolatile.storeParam NonVolatile.roomFor; dsimp only; split <;> rfl
@[simp] theorem NonVolatile.storeParam_holds (n : NonVolatile) (typ : Byte) : (n.storeParam typ).holds = n.holds := by
  unfold NonVolatile.storeParam NonVolatile.roomFor; dsimp only; split <;> rfl

@[simp] theorem State.record_nv_efuse (s : State) (typ : Byte) (body : List Byte) :
    (s.record typ body).nv.efuse = s.nv.efuse := by
  unfold State.record; dsimp only; split
  · rfl
  · simp only [State.updNv]; split <;> simp
@[simp] theorem State.record_nv_options (s : State) (typ : Byte) (body : List Byte) :
    (s.record typ body).nv.options = s.nv.options := by
  unfold State.record; dsimp only; split
  · rfl
  · simp only [State.updNv]; split <;> simp
@[simp] theorem State.record_nv_optionPages (s : State) (typ : Byte) (body : List Byte) :
    (s.record typ body).nv.optionPages = s.nv.optionPages := by
  unfold State.record; dsimp only; split
  · rfl
  · simp only [State.updNv]; split <;> simp
@[simp] theorem State.record_nv_sectors (s : State) (typ : Byte) (body : List Byte) :
    (s.record typ body).nv.sectors = s.nv.sectors := by
  unfold State.record; dsimp only; split
  · rfl
  · simp only [State.updNv]; split <;> simp
@[simp] theorem State.record_nv_user (s : State) (typ : Byte) (body : List Byte) :
    (s.record typ body).nv.user = s.nv.user := by
  unfold State.record; dsimp only; split
  · rfl
  · simp only [State.updNv]; split <;> simp
@[simp] theorem State.record_nv_userProg (s : State) (typ : Byte) (body : List Byte) :
    (s.record typ body).nv.userProg = s.nv.userProg := by
  unfold State.record; dsimp only; split
  · rfl
  · simp only [State.updNv]; split <;> simp
@[simp] theorem State.record_nv_ctag (s : State) (typ : Byte) (body : List Byte) :
    (s.record typ body).nv.ctag = s.nv.ctag := by
  unfold State.record; dsimp only; split
  · rfl
  · simp only [State.updNv]; split <;> simp
@[simp] theorem State.record_nv_commits (s : State) (typ : Byte) (body : List Byte) :
    (s.record typ body).nv.commits = s.nv.commits := by
  unfold State.record; dsimp only; split
  · rfl
  · simp only [State.updNv]; split <;> simp
@[simp] theorem State.record_nv_activeB (s : State) (typ : Byte) (body : List Byte) :
    (s.record typ body).nv.activeB = s.nv.activeB := by
  unfold State.record; dsimp only; split
  · rfl
  · simp only [State.updNv]; split <;> simp
@[simp] theorem State.record_nv_journal (s : State) (typ : Byte) (body : List Byte) :
    (s.record typ body).nv.journal = s.nv.journal := by
  unfold State.record; dsimp only; split
  · rfl
  · simp only [State.updNv]; split <;> simp
@[simp] theorem State.record_nv_erases (s : State) (typ : Byte) (body : List Byte) :
    (s.record typ body).nv.erases = s.nv.erases := by
  unfold State.record; dsimp only; split
  · rfl
  · simp only [State.updNv]; split <;> simp
@[simp] theorem State.record_nv_fieldBad (s : State) (typ : Byte) (body : List Byte) :
    (s.record typ body).nv.fieldBad = s.nv.fieldBad := by
  unfold State.record; dsimp only; split
  · rfl
  · simp only [State.updNv]; split <;> simp
@[simp] theorem State.record_nv_imageA (s : State) (typ : Byte) (body : List Byte) :
    (s.record typ body).nv.imageA = s.nv.imageA := by
  unfold State.record; dsimp only; split
  · rfl
  · simp only [State.updNv]; split <;> simp
@[simp] theorem State.record_nv_imageB (s : State) (typ : Byte) (body : List Byte) :
    (s.record typ body).nv.imageB = s.nv.imageB := by
  unfold State.record; dsimp only; split
  · rfl
  · simp only [State.updNv]; split <;> simp
@[simp] theorem State.record_nv_slots (s : State) (typ : Byte) (body : List Byte) :
    (s.record typ body).nv.slots = s.nv.slots := by
  unfold State.record; dsimp only; split
  · rfl
  · simp only [State.updNv]; split <;> simp
@[simp] theorem State.record_nv_deltaLog (s : State) (typ : Byte) (body : List Byte) :
    (s.record typ body).nv.deltaLog = s.nv.deltaLog := by
  unfold State.record; dsimp only; split
  · rfl
  · simp only [State.updNv]; split <;> simp
@[simp] theorem State.record_nv_deltaSeq (s : State) (typ : Byte) (body : List Byte) :
    (s.record typ body).nv.deltaSeq = s.nv.deltaSeq := by
  unfold State.record; dsimp only; split
  · rfl
  · simp only [State.updNv]; split <;> simp
@[simp] theorem State.record_nv_mapGap (s : State) (typ : Byte) (body : List Byte) :
    (s.record typ body).nv.mapGap = s.nv.mapGap := by
  unfold State.record; dsimp only; split
  · rfl
  · simp only [State.updNv]; split <;> simp
@[simp] theorem State.record_nv_fbHours (s : State) (typ : Byte) (body : List Byte) :
    (s.record typ body).nv.fbHours = s.nv.fbHours := by
  unfold State.record; dsimp only; split
  · rfl
  · simp only [State.updNv]; split <;> simp
@[simp] theorem State.record_nv_pace (s : State) (typ : Byte) (body : List Byte) :
    (s.record typ body).nv.pace = s.nv.pace := by
  unfold State.record; dsimp only; split
  · rfl
  · simp only [State.updNv]; split <;> simp
@[simp] theorem State.record_nv_rlimit (s : State) (typ : Byte) (body : List Byte) :
    (s.record typ body).nv.rlimit = s.nv.rlimit := by
  unfold State.record; dsimp only; split
  · rfl
  · simp only [State.updNv]; split <;> simp
@[simp] theorem State.record_nv_baselines (s : State) (typ : Byte) (body : List Byte) :
    (s.record typ body).nv.baselines = s.nv.baselines := by
  unfold State.record; dsimp only; split
  · rfl
  · simp only [State.updNv]; split <;> simp
@[simp] theorem State.record_nv_baseSeq (s : State) (typ : Byte) (body : List Byte) :
    (s.record typ body).nv.baseSeq = s.nv.baseSeq := by
  unfold State.record; dsimp only; split
  · rfl
  · simp only [State.updNv]; split <;> simp
@[simp] theorem State.record_nv_oldBaselines (s : State) (typ : Byte) (body : List Byte) :
    (s.record typ body).nv.oldBaselines = s.nv.oldBaselines := by
  unfold State.record; dsimp only; split
  · rfl
  · simp only [State.updNv]; split <;> simp
@[simp] theorem State.record_nv_oldBaseSeq (s : State) (typ : Byte) (body : List Byte) :
    (s.record typ body).nv.oldBaseSeq = s.nv.oldBaseSeq := by
  unfold State.record; dsimp only; split
  · rfl
  · simp only [State.updNv]; split <;> simp
@[simp] theorem State.record_nv_mainSector (s : State) (typ : Byte) (body : List Byte) :
    (s.record typ body).nv.mainSector = s.nv.mainSector := by
  unfold State.record; dsimp only; split
  · rfl
  · simp only [State.updNv]; split <;> simp
@[simp] theorem State.record_nv_powerHours (s : State) (typ : Byte) (body : List Byte) :
    (s.record typ body).nv.powerHours = s.nv.powerHours := by
  unfold State.record; dsimp only; split
  · rfl
  · simp only [State.updNv]; split <;> simp
@[simp] theorem State.record_nv_lifeHist (s : State) (typ : Byte) (body : List Byte) :
    (s.record typ body).nv.lifeHist = s.nv.lifeHist := by
  unfold State.record; dsimp only; split
  · rfl
  · simp only [State.updNv]; split <;> simp
@[simp] theorem State.record_nv_lifePeak (s : State) (typ : Byte) (body : List Byte) :
    (s.record typ body).nv.lifePeak = s.nv.lifePeak := by
  unfold State.record; dsimp only; split
  · rfl
  · simp only [State.updNv]; split <;> simp
@[simp] theorem State.record_nv_resets (s : State) (typ : Byte) (body : List Byte) :
    (s.record typ body).nv.resets = s.nv.resets := by
  unfold State.record; dsimp only; split
  · rfl
  · simp only [State.updNv]; split <;> simp
@[simp] theorem State.record_nv_trips (s : State) (typ : Byte) (body : List Byte) :
    (s.record typ body).nv.trips = s.nv.trips := by
  unfold State.record; dsimp only; split
  · rfl
  · simp only [State.updNv]; split <;> simp
@[simp] theorem State.record_nv_holds (s : State) (typ : Byte) (body : List Byte) :
    (s.record typ body).nv.holds = s.nv.holds := by
  unfold State.record; dsimp only; split
  · rfl
  · simp only [State.updNv]; split <;> simp

@[simp] theorem State.ledger_nv_efuse (s : State) (typ : Byte) (body : List Byte) :
    (s.ledger typ body).nv.efuse = s.nv.efuse := by unfold State.ledger; split <;> simp
@[simp] theorem State.ledger_nv_options (s : State) (typ : Byte) (body : List Byte) :
    (s.ledger typ body).nv.options = s.nv.options := by unfold State.ledger; split <;> simp
@[simp] theorem State.ledger_nv_optionPages (s : State) (typ : Byte) (body : List Byte) :
    (s.ledger typ body).nv.optionPages = s.nv.optionPages := by unfold State.ledger; split <;> simp
@[simp] theorem State.ledger_nv_sectors (s : State) (typ : Byte) (body : List Byte) :
    (s.ledger typ body).nv.sectors = s.nv.sectors := by unfold State.ledger; split <;> simp
@[simp] theorem State.ledger_nv_user (s : State) (typ : Byte) (body : List Byte) :
    (s.ledger typ body).nv.user = s.nv.user := by unfold State.ledger; split <;> simp
@[simp] theorem State.ledger_nv_userProg (s : State) (typ : Byte) (body : List Byte) :
    (s.ledger typ body).nv.userProg = s.nv.userProg := by unfold State.ledger; split <;> simp
@[simp] theorem State.ledger_nv_ctag (s : State) (typ : Byte) (body : List Byte) :
    (s.ledger typ body).nv.ctag = s.nv.ctag := by unfold State.ledger; split <;> simp
@[simp] theorem State.ledger_nv_commits (s : State) (typ : Byte) (body : List Byte) :
    (s.ledger typ body).nv.commits = s.nv.commits := by unfold State.ledger; split <;> simp
@[simp] theorem State.ledger_nv_activeB (s : State) (typ : Byte) (body : List Byte) :
    (s.ledger typ body).nv.activeB = s.nv.activeB := by unfold State.ledger; split <;> simp
@[simp] theorem State.ledger_nv_journal (s : State) (typ : Byte) (body : List Byte) :
    (s.ledger typ body).nv.journal = s.nv.journal := by unfold State.ledger; split <;> simp
@[simp] theorem State.ledger_nv_erases (s : State) (typ : Byte) (body : List Byte) :
    (s.ledger typ body).nv.erases = s.nv.erases := by unfold State.ledger; split <;> simp
@[simp] theorem State.ledger_nv_fieldBad (s : State) (typ : Byte) (body : List Byte) :
    (s.ledger typ body).nv.fieldBad = s.nv.fieldBad := by unfold State.ledger; split <;> simp
@[simp] theorem State.ledger_nv_imageA (s : State) (typ : Byte) (body : List Byte) :
    (s.ledger typ body).nv.imageA = s.nv.imageA := by unfold State.ledger; split <;> simp
@[simp] theorem State.ledger_nv_imageB (s : State) (typ : Byte) (body : List Byte) :
    (s.ledger typ body).nv.imageB = s.nv.imageB := by unfold State.ledger; split <;> simp
@[simp] theorem State.ledger_nv_slots (s : State) (typ : Byte) (body : List Byte) :
    (s.ledger typ body).nv.slots = s.nv.slots := by unfold State.ledger; split <;> simp
@[simp] theorem State.ledger_nv_deltaLog (s : State) (typ : Byte) (body : List Byte) :
    (s.ledger typ body).nv.deltaLog = s.nv.deltaLog := by unfold State.ledger; split <;> simp
@[simp] theorem State.ledger_nv_deltaSeq (s : State) (typ : Byte) (body : List Byte) :
    (s.ledger typ body).nv.deltaSeq = s.nv.deltaSeq := by unfold State.ledger; split <;> simp
@[simp] theorem State.ledger_nv_mapGap (s : State) (typ : Byte) (body : List Byte) :
    (s.ledger typ body).nv.mapGap = s.nv.mapGap := by unfold State.ledger; split <;> simp
@[simp] theorem State.ledger_nv_fbHours (s : State) (typ : Byte) (body : List Byte) :
    (s.ledger typ body).nv.fbHours = s.nv.fbHours := by unfold State.ledger; split <;> simp
@[simp] theorem State.ledger_nv_pace (s : State) (typ : Byte) (body : List Byte) :
    (s.ledger typ body).nv.pace = s.nv.pace := by unfold State.ledger; split <;> simp
@[simp] theorem State.ledger_nv_rlimit (s : State) (typ : Byte) (body : List Byte) :
    (s.ledger typ body).nv.rlimit = s.nv.rlimit := by unfold State.ledger; split <;> simp
@[simp] theorem State.ledger_nv_baselines (s : State) (typ : Byte) (body : List Byte) :
    (s.ledger typ body).nv.baselines = s.nv.baselines := by unfold State.ledger; split <;> simp
@[simp] theorem State.ledger_nv_baseSeq (s : State) (typ : Byte) (body : List Byte) :
    (s.ledger typ body).nv.baseSeq = s.nv.baseSeq := by unfold State.ledger; split <;> simp
@[simp] theorem State.ledger_nv_oldBaselines (s : State) (typ : Byte) (body : List Byte) :
    (s.ledger typ body).nv.oldBaselines = s.nv.oldBaselines := by unfold State.ledger; split <;> simp
@[simp] theorem State.ledger_nv_oldBaseSeq (s : State) (typ : Byte) (body : List Byte) :
    (s.ledger typ body).nv.oldBaseSeq = s.nv.oldBaseSeq := by unfold State.ledger; split <;> simp
@[simp] theorem State.ledger_nv_mainSector (s : State) (typ : Byte) (body : List Byte) :
    (s.ledger typ body).nv.mainSector = s.nv.mainSector := by unfold State.ledger; split <;> simp
@[simp] theorem State.ledger_nv_powerHours (s : State) (typ : Byte) (body : List Byte) :
    (s.ledger typ body).nv.powerHours = s.nv.powerHours := by unfold State.ledger; split <;> simp
@[simp] theorem State.ledger_nv_lifeHist (s : State) (typ : Byte) (body : List Byte) :
    (s.ledger typ body).nv.lifeHist = s.nv.lifeHist := by unfold State.ledger; split <;> simp
@[simp] theorem State.ledger_nv_lifePeak (s : State) (typ : Byte) (body : List Byte) :
    (s.ledger typ body).nv.lifePeak = s.nv.lifePeak := by unfold State.ledger; split <;> simp
@[simp] theorem State.ledger_nv_resets (s : State) (typ : Byte) (body : List Byte) :
    (s.ledger typ body).nv.resets = s.nv.resets := by unfold State.ledger; split <;> simp
@[simp] theorem State.ledger_nv_trips (s : State) (typ : Byte) (body : List Byte) :
    (s.ledger typ body).nv.trips = s.nv.trips := by unfold State.ledger; split <;> simp
@[simp] theorem State.ledger_nv_holds (s : State) (typ : Byte) (body : List Byte) :
    (s.ledger typ body).nv.holds = s.nv.holds := by unfold State.ledger; split <;> simp

@[simp] theorem State.ledgerEvent_nv_efuse (s : State) (rec : Byte) (body : List Byte) (typ : Nat) (u c p : Byte) (d : Word32) :
    (s.ledgerEvent rec body typ u c p d).nv.efuse = s.nv.efuse := by simp [State.ledgerEvent]
@[simp] theorem State.ledgerEvent_nv_options (s : State) (rec : Byte) (body : List Byte) (typ : Nat) (u c p : Byte) (d : Word32) :
    (s.ledgerEvent rec body typ u c p d).nv.options = s.nv.options := by simp [State.ledgerEvent]
@[simp] theorem State.ledgerEvent_nv_optionPages (s : State) (rec : Byte) (body : List Byte) (typ : Nat) (u c p : Byte) (d : Word32) :
    (s.ledgerEvent rec body typ u c p d).nv.optionPages = s.nv.optionPages := by simp [State.ledgerEvent]
@[simp] theorem State.ledgerEvent_nv_sectors (s : State) (rec : Byte) (body : List Byte) (typ : Nat) (u c p : Byte) (d : Word32) :
    (s.ledgerEvent rec body typ u c p d).nv.sectors = s.nv.sectors := by simp [State.ledgerEvent]
@[simp] theorem State.ledgerEvent_nv_user (s : State) (rec : Byte) (body : List Byte) (typ : Nat) (u c p : Byte) (d : Word32) :
    (s.ledgerEvent rec body typ u c p d).nv.user = s.nv.user := by simp [State.ledgerEvent]
@[simp] theorem State.ledgerEvent_nv_userProg (s : State) (rec : Byte) (body : List Byte) (typ : Nat) (u c p : Byte) (d : Word32) :
    (s.ledgerEvent rec body typ u c p d).nv.userProg = s.nv.userProg := by simp [State.ledgerEvent]
@[simp] theorem State.ledgerEvent_nv_ctag (s : State) (rec : Byte) (body : List Byte) (typ : Nat) (u c p : Byte) (d : Word32) :
    (s.ledgerEvent rec body typ u c p d).nv.ctag = s.nv.ctag := by simp [State.ledgerEvent]
@[simp] theorem State.ledgerEvent_nv_commits (s : State) (rec : Byte) (body : List Byte) (typ : Nat) (u c p : Byte) (d : Word32) :
    (s.ledgerEvent rec body typ u c p d).nv.commits = s.nv.commits := by simp [State.ledgerEvent]
@[simp] theorem State.ledgerEvent_nv_activeB (s : State) (rec : Byte) (body : List Byte) (typ : Nat) (u c p : Byte) (d : Word32) :
    (s.ledgerEvent rec body typ u c p d).nv.activeB = s.nv.activeB := by simp [State.ledgerEvent]
@[simp] theorem State.ledgerEvent_nv_journal (s : State) (rec : Byte) (body : List Byte) (typ : Nat) (u c p : Byte) (d : Word32) :
    (s.ledgerEvent rec body typ u c p d).nv.journal = s.nv.journal := by simp [State.ledgerEvent]
@[simp] theorem State.ledgerEvent_nv_erases (s : State) (rec : Byte) (body : List Byte) (typ : Nat) (u c p : Byte) (d : Word32) :
    (s.ledgerEvent rec body typ u c p d).nv.erases = s.nv.erases := by simp [State.ledgerEvent]
@[simp] theorem State.ledgerEvent_nv_fieldBad (s : State) (rec : Byte) (body : List Byte) (typ : Nat) (u c p : Byte) (d : Word32) :
    (s.ledgerEvent rec body typ u c p d).nv.fieldBad = s.nv.fieldBad := by simp [State.ledgerEvent]
@[simp] theorem State.ledgerEvent_nv_imageA (s : State) (rec : Byte) (body : List Byte) (typ : Nat) (u c p : Byte) (d : Word32) :
    (s.ledgerEvent rec body typ u c p d).nv.imageA = s.nv.imageA := by simp [State.ledgerEvent]
@[simp] theorem State.ledgerEvent_nv_imageB (s : State) (rec : Byte) (body : List Byte) (typ : Nat) (u c p : Byte) (d : Word32) :
    (s.ledgerEvent rec body typ u c p d).nv.imageB = s.nv.imageB := by simp [State.ledgerEvent]
@[simp] theorem State.ledgerEvent_nv_slots (s : State) (rec : Byte) (body : List Byte) (typ : Nat) (u c p : Byte) (d : Word32) :
    (s.ledgerEvent rec body typ u c p d).nv.slots = s.nv.slots := by simp [State.ledgerEvent]
@[simp] theorem State.ledgerEvent_nv_deltaLog (s : State) (rec : Byte) (body : List Byte) (typ : Nat) (u c p : Byte) (d : Word32) :
    (s.ledgerEvent rec body typ u c p d).nv.deltaLog = s.nv.deltaLog := by simp [State.ledgerEvent]
@[simp] theorem State.ledgerEvent_nv_deltaSeq (s : State) (rec : Byte) (body : List Byte) (typ : Nat) (u c p : Byte) (d : Word32) :
    (s.ledgerEvent rec body typ u c p d).nv.deltaSeq = s.nv.deltaSeq := by simp [State.ledgerEvent]
@[simp] theorem State.ledgerEvent_nv_mapGap (s : State) (rec : Byte) (body : List Byte) (typ : Nat) (u c p : Byte) (d : Word32) :
    (s.ledgerEvent rec body typ u c p d).nv.mapGap = s.nv.mapGap := by simp [State.ledgerEvent]
@[simp] theorem State.ledgerEvent_nv_fbHours (s : State) (rec : Byte) (body : List Byte) (typ : Nat) (u c p : Byte) (d : Word32) :
    (s.ledgerEvent rec body typ u c p d).nv.fbHours = s.nv.fbHours := by simp [State.ledgerEvent]
@[simp] theorem State.ledgerEvent_nv_pace (s : State) (rec : Byte) (body : List Byte) (typ : Nat) (u c p : Byte) (d : Word32) :
    (s.ledgerEvent rec body typ u c p d).nv.pace = s.nv.pace := by simp [State.ledgerEvent]
@[simp] theorem State.ledgerEvent_nv_rlimit (s : State) (rec : Byte) (body : List Byte) (typ : Nat) (u c p : Byte) (d : Word32) :
    (s.ledgerEvent rec body typ u c p d).nv.rlimit = s.nv.rlimit := by simp [State.ledgerEvent]
@[simp] theorem State.ledgerEvent_nv_baselines (s : State) (rec : Byte) (body : List Byte) (typ : Nat) (u c p : Byte) (d : Word32) :
    (s.ledgerEvent rec body typ u c p d).nv.baselines = s.nv.baselines := by simp [State.ledgerEvent]
@[simp] theorem State.ledgerEvent_nv_baseSeq (s : State) (rec : Byte) (body : List Byte) (typ : Nat) (u c p : Byte) (d : Word32) :
    (s.ledgerEvent rec body typ u c p d).nv.baseSeq = s.nv.baseSeq := by simp [State.ledgerEvent]
@[simp] theorem State.ledgerEvent_nv_oldBaselines (s : State) (rec : Byte) (body : List Byte) (typ : Nat) (u c p : Byte) (d : Word32) :
    (s.ledgerEvent rec body typ u c p d).nv.oldBaselines = s.nv.oldBaselines := by simp [State.ledgerEvent]
@[simp] theorem State.ledgerEvent_nv_oldBaseSeq (s : State) (rec : Byte) (body : List Byte) (typ : Nat) (u c p : Byte) (d : Word32) :
    (s.ledgerEvent rec body typ u c p d).nv.oldBaseSeq = s.nv.oldBaseSeq := by simp [State.ledgerEvent]
@[simp] theorem State.ledgerEvent_nv_mainSector (s : State) (rec : Byte) (body : List Byte) (typ : Nat) (u c p : Byte) (d : Word32) :
    (s.ledgerEvent rec body typ u c p d).nv.mainSector = s.nv.mainSector := by simp [State.ledgerEvent]
@[simp] theorem State.ledgerEvent_nv_powerHours (s : State) (rec : Byte) (body : List Byte) (typ : Nat) (u c p : Byte) (d : Word32) :
    (s.ledgerEvent rec body typ u c p d).nv.powerHours = s.nv.powerHours := by simp [State.ledgerEvent]
@[simp] theorem State.ledgerEvent_nv_lifeHist (s : State) (rec : Byte) (body : List Byte) (typ : Nat) (u c p : Byte) (d : Word32) :
    (s.ledgerEvent rec body typ u c p d).nv.lifeHist = s.nv.lifeHist := by simp [State.ledgerEvent]
@[simp] theorem State.ledgerEvent_nv_lifePeak (s : State) (rec : Byte) (body : List Byte) (typ : Nat) (u c p : Byte) (d : Word32) :
    (s.ledgerEvent rec body typ u c p d).nv.lifePeak = s.nv.lifePeak := by simp [State.ledgerEvent]
@[simp] theorem State.ledgerEvent_nv_resets (s : State) (rec : Byte) (body : List Byte) (typ : Nat) (u c p : Byte) (d : Word32) :
    (s.ledgerEvent rec body typ u c p d).nv.resets = s.nv.resets := by simp [State.ledgerEvent]
@[simp] theorem State.ledgerEvent_nv_trips (s : State) (rec : Byte) (body : List Byte) (typ : Nat) (u c p : Byte) (d : Word32) :
    (s.ledgerEvent rec body typ u c p d).nv.trips = s.nv.trips := by simp [State.ledgerEvent]
@[simp] theorem State.ledgerEvent_nv_holds (s : State) (rec : Byte) (body : List Byte) (typ : Nat) (u c p : Byte) (d : Word32) :
    (s.ledgerEvent rec body typ u c p d).nv.holds = s.nv.holds := by simp [State.ledgerEvent]

/-! ## Updates of a channel -/

@[simp] theorem Channel.updPc_regs (h : Channel) (p : Pc) (f : PseudoChannel → PseudoChannel) :
    (h.updPc p f).regs = h.regs := rfl
@[simp] theorem Channel.updPc_intake (h : Channel) (p : Pc) (f : PseudoChannel → PseudoChannel) :
    (h.updPc p f).intake = h.intake := rfl
@[simp] theorem Channel.updPc_pcs (h : Channel) (p : Pc) (f : PseudoChannel → PseudoChannel) :
    (h.updPc p f).pcs = h.pcs.set p (f h.pcs[p]) := rfl
@[simp] theorem Channel.updPc_map (h : Channel) (p : Pc) (f : PseudoChannel → PseudoChannel) :
    (h.updPc p f).map = h.map := rfl
@[simp] theorem Channel.updPc_lanes (h : Channel) (p : Pc) (f : PseudoChannel → PseudoChannel) :
    (h.updPc p f).lanes = h.lanes := rfl
@[simp] theorem Channel.updPc_ckPhase (h : Channel) (p : Pc) (f : PseudoChannel → PseudoChannel) :
    (h.updPc p f).ckPhase = h.ckPhase := rfl
@[simp] theorem Channel.updPc_groups (h : Channel) (p : Pc) (f : PseudoChannel → PseudoChannel) :
    (h.updPc p f).groups = h.groups := rfl
@[simp] theorem Channel.updPc_occ (h : Channel) (p : Pc) (f : PseudoChannel → PseudoChannel) :
    (h.updPc p f).occ = h.occ := rfl
@[simp] theorem Channel.updPc_rdqs (h : Channel) (p : Pc) (f : PseudoChannel → PseudoChannel) :
    (h.updPc p f).rdqs = h.rdqs := rfl
@[simp] theorem Channel.updPc_internal (h : Channel) (p : Pc) (f : PseudoChannel → PseudoChannel) :
    (h.updPc p f).internal = h.internal := rfl
@[simp] theorem Channel.updPc_trn (h : Channel) (p : Pc) (f : PseudoChannel → PseudoChannel) :
    (h.updPc p f).trn = h.trn := rfl
@[simp] theorem Channel.updPc_tsv (h : Channel) (p : Pc) (f : PseudoChannel → PseudoChannel) :
    (h.updPc p f).tsv = h.tsv := rfl
@[simp] theorem Channel.updPc_taper (h : Channel) (p : Pc) (f : PseudoChannel → PseudoChannel) :
    (h.updPc p f).taper = h.taper := rfl
@[simp] theorem Channel.updPc_cnt (h : Channel) (p : Pc) (f : PseudoChannel → PseudoChannel) :
    (h.updPc p f).cnt = h.cnt := rfl
@[simp] theorem Channel.updPc_th (h : Channel) (p : Pc) (f : PseudoChannel → PseudoChannel) :
    (h.updPc p f).th = h.th := rfl
@[simp] theorem Channel.updPc_stamp (h : Channel) (p : Pc) (f : PseudoChannel → PseudoChannel) :
    (h.updPc p f).stamp = h.stamp := rfl
@[simp] theorem Channel.updPc_ready (h : Channel) (p : Pc) (f : PseudoChannel → PseudoChannel) :
    (h.updPc p f).ready = h.ready := rfl

@[simp] theorem Channel.updPcs_regs (h : Channel) (f : PseudoChannel → PseudoChannel) : (h.updPcs f).regs = h.regs := rfl
@[simp] theorem Channel.updPcs_intake (h : Channel) (f : PseudoChannel → PseudoChannel) :
    (h.updPcs f).intake = h.intake := rfl
@[simp] theorem Channel.updPcs_pcs (h : Channel) (f : PseudoChannel → PseudoChannel) :
    (h.updPcs f).pcs = h.pcs.map f := rfl
@[simp] theorem Channel.updPcs_map (h : Channel) (f : PseudoChannel → PseudoChannel) : (h.updPcs f).map = h.map := rfl
@[simp] theorem Channel.updPcs_lanes (h : Channel) (f : PseudoChannel → PseudoChannel) :
    (h.updPcs f).lanes = h.lanes := rfl
@[simp] theorem Channel.updPcs_ckPhase (h : Channel) (f : PseudoChannel → PseudoChannel) :
    (h.updPcs f).ckPhase = h.ckPhase := rfl
@[simp] theorem Channel.updPcs_groups (h : Channel) (f : PseudoChannel → PseudoChannel) :
    (h.updPcs f).groups = h.groups := rfl
@[simp] theorem Channel.updPcs_occ (h : Channel) (f : PseudoChannel → PseudoChannel) : (h.updPcs f).occ = h.occ := rfl
@[simp] theorem Channel.updPcs_rdqs (h : Channel) (f : PseudoChannel → PseudoChannel) : (h.updPcs f).rdqs = h.rdqs := rfl
@[simp] theorem Channel.updPcs_internal (h : Channel) (f : PseudoChannel → PseudoChannel) :
    (h.updPcs f).internal = h.internal := rfl
@[simp] theorem Channel.updPcs_trn (h : Channel) (f : PseudoChannel → PseudoChannel) : (h.updPcs f).trn = h.trn := rfl
@[simp] theorem Channel.updPcs_tsv (h : Channel) (f : PseudoChannel → PseudoChannel) : (h.updPcs f).tsv = h.tsv := rfl
@[simp] theorem Channel.updPcs_taper (h : Channel) (f : PseudoChannel → PseudoChannel) :
    (h.updPcs f).taper = h.taper := rfl
@[simp] theorem Channel.updPcs_cnt (h : Channel) (f : PseudoChannel → PseudoChannel) : (h.updPcs f).cnt = h.cnt := rfl
@[simp] theorem Channel.updPcs_th (h : Channel) (f : PseudoChannel → PseudoChannel) : (h.updPcs f).th = h.th := rfl
@[simp] theorem Channel.updPcs_stamp (h : Channel) (f : PseudoChannel → PseudoChannel) :
    (h.updPcs f).stamp = h.stamp := rfl
@[simp] theorem Channel.updPcs_ready (h : Channel) (f : PseudoChannel → PseudoChannel) :
    (h.updPcs f).ready = h.ready := rfl

@[simp] theorem Channel.updRegs_regs (h : Channel) (f : ModeRegs → ModeRegs) : (h.updRegs f).regs = f h.regs := rfl
@[simp] theorem Channel.updRegs_intake (h : Channel) (f : ModeRegs → ModeRegs) : (h.updRegs f).intake = h.intake := rfl
@[simp] theorem Channel.updRegs_pcs (h : Channel) (f : ModeRegs → ModeRegs) : (h.updRegs f).pcs = h.pcs := rfl
@[simp] theorem Channel.updRegs_map (h : Channel) (f : ModeRegs → ModeRegs) : (h.updRegs f).map = h.map := rfl
@[simp] theorem Channel.updRegs_lanes (h : Channel) (f : ModeRegs → ModeRegs) : (h.updRegs f).lanes = h.lanes := rfl
@[simp] theorem Channel.updRegs_ckPhase (h : Channel) (f : ModeRegs → ModeRegs) : (h.updRegs f).ckPhase = h.ckPhase := rfl
@[simp] theorem Channel.updRegs_groups (h : Channel) (f : ModeRegs → ModeRegs) : (h.updRegs f).groups = h.groups := rfl
@[simp] theorem Channel.updRegs_occ (h : Channel) (f : ModeRegs → ModeRegs) : (h.updRegs f).occ = h.occ := rfl
@[simp] theorem Channel.updRegs_rdqs (h : Channel) (f : ModeRegs → ModeRegs) : (h.updRegs f).rdqs = h.rdqs := rfl
@[simp] theorem Channel.updRegs_internal (h : Channel) (f : ModeRegs → ModeRegs) :
    (h.updRegs f).internal = h.internal := rfl
@[simp] theorem Channel.updRegs_trn (h : Channel) (f : ModeRegs → ModeRegs) : (h.updRegs f).trn = h.trn := rfl
@[simp] theorem Channel.updRegs_tsv (h : Channel) (f : ModeRegs → ModeRegs) : (h.updRegs f).tsv = h.tsv := rfl
@[simp] theorem Channel.updRegs_taper (h : Channel) (f : ModeRegs → ModeRegs) : (h.updRegs f).taper = h.taper := rfl
@[simp] theorem Channel.updRegs_cnt (h : Channel) (f : ModeRegs → ModeRegs) : (h.updRegs f).cnt = h.cnt := rfl
@[simp] theorem Channel.updRegs_th (h : Channel) (f : ModeRegs → ModeRegs) : (h.updRegs f).th = h.th := rfl
@[simp] theorem Channel.updRegs_stamp (h : Channel) (f : ModeRegs → ModeRegs) : (h.updRegs f).stamp = h.stamp := rfl
@[simp] theorem Channel.updRegs_ready (h : Channel) (f : ModeRegs → ModeRegs) : (h.updRegs f).ready = h.ready := rfl

@[simp] theorem Channel.updCnt_regs (h : Channel) (f : ChanCounters → ChanCounters) : (h.updCnt f).regs = h.regs := rfl
@[simp] theorem Channel.updCnt_intake (h : Channel) (f : ChanCounters → ChanCounters) :
    (h.updCnt f).intake = h.intake := rfl
@[simp] theorem Channel.updCnt_pcs (h : Channel) (f : ChanCounters → ChanCounters) : (h.updCnt f).pcs = h.pcs := rfl
@[simp] theorem Channel.updCnt_map (h : Channel) (f : ChanCounters → ChanCounters) : (h.updCnt f).map = h.map := rfl
@[simp] theorem Channel.updCnt_lanes (h : Channel) (f : ChanCounters → ChanCounters) : (h.updCnt f).lanes = h.lanes := rfl
@[simp] theorem Channel.updCnt_ckPhase (h : Channel) (f : ChanCounters → ChanCounters) :
    (h.updCnt f).ckPhase = h.ckPhase := rfl
@[simp] theorem Channel.updCnt_groups (h : Channel) (f : ChanCounters → ChanCounters) :
    (h.updCnt f).groups = h.groups := rfl
@[simp] theorem Channel.updCnt_occ (h : Channel) (f : ChanCounters → ChanCounters) : (h.updCnt f).occ = h.occ := rfl
@[simp] theorem Channel.updCnt_rdqs (h : Channel) (f : ChanCounters → ChanCounters) : (h.updCnt f).rdqs = h.rdqs := rfl
@[simp] theorem Channel.updCnt_internal (h : Channel) (f : ChanCounters → ChanCounters) :
    (h.updCnt f).internal = h.internal := rfl
@[simp] theorem Channel.updCnt_trn (h : Channel) (f : ChanCounters → ChanCounters) : (h.updCnt f).trn = h.trn := rfl
@[simp] theorem Channel.updCnt_tsv (h : Channel) (f : ChanCounters → ChanCounters) : (h.updCnt f).tsv = h.tsv := rfl
@[simp] theorem Channel.updCnt_taper (h : Channel) (f : ChanCounters → ChanCounters) : (h.updCnt f).taper = h.taper := rfl
@[simp] theorem Channel.updCnt_cnt (h : Channel) (f : ChanCounters → ChanCounters) : (h.updCnt f).cnt = f h.cnt := rfl
@[simp] theorem Channel.updCnt_th (h : Channel) (f : ChanCounters → ChanCounters) : (h.updCnt f).th = h.th := rfl
@[simp] theorem Channel.updCnt_stamp (h : Channel) (f : ChanCounters → ChanCounters) : (h.updCnt f).stamp = h.stamp := rfl
@[simp] theorem Channel.updCnt_ready (h : Channel) (f : ChanCounters → ChanCounters) : (h.updCnt f).ready = h.ready := rfl

@[simp] theorem Channel.updTaper_regs (h : Channel) (f : Taper → Taper) : (h.updTaper f).regs = h.regs := rfl
@[simp] theorem Channel.updTaper_intake (h : Channel) (f : Taper → Taper) : (h.updTaper f).intake = h.intake := rfl
@[simp] theorem Channel.updTaper_pcs (h : Channel) (f : Taper → Taper) : (h.updTaper f).pcs = h.pcs := rfl
@[simp] theorem Channel.updTaper_map (h : Channel) (f : Taper → Taper) : (h.updTaper f).map = h.map := rfl
@[simp] theorem Channel.updTaper_lanes (h : Channel) (f : Taper → Taper) : (h.updTaper f).lanes = h.lanes := rfl
@[simp] theorem Channel.updTaper_ckPhase (h : Channel) (f : Taper → Taper) : (h.updTaper f).ckPhase = h.ckPhase := rfl
@[simp] theorem Channel.updTaper_groups (h : Channel) (f : Taper → Taper) : (h.updTaper f).groups = h.groups := rfl
@[simp] theorem Channel.updTaper_occ (h : Channel) (f : Taper → Taper) : (h.updTaper f).occ = h.occ := rfl
@[simp] theorem Channel.updTaper_rdqs (h : Channel) (f : Taper → Taper) : (h.updTaper f).rdqs = h.rdqs := rfl
@[simp] theorem Channel.updTaper_internal (h : Channel) (f : Taper → Taper) : (h.updTaper f).internal = h.internal := rfl
@[simp] theorem Channel.updTaper_trn (h : Channel) (f : Taper → Taper) : (h.updTaper f).trn = h.trn := rfl
@[simp] theorem Channel.updTaper_tsv (h : Channel) (f : Taper → Taper) : (h.updTaper f).tsv = h.tsv := rfl
@[simp] theorem Channel.updTaper_taper (h : Channel) (f : Taper → Taper) : (h.updTaper f).taper = f h.taper := rfl
@[simp] theorem Channel.updTaper_cnt (h : Channel) (f : Taper → Taper) : (h.updTaper f).cnt = h.cnt := rfl
@[simp] theorem Channel.updTaper_th (h : Channel) (f : Taper → Taper) : (h.updTaper f).th = h.th := rfl
@[simp] theorem Channel.updTaper_stamp (h : Channel) (f : Taper → Taper) : (h.updTaper f).stamp = h.stamp := rfl
@[simp] theorem Channel.updTaper_ready (h : Channel) (f : Taper → Taper) : (h.updTaper f).ready = h.ready := rfl

@[simp] theorem Channel.setCause_regs (h : Channel) (n : Nat) :
    (h.setCause n).regs = { h.regs with causes := h.regs.causes ||| (1#10 <<< n) } := rfl
@[simp] theorem Channel.setCause_intake (h : Channel) (n : Nat) : (h.setCause n).intake = h.intake := rfl
@[simp] theorem Channel.setCause_pcs (h : Channel) (n : Nat) : (h.setCause n).pcs = h.pcs := rfl
@[simp] theorem Channel.setCause_map (h : Channel) (n : Nat) : (h.setCause n).map = h.map := rfl
@[simp] theorem Channel.setCause_lanes (h : Channel) (n : Nat) : (h.setCause n).lanes = h.lanes := rfl
@[simp] theorem Channel.setCause_ckPhase (h : Channel) (n : Nat) : (h.setCause n).ckPhase = h.ckPhase := rfl
@[simp] theorem Channel.setCause_groups (h : Channel) (n : Nat) : (h.setCause n).groups = h.groups := rfl
@[simp] theorem Channel.setCause_occ (h : Channel) (n : Nat) : (h.setCause n).occ = h.occ := rfl
@[simp] theorem Channel.setCause_rdqs (h : Channel) (n : Nat) : (h.setCause n).rdqs = h.rdqs := rfl
@[simp] theorem Channel.setCause_internal (h : Channel) (n : Nat) : (h.setCause n).internal = h.internal := rfl
@[simp] theorem Channel.setCause_trn (h : Channel) (n : Nat) : (h.setCause n).trn = h.trn := rfl
@[simp] theorem Channel.setCause_tsv (h : Channel) (n : Nat) : (h.setCause n).tsv = h.tsv := rfl
@[simp] theorem Channel.setCause_taper (h : Channel) (n : Nat) : (h.setCause n).taper = h.taper := rfl
@[simp] theorem Channel.setCause_cnt (h : Channel) (n : Nat) : (h.setCause n).cnt = h.cnt := rfl
@[simp] theorem Channel.setCause_th (h : Channel) (n : Nat) : (h.setCause n).th = h.th := rfl
@[simp] theorem Channel.setCause_stamp (h : Channel) (n : Nat) : (h.setCause n).stamp = h.stamp := rfl
@[simp] theorem Channel.setCause_ready (h : Channel) (n : Nat) : (h.setCause n).ready = h.ready := rfl

@[simp] theorem Channel.startDiscard_regs (h : Channel)  :
    h.startDiscard.regs = { (h.setCause causeCaParity).regs with errIdx := h.regs.seqCnt } := rfl
@[simp] theorem Channel.startDiscard_intake (h : Channel)  :
    h.startDiscard.intake = { h.intake with discard := true } := rfl
@[simp] theorem Channel.startDiscard_pcs (h : Channel)  : (h.startDiscard).pcs = h.pcs := rfl
@[simp] theorem Channel.startDiscard_map (h : Channel)  : (h.startDiscard).map = h.map := rfl
@[simp] theorem Channel.startDiscard_lanes (h : Channel)  : (h.startDiscard).lanes = h.lanes := rfl
@[simp] theorem Channel.startDiscard_ckPhase (h : Channel)  : (h.startDiscard).ckPhase = h.ckPhase := rfl
@[simp] theorem Channel.startDiscard_groups (h : Channel)  : (h.startDiscard).groups = h.groups := rfl
@[simp] theorem Channel.startDiscard_occ (h : Channel)  : (h.startDiscard).occ = h.occ := rfl
@[simp] theorem Channel.startDiscard_rdqs (h : Channel)  : (h.startDiscard).rdqs = h.rdqs := rfl
@[simp] theorem Channel.startDiscard_internal (h : Channel)  : (h.startDiscard).internal = h.internal := rfl
@[simp] theorem Channel.startDiscard_trn (h : Channel)  : (h.startDiscard).trn = h.trn := rfl
@[simp] theorem Channel.startDiscard_tsv (h : Channel)  : (h.startDiscard).tsv = h.tsv := rfl
@[simp] theorem Channel.startDiscard_taper (h : Channel)  : (h.startDiscard).taper = h.taper := rfl
@[simp] theorem Channel.startDiscard_cnt (h : Channel)  : (h.startDiscard).cnt = h.cnt := rfl
@[simp] theorem Channel.startDiscard_th (h : Channel)  : (h.startDiscard).th = h.th := rfl
@[simp] theorem Channel.startDiscard_stamp (h : Channel)  : (h.startDiscard).stamp = h.stamp := rfl
@[simp] theorem Channel.startDiscard_ready (h : Channel)  : (h.startDiscard).ready = h.ready := rfl

/-! ## Updates of a pseudo-channel -/

@[simp] theorem PseudoChannel.updBank_banks (q : PseudoChannel) (i : Fin 64) (f : Bank → Bank) :
    (q.updBank i f).banks = q.banks.set i (f q.banks[i]) := rfl
@[simp] theorem PseudoChannel.updBank_dram (q : PseudoChannel) (i : Fin 64) (f : Bank → Bank) :
    (q.updBank i f).dram = q.dram := rfl
@[simp] theorem PseudoChannel.updBank_back (q : PseudoChannel) (i : Fin 64) (f : Bank → Bank) :
    (q.updBank i f).back = q.back := rfl
@[simp] theorem PseudoChannel.updBank_backRsv (q : PseudoChannel) (i : Fin 64) (f : Bank → Bank) :
    (q.updBank i f).backRsv = q.backRsv := rfl
@[simp] theorem PseudoChannel.updBank_backSpare (q : PseudoChannel) (i : Fin 64) (f : Bank → Bank) :
    (q.updBank i f).backSpare = q.backSpare := rfl
@[simp] theorem PseudoChannel.updBank_spares (q : PseudoChannel) (i : Fin 64) (f : Bank → Bank) :
    (q.updBank i f).spares = q.spares := rfl
@[simp] theorem PseudoChannel.updBank_sparesDue (q : PseudoChannel) (i : Fin 64) (f : Bank → Bank) :
    (q.updBank i f).sparesDue = q.sparesDue := rfl
@[simp] theorem PseudoChannel.updBank_calendar (q : PseudoChannel) (i : Fin 64) (f : Bank → Bank) :
    (q.updBank i f).calendar = q.calendar := rfl
@[simp] theorem PseudoChannel.updBank_staging (q : PseudoChannel) (i : Fin 64) (f : Bank → Bank) :
    (q.updBank i f).staging = q.staging := rfl
@[simp] theorem PseudoChannel.updBank_writeFifo (q : PseudoChannel) (i : Fin 64) (f : Bank → Bank) :
    (q.updBank i f).writeFifo = q.writeFifo := rfl
@[simp] theorem PseudoChannel.updBank_tsvCapture (q : PseudoChannel) (i : Fin 64) (f : Bank → Bank) :
    (q.updBank i f).tsvCapture = q.tsvCapture := rfl
@[simp] theorem PseudoChannel.updBank_captured (q : PseudoChannel) (i : Fin 64) (f : Bank → Bank) :
    (q.updBank i f).captured = q.captured := rfl
@[simp] theorem PseudoChannel.updBank_returns (q : PseudoChannel) (i : Fin 64) (f : Bank → Bank) :
    (q.updBank i f).returns = q.returns := rfl
@[simp] theorem PseudoChannel.updBank_lanes (q : PseudoChannel) (i : Fin 64) (f : Bank → Bank) :
    (q.updBank i f).lanes = q.lanes := rfl
@[simp] theorem PseudoChannel.updBank_drive (q : PseudoChannel) (i : Fin 64) (f : Bank → Bank) :
    (q.updBank i f).drive = q.drive := rfl
@[simp] theorem PseudoChannel.updBank_writeOutside (q : PseudoChannel) (i : Fin 64) (f : Bank → Bank) :
    (q.updBank i f).writeOutside = q.writeOutside := rfl
@[simp] theorem PseudoChannel.updBank_readOutside (q : PseudoChannel) (i : Fin 64) (f : Bank → Bank) :
    (q.updBank i f).readOutside = q.readOutside := rfl
@[simp] theorem PseudoChannel.updBank_buffers (q : PseudoChannel) (i : Fin 64) (f : Bank → Bank) :
    (q.updBank i f).buffers = q.buffers := rfl
@[simp] theorem PseudoChannel.updBank_managed (q : PseudoChannel) (i : Fin 64) (f : Bank → Bank) :
    (q.updBank i f).managed = q.managed := rfl
@[simp] theorem PseudoChannel.updBank_filled (q : PseudoChannel) (i : Fin 64) (f : Bank → Bank) :
    (q.updBank i f).filled = q.filled := rfl
@[simp] theorem PseudoChannel.updBank_fillBusy (q : PseudoChannel) (i : Fin 64) (f : Bank → Bank) :
    (q.updBank i f).fillBusy = q.fillBusy := rfl
@[simp] theorem PseudoChannel.updBank_fillPat (q : PseudoChannel) (i : Fin 64) (f : Bank → Bank) :
    (q.updBank i f).fillPat = q.fillPat := rfl
@[simp] theorem PseudoChannel.updBank_powerDown (q : PseudoChannel) (i : Fin 64) (f : Bank → Bank) :
    (q.updBank i f).powerDown = q.powerDown := rfl
@[simp] theorem PseudoChannel.updBank_qact (q : PseudoChannel) (i : Fin 64) (f : Bank → Bank) :
    (q.updBank i f).qact = q.qact := rfl
@[simp] theorem PseudoChannel.updBank_quiesce (q : PseudoChannel) (i : Fin 64) (f : Bank → Bank) :
    (q.updBank i f).quiesce = q.quiesce := rfl
@[simp] theorem PseudoChannel.updBank_releaseHeld (q : PseudoChannel) (i : Fin 64) (f : Bank → Bank) :
    (q.updBank i f).releaseHeld = q.releaseHeld := rfl
@[simp] theorem PseudoChannel.updBank_ready (q : PseudoChannel) (i : Fin 64) (f : Bank → Bank) :
    (q.updBank i f).ready = q.ready := rfl
@[simp] theorem PseudoChannel.updBank_failed (q : PseudoChannel) (i : Fin 64) (f : Bank → Bank) :
    (q.updBank i f).failed = q.failed := rfl
@[simp] theorem PseudoChannel.updBank_tsvFailed (q : PseudoChannel) (i : Fin 64) (f : Bank → Bank) :
    (q.updBank i f).tsvFailed = q.tsvFailed := rfl
@[simp] theorem PseudoChannel.updBank_op (q : PseudoChannel) (i : Fin 64) (f : Bank → Bank) :
    (q.updBank i f).op = q.op := rfl
@[simp] theorem PseudoChannel.updBank_ticks (q : PseudoChannel) (i : Fin 64) (f : Bank → Bank) :
    (q.updBank i f).ticks = q.ticks := rfl
@[simp] theorem PseudoChannel.updBank_mapState (q : PseudoChannel) (i : Fin 64) (f : Bank → Bank) :
    (q.updBank i f).mapState = q.mapState := rfl
@[simp] theorem PseudoChannel.updBank_bins (q : PseudoChannel) (i : Fin 64) (f : Bank → Bank) :
    (q.updBank i f).bins = q.bins := rfl
@[simp] theorem PseudoChannel.updBank_weak (q : PseudoChannel) (i : Fin 64) (f : Bank → Bank) :
    (q.updBank i f).weak = q.weak := rfl
@[simp] theorem PseudoChannel.updBank_batch (q : PseudoChannel) (i : Fin 64) (f : Bank → Bank) :
    (q.updBank i f).batch = q.batch := rfl
@[simp] theorem PseudoChannel.updBank_undurable (q : PseudoChannel) (i : Fin 64) (f : Bank → Bank) :
    (q.updBank i f).undurable = q.undurable := rfl
@[simp] theorem PseudoChannel.updBank_promoted (q : PseudoChannel) (i : Fin 64) (f : Bank → Bank) :
    (q.updBank i f).promoted = q.promoted := rfl
@[simp] theorem PseudoChannel.updBank_profiled (q : PseudoChannel) (i : Fin 64) (f : Bank → Bank) :
    (q.updBank i f).profiled = q.profiled := rfl
@[simp] theorem PseudoChannel.updBank_spill (q : PseudoChannel) (i : Fin 64) (f : Bank → Bank) :
    (q.updBank i f).spill = q.spill := rfl
@[simp] theorem PseudoChannel.updBank_restores (q : PseudoChannel) (i : Fin 64) (f : Bank → Bank) :
    (q.updBank i f).restores = q.restores := rfl
@[simp] theorem PseudoChannel.updBank_lostMap (q : PseudoChannel) (i : Fin 64) (f : Bank → Bank) :
    (q.updBank i f).lostMap = q.lostMap := rfl
@[simp] theorem PseudoChannel.updBank_bucket (q : PseudoChannel) (i : Fin 64) (f : Bank → Bank) :
    (q.updBank i f).bucket = q.bucket := rfl
@[simp] theorem PseudoChannel.updBank_scrub (q : PseudoChannel) (i : Fin 64) (f : Bank → Bank) :
    (q.updBank i f).scrub = q.scrub := rfl
@[simp] theorem PseudoChannel.updBank_errs (q : PseudoChannel) (i : Fin 64) (f : Bank → Bank) :
    (q.updBank i f).errs = q.errs := rfl
@[simp] theorem PseudoChannel.updBank_ueNow (q : PseudoChannel) (i : Fin 64) (f : Bank → Bank) :
    (q.updBank i f).ueNow = q.ueNow := rfl
@[simp] theorem PseudoChannel.updBank_ueHours (q : PseudoChannel) (i : Fin 64) (f : Bank → Bank) :
    (q.updBank i f).ueHours = q.ueHours := rfl
@[simp] theorem PseudoChannel.updBank_ceSeen (q : PseudoChannel) (i : Fin 64) (f : Bank → Bank) :
    (q.updBank i f).ceSeen = q.ceSeen := rfl
@[simp] theorem PseudoChannel.updBank_symRows (q : PseudoChannel) (i : Fin 64) (f : Bank → Bank) :
    (q.updBank i f).symRows = q.symRows := rfl
@[simp] theorem PseudoChannel.updBank_injected (q : PseudoChannel) (i : Fin 64) (f : Bank → Bank) :
    (q.updBank i f).injected = q.injected := rfl
@[simp] theorem PseudoChannel.updBank_remap (q : PseudoChannel) (i : Fin 64) (f : Bank → Bank) :
    (q.updBank i f).remap = q.remap := rfl
@[simp] theorem PseudoChannel.updBank_cands (q : PseudoChannel) (i : Fin 64) (f : Bank → Bank) :
    (q.updBank i f).cands = q.cands := rfl
@[simp] theorem PseudoChannel.updBank_badSpares (q : PseudoChannel) (i : Fin 64) (f : Bank → Bank) :
    (q.updBank i f).badSpares = q.badSpares := rfl
@[simp] theorem PseudoChannel.updBank_copy (q : PseudoChannel) (i : Fin 64) (f : Bank → Bank) :
    (q.updBank i f).copy = q.copy := rfl
@[simp] theorem PseudoChannel.updBank_inject (q : PseudoChannel) (i : Fin 64) (f : Bank → Bank) :
    (q.updBank i f).inject = q.inject := rfl
@[simp] theorem PseudoChannel.updBank_echo (q : PseudoChannel) (i : Fin 64) (f : Bank → Bank) :
    (q.updBank i f).echo = q.echo := rfl
@[simp] theorem PseudoChannel.updBank_idleGap (q : PseudoChannel) (i : Fin 64) (f : Bank → Bank) :
    (q.updBank i f).idleGap = q.idleGap := rfl
@[simp] theorem PseudoChannel.updBank_refWindow (q : PseudoChannel) (i : Fin 64) (f : Bank → Bank) :
    (q.updBank i f).refWindow = q.refWindow := rfl
@[simp] theorem PseudoChannel.updBank_inRefab (q : PseudoChannel) (i : Fin 64) (f : Bank → Bank) :
    (q.updBank i f).inRefab = q.inRefab := rfl

@[simp] theorem PseudoChannel.updBanks_banks (q : PseudoChannel) (f : Bank → Bank) :
    (q.updBanks f).banks = q.banks.map f := rfl
@[simp] theorem PseudoChannel.updBanks_dram (q : PseudoChannel) (f : Bank → Bank) : (q.updBanks f).dram = q.dram := rfl
@[simp] theorem PseudoChannel.updBanks_back (q : PseudoChannel) (f : Bank → Bank) : (q.updBanks f).back = q.back := rfl
@[simp] theorem PseudoChannel.updBanks_backRsv (q : PseudoChannel) (f : Bank → Bank) :
    (q.updBanks f).backRsv = q.backRsv := rfl
@[simp] theorem PseudoChannel.updBanks_backSpare (q : PseudoChannel) (f : Bank → Bank) :
    (q.updBanks f).backSpare = q.backSpare := rfl
@[simp] theorem PseudoChannel.updBanks_spares (q : PseudoChannel) (f : Bank → Bank) :
    (q.updBanks f).spares = q.spares := rfl
@[simp] theorem PseudoChannel.updBanks_sparesDue (q : PseudoChannel) (f : Bank → Bank) :
    (q.updBanks f).sparesDue = q.sparesDue := rfl
@[simp] theorem PseudoChannel.updBanks_calendar (q : PseudoChannel) (f : Bank → Bank) :
    (q.updBanks f).calendar = q.calendar := rfl
@[simp] theorem PseudoChannel.updBanks_staging (q : PseudoChannel) (f : Bank → Bank) :
    (q.updBanks f).staging = q.staging := rfl
@[simp] theorem PseudoChannel.updBanks_writeFifo (q : PseudoChannel) (f : Bank → Bank) :
    (q.updBanks f).writeFifo = q.writeFifo := rfl
@[simp] theorem PseudoChannel.updBanks_tsvCapture (q : PseudoChannel) (f : Bank → Bank) :
    (q.updBanks f).tsvCapture = q.tsvCapture := rfl
@[simp] theorem PseudoChannel.updBanks_captured (q : PseudoChannel) (f : Bank → Bank) :
    (q.updBanks f).captured = q.captured := rfl
@[simp] theorem PseudoChannel.updBanks_returns (q : PseudoChannel) (f : Bank → Bank) :
    (q.updBanks f).returns = q.returns := rfl
@[simp] theorem PseudoChannel.updBanks_lanes (q : PseudoChannel) (f : Bank → Bank) : (q.updBanks f).lanes = q.lanes := rfl
@[simp] theorem PseudoChannel.updBanks_drive (q : PseudoChannel) (f : Bank → Bank) : (q.updBanks f).drive = q.drive := rfl
@[simp] theorem PseudoChannel.updBanks_writeOutside (q : PseudoChannel) (f : Bank → Bank) :
    (q.updBanks f).writeOutside = q.writeOutside := rfl
@[simp] theorem PseudoChannel.updBanks_readOutside (q : PseudoChannel) (f : Bank → Bank) :
    (q.updBanks f).readOutside = q.readOutside := rfl
@[simp] theorem PseudoChannel.updBanks_buffers (q : PseudoChannel) (f : Bank → Bank) :
    (q.updBanks f).buffers = q.buffers := rfl
@[simp] theorem PseudoChannel.updBanks_managed (q : PseudoChannel) (f : Bank → Bank) :
    (q.updBanks f).managed = q.managed := rfl
@[simp] theorem PseudoChannel.updBanks_filled (q : PseudoChannel) (f : Bank → Bank) :
    (q.updBanks f).filled = q.filled := rfl
@[simp] theorem PseudoChannel.updBanks_fillBusy (q : PseudoChannel) (f : Bank → Bank) :
    (q.updBanks f).fillBusy = q.fillBusy := rfl
@[simp] theorem PseudoChannel.updBanks_fillPat (q : PseudoChannel) (f : Bank → Bank) :
    (q.updBanks f).fillPat = q.fillPat := rfl
@[simp] theorem PseudoChannel.updBanks_powerDown (q : PseudoChannel) (f : Bank → Bank) :
    (q.updBanks f).powerDown = q.powerDown := rfl
@[simp] theorem PseudoChannel.updBanks_qact (q : PseudoChannel) (f : Bank → Bank) : (q.updBanks f).qact = q.qact := rfl
@[simp] theorem PseudoChannel.updBanks_quiesce (q : PseudoChannel) (f : Bank → Bank) :
    (q.updBanks f).quiesce = q.quiesce := rfl
@[simp] theorem PseudoChannel.updBanks_releaseHeld (q : PseudoChannel) (f : Bank → Bank) :
    (q.updBanks f).releaseHeld = q.releaseHeld := rfl
@[simp] theorem PseudoChannel.updBanks_ready (q : PseudoChannel) (f : Bank → Bank) : (q.updBanks f).ready = q.ready := rfl
@[simp] theorem PseudoChannel.updBanks_failed (q : PseudoChannel) (f : Bank → Bank) :
    (q.updBanks f).failed = q.failed := rfl
@[simp] theorem PseudoChannel.updBanks_tsvFailed (q : PseudoChannel) (f : Bank → Bank) :
    (q.updBanks f).tsvFailed = q.tsvFailed := rfl
@[simp] theorem PseudoChannel.updBanks_op (q : PseudoChannel) (f : Bank → Bank) : (q.updBanks f).op = q.op := rfl
@[simp] theorem PseudoChannel.updBanks_ticks (q : PseudoChannel) (f : Bank → Bank) : (q.updBanks f).ticks = q.ticks := rfl
@[simp] theorem PseudoChannel.updBanks_mapState (q : PseudoChannel) (f : Bank → Bank) :
    (q.updBanks f).mapState = q.mapState := rfl
@[simp] theorem PseudoChannel.updBanks_bins (q : PseudoChannel) (f : Bank → Bank) : (q.updBanks f).bins = q.bins := rfl
@[simp] theorem PseudoChannel.updBanks_weak (q : PseudoChannel) (f : Bank → Bank) : (q.updBanks f).weak = q.weak := rfl
@[simp] theorem PseudoChannel.updBanks_batch (q : PseudoChannel) (f : Bank → Bank) : (q.updBanks f).batch = q.batch := rfl
@[simp] theorem PseudoChannel.updBanks_undurable (q : PseudoChannel) (f : Bank → Bank) :
    (q.updBanks f).undurable = q.undurable := rfl
@[simp] theorem PseudoChannel.updBanks_promoted (q : PseudoChannel) (f : Bank → Bank) :
    (q.updBanks f).promoted = q.promoted := rfl
@[simp] theorem PseudoChannel.updBanks_profiled (q : PseudoChannel) (f : Bank → Bank) :
    (q.updBanks f).profiled = q.profiled := rfl
@[simp] theorem PseudoChannel.updBanks_spill (q : PseudoChannel) (f : Bank → Bank) : (q.updBanks f).spill = q.spill := rfl
@[simp] theorem PseudoChannel.updBanks_restores (q : PseudoChannel) (f : Bank → Bank) :
    (q.updBanks f).restores = q.restores := rfl
@[simp] theorem PseudoChannel.updBanks_lostMap (q : PseudoChannel) (f : Bank → Bank) :
    (q.updBanks f).lostMap = q.lostMap := rfl
@[simp] theorem PseudoChannel.updBanks_bucket (q : PseudoChannel) (f : Bank → Bank) :
    (q.updBanks f).bucket = q.bucket := rfl
@[simp] theorem PseudoChannel.updBanks_scrub (q : PseudoChannel) (f : Bank → Bank) : (q.updBanks f).scrub = q.scrub := rfl
@[simp] theorem PseudoChannel.updBanks_errs (q : PseudoChannel) (f : Bank → Bank) : (q.updBanks f).errs = q.errs := rfl
@[simp] theorem PseudoChannel.updBanks_ueNow (q : PseudoChannel) (f : Bank → Bank) : (q.updBanks f).ueNow = q.ueNow := rfl
@[simp] theorem PseudoChannel.updBanks_ueHours (q : PseudoChannel) (f : Bank → Bank) :
    (q.updBanks f).ueHours = q.ueHours := rfl
@[simp] theorem PseudoChannel.updBanks_ceSeen (q : PseudoChannel) (f : Bank → Bank) :
    (q.updBanks f).ceSeen = q.ceSeen := rfl
@[simp] theorem PseudoChannel.updBanks_symRows (q : PseudoChannel) (f : Bank → Bank) :
    (q.updBanks f).symRows = q.symRows := rfl
@[simp] theorem PseudoChannel.updBanks_injected (q : PseudoChannel) (f : Bank → Bank) :
    (q.updBanks f).injected = q.injected := rfl
@[simp] theorem PseudoChannel.updBanks_remap (q : PseudoChannel) (f : Bank → Bank) : (q.updBanks f).remap = q.remap := rfl
@[simp] theorem PseudoChannel.updBanks_cands (q : PseudoChannel) (f : Bank → Bank) : (q.updBanks f).cands = q.cands := rfl
@[simp] theorem PseudoChannel.updBanks_badSpares (q : PseudoChannel) (f : Bank → Bank) :
    (q.updBanks f).badSpares = q.badSpares := rfl
@[simp] theorem PseudoChannel.updBanks_copy (q : PseudoChannel) (f : Bank → Bank) : (q.updBanks f).copy = q.copy := rfl
@[simp] theorem PseudoChannel.updBanks_inject (q : PseudoChannel) (f : Bank → Bank) :
    (q.updBanks f).inject = q.inject := rfl
@[simp] theorem PseudoChannel.updBanks_echo (q : PseudoChannel) (f : Bank → Bank) : (q.updBanks f).echo = q.echo := rfl
@[simp] theorem PseudoChannel.updBanks_idleGap (q : PseudoChannel) (f : Bank → Bank) :
    (q.updBanks f).idleGap = q.idleGap := rfl
@[simp] theorem PseudoChannel.updBanks_refWindow (q : PseudoChannel) (f : Bank → Bank) :
    (q.updBanks f).refWindow = q.refWindow := rfl
@[simp] theorem PseudoChannel.updBanks_inRefab (q : PseudoChannel) (f : Bank → Bank) :
    (q.updBanks f).inRefab = q.inRefab := rfl

@[simp] theorem PseudoChannel.updSid_dram (q : PseudoChannel) (sid : Sid) (f : Bank → Bank) :
    (q.updSid sid f).dram = q.dram := rfl
@[simp] theorem PseudoChannel.updSid_back (q : PseudoChannel) (sid : Sid) (f : Bank → Bank) :
    (q.updSid sid f).back = q.back := rfl
@[simp] theorem PseudoChannel.updSid_backRsv (q : PseudoChannel) (sid : Sid) (f : Bank → Bank) :
    (q.updSid sid f).backRsv = q.backRsv := rfl
@[simp] theorem PseudoChannel.updSid_backSpare (q : PseudoChannel) (sid : Sid) (f : Bank → Bank) :
    (q.updSid sid f).backSpare = q.backSpare := rfl
@[simp] theorem PseudoChannel.updSid_spares (q : PseudoChannel) (sid : Sid) (f : Bank → Bank) :
    (q.updSid sid f).spares = q.spares := rfl
@[simp] theorem PseudoChannel.updSid_sparesDue (q : PseudoChannel) (sid : Sid) (f : Bank → Bank) :
    (q.updSid sid f).sparesDue = q.sparesDue := rfl
@[simp] theorem PseudoChannel.updSid_calendar (q : PseudoChannel) (sid : Sid) (f : Bank → Bank) :
    (q.updSid sid f).calendar = q.calendar := rfl
@[simp] theorem PseudoChannel.updSid_staging (q : PseudoChannel) (sid : Sid) (f : Bank → Bank) :
    (q.updSid sid f).staging = q.staging := rfl
@[simp] theorem PseudoChannel.updSid_writeFifo (q : PseudoChannel) (sid : Sid) (f : Bank → Bank) :
    (q.updSid sid f).writeFifo = q.writeFifo := rfl
@[simp] theorem PseudoChannel.updSid_tsvCapture (q : PseudoChannel) (sid : Sid) (f : Bank → Bank) :
    (q.updSid sid f).tsvCapture = q.tsvCapture := rfl
@[simp] theorem PseudoChannel.updSid_captured (q : PseudoChannel) (sid : Sid) (f : Bank → Bank) :
    (q.updSid sid f).captured = q.captured := rfl
@[simp] theorem PseudoChannel.updSid_returns (q : PseudoChannel) (sid : Sid) (f : Bank → Bank) :
    (q.updSid sid f).returns = q.returns := rfl
@[simp] theorem PseudoChannel.updSid_lanes (q : PseudoChannel) (sid : Sid) (f : Bank → Bank) :
    (q.updSid sid f).lanes = q.lanes := rfl
@[simp] theorem PseudoChannel.updSid_drive (q : PseudoChannel) (sid : Sid) (f : Bank → Bank) :
    (q.updSid sid f).drive = q.drive := rfl
@[simp] theorem PseudoChannel.updSid_writeOutside (q : PseudoChannel) (sid : Sid) (f : Bank → Bank) :
    (q.updSid sid f).writeOutside = q.writeOutside := rfl
@[simp] theorem PseudoChannel.updSid_readOutside (q : PseudoChannel) (sid : Sid) (f : Bank → Bank) :
    (q.updSid sid f).readOutside = q.readOutside := rfl
@[simp] theorem PseudoChannel.updSid_buffers (q : PseudoChannel) (sid : Sid) (f : Bank → Bank) :
    (q.updSid sid f).buffers = q.buffers := rfl
@[simp] theorem PseudoChannel.updSid_managed (q : PseudoChannel) (sid : Sid) (f : Bank → Bank) :
    (q.updSid sid f).managed = q.managed := rfl
@[simp] theorem PseudoChannel.updSid_filled (q : PseudoChannel) (sid : Sid) (f : Bank → Bank) :
    (q.updSid sid f).filled = q.filled := rfl
@[simp] theorem PseudoChannel.updSid_fillBusy (q : PseudoChannel) (sid : Sid) (f : Bank → Bank) :
    (q.updSid sid f).fillBusy = q.fillBusy := rfl
@[simp] theorem PseudoChannel.updSid_fillPat (q : PseudoChannel) (sid : Sid) (f : Bank → Bank) :
    (q.updSid sid f).fillPat = q.fillPat := rfl
@[simp] theorem PseudoChannel.updSid_powerDown (q : PseudoChannel) (sid : Sid) (f : Bank → Bank) :
    (q.updSid sid f).powerDown = q.powerDown := rfl
@[simp] theorem PseudoChannel.updSid_qact (q : PseudoChannel) (sid : Sid) (f : Bank → Bank) :
    (q.updSid sid f).qact = q.qact := rfl
@[simp] theorem PseudoChannel.updSid_quiesce (q : PseudoChannel) (sid : Sid) (f : Bank → Bank) :
    (q.updSid sid f).quiesce = q.quiesce := rfl
@[simp] theorem PseudoChannel.updSid_releaseHeld (q : PseudoChannel) (sid : Sid) (f : Bank → Bank) :
    (q.updSid sid f).releaseHeld = q.releaseHeld := rfl
@[simp] theorem PseudoChannel.updSid_ready (q : PseudoChannel) (sid : Sid) (f : Bank → Bank) :
    (q.updSid sid f).ready = q.ready := rfl
@[simp] theorem PseudoChannel.updSid_failed (q : PseudoChannel) (sid : Sid) (f : Bank → Bank) :
    (q.updSid sid f).failed = q.failed := rfl
@[simp] theorem PseudoChannel.updSid_tsvFailed (q : PseudoChannel) (sid : Sid) (f : Bank → Bank) :
    (q.updSid sid f).tsvFailed = q.tsvFailed := rfl
@[simp] theorem PseudoChannel.updSid_op (q : PseudoChannel) (sid : Sid) (f : Bank → Bank) :
    (q.updSid sid f).op = q.op := rfl
@[simp] theorem PseudoChannel.updSid_ticks (q : PseudoChannel) (sid : Sid) (f : Bank → Bank) :
    (q.updSid sid f).ticks = q.ticks := rfl
@[simp] theorem PseudoChannel.updSid_mapState (q : PseudoChannel) (sid : Sid) (f : Bank → Bank) :
    (q.updSid sid f).mapState = q.mapState := rfl
@[simp] theorem PseudoChannel.updSid_bins (q : PseudoChannel) (sid : Sid) (f : Bank → Bank) :
    (q.updSid sid f).bins = q.bins := rfl
@[simp] theorem PseudoChannel.updSid_weak (q : PseudoChannel) (sid : Sid) (f : Bank → Bank) :
    (q.updSid sid f).weak = q.weak := rfl
@[simp] theorem PseudoChannel.updSid_batch (q : PseudoChannel) (sid : Sid) (f : Bank → Bank) :
    (q.updSid sid f).batch = q.batch := rfl
@[simp] theorem PseudoChannel.updSid_undurable (q : PseudoChannel) (sid : Sid) (f : Bank → Bank) :
    (q.updSid sid f).undurable = q.undurable := rfl
@[simp] theorem PseudoChannel.updSid_promoted (q : PseudoChannel) (sid : Sid) (f : Bank → Bank) :
    (q.updSid sid f).promoted = q.promoted := rfl
@[simp] theorem PseudoChannel.updSid_profiled (q : PseudoChannel) (sid : Sid) (f : Bank → Bank) :
    (q.updSid sid f).profiled = q.profiled := rfl
@[simp] theorem PseudoChannel.updSid_spill (q : PseudoChannel) (sid : Sid) (f : Bank → Bank) :
    (q.updSid sid f).spill = q.spill := rfl
@[simp] theorem PseudoChannel.updSid_restores (q : PseudoChannel) (sid : Sid) (f : Bank → Bank) :
    (q.updSid sid f).restores = q.restores := rfl
@[simp] theorem PseudoChannel.updSid_lostMap (q : PseudoChannel) (sid : Sid) (f : Bank → Bank) :
    (q.updSid sid f).lostMap = q.lostMap := rfl
@[simp] theorem PseudoChannel.updSid_bucket (q : PseudoChannel) (sid : Sid) (f : Bank → Bank) :
    (q.updSid sid f).bucket = q.bucket := rfl
@[simp] theorem PseudoChannel.updSid_scrub (q : PseudoChannel) (sid : Sid) (f : Bank → Bank) :
    (q.updSid sid f).scrub = q.scrub := rfl
@[simp] theorem PseudoChannel.updSid_errs (q : PseudoChannel) (sid : Sid) (f : Bank → Bank) :
    (q.updSid sid f).errs = q.errs := rfl
@[simp] theorem PseudoChannel.updSid_ueNow (q : PseudoChannel) (sid : Sid) (f : Bank → Bank) :
    (q.updSid sid f).ueNow = q.ueNow := rfl
@[simp] theorem PseudoChannel.updSid_ueHours (q : PseudoChannel) (sid : Sid) (f : Bank → Bank) :
    (q.updSid sid f).ueHours = q.ueHours := rfl
@[simp] theorem PseudoChannel.updSid_ceSeen (q : PseudoChannel) (sid : Sid) (f : Bank → Bank) :
    (q.updSid sid f).ceSeen = q.ceSeen := rfl
@[simp] theorem PseudoChannel.updSid_symRows (q : PseudoChannel) (sid : Sid) (f : Bank → Bank) :
    (q.updSid sid f).symRows = q.symRows := rfl
@[simp] theorem PseudoChannel.updSid_injected (q : PseudoChannel) (sid : Sid) (f : Bank → Bank) :
    (q.updSid sid f).injected = q.injected := rfl
@[simp] theorem PseudoChannel.updSid_remap (q : PseudoChannel) (sid : Sid) (f : Bank → Bank) :
    (q.updSid sid f).remap = q.remap := rfl
@[simp] theorem PseudoChannel.updSid_cands (q : PseudoChannel) (sid : Sid) (f : Bank → Bank) :
    (q.updSid sid f).cands = q.cands := rfl
@[simp] theorem PseudoChannel.updSid_badSpares (q : PseudoChannel) (sid : Sid) (f : Bank → Bank) :
    (q.updSid sid f).badSpares = q.badSpares := rfl
@[simp] theorem PseudoChannel.updSid_copy (q : PseudoChannel) (sid : Sid) (f : Bank → Bank) :
    (q.updSid sid f).copy = q.copy := rfl
@[simp] theorem PseudoChannel.updSid_inject (q : PseudoChannel) (sid : Sid) (f : Bank → Bank) :
    (q.updSid sid f).inject = q.inject := rfl
@[simp] theorem PseudoChannel.updSid_echo (q : PseudoChannel) (sid : Sid) (f : Bank → Bank) :
    (q.updSid sid f).echo = q.echo := rfl
@[simp] theorem PseudoChannel.updSid_idleGap (q : PseudoChannel) (sid : Sid) (f : Bank → Bank) :
    (q.updSid sid f).idleGap = q.idleGap := rfl
@[simp] theorem PseudoChannel.updSid_refWindow (q : PseudoChannel) (sid : Sid) (f : Bank → Bank) :
    (q.updSid sid f).refWindow = q.refWindow := rfl
@[simp] theorem PseudoChannel.updSid_inRefab (q : PseudoChannel) (sid : Sid) (f : Bank → Bank) :
    (q.updSid sid f).inRefab = q.inRefab := rfl

@[simp] theorem PseudoChannel.writeAccess_banks (q : PseudoChannel) (rows n : Nat) (data : BitVec 512) (check : BitVec 64) :
    (q.writeAccess rows n data check).banks = q.banks := rfl
@[simp] theorem PseudoChannel.writeAccess_back (q : PseudoChannel) (rows n : Nat) (data : BitVec 512) (check : BitVec 64) :
    (q.writeAccess rows n data check).back = q.back := rfl
@[simp] theorem PseudoChannel.writeAccess_backRsv (q : PseudoChannel) (rows n : Nat) (data : BitVec 512) (check : BitVec 64) :
    (q.writeAccess rows n data check).backRsv = q.backRsv := rfl
@[simp] theorem PseudoChannel.writeAccess_backSpare (q : PseudoChannel) (rows n : Nat) (data : BitVec 512) (check : BitVec 64) :
    (q.writeAccess rows n data check).backSpare = q.backSpare := rfl
@[simp] theorem PseudoChannel.writeAccess_spares (q : PseudoChannel) (rows n : Nat) (data : BitVec 512) (check : BitVec 64) :
    (q.writeAccess rows n data check).spares = q.spares := rfl
@[simp] theorem PseudoChannel.writeAccess_sparesDue (q : PseudoChannel) (rows n : Nat) (data : BitVec 512) (check : BitVec 64) :
    (q.writeAccess rows n data check).sparesDue = q.sparesDue := rfl
@[simp] theorem PseudoChannel.writeAccess_calendar (q : PseudoChannel) (rows n : Nat) (data : BitVec 512) (check : BitVec 64) :
    (q.writeAccess rows n data check).calendar = q.calendar := rfl
@[simp] theorem PseudoChannel.writeAccess_staging (q : PseudoChannel) (rows n : Nat) (data : BitVec 512) (check : BitVec 64) :
    (q.writeAccess rows n data check).staging = q.staging := rfl
@[simp] theorem PseudoChannel.writeAccess_writeFifo (q : PseudoChannel) (rows n : Nat) (data : BitVec 512) (check : BitVec 64) :
    (q.writeAccess rows n data check).writeFifo = q.writeFifo := rfl
@[simp] theorem PseudoChannel.writeAccess_tsvCapture (q : PseudoChannel) (rows n : Nat) (data : BitVec 512) (check : BitVec 64) :
    (q.writeAccess rows n data check).tsvCapture = q.tsvCapture := rfl
@[simp] theorem PseudoChannel.writeAccess_captured (q : PseudoChannel) (rows n : Nat) (data : BitVec 512) (check : BitVec 64) :
    (q.writeAccess rows n data check).captured = q.captured := rfl
@[simp] theorem PseudoChannel.writeAccess_returns (q : PseudoChannel) (rows n : Nat) (data : BitVec 512) (check : BitVec 64) :
    (q.writeAccess rows n data check).returns = q.returns := rfl
@[simp] theorem PseudoChannel.writeAccess_lanes (q : PseudoChannel) (rows n : Nat) (data : BitVec 512) (check : BitVec 64) :
    (q.writeAccess rows n data check).lanes = q.lanes := rfl
@[simp] theorem PseudoChannel.writeAccess_drive (q : PseudoChannel) (rows n : Nat) (data : BitVec 512) (check : BitVec 64) :
    (q.writeAccess rows n data check).drive = q.drive := rfl
@[simp] theorem PseudoChannel.writeAccess_writeOutside (q : PseudoChannel) (rows n : Nat) (data : BitVec 512) (check : BitVec 64) :
    (q.writeAccess rows n data check).writeOutside = q.writeOutside := rfl
@[simp] theorem PseudoChannel.writeAccess_readOutside (q : PseudoChannel) (rows n : Nat) (data : BitVec 512) (check : BitVec 64) :
    (q.writeAccess rows n data check).readOutside = q.readOutside := rfl
@[simp] theorem PseudoChannel.writeAccess_buffers (q : PseudoChannel) (rows n : Nat) (data : BitVec 512) (check : BitVec 64) :
    (q.writeAccess rows n data check).buffers = q.buffers := rfl
@[simp] theorem PseudoChannel.writeAccess_managed (q : PseudoChannel) (rows n : Nat) (data : BitVec 512) (check : BitVec 64) :
    (q.writeAccess rows n data check).managed = q.managed := rfl
@[simp] theorem PseudoChannel.writeAccess_filled (q : PseudoChannel) (rows n : Nat) (data : BitVec 512) (check : BitVec 64) :
    (q.writeAccess rows n data check).filled = q.filled := rfl
@[simp] theorem PseudoChannel.writeAccess_fillBusy (q : PseudoChannel) (rows n : Nat) (data : BitVec 512) (check : BitVec 64) :
    (q.writeAccess rows n data check).fillBusy = q.fillBusy := rfl
@[simp] theorem PseudoChannel.writeAccess_fillPat (q : PseudoChannel) (rows n : Nat) (data : BitVec 512) (check : BitVec 64) :
    (q.writeAccess rows n data check).fillPat = q.fillPat := rfl
@[simp] theorem PseudoChannel.writeAccess_powerDown (q : PseudoChannel) (rows n : Nat) (data : BitVec 512) (check : BitVec 64) :
    (q.writeAccess rows n data check).powerDown = q.powerDown := rfl
@[simp] theorem PseudoChannel.writeAccess_qact (q : PseudoChannel) (rows n : Nat) (data : BitVec 512) (check : BitVec 64) :
    (q.writeAccess rows n data check).qact = q.qact := rfl
@[simp] theorem PseudoChannel.writeAccess_quiesce (q : PseudoChannel) (rows n : Nat) (data : BitVec 512) (check : BitVec 64) :
    (q.writeAccess rows n data check).quiesce = q.quiesce := rfl
@[simp] theorem PseudoChannel.writeAccess_releaseHeld (q : PseudoChannel) (rows n : Nat) (data : BitVec 512) (check : BitVec 64) :
    (q.writeAccess rows n data check).releaseHeld = q.releaseHeld := rfl
@[simp] theorem PseudoChannel.writeAccess_ready (q : PseudoChannel) (rows n : Nat) (data : BitVec 512) (check : BitVec 64) :
    (q.writeAccess rows n data check).ready = q.ready := rfl
@[simp] theorem PseudoChannel.writeAccess_failed (q : PseudoChannel) (rows n : Nat) (data : BitVec 512) (check : BitVec 64) :
    (q.writeAccess rows n data check).failed = q.failed := rfl
@[simp] theorem PseudoChannel.writeAccess_tsvFailed (q : PseudoChannel) (rows n : Nat) (data : BitVec 512) (check : BitVec 64) :
    (q.writeAccess rows n data check).tsvFailed = q.tsvFailed := rfl
@[simp] theorem PseudoChannel.writeAccess_op (q : PseudoChannel) (rows n : Nat) (data : BitVec 512) (check : BitVec 64) :
    (q.writeAccess rows n data check).op = q.op := rfl
@[simp] theorem PseudoChannel.writeAccess_ticks (q : PseudoChannel) (rows n : Nat) (data : BitVec 512) (check : BitVec 64) :
    (q.writeAccess rows n data check).ticks = q.ticks := rfl
@[simp] theorem PseudoChannel.writeAccess_mapState (q : PseudoChannel) (rows n : Nat) (data : BitVec 512) (check : BitVec 64) :
    (q.writeAccess rows n data check).mapState = q.mapState := rfl
@[simp] theorem PseudoChannel.writeAccess_bins (q : PseudoChannel) (rows n : Nat) (data : BitVec 512) (check : BitVec 64) :
    (q.writeAccess rows n data check).bins = q.bins := rfl
@[simp] theorem PseudoChannel.writeAccess_weak (q : PseudoChannel) (rows n : Nat) (data : BitVec 512) (check : BitVec 64) :
    (q.writeAccess rows n data check).weak = q.weak := rfl
@[simp] theorem PseudoChannel.writeAccess_batch (q : PseudoChannel) (rows n : Nat) (data : BitVec 512) (check : BitVec 64) :
    (q.writeAccess rows n data check).batch = q.batch := rfl
@[simp] theorem PseudoChannel.writeAccess_undurable (q : PseudoChannel) (rows n : Nat) (data : BitVec 512) (check : BitVec 64) :
    (q.writeAccess rows n data check).undurable = q.undurable := rfl
@[simp] theorem PseudoChannel.writeAccess_promoted (q : PseudoChannel) (rows n : Nat) (data : BitVec 512) (check : BitVec 64) :
    (q.writeAccess rows n data check).promoted = q.promoted := rfl
@[simp] theorem PseudoChannel.writeAccess_profiled (q : PseudoChannel) (rows n : Nat) (data : BitVec 512) (check : BitVec 64) :
    (q.writeAccess rows n data check).profiled = q.profiled := rfl
@[simp] theorem PseudoChannel.writeAccess_spill (q : PseudoChannel) (rows n : Nat) (data : BitVec 512) (check : BitVec 64) :
    (q.writeAccess rows n data check).spill = q.spill := rfl
@[simp] theorem PseudoChannel.writeAccess_restores (q : PseudoChannel) (rows n : Nat) (data : BitVec 512) (check : BitVec 64) :
    (q.writeAccess rows n data check).restores = q.restores := rfl
@[simp] theorem PseudoChannel.writeAccess_lostMap (q : PseudoChannel) (rows n : Nat) (data : BitVec 512) (check : BitVec 64) :
    (q.writeAccess rows n data check).lostMap = q.lostMap := rfl
@[simp] theorem PseudoChannel.writeAccess_bucket (q : PseudoChannel) (rows n : Nat) (data : BitVec 512) (check : BitVec 64) :
    (q.writeAccess rows n data check).bucket = q.bucket := rfl
@[simp] theorem PseudoChannel.writeAccess_scrub (q : PseudoChannel) (rows n : Nat) (data : BitVec 512) (check : BitVec 64) :
    (q.writeAccess rows n data check).scrub = q.scrub := rfl
@[simp] theorem PseudoChannel.writeAccess_errs (q : PseudoChannel) (rows n : Nat) (data : BitVec 512) (check : BitVec 64) :
    (q.writeAccess rows n data check).errs = q.errs := rfl
@[simp] theorem PseudoChannel.writeAccess_ueNow (q : PseudoChannel) (rows n : Nat) (data : BitVec 512) (check : BitVec 64) :
    (q.writeAccess rows n data check).ueNow = q.ueNow := rfl
@[simp] theorem PseudoChannel.writeAccess_ueHours (q : PseudoChannel) (rows n : Nat) (data : BitVec 512) (check : BitVec 64) :
    (q.writeAccess rows n data check).ueHours = q.ueHours := rfl
@[simp] theorem PseudoChannel.writeAccess_ceSeen (q : PseudoChannel) (rows n : Nat) (data : BitVec 512) (check : BitVec 64) :
    (q.writeAccess rows n data check).ceSeen = q.ceSeen := rfl
@[simp] theorem PseudoChannel.writeAccess_symRows (q : PseudoChannel) (rows n : Nat) (data : BitVec 512) (check : BitVec 64) :
    (q.writeAccess rows n data check).symRows = q.symRows := rfl
@[simp] theorem PseudoChannel.writeAccess_injected (q : PseudoChannel) (rows n : Nat) (data : BitVec 512) (check : BitVec 64) :
    (q.writeAccess rows n data check).injected = q.injected := rfl
@[simp] theorem PseudoChannel.writeAccess_remap (q : PseudoChannel) (rows n : Nat) (data : BitVec 512) (check : BitVec 64) :
    (q.writeAccess rows n data check).remap = q.remap := rfl
@[simp] theorem PseudoChannel.writeAccess_cands (q : PseudoChannel) (rows n : Nat) (data : BitVec 512) (check : BitVec 64) :
    (q.writeAccess rows n data check).cands = q.cands := rfl
@[simp] theorem PseudoChannel.writeAccess_badSpares (q : PseudoChannel) (rows n : Nat) (data : BitVec 512) (check : BitVec 64) :
    (q.writeAccess rows n data check).badSpares = q.badSpares := rfl
@[simp] theorem PseudoChannel.writeAccess_copy (q : PseudoChannel) (rows n : Nat) (data : BitVec 512) (check : BitVec 64) :
    (q.writeAccess rows n data check).copy = q.copy := rfl
@[simp] theorem PseudoChannel.writeAccess_inject (q : PseudoChannel) (rows n : Nat) (data : BitVec 512) (check : BitVec 64) :
    (q.writeAccess rows n data check).inject = q.inject := rfl
@[simp] theorem PseudoChannel.writeAccess_echo (q : PseudoChannel) (rows n : Nat) (data : BitVec 512) (check : BitVec 64) :
    (q.writeAccess rows n data check).echo = q.echo := rfl
@[simp] theorem PseudoChannel.writeAccess_idleGap (q : PseudoChannel) (rows n : Nat) (data : BitVec 512) (check : BitVec 64) :
    (q.writeAccess rows n data check).idleGap = q.idleGap := rfl
@[simp] theorem PseudoChannel.writeAccess_refWindow (q : PseudoChannel) (rows n : Nat) (data : BitVec 512) (check : BitVec 64) :
    (q.writeAccess rows n data check).refWindow = q.refWindow := rfl
@[simp] theorem PseudoChannel.writeAccess_inRefab (q : PseudoChannel) (rows n : Nat) (data : BitVec 512) (check : BitVec 64) :
    (q.writeAccess rows n data check).inRefab = q.inRefab := rfl

@[simp] theorem PseudoChannel.fillAll_banks (q : PseudoChannel) (rows : Nat) (sids : BitVec 4) (b : Background) (skip : Bool) :
    (q.fillAll rows sids b skip).banks = q.banks := rfl
@[simp] theorem PseudoChannel.fillAll_backSpare (q : PseudoChannel) (rows : Nat) (sids : BitVec 4) (b : Background) (skip : Bool) :
    (q.fillAll rows sids b skip).backSpare = q.backSpare := rfl
@[simp] theorem PseudoChannel.fillAll_spares (q : PseudoChannel) (rows : Nat) (sids : BitVec 4) (b : Background) (skip : Bool) :
    (q.fillAll rows sids b skip).spares = q.spares := rfl
@[simp] theorem PseudoChannel.fillAll_sparesDue (q : PseudoChannel) (rows : Nat) (sids : BitVec 4) (b : Background) (skip : Bool) :
    (q.fillAll rows sids b skip).sparesDue = q.sparesDue := rfl
@[simp] theorem PseudoChannel.fillAll_calendar (q : PseudoChannel) (rows : Nat) (sids : BitVec 4) (b : Background) (skip : Bool) :
    (q.fillAll rows sids b skip).calendar = q.calendar := rfl
@[simp] theorem PseudoChannel.fillAll_staging (q : PseudoChannel) (rows : Nat) (sids : BitVec 4) (b : Background) (skip : Bool) :
    (q.fillAll rows sids b skip).staging = q.staging := rfl
@[simp] theorem PseudoChannel.fillAll_writeFifo (q : PseudoChannel) (rows : Nat) (sids : BitVec 4) (b : Background) (skip : Bool) :
    (q.fillAll rows sids b skip).writeFifo = q.writeFifo := rfl
@[simp] theorem PseudoChannel.fillAll_tsvCapture (q : PseudoChannel) (rows : Nat) (sids : BitVec 4) (b : Background) (skip : Bool) :
    (q.fillAll rows sids b skip).tsvCapture = q.tsvCapture := rfl
@[simp] theorem PseudoChannel.fillAll_captured (q : PseudoChannel) (rows : Nat) (sids : BitVec 4) (b : Background) (skip : Bool) :
    (q.fillAll rows sids b skip).captured = q.captured := rfl
@[simp] theorem PseudoChannel.fillAll_returns (q : PseudoChannel) (rows : Nat) (sids : BitVec 4) (b : Background) (skip : Bool) :
    (q.fillAll rows sids b skip).returns = q.returns := rfl
@[simp] theorem PseudoChannel.fillAll_lanes (q : PseudoChannel) (rows : Nat) (sids : BitVec 4) (b : Background) (skip : Bool) :
    (q.fillAll rows sids b skip).lanes = q.lanes := rfl
@[simp] theorem PseudoChannel.fillAll_drive (q : PseudoChannel) (rows : Nat) (sids : BitVec 4) (b : Background) (skip : Bool) :
    (q.fillAll rows sids b skip).drive = q.drive := rfl
@[simp] theorem PseudoChannel.fillAll_writeOutside (q : PseudoChannel) (rows : Nat) (sids : BitVec 4) (b : Background) (skip : Bool) :
    (q.fillAll rows sids b skip).writeOutside = q.writeOutside := rfl
@[simp] theorem PseudoChannel.fillAll_readOutside (q : PseudoChannel) (rows : Nat) (sids : BitVec 4) (b : Background) (skip : Bool) :
    (q.fillAll rows sids b skip).readOutside = q.readOutside := rfl
@[simp] theorem PseudoChannel.fillAll_buffers (q : PseudoChannel) (rows : Nat) (sids : BitVec 4) (b : Background) (skip : Bool) :
    (q.fillAll rows sids b skip).buffers = q.buffers := rfl
@[simp] theorem PseudoChannel.fillAll_managed (q : PseudoChannel) (rows : Nat) (sids : BitVec 4) (b : Background) (skip : Bool) :
    (q.fillAll rows sids b skip).managed = q.managed := rfl
@[simp] theorem PseudoChannel.fillAll_filled (q : PseudoChannel) (rows : Nat) (sids : BitVec 4) (b : Background) (skip : Bool) :
    (q.fillAll rows sids b skip).filled = q.filled := rfl
@[simp] theorem PseudoChannel.fillAll_fillBusy (q : PseudoChannel) (rows : Nat) (sids : BitVec 4) (b : Background) (skip : Bool) :
    (q.fillAll rows sids b skip).fillBusy = q.fillBusy := rfl
@[simp] theorem PseudoChannel.fillAll_fillPat (q : PseudoChannel) (rows : Nat) (sids : BitVec 4) (b : Background) (skip : Bool) :
    (q.fillAll rows sids b skip).fillPat = q.fillPat := rfl
@[simp] theorem PseudoChannel.fillAll_powerDown (q : PseudoChannel) (rows : Nat) (sids : BitVec 4) (b : Background) (skip : Bool) :
    (q.fillAll rows sids b skip).powerDown = q.powerDown := rfl
@[simp] theorem PseudoChannel.fillAll_qact (q : PseudoChannel) (rows : Nat) (sids : BitVec 4) (b : Background) (skip : Bool) :
    (q.fillAll rows sids b skip).qact = q.qact := rfl
@[simp] theorem PseudoChannel.fillAll_quiesce (q : PseudoChannel) (rows : Nat) (sids : BitVec 4) (b : Background) (skip : Bool) :
    (q.fillAll rows sids b skip).quiesce = q.quiesce := rfl
@[simp] theorem PseudoChannel.fillAll_releaseHeld (q : PseudoChannel) (rows : Nat) (sids : BitVec 4) (b : Background) (skip : Bool) :
    (q.fillAll rows sids b skip).releaseHeld = q.releaseHeld := rfl
@[simp] theorem PseudoChannel.fillAll_ready (q : PseudoChannel) (rows : Nat) (sids : BitVec 4) (b : Background) (skip : Bool) :
    (q.fillAll rows sids b skip).ready = q.ready := rfl
@[simp] theorem PseudoChannel.fillAll_failed (q : PseudoChannel) (rows : Nat) (sids : BitVec 4) (b : Background) (skip : Bool) :
    (q.fillAll rows sids b skip).failed = q.failed := rfl
@[simp] theorem PseudoChannel.fillAll_tsvFailed (q : PseudoChannel) (rows : Nat) (sids : BitVec 4) (b : Background) (skip : Bool) :
    (q.fillAll rows sids b skip).tsvFailed = q.tsvFailed := rfl
@[simp] theorem PseudoChannel.fillAll_op (q : PseudoChannel) (rows : Nat) (sids : BitVec 4) (b : Background) (skip : Bool) :
    (q.fillAll rows sids b skip).op = q.op := rfl
@[simp] theorem PseudoChannel.fillAll_ticks (q : PseudoChannel) (rows : Nat) (sids : BitVec 4) (b : Background) (skip : Bool) :
    (q.fillAll rows sids b skip).ticks = q.ticks := rfl
@[simp] theorem PseudoChannel.fillAll_mapState (q : PseudoChannel) (rows : Nat) (sids : BitVec 4) (b : Background) (skip : Bool) :
    (q.fillAll rows sids b skip).mapState = q.mapState := rfl
@[simp] theorem PseudoChannel.fillAll_bins (q : PseudoChannel) (rows : Nat) (sids : BitVec 4) (b : Background) (skip : Bool) :
    (q.fillAll rows sids b skip).bins = q.bins := rfl
@[simp] theorem PseudoChannel.fillAll_weak (q : PseudoChannel) (rows : Nat) (sids : BitVec 4) (b : Background) (skip : Bool) :
    (q.fillAll rows sids b skip).weak = q.weak := rfl
@[simp] theorem PseudoChannel.fillAll_batch (q : PseudoChannel) (rows : Nat) (sids : BitVec 4) (b : Background) (skip : Bool) :
    (q.fillAll rows sids b skip).batch = q.batch := rfl
@[simp] theorem PseudoChannel.fillAll_undurable (q : PseudoChannel) (rows : Nat) (sids : BitVec 4) (b : Background) (skip : Bool) :
    (q.fillAll rows sids b skip).undurable = q.undurable := rfl
@[simp] theorem PseudoChannel.fillAll_promoted (q : PseudoChannel) (rows : Nat) (sids : BitVec 4) (b : Background) (skip : Bool) :
    (q.fillAll rows sids b skip).promoted = q.promoted := rfl
@[simp] theorem PseudoChannel.fillAll_profiled (q : PseudoChannel) (rows : Nat) (sids : BitVec 4) (b : Background) (skip : Bool) :
    (q.fillAll rows sids b skip).profiled = q.profiled := rfl
@[simp] theorem PseudoChannel.fillAll_spill (q : PseudoChannel) (rows : Nat) (sids : BitVec 4) (b : Background) (skip : Bool) :
    (q.fillAll rows sids b skip).spill = q.spill := rfl
@[simp] theorem PseudoChannel.fillAll_restores (q : PseudoChannel) (rows : Nat) (sids : BitVec 4) (b : Background) (skip : Bool) :
    (q.fillAll rows sids b skip).restores = q.restores := rfl
@[simp] theorem PseudoChannel.fillAll_lostMap (q : PseudoChannel) (rows : Nat) (sids : BitVec 4) (b : Background) (skip : Bool) :
    (q.fillAll rows sids b skip).lostMap = q.lostMap := rfl
@[simp] theorem PseudoChannel.fillAll_bucket (q : PseudoChannel) (rows : Nat) (sids : BitVec 4) (b : Background) (skip : Bool) :
    (q.fillAll rows sids b skip).bucket = q.bucket := rfl
@[simp] theorem PseudoChannel.fillAll_scrub (q : PseudoChannel) (rows : Nat) (sids : BitVec 4) (b : Background) (skip : Bool) :
    (q.fillAll rows sids b skip).scrub = q.scrub := rfl
@[simp] theorem PseudoChannel.fillAll_errs (q : PseudoChannel) (rows : Nat) (sids : BitVec 4) (b : Background) (skip : Bool) :
    (q.fillAll rows sids b skip).errs = q.errs := rfl
@[simp] theorem PseudoChannel.fillAll_ueNow (q : PseudoChannel) (rows : Nat) (sids : BitVec 4) (b : Background) (skip : Bool) :
    (q.fillAll rows sids b skip).ueNow = q.ueNow := rfl
@[simp] theorem PseudoChannel.fillAll_ueHours (q : PseudoChannel) (rows : Nat) (sids : BitVec 4) (b : Background) (skip : Bool) :
    (q.fillAll rows sids b skip).ueHours = q.ueHours := rfl
@[simp] theorem PseudoChannel.fillAll_ceSeen (q : PseudoChannel) (rows : Nat) (sids : BitVec 4) (b : Background) (skip : Bool) :
    (q.fillAll rows sids b skip).ceSeen = q.ceSeen := rfl
@[simp] theorem PseudoChannel.fillAll_symRows (q : PseudoChannel) (rows : Nat) (sids : BitVec 4) (b : Background) (skip : Bool) :
    (q.fillAll rows sids b skip).symRows = q.symRows := rfl
@[simp] theorem PseudoChannel.fillAll_injected (q : PseudoChannel) (rows : Nat) (sids : BitVec 4) (b : Background) (skip : Bool) :
    (q.fillAll rows sids b skip).injected = q.injected := rfl
@[simp] theorem PseudoChannel.fillAll_remap (q : PseudoChannel) (rows : Nat) (sids : BitVec 4) (b : Background) (skip : Bool) :
    (q.fillAll rows sids b skip).remap = q.remap := rfl
@[simp] theorem PseudoChannel.fillAll_cands (q : PseudoChannel) (rows : Nat) (sids : BitVec 4) (b : Background) (skip : Bool) :
    (q.fillAll rows sids b skip).cands = q.cands := rfl
@[simp] theorem PseudoChannel.fillAll_badSpares (q : PseudoChannel) (rows : Nat) (sids : BitVec 4) (b : Background) (skip : Bool) :
    (q.fillAll rows sids b skip).badSpares = q.badSpares := rfl
@[simp] theorem PseudoChannel.fillAll_copy (q : PseudoChannel) (rows : Nat) (sids : BitVec 4) (b : Background) (skip : Bool) :
    (q.fillAll rows sids b skip).copy = q.copy := rfl
@[simp] theorem PseudoChannel.fillAll_inject (q : PseudoChannel) (rows : Nat) (sids : BitVec 4) (b : Background) (skip : Bool) :
    (q.fillAll rows sids b skip).inject = q.inject := rfl
@[simp] theorem PseudoChannel.fillAll_echo (q : PseudoChannel) (rows : Nat) (sids : BitVec 4) (b : Background) (skip : Bool) :
    (q.fillAll rows sids b skip).echo = q.echo := rfl
@[simp] theorem PseudoChannel.fillAll_idleGap (q : PseudoChannel) (rows : Nat) (sids : BitVec 4) (b : Background) (skip : Bool) :
    (q.fillAll rows sids b skip).idleGap = q.idleGap := rfl
@[simp] theorem PseudoChannel.fillAll_refWindow (q : PseudoChannel) (rows : Nat) (sids : BitVec 4) (b : Background) (skip : Bool) :
    (q.fillAll rows sids b skip).refWindow = q.refWindow := rfl
@[simp] theorem PseudoChannel.fillAll_inRefab (q : PseudoChannel) (rows : Nat) (sids : BitVec 4) (b : Background) (skip : Bool) :
    (q.fillAll rows sids b skip).inRefab = q.inRefab := rfl

@[simp] theorem PseudoChannel.fillReserved_banks (q : PseudoChannel) (rows : Nat) (b : Background) :
    (q.fillReserved rows b).banks = q.banks := rfl
@[simp] theorem PseudoChannel.fillReserved_back (q : PseudoChannel) (rows : Nat) (b : Background) :
    (q.fillReserved rows b).back = q.back := rfl
@[simp] theorem PseudoChannel.fillReserved_backSpare (q : PseudoChannel) (rows : Nat) (b : Background) :
    (q.fillReserved rows b).backSpare = q.backSpare := rfl
@[simp] theorem PseudoChannel.fillReserved_spares (q : PseudoChannel) (rows : Nat) (b : Background) :
    (q.fillReserved rows b).spares = q.spares := rfl
@[simp] theorem PseudoChannel.fillReserved_sparesDue (q : PseudoChannel) (rows : Nat) (b : Background) :
    (q.fillReserved rows b).sparesDue = q.sparesDue := rfl
@[simp] theorem PseudoChannel.fillReserved_calendar (q : PseudoChannel) (rows : Nat) (b : Background) :
    (q.fillReserved rows b).calendar = q.calendar := rfl
@[simp] theorem PseudoChannel.fillReserved_staging (q : PseudoChannel) (rows : Nat) (b : Background) :
    (q.fillReserved rows b).staging = q.staging := rfl
@[simp] theorem PseudoChannel.fillReserved_writeFifo (q : PseudoChannel) (rows : Nat) (b : Background) :
    (q.fillReserved rows b).writeFifo = q.writeFifo := rfl
@[simp] theorem PseudoChannel.fillReserved_tsvCapture (q : PseudoChannel) (rows : Nat) (b : Background) :
    (q.fillReserved rows b).tsvCapture = q.tsvCapture := rfl
@[simp] theorem PseudoChannel.fillReserved_captured (q : PseudoChannel) (rows : Nat) (b : Background) :
    (q.fillReserved rows b).captured = q.captured := rfl
@[simp] theorem PseudoChannel.fillReserved_returns (q : PseudoChannel) (rows : Nat) (b : Background) :
    (q.fillReserved rows b).returns = q.returns := rfl
@[simp] theorem PseudoChannel.fillReserved_lanes (q : PseudoChannel) (rows : Nat) (b : Background) :
    (q.fillReserved rows b).lanes = q.lanes := rfl
@[simp] theorem PseudoChannel.fillReserved_drive (q : PseudoChannel) (rows : Nat) (b : Background) :
    (q.fillReserved rows b).drive = q.drive := rfl
@[simp] theorem PseudoChannel.fillReserved_writeOutside (q : PseudoChannel) (rows : Nat) (b : Background) :
    (q.fillReserved rows b).writeOutside = q.writeOutside := rfl
@[simp] theorem PseudoChannel.fillReserved_readOutside (q : PseudoChannel) (rows : Nat) (b : Background) :
    (q.fillReserved rows b).readOutside = q.readOutside := rfl
@[simp] theorem PseudoChannel.fillReserved_buffers (q : PseudoChannel) (rows : Nat) (b : Background) :
    (q.fillReserved rows b).buffers = q.buffers := rfl
@[simp] theorem PseudoChannel.fillReserved_managed (q : PseudoChannel) (rows : Nat) (b : Background) :
    (q.fillReserved rows b).managed = q.managed := rfl
@[simp] theorem PseudoChannel.fillReserved_filled (q : PseudoChannel) (rows : Nat) (b : Background) :
    (q.fillReserved rows b).filled = q.filled := rfl
@[simp] theorem PseudoChannel.fillReserved_fillBusy (q : PseudoChannel) (rows : Nat) (b : Background) :
    (q.fillReserved rows b).fillBusy = q.fillBusy := rfl
@[simp] theorem PseudoChannel.fillReserved_fillPat (q : PseudoChannel) (rows : Nat) (b : Background) :
    (q.fillReserved rows b).fillPat = q.fillPat := rfl
@[simp] theorem PseudoChannel.fillReserved_powerDown (q : PseudoChannel) (rows : Nat) (b : Background) :
    (q.fillReserved rows b).powerDown = q.powerDown := rfl
@[simp] theorem PseudoChannel.fillReserved_qact (q : PseudoChannel) (rows : Nat) (b : Background) :
    (q.fillReserved rows b).qact = q.qact := rfl
@[simp] theorem PseudoChannel.fillReserved_quiesce (q : PseudoChannel) (rows : Nat) (b : Background) :
    (q.fillReserved rows b).quiesce = q.quiesce := rfl
@[simp] theorem PseudoChannel.fillReserved_releaseHeld (q : PseudoChannel) (rows : Nat) (b : Background) :
    (q.fillReserved rows b).releaseHeld = q.releaseHeld := rfl
@[simp] theorem PseudoChannel.fillReserved_ready (q : PseudoChannel) (rows : Nat) (b : Background) :
    (q.fillReserved rows b).ready = q.ready := rfl
@[simp] theorem PseudoChannel.fillReserved_failed (q : PseudoChannel) (rows : Nat) (b : Background) :
    (q.fillReserved rows b).failed = q.failed := rfl
@[simp] theorem PseudoChannel.fillReserved_tsvFailed (q : PseudoChannel) (rows : Nat) (b : Background) :
    (q.fillReserved rows b).tsvFailed = q.tsvFailed := rfl
@[simp] theorem PseudoChannel.fillReserved_op (q : PseudoChannel) (rows : Nat) (b : Background) :
    (q.fillReserved rows b).op = q.op := rfl
@[simp] theorem PseudoChannel.fillReserved_ticks (q : PseudoChannel) (rows : Nat) (b : Background) :
    (q.fillReserved rows b).ticks = q.ticks := rfl
@[simp] theorem PseudoChannel.fillReserved_mapState (q : PseudoChannel) (rows : Nat) (b : Background) :
    (q.fillReserved rows b).mapState = q.mapState := rfl
@[simp] theorem PseudoChannel.fillReserved_bins (q : PseudoChannel) (rows : Nat) (b : Background) :
    (q.fillReserved rows b).bins = q.bins := rfl
@[simp] theorem PseudoChannel.fillReserved_weak (q : PseudoChannel) (rows : Nat) (b : Background) :
    (q.fillReserved rows b).weak = q.weak := rfl
@[simp] theorem PseudoChannel.fillReserved_batch (q : PseudoChannel) (rows : Nat) (b : Background) :
    (q.fillReserved rows b).batch = q.batch := rfl
@[simp] theorem PseudoChannel.fillReserved_undurable (q : PseudoChannel) (rows : Nat) (b : Background) :
    (q.fillReserved rows b).undurable = q.undurable := rfl
@[simp] theorem PseudoChannel.fillReserved_promoted (q : PseudoChannel) (rows : Nat) (b : Background) :
    (q.fillReserved rows b).promoted = q.promoted := rfl
@[simp] theorem PseudoChannel.fillReserved_profiled (q : PseudoChannel) (rows : Nat) (b : Background) :
    (q.fillReserved rows b).profiled = q.profiled := rfl
@[simp] theorem PseudoChannel.fillReserved_spill (q : PseudoChannel) (rows : Nat) (b : Background) :
    (q.fillReserved rows b).spill = q.spill := rfl
@[simp] theorem PseudoChannel.fillReserved_restores (q : PseudoChannel) (rows : Nat) (b : Background) :
    (q.fillReserved rows b).restores = q.restores := rfl
@[simp] theorem PseudoChannel.fillReserved_lostMap (q : PseudoChannel) (rows : Nat) (b : Background) :
    (q.fillReserved rows b).lostMap = q.lostMap := rfl
@[simp] theorem PseudoChannel.fillReserved_bucket (q : PseudoChannel) (rows : Nat) (b : Background) :
    (q.fillReserved rows b).bucket = q.bucket := rfl
@[simp] theorem PseudoChannel.fillReserved_scrub (q : PseudoChannel) (rows : Nat) (b : Background) :
    (q.fillReserved rows b).scrub = q.scrub := rfl
@[simp] theorem PseudoChannel.fillReserved_errs (q : PseudoChannel) (rows : Nat) (b : Background) :
    (q.fillReserved rows b).errs = q.errs := rfl
@[simp] theorem PseudoChannel.fillReserved_ueNow (q : PseudoChannel) (rows : Nat) (b : Background) :
    (q.fillReserved rows b).ueNow = q.ueNow := rfl
@[simp] theorem PseudoChannel.fillReserved_ueHours (q : PseudoChannel) (rows : Nat) (b : Background) :
    (q.fillReserved rows b).ueHours = q.ueHours := rfl
@[simp] theorem PseudoChannel.fillReserved_ceSeen (q : PseudoChannel) (rows : Nat) (b : Background) :
    (q.fillReserved rows b).ceSeen = q.ceSeen := rfl
@[simp] theorem PseudoChannel.fillReserved_symRows (q : PseudoChannel) (rows : Nat) (b : Background) :
    (q.fillReserved rows b).symRows = q.symRows := rfl
@[simp] theorem PseudoChannel.fillReserved_injected (q : PseudoChannel) (rows : Nat) (b : Background) :
    (q.fillReserved rows b).injected = q.injected := rfl
@[simp] theorem PseudoChannel.fillReserved_remap (q : PseudoChannel) (rows : Nat) (b : Background) :
    (q.fillReserved rows b).remap = q.remap := rfl
@[simp] theorem PseudoChannel.fillReserved_cands (q : PseudoChannel) (rows : Nat) (b : Background) :
    (q.fillReserved rows b).cands = q.cands := rfl
@[simp] theorem PseudoChannel.fillReserved_badSpares (q : PseudoChannel) (rows : Nat) (b : Background) :
    (q.fillReserved rows b).badSpares = q.badSpares := rfl
@[simp] theorem PseudoChannel.fillReserved_copy (q : PseudoChannel) (rows : Nat) (b : Background) :
    (q.fillReserved rows b).copy = q.copy := rfl
@[simp] theorem PseudoChannel.fillReserved_inject (q : PseudoChannel) (rows : Nat) (b : Background) :
    (q.fillReserved rows b).inject = q.inject := rfl
@[simp] theorem PseudoChannel.fillReserved_echo (q : PseudoChannel) (rows : Nat) (b : Background) :
    (q.fillReserved rows b).echo = q.echo := rfl
@[simp] theorem PseudoChannel.fillReserved_idleGap (q : PseudoChannel) (rows : Nat) (b : Background) :
    (q.fillReserved rows b).idleGap = q.idleGap := rfl
@[simp] theorem PseudoChannel.fillReserved_refWindow (q : PseudoChannel) (rows : Nat) (b : Background) :
    (q.fillReserved rows b).refWindow = q.refWindow := rfl
@[simp] theorem PseudoChannel.fillReserved_inRefab (q : PseudoChannel) (rows : Nat) (b : Background) :
    (q.fillReserved rows b).inRefab = q.inRefab := rfl

/-! ## Reading what was updated -/

theorem State.updCh_self (s : State) (c : Ch) (f : Channel → Channel) : (s.updCh c f).chans[c] = f s.chans[c] := by
  simp

theorem State.updCh_other (s : State) {c d : Ch} (f : Channel → Channel) (h : d ≠ c) : (s.updCh c f).chans[d] = s.chans[d] := by
  have hne : c.val ≠ d.val := fun e => h (Fin.ext e.symm)
  simpa using Vector.getElem_set_ne c.isLt d.isLt hne

theorem State.updAll_at (s : State) (c : Ch) (f : Channel → Channel) : (s.updAll f).chans[c] = f s.chans[c] := by simp

theorem State.updSession_self (s : State) (k : Slot) (f : Session → Session) :
    (s.updSession k f).sessions[k] = f s.sessions[k] := by simp

theorem State.updSession_other (s : State) {k j : Slot} (f : Session → Session) (h : j ≠ k) :
    (s.updSession k f).sessions[j] = s.sessions[j] := by
  have hne : k.val ≠ j.val := fun e => h (Fin.ext e.symm)
  simpa using Vector.getElem_set_ne k.isLt j.isLt hne

theorem Channel.updPc_self (h : Channel) (p : Pc) (f : PseudoChannel → PseudoChannel) : (h.updPc p f).pcs[p] = f h.pcs[p] := by
  simp

theorem Channel.updPc_other (h : Channel) {p q : Pc} (f : PseudoChannel → PseudoChannel) (hq : q ≠ p) :
    (h.updPc p f).pcs[q] = h.pcs[q] := by
  have hne : p.val ≠ q.val := fun e => hq (Fin.ext e.symm)
  simpa using Vector.getElem_set_ne p.isLt q.isLt hne

theorem PseudoChannel.updBank_self (q : PseudoChannel) (i : Fin 64) (f : Bank → Bank) :
    (q.updBank i f).banks[i] = f q.banks[i] := by simp

theorem PseudoChannel.updBank_other (q : PseudoChannel) {i j : Fin 64} (f : Bank → Bank) (h : j ≠ i) :
    (q.updBank i f).banks[j] = q.banks[j] := by
  have hne : i.val ≠ j.val := fun e => h (Fin.ext e.symm)
  simpa using Vector.getElem_set_ne i.isLt j.isLt hne

theorem State.setCause_gated (s : State) (c : Ch) (n : Nat) (h : s.isGated c = true) : s.setCause c n = s := by
  simp [State.setCause, h]

theorem State.setCause_at (s : State) (c : Ch) (n : Nat) (h : s.isGated c = false) :
    (s.setCause c n).chans[c] = s.chans[c].setCause n := by
  simp [State.setCause, h]

theorem State.setCause_other (s : State) {c d : Ch} (n : Nat) (h : d ≠ c) : (s.setCause c n).chans[d] = s.chans[d] := by
  unfold State.setCause
  split
  · rfl
  · exact State.updCh_other s _ h

end Sys2Proof.Machine
end

