-- ==== Sys2Proof/Laws/Jmp.lean ====
section
/-! SUPPORT. The service of JMP commands: when a row's own effect runs, what an answer changes and what it leaves. -/

set_option Elab.async false

namespace Sys2Proof.Machine

open Sys2Proof.Safety

/-! ## What serving a command can do -/

/-- Serving leaves the machine, answers a failure, or runs the row's own effect on the command that is ready. -/
theorem State.serve_cases (s : State) (k : Slot) (isFor : Cmd → Bool) (hostOnly : Bool) (scope : Option (Fin 5))
    (body : Cmd → State → State) :
    s.serve k isFor hostOnly scope body = s
      ∨ ∃ c, s.sessions[k].head = some c ∧ ((∃ st d, s.serve k isFor hostOnly scope body = s.fails k c st d)
        ∨ (isFor c = true ∧ s.serve k isFor hostOnly scope body = body c s)) := by
  unfold State.serve
  split
  · exact .inl rfl
  · split
    · exact .inl rfl
    · next c hc =>
      rw [hc]
      split
      · exact .inr ⟨c, rfl, .inl ⟨_, _, rfl⟩⟩
      · split
        · exact .inl rfl
        · next hf =>
          have hf : isFor c = true := by simpa using hf
          split
          · exact .inr ⟨c, rfl, .inl ⟨_, _, rfl⟩⟩
          · split
            · exact .inr ⟨c, rfl, .inl ⟨_, _, rfl⟩⟩
            · split
              · split
                · exact .inr ⟨c, rfl, .inr ⟨hf, rfl⟩⟩
                · exact .inr ⟨c, rfl, .inl ⟨_, _, rfl⟩⟩
              · exact .inr ⟨c, rfl, .inr ⟨hf, rfl⟩⟩

/-- A command that is served runs its row's own effect. -/
theorem State.serve_served {s : State} {k : Slot} {x : Cmd} {op : BitVec 16} {hostOnly : Bool} {scope : Option (Fin 5)}
    (h : served s k x op hostOnly scope) (hl : listedOp op = true) {isFor : Cmd → Bool} (hf : isFor x = true)
    (body : Cmd → State → State) : s.serve k isFor hostOnly scope body = body x s := by
  obtain ⟨hs, hh, _, rfl, ht, ho, hb⟩ := h
  have ht' : ¬ (s.thermal.trip && !tripOp x.opcode) = true := by
    cases hc : s.thermal.trip <;> simp_all
  have ho' : ¬ (hostOnly && s.sessions[k].transport != .host) = true := by
    cases hostOnly <;> simp_all
  unfold State.serve
  rw [if_neg (by simp [hs]), hh]
  dsimp only
  rw [if_neg (by simp [hl]), if_neg (by simp [hf]), if_neg ht', if_neg ho']
  cases scope with
  | none => rfl
  | some b => dsimp only; rw [if_pos (hb b rfl)]

/-- As serve_served, for the urgent commands. -/
theorem State.serveUrgent_served {s : State} {k : Slot} {x : Cmd} {op : BitVec 16} (h : servedUrgent s k x op)
    (body : Cmd → State → State) : s.serveUrgent k op body = body x s := by
  obtain ⟨hs, hh, _, rfl⟩ := h
  unfold State.serveUrgent
  rw [if_neg (by simp [hs]), hh]
  dsimp only
  rw [if_pos rfl]

/-! ## Answers -/

/-- Marking a command leaves its neighbours as they are. -/
theorem Session.find_respond (x : Session) (seq : BitVec 16) (r : Response) (c : Cmd) (h : x.find seq = some c)
    (hd : c.state ≠ .done) : (x.respond seq r).find seq = some { c with state := .done, resp := some r } := by
  have hc := List.find?_some h
  have hm := List.mem_of_find?_eq_some h
  have hany : x.cmds.any (fun c => c.seq == seq && c.state != .done) = true := by
    rw [List.any_eq_true]
    exact ⟨c, hm, by simp_all⟩
  unfold Session.respond
  rw [if_pos hany]
  have key : ∀ l : List Cmd, l.find? (fun c => c.seq == seq) = some c →
      (l.map (fun c => if c.seq == seq then { c with state := .done, resp := some r } else c)).find? (fun c => c.seq == seq)
        = some { c with state := .done, resp := some r } := by
    intro l
    induction l with
    | nil => simp
    | cons y ys ih =>
      intro hl
      by_cases hy : y.seq = seq
      · simp only [List.find?_cons, hy, beq_self_eq_true] at hl
        cases hl
        simp [hy]
      · have hy' : (y.seq == seq) = false := by simpa using hy
        rw [List.find?_cons, hy'] at hl
        rw [List.map_cons, hy', if_neg Bool.false_ne_true, List.find?_cons, hy']
        exact ih hl
  exact key _ h

theorem State.takeTurn_find (s : State) (k j : Slot) (seq : BitVec 16) :
    (s.takeTurn k).sessions[j].find seq = s.sessions[j].find seq := by
  by_cases h : j = k
  · subst h; simp [State.takeTurn, Session.find]
  · unfold State.takeTurn
    rw [State.updSession_other _ _ h]
    rfl

theorem State.recordPrivileged_sessions (s : State) (k : Slot) (op : BitVec 16) (r : Response) :
    (s.recordPrivileged k op r).sessions = s.sessions := by
  simp [State.recordPrivileged]

theorem State.respond_sessions (s : State) (k : Slot) (seq : BitVec 16) (r : Response) :
    (s.respond k seq r).sessions = (s.updSession k (·.respond seq r)).sessions := by
  unfold State.respond
  dsimp only
  split
  · split
    · exact State.recordPrivileged_sessions _ _ _ _
    · rfl
  · rfl

/-- An answer completes the command with the response. -/
theorem State.answer_answered (s : State) (k : Slot) (c : Cmd) (r : Response) (h : s.sessions[k].find c.seq = some c)
    (hd : c.state ≠ .done) : answered (s.answer k c r) k c r := by
  unfold answered State.answer
  rw [State.respond_sessions, State.updSession_self]
  exact Session.find_respond _ _ _ _ (by rw [State.takeTurn_find]; exact h) hd

/-- An answer leaves every other session as it was. -/
theorem State.answer_other (s : State) {k j : Slot} (c : Cmd) (r : Response) (h : j ≠ k) :
    (s.answer k c r).sessions[j] = s.sessions[j] := by
  unfold State.answer
  rw [State.respond_sessions, State.updSession_other _ _ h]
  unfold State.takeTurn
  rw [State.updSession_other _ _ h]
  rfl

/-- An answer leaves what is no session, no ledger and no turn. -/
theorem State.answer_frame (s : State) (k : Slot) (c : Cmd) (r : Response) :
    (s.answer k c r).chans = s.chans ∧ (s.answer k c r).pending = s.pending ∧ (s.answer k c r).thermal = s.thermal
      ∧ (s.answer k c r).wick = s.wick ∧ (s.answer k c r).fuse = s.fuse ∧ (s.answer k c r).nv.user = s.nv.user
      ∧ (s.answer k c r).dens = s.dens ∧ (s.answer k c r).quince = s.quince ∧ (s.answer k c r).fuseQueue = s.fuseQueue := by
  unfold State.answer State.respond
  dsimp only
  split
  · split <;> simp [State.recordPrivileged, State.takeTurn]
  · simp [State.takeTurn]

end Sys2Proof.Machine
end

