-- ==== Sys2Proof/Laws/Lvi.lean ====
section
/-! SUPPORT. The intake of LVI commands: what it can do, when the command's own effect runs, and what taking one in leaves. -/

set_option Elab.async false

namespace Sys2Proof.Machine

open Sys2Proof.Safety

/-- The channel that has sampled a command and taken it in. -/
theorem State.updCh_updCh (s : State) (c : Ch) (f g : Channel → Channel) :
    (s.updCh c f).updCh c g = s.updCh c (fun h => g (f h)) := by
  simp [State.updCh]

/-- Every entry of the Baltil table is valid (assumption 5). -/
theorem TableBank.baltil_valid (b : TableBank) (n : Nat) (h : b.baltil = true) : entryValid (b.entryWord n) = true := by
  unfold TableBank.entryWord entryValid
  rw [if_pos h]
  have hx := (Config.tableEntry b.tver n).isLt
  repeat' split
  all_goals first
    | rfl
    | (rw [BitVec.getLsbD_ofNat, Nat.testBit_eq_decide_div_mod_eq]; simp only [Bool.and_eq_true, decide_eq_true_eq]; omega)

/-- An entry of a Baltil table without bad words, whose words the manual does not print, starts its thread. -/
theorem starts_baltil (s : State) (c : Ch) (n : Nat) (h : baltil s c) (hb : s.chans[c].taper.active.bad = [])
    (hn : n ≠ 12 ∧ n ≠ 13 ∧ n ≠ 14) : starts s c n = true := by
  have hk : s.chans[c].taper.active.entryKnown n = false := by
    have h' : s.chans[c].taper.active.baltil = true := h
    unfold TableBank.entryKnown
    rw [h']
    simp [hn]
  unfold starts TableBank.entryFault
  rw [TableBank.baltil_valid _ n h, hk, hb]
  rfl

/-- A command of such an entry is taken where it is admitted outside self-refresh. -/
theorem takes_baltil (s : State) (c : Ch) (ok : Sampled) (n : Nat) (pcs : BitVec 2) (h : baltil s c)
    (hb : s.chans[c].taper.active.bad = []) (hn : n ≠ 12 ∧ n ≠ 13 ∧ n ≠ 14)
    (ha : (admits s c ok && !s.chans[c].regs.srAct && !s.chans[c].allFailed pcs) = true) : takes s c ok n pcs = true := by
  simp only [Bool.and_eq_true] at ha
  unfold takes
  rw [starts_baltil s c n h hb hn, ha.1.1, ha.1.2, ha.2]
  rfl

/-- Intake leaves the machine, changes the command's channel alone, or runs the command's own effect on a machine that
differs in that channel alone. -/
theorem State.intake_cases (s : State) (c : Ch) (k : HostCmd) (ok : Sampled) (body : State → State) :
    s.intake c k ok body = s ∨ (∃ f, s.intake c k ok body = s.updCh c f)
      ∨ s.intake c k ok body = body (s.updCh c (fun h => ((h.sampled ok k.bus).sawCommand k.bus).accept s.timeUs k)) := by
  unfold State.intake
  dsimp only
  split
  · exact .inl rfl
  · simp only [State.updCh_updCh]
    repeat' split
    all_goals first
      | exact .inr (.inr rfl)
      | exact .inr (.inl ⟨_, rfl⟩)

/-- What sampling a command leaves of its channel: everything but a counter and the command capture's crossing. -/
theorem Channel.sampled_frame (h : Channel) (ok : Sampled) (bus : Bus) :
    (h.sampled ok bus).pcs = h.pcs ∧ (h.sampled ok bus).regs = h.regs ∧ (h.sampled ok bus).taper = h.taper
      ∧ (h.sampled ok bus).trn = h.trn ∧ (h.sampled ok bus).lanes = h.lanes ∧ (h.sampled ok bus).tsv = h.tsv
      ∧ (h.sampled ok bus).map = h.map := by
  unfold Channel.sampled
  cases ok <;> cases bus <;> dsimp only <;> (try split) <;> exact ⟨rfl, rfl, rfl, rfl, rfl, rfl, rfl⟩

/-- Sampling that does not slip leaves the command intake. -/
theorem Channel.sampled_intake (h : Channel) {ok : Sampled} (bus : Bus) (hs : ok ≠ .slipped) :
    (h.sampled ok bus).intake = h.intake := by
  unfold Channel.sampled
  cases ok with
  | slipped => exact absurd rfl hs
  | good => rfl
  | badParity => rfl
  | spareMismatch n => cases bus <;> dsimp only <;> split <;> rfl

/-- A command that is taken has its own effect on the channel that took it in. -/
theorem State.intake_taken {s : State} {c : Ch} {k : HostCmd} {ok : Sampled} (h : takes s c ok k.entry k.pcs = true)
    (he : k.error = false) (body : State → State) :
    s.intake c k ok body = body (s.updCh c (fun h => ((h.sampled ok k.bus).sawCommand k.bus).accept s.timeUs k)) := by
  simp only [takes, admits, starts, Bool.and_eq_true, Bool.not_eq_true', Bool.or_eq_true, Option.isNone_iff_eq_none] at h
  obtain ⟨⟨⟨⟨⟨⟨⟨⟨⟨⟨hd, hg⟩, hi⟩, hh⟩, hl⟩, hc⟩, hp⟩, hn⟩, hs⟩, hv, hf⟩, ha⟩ := h
  have hslip : ok ≠ .slipped := by
    rintro rfl
    simp [Channel.captureSlips] at hc
  obtain ⟨f1, f2, f3, -⟩ := (s.chans[c]).sampled_frame ok k.bus
  have f4 := (s.chans[c]).sampled_intake k.bus hslip
  have hin : ((s.updCh c (·.sampled ok k.bus)).chans[c]) = (s.chans[c]).sampled ok k.bus := by simp [State.updCh]
  unfold State.intake
  dsimp only
  rw [if_neg (by rw [hd, hg]; decide), hin, f4, f2, f3, if_neg (by rw [hi, hh]; decide),
    if_neg (by simp only [Channel.captureSlips, f4]; simpa [Channel.captureSlips] using hc),
    if_neg (by
      show ¬(_ || (s.mgmt.lab && _)) = true
      rw [hn]
      rcases hp with hp | hp
      · rw [hp, Bool.and_false]; decide
      · rw [hp, Bool.false_and]; decide),
    if_neg (by unfold Channel.commonError; rw [f4, f2, f3, he, hl, hs, hv]; simp), if_neg (by rw [hf]; decide),
    if_neg (by
      have : ((s.chans[c]).sampled ok k.bus).allFailed k.pcs = (s.chans[c]).allFailed k.pcs := by
        unfold Channel.allFailed; rw [f1]
      rw [this, ha]; decide), State.updCh_updCh]
  rfl

/-- Taking a command in leaves the banks, the memory and the queues of every pseudo-channel. -/
theorem PseudoChannel.endGaps_frame (q : PseudoChannel) (sid : Option Sid) :
    (q.endGaps sid).banks = q.banks ∧ (q.endGaps sid).dram = q.dram ∧ (q.endGaps sid).back = q.back
      ∧ (q.endGaps sid).backRsv = q.backRsv ∧ (q.endGaps sid).backSpare = q.backSpare ∧ (q.endGaps sid).calendar = q.calendar
      ∧ (q.endGaps sid).powerDown = q.powerDown ∧ (q.endGaps sid).qact = q.qact := by
  refine ⟨rfl, rfl, rfl, rfl, rfl, rfl, rfl, rfl⟩

/-- A broken stage leaves of each pseudo-channel everything but what the MX32 drives. -/
theorem Channel.stageBreak_pcs (h : Channel) (now : Nat) (pcs : BitVec 2) (p : Pc) :
    ∃ d, (h.stageBreak now pcs).pcs[p] = { h.pcs[p] with drive := d } := by
  unfold Channel.stageBreak Channel.stageEnd
  split
  · exact ⟨.idle, by simp [Channel.updPcs]⟩
  · exact ⟨_, rfl⟩

theorem Channel.stageBreak_regs (h : Channel) (now : Nat) (pcs : BitVec 2) : (h.stageBreak now pcs).regs = h.regs := by
  unfold Channel.stageBreak Channel.stageEnd; split <;> rfl

/-- A channel that takes a command in changes of each pseudo-channel at most its gaps and what the MX32 drives. -/
theorem Channel.accept_pcs (h : Channel) (now : Nat) (k : HostCmd) (p : Pc) :
    ∃ d, (h.accept now k).pcs[p] = { (if k.pcs.getLsbD p.val then h.pcs[p].endGaps k.sid else h.pcs[p]) with drive := d } := by
  unfold Channel.accept
  obtain ⟨d, hd⟩ := ((h.number k).hostThread k).stageBreak_pcs now k.trains p
  refine ⟨d, ?_⟩
  rw [hd]
  have : ((h.number k).hostThread k).pcs = (h.number k).pcs := by
    unfold Channel.hostThread
    split
    · split <;> rfl
    · rfl
  rw [this]
  simp [Channel.number]

/-- The command is numbered (R72). -/
theorem Channel.accept_seqCnt (h : Channel) (now : Nat) (k : HostCmd) : (h.accept now k).regs.seqCnt = h.regs.seqCnt + 1 := by
  unfold Channel.accept
  rw [Channel.stageBreak_regs]
  unfold Channel.hostThread
  split
  · split <;> rfl
  · rfl

theorem Channel.accept_banks (h : Channel) (now : Nat) (k : HostCmd) (p : Pc) : (h.accept now k).pcs[p].banks = h.pcs[p].banks := by
  obtain ⟨d, hd⟩ := h.accept_pcs now k p
  rw [hd]; split <;> rfl

theorem Channel.accept_readByte (h : Channel) (now : Nat) (k : HostCmd) (p : Pc) (rows a : Nat) :
    (h.accept now k).pcs[p].readByte rows a = h.pcs[p].readByte rows a := by
  obtain ⟨d, hd⟩ := h.accept_pcs now k p
  rw [hd]; split <;> rfl

/-- Noting a column command leaves everything but the NOP count (R80). -/
theorem Channel.sawCommand_frame (h : Channel) (bus : Bus) :
    (h.sawCommand bus).pcs = h.pcs ∧ (h.sawCommand bus).regs = h.regs ∧ (h.sawCommand bus).taper = h.taper
      ∧ (h.sawCommand bus).trn = h.trn ∧ (h.sawCommand bus).lanes = h.lanes ∧ (h.sawCommand bus).tsv = h.tsv := by
  cases bus <;> exact ⟨rfl, rfl, rfl, rfl, rfl, rfl⟩

end Sys2Proof.Machine
end

