-- ==== Sys2Proof/Laws/Memory.lean ====
section
/-! SUPPORT. The memory operations: what a read gives after a write, and that every operation keeps the canonical form. -/

set_option Elab.async false

namespace Sys2Proof.Machine

variable {u v : Nat → Option Byte} {m : List Host.Cell} {a b : Nat} {x : Byte}

/-! ## The canonical form -/

/-- The form as two properties: rising addresses, and no cell that says what its address reads as unlisted. -/
theorem memWf_iff : memWf u m = true ↔ m.Pairwise (fun e f => e.1 < f.1) ∧ ∀ e ∈ m, u e.1 ≠ some e.2 := by
  induction m with
  | nil => simp [memWf]
  | cons e rest ih =>
    cases rest with
    | nil => simp [memWf]
    | cons f tail =>
      simp only [memWf, Bool.and_eq_true, decide_eq_true_eq, ih, List.pairwise_cons (a := e), List.forall_mem_cons (a := e)]
      constructor
      · rintro ⟨⟨he, hlt⟩, hp, hm⟩
        refine ⟨⟨fun g hg => ?_, hp⟩, he, hm⟩
        rcases List.mem_cons.mp hg with rfl | hg
        · exact hlt
        · exact Nat.lt_trans hlt ((List.pairwise_cons.mp hp).1 g hg)
      · rintro ⟨⟨hlt, hp⟩, he, hm⟩
        exact ⟨⟨he, hlt f (by simp)⟩, hp, hm⟩

theorem memWf_nil : memWf u [] = true := rfl

/-- A memory that keeps its form under one reading of unlisted addresses keeps it under another that agrees on what it
lists. -/
theorem memWf_congr (h : memWf u m = true) (hv : ∀ e ∈ m, v e.1 = u e.1) : memWf v m = true := by
  rw [memWf_iff] at *
  exact ⟨h.1, fun e he => by rw [hv e he]; exact h.2 e he⟩

/-- Dropping cells keeps the form. -/
theorem memWf_filter (p : Host.Cell → Bool) (h : memWf u m = true) : memWf u (m.filter p) = true := by
  rw [memWf_iff] at *
  exact ⟨h.1.filter p, fun e he => h.2 e (List.mem_filter.mp he).1⟩

theorem memErase_wf (h : memWf u m = true) : memWf u (memErase m a) = true := memWf_filter _ h

theorem mem_memInsert {e : Host.Cell} (he : e ∈ memInsert m a x) : e = (a, x) ∨ e ∈ m := by
  induction m with
  | nil => simpa [memInsert] using he
  | cons f rest ih =>
    unfold memInsert at he
    split at he
    · rcases List.mem_cons.mp he with rfl | he
      · simp
      · rcases ih he with h | h <;> simp [h]
    · split at he <;> simp only [List.mem_cons] at he ⊢ <;> tauto

theorem memInsert_wf (h : memWf u m = true) (hx : u a ≠ some x) : memWf u (memInsert m a x) = true := by
  rw [memWf_iff] at *
  obtain ⟨hp, hm⟩ := h
  refine ⟨?_, fun e he => ?_⟩
  · clear hm hx
    induction m with
    | nil => simp [memInsert]
    | cons f rest ih =>
      obtain ⟨hlt, hr⟩ := List.pairwise_cons.mp hp
      unfold memInsert
      split
      · refine List.pairwise_cons.mpr ⟨fun g hg => ?_, ih hr⟩
        rcases mem_memInsert hg with rfl | hg
        · assumption
        · exact hlt g hg
      · split
        · next hne heq => exact List.pairwise_cons.mpr ⟨fun g hg => heq ▸ hlt g hg, hr⟩
        · refine List.pairwise_cons.mpr ⟨fun g hg => ?_, hp⟩
          rcases List.mem_cons.mp hg with rfl | hg
          · show a < g.1
            omega
          · have := hlt g hg
            show a < g.1
            omega
  · rcases mem_memInsert he with rfl | he
    · exact hx
    · exact hm e he

/-- A write of one byte keeps the form. -/
theorem memPut_wf (h : memWf u m = true) : memWf u (memPut u m a x) = true := by
  unfold memPut
  split
  · exact memErase_wf h
  · exact memInsert_wf h (by assumption)

/-- A write of bytes keeps the form. -/
theorem memPutAll_wf (xs : List Byte) (h : memWf u m = true) : memWf u (memPutAll u m a xs) = true := by
  induction xs generalizing m a with
  | nil => exact h
  | cons y ys ih => exact ih (memPut_wf h)

/-! ## Read after write -/

/-- What an address reads as: the listed byte, else what it reads as unlisted. -/
theorem memFind_nil : memFind [] a = none := rfl

theorem memFind_cons (e : Host.Cell) : memFind (e :: m) a = if e.1 = a then some e.2 else memFind m a := by
  by_cases h : e.1 = a <;> simp [memFind, h]

theorem memFind_memErase_self : memFind (memErase m a) a = none := by
  have h : (memErase m a).find? (fun e => e.1 == a) = none := by
    rw [List.find?_eq_none]
    intro e he
    simpa [memErase] using (List.mem_filter.mp he).2
  simp [memFind, h]

theorem memFind_memErase_other (hab : b ≠ a) : memFind (memErase m a) b = memFind m b := by
  induction m with
  | nil => rfl
  | cons e rest ih =>
    by_cases he : e.1 = a
    · have hb : e.1 ≠ b := fun h => hab (h.symm.trans he)
      rw [memFind_cons, if_neg hb, ← ih]
      simp [memErase, he]
    · have : memErase (e :: rest) a = e :: memErase rest a := by simp [memErase, he]
      rw [this, memFind_cons, memFind_cons, ih]

theorem memFind_memInsert_self : memFind (memInsert m a x) a = some x := by
  induction m with
  | nil => simp [memInsert, memFind]
  | cons e rest ih =>
    unfold memInsert
    split
    · rw [memFind_cons, if_neg (by omega), ih]
    · split <;> simp [memFind_cons]

theorem memFind_memInsert_other (hab : b ≠ a) : memFind (memInsert m a x) b = memFind m b := by
  induction m with
  | nil => simp [memInsert, memFind, hab.symm]
  | cons e rest ih =>
    unfold memInsert
    split
    · rw [memFind_cons, memFind_cons, ih]
    · split
      · next heq => rw [memFind_cons, memFind_cons, if_neg (fun h => hab h.symm), if_neg (fun h => hab (h.symm.trans heq))]
      · rw [memFind_cons, if_neg (fun h => hab h.symm)]

/-- A byte written is the byte read, listed or not. -/
theorem memPut_self : (memFind (memPut u m a x) a).or (u a) = some x := by
  unfold memPut
  split
  · simp [memFind_memErase_self, *]
  · simp [memFind_memInsert_self]

/-- A write leaves every other address as it was. -/
theorem memPut_other (hab : b ≠ a) : memFind (memPut u m a x) b = memFind m b := by
  unfold memPut
  split
  · exact memFind_memErase_other hab
  · exact memFind_memInsert_other hab

/-- A write of bytes leaves every address outside them as it was. -/
theorem memPutAll_other (xs : List Byte) (h : b < a ∨ a + xs.length ≤ b) : memFind (memPutAll u m a xs) b = memFind m b := by
  induction xs generalizing m a with
  | nil => rfl
  | cons y ys ih =>
    simp only [List.length_cons] at h
    rw [memPutAll, ih (by omega), memPut_other (by omega)]

/-- Each byte of a write is the byte read there. -/
theorem memPutAll_at (xs : List Byte) (k : Nat) (h : k < xs.length) :
    (memFind (memPutAll u m a xs) (a + k)).or (u (a + k)) = some xs[k] := by
  induction xs generalizing m a k with
  | nil => simp at h
  | cons y ys ih =>
    cases k with
    | zero => rw [memPutAll, Nat.add_zero, memPutAll_other _ (by omega)]; exact memPut_self
    | succ k =>
      have := ih (m := memPut u m a y) (a := a + 1) k (by simpa using h)
      rw [memPutAll, show a + (k + 1) = a + 1 + k by omega]
      simpa using this

/-! ## Core-die memory -/

/-- A host write keeps the canonical form of a pseudo-channel's memory. -/
theorem PseudoChannel.writeAccess_wf (q : PseudoChannel) (rows n : Nat) (data : BitVec 512) (check : BitVec 64)
    (h : memWf (q.unlisted rows) q.dram = true) :
    memWf ((q.writeAccess rows n data check).unlisted rows) (q.writeAccess rows n data check).dram = true :=
  memPutAll_wf _ h

/-- A fill keeps it: the cells it leaves listed keep their background (R112). -/
theorem PseudoChannel.fillAll_wf (q : PseudoChannel) (rows : Nat) (sids : BitVec 4) (b : Background) (skip : Bool)
    (h : memWf (q.unlisted rows) q.dram = true) :
    memWf ((q.fillAll rows sids b skip).unlisted rows) (q.fillAll rows sids b skip).dram = true := by
  refine memWf_congr (memWf_filter _ h) (fun e he => ?_)
  have hk := (List.mem_filter.mp he).2
  simp only [PseudoChannel.unlisted, PseudoChannel.background, PseudoChannel.fillAll]
  by_cases ha : accessSpare (e.1 / 72) = true
  · simp [ha]
  · have ha' : accessSpare (e.1 / 72) = false := by simpa using ha
    simp only [ha', accessReserved, Bool.or_eq_true, Bool.not_eq_true', Bool.and_eq_true, beq_iff_eq, decide_eq_true_eq,
      Bool.false_eq_true, or_false, if_false, Bool.not_false, and_true] at hk ⊢
    rcases hk with hk | ⟨rfl, hz, hr⟩
    · split
      · next hs =>
        have h0 : sids.getLsbD 0 = false := by simpa [hs.1] using hk
        rw [h0, if_neg (fun hh => Bool.false_ne_true hh.1)]
      · simp only [Vector.getElem_mapFinIdx, Fin.getElem_fin, hk]
        rfl
    · have hc : (accessOf (e.1 / 72)).1 = 0 ∧ rows - 16 ≤ (accessOf (e.1 / 72)).2.2.1.toNat := ⟨hz, hr⟩
      rw [if_pos hc, if_pos hc, if_neg (by simp)]

/-- A new background of the reserved rows keeps it (R117). -/
theorem PseudoChannel.fillReserved_wf (q : PseudoChannel) (rows : Nat) (b : Background)
    (h : memWf (q.unlisted rows) q.dram = true) :
    memWf ((q.fillReserved rows b).unlisted rows) (q.fillReserved rows b).dram = true := by
  refine memWf_congr (memWf_filter _ h) (fun e he => ?_)
  have hk := (List.mem_filter.mp he).2
  simp only [PseudoChannel.unlisted, PseudoChannel.background, PseudoChannel.fillReserved]
  by_cases ha : accessSpare (e.1 / 72) = true
  · simp [ha]
  · have ha' : accessSpare (e.1 / 72) = false := by simpa using ha
    simp only [ha', accessReserved, Bool.not_eq_true', Bool.and_eq_false_iff, beq_eq_false_iff_ne, decide_eq_false_iff_not,
      Bool.false_eq_true, if_false, Bool.not_false, Bool.true_eq_false, or_false] at hk ⊢
    have hc : ¬((accessOf (e.1 / 72)).1 = 0 ∧ rows - 16 ≤ (accessOf (e.1 / 72)).2.2.1.toNat) := fun hh =>
      hk.elim (fun h => h hh.1) (fun h => h hh.2)
    rw [if_neg hc, if_neg hc]

/-- Bytes put in place of what a range lists keep the form. -/
theorem memSetRange_wf (bytes : List Byte) (h : memWf u m = true) : memWf u (memSetRange u m a bytes) = true := by
  rw [memWf_iff] at *
  obtain ⟨hp, hm⟩ := h
  have hmid : ∀ e ∈ (bytes.zipIdx.map (fun x => (a + x.2, x.1))).filter (fun e => decide (u e.1 ≠ some e.2)),
      a ≤ e.1 ∧ e.1 < a + bytes.length ∧ u e.1 ≠ some e.2 := by
    intro e he
    obtain ⟨he, hu⟩ := List.mem_filter.mp he
    obtain ⟨⟨y, k⟩, hy, rfl⟩ := List.mem_map.mp he
    have := List.mem_zipIdx hy
    exact ⟨by simp, by simpa using this.2.1, by simpa using hu⟩
  have hmp : ((bytes.zipIdx.map (fun x => (a + x.2, x.1))).filter (fun e => decide (u e.1 ≠ some e.2))).Pairwise
      (fun e f => e.1 < f.1) := by
    refine List.Pairwise.filter _ ?_
    rw [List.pairwise_map, List.pairwise_iff_getElem]
    intro i j hi hj hij
    simpa using hij
  constructor
  · unfold memSetRange
    rw [List.pairwise_append, List.pairwise_append]
    refine ⟨⟨hp.filter _, hmp, fun e he f hf => ?_⟩, hp.filter _, fun e he f hf => ?_⟩
    · have h1 := (List.mem_filter.mp he).2
      have h2 := (hmid f hf).1
      simp only [decide_eq_true_eq] at h1
      omega
    · have h2 := (List.mem_filter.mp hf).2
      simp only [decide_eq_true_eq] at h2
      rcases List.mem_append.mp he with he | he
      · have h1 := (List.mem_filter.mp he).2
        simp only [decide_eq_true_eq] at h1
        omega
      · have := (hmid e he).2.1
        omega
  · intro e he
    unfold memSetRange at he
    rcases List.mem_append.mp he with he | he
    · rcases List.mem_append.mp he with he | he
      · exact hm e (List.mem_filter.mp he).1
      · exact (hmid e he).2.2
    · exact hm e (List.mem_filter.mp he).1

/-- The exchange of a row's cells with a spare's keeps it (R141, R142). -/
theorem PseudoChannel.swapCells_wf (q : PseudoChannel) (rows : Nat) (bank : Fin 64) (row : Nat) (spare : Fin 4)
    (h : memWf (q.unlisted rows) q.dram = true) :
    memWf ((q.swapCells rows bank row spare).unlisted rows) (q.swapCells rows bank row spare).dram = true :=
  memSetRange_wf _ (memSetRange_wf _ h)

/-- Every pseudo-channel's memory has the form right after reset. -/
theorem reset_memory_wf (c : Ch) (p : Pc) (rows : Nat) :
    memWf ((State.reset.chans[c].pcs[p]).unlisted rows) (State.reset.chans[c].pcs[p]).dram = true := by
  have : (State.reset.chans[c].pcs[p]).dram = [] := by simp [State.reset, chansAt]
  rw [this]; rfl

end Sys2Proof.Machine
end

