-- ==== Sys2Proof/Laws/Store.lean ====
section
/-! SUPPORT. Sparse word stores: what a key reads after a store. -/

set_option Elab.async false

namespace Sys2Proof.Machine

variable {w : Nat} {l : List (Nat × BitVec w)} {j k : Nat} {v : BitVec w}

theorem sparseGet_nil : sparseGet ([] : List (Nat × BitVec w)) k = 0 := rfl

theorem sparseGet_cons (e : Nat × BitVec w) : sparseGet (e :: l) k = if e.1 = k then e.2 else sparseGet l k := by
  by_cases h : e.1 = k <;> simp [sparseGet, h]

theorem sparseGet_insert_self : sparseGet (sparseInsert l k v) k = v := by
  induction l with
  | nil => simp [sparseInsert, sparseGet]
  | cons e rest ih =>
    unfold sparseInsert
    split
    · rw [sparseGet_cons, if_neg (by omega), ih]
    · split <;> simp [sparseGet_cons]

theorem sparseGet_insert_other (h : j ≠ k) : sparseGet (sparseInsert l k v) j = sparseGet l j := by
  induction l with
  | nil => simp [sparseInsert, sparseGet, h.symm]
  | cons e rest ih =>
    unfold sparseInsert
    split
    · rw [sparseGet_cons, sparseGet_cons, ih]
    · split
      · next heq => rw [sparseGet_cons, sparseGet_cons, if_neg (fun g => h g.symm), if_neg (fun g => h (g.symm.trans heq))]
      · rw [sparseGet_cons, if_neg (fun g => h g.symm)]

theorem sparseGet_filter_self : sparseGet (l.filter (fun e => e.1 != k)) k = 0 := by
  have h : (l.filter (fun e => e.1 != k)).find? (fun e => e.1 == k) = none := by
    rw [List.find?_eq_none]
    intro e he
    simpa using (List.mem_filter.mp he).2
  simp [sparseGet, h]

theorem sparseGet_filter_other (h : j ≠ k) : sparseGet (l.filter (fun e => e.1 != k)) j = sparseGet l j := by
  induction l with
  | nil => rfl
  | cons e rest ih =>
    by_cases he : e.1 = k
    · rw [sparseGet_cons, if_neg (fun g => h (g.symm.trans he)), ← ih]
      simp [he]
    · rw [List.filter_cons_of_pos (by simpa using he), sparseGet_cons, sparseGet_cons, ih]

/-- A key reads the word stored there. -/
theorem sparseGet_set_self : sparseGet (sparseSet l k v) k = v := by
  unfold sparseSet
  split
  · next h => rw [sparseGet_filter_self, h]
  · exact sparseGet_insert_self

/-- Every other key reads as before. -/
theorem sparseGet_set_other (h : j ≠ k) : sparseGet (sparseSet l k v) j = sparseGet l j := by
  unfold sparseSet
  split
  · exact sparseGet_filter_other h
  · exact sparseGet_insert_other h

end Sys2Proof.Machine
end

