-- ==== Sys2Proof/Machine/Domains.lean ====
section
/-! DEFINITION. Clock domains, switched power domains and rail sensing (R28, R34, Tables 1-4, 1-5, 11-7, 12-2): what the rest of the
state says of each. -/

namespace Sys2Proof.Machine

/-! ## Domains -/

/-- The clock domains of Table 1-4. -/
inductive ClockDomain where
  | hostReceive (ch : Ch) (group : Fin 4)
  | hostTransmit (ch : Ch)
  | tsvPort (ch : Ch)
  | core (ch : Ch)
  | taper (ch : Ch)
  | bridge (group : Fin 8)
  | sensors (cluster : Fin 8)
  | serviceBus (half : Fin 2)
  | lantern (k : Fin 3)
  | interconnect | sram | dma
  | mailbox (window : Fin 2)
  | quince | fuse | thermal | i2c | wrapper | tap | tests | wick | timebase | alwaysOn
  deriving DecidableEq, Repr

/-- The switched power domains of Table 1-5. -/
inductive PowerDomain where
  | phy (group : Fin 8)
  | core (group : Fin 8)
  | tsv (half : Fin 2)
  | mgmt | mbx | quince | fusehv | wick | sensb
  deriving DecidableEq, Repr

/-- Where a clock comes from (Tables 1-4 and 11-7): an output of Wick, the host, a test port, the reference, the RC oscillator. -/
inductive ClockSource where
  | output (n : Fin 8)
  | wdqs | wsc | tck | refck | rc
  deriving DecidableEq, Repr

/-- Every clock domain (R28). -/
def clockDomains : List ClockDomain :=
  (List.finRange 32).flatMap (fun c => (List.finRange 4).map (ClockDomain.hostReceive c))
    ++ (List.finRange 32).flatMap (fun c => [ClockDomain.hostTransmit c, .tsvPort c, .core c, .taper c])
    ++ (List.finRange 8).flatMap (fun g => [ClockDomain.bridge g, .sensors g])
    ++ (List.finRange 2).flatMap (fun b => [ClockDomain.serviceBus b, .mailbox b])
    ++ (List.finRange 3).map ClockDomain.lantern
    ++ [.interconnect, .sram, .dma, .quince, .fuse, .thermal, .i2c, .wrapper, .tap, .tests, .wick, .timebase, .alwaysOn]

/-- Every switched power domain (R28). -/
def powerDomains : List PowerDomain :=
  (List.finRange 8).flatMap (fun g => [PowerDomain.phy g, .core g]) ++ [.tsv 0, .tsv 1, .mgmt, .mbx, .quince, .fusehv, .wick, .sensb]

/-- The channel group of a channel, as a number below 8. -/
def groupFin (c : Ch) : Fin 8 := ⟨c.val / 4, by omega⟩

/-- The half of the TSV port that serves a channel. -/
def halfOf (c : Ch) : Fin 2 := ⟨c.val / 16, by omega⟩

/-- The power domain of a clock domain, none for the always-on domain (Table 1-4). -/
def ClockDomain.domain : ClockDomain → Option PowerDomain
  | .hostReceive c _ | .hostTransmit c => some (.phy (groupFin c))
  | .tsvPort c => some (.tsv (halfOf c))
  | .core c | .taper c => some (.core (groupFin c))
  | .bridge g => some (.core g)
  | .serviceBus b => some (.tsv b)
  | .lantern _ | .interconnect | .sram | .dma => some .mgmt
  | .mailbox _ => some .mbx
  | .quince => some .quince
  | .fuse => some .fusehv
  | .sensors _ | .thermal | .i2c | .wrapper | .tap | .tests => some .sensb
  | .wick => some .wick
  | .timebase | .alwaysOn => none

/-- The source of a clock domain (Table 1-4). -/
def ClockDomain.source : ClockDomain → ClockSource
  | .hostReceive _ _ => .wdqs
  | .hostTransmit _ => .output 0
  | .tsvPort _ => .output 1
  | .core _ => .output 2
  | .taper _ => .output 3
  | .bridge _ | .lantern _ | .interconnect | .sram | .dma | .mailbox _ => .output 4
  | .sensors _ | .serviceBus _ | .quince | .fuse | .thermal | .timebase => .output 5
  | .tests => .output 6
  | .i2c => .output 7
  | .wrapper => .wsc
  | .tap => .tck
  | .wick => .refck
  | .alwaysOn => .rc

/-- The rails of a switched power domain (Table 1-5). -/
def PowerDomain.rails : PowerDomain → List Rail
  | .phy _ => [.vddq, .vdd]
  | .core _ | .tsv _ | .mgmt | .mbx => [.vdd]
  | .quince | .fusehv => [.vdd, .vpp]
  | .wick => [.vddpll]
  | .sensb => [.vddsb, .vdd]

/-- A switched power domain is on (Table 12-2): its rails are good and its controller has not switched it off. MGMT, MBX and
SENSB never are; FUSEHV is on while the shadow loads or a word waits to be programmed; WICK is off in reset. -/
def State.powered (s : State) (d : PowerDomain) : Bool :=
  d.rails.all (fun r => s.power.rails[railIx r]) && match d with
    | .phy g | .core g => !s.power.gated.getLsbD g.val
    | .tsv h => !s.power.tsvOff.getLsbD h.val
    | .quince => !s.power.quinceOff
    | .fusehv => (!s.inReset && !s.fuse.loaded) || !s.fuseQueue.isEmpty
    | .wick => !s.inReset
    | .mgmt | .mbx | .sensb => true

/-- The source that clocks a domain now (R28, Table 11-7): in managed self-refresh the TSV port and the Taper of a channel take O5;
without Wick the management plane's O4, O5 and O7 are the RC oscillator. -/
def State.clockOf (s : State) (d : ClockDomain) : ClockSource :=
  let managed (c : Ch) : Bool := s.chans[c].regs.srAct && s.chans[c].regs.srManaged
  let named : ClockSource := match d with
    | .tsvPort c | .taper c => if managed c then .output 5 else d.source
    | _ => d.source
  if s.wick.rcMgmt && (named == .output 4 || named == .output 5 || named == .output 7) then .rc else named

/-- The divider of an output of Wick in a bin (Table 11-2). -/
def outputDivider (bin : BitVec 2) (n : Fin 8) : Nat :=
  match n.val with
  | 0 => byBin bin 4 3 2 2
  | 1 => byBin bin 8 6 4 4
  | 2 => byBin bin 16 12 8 8
  | 3 => byBin bin 32 24 16 16
  | 4 => byBin bin 32 30 25 32
  | 5 => byBin bin 128 120 100 128
  | 6 => byBin bin 64 60 50 64
  | _ => byBin bin 256 240 200 256

/-- An output of Wick runs (Table 11-3, R323): O0 to O3 as WICK says, O4, O5 and O7 while they are the source of their domains, O6 in
RUN. -/
def State.outputRuns (s : State) (n : Fin 8) : Bool :=
  if n.val < 4 then s.wick.outputs
  else if n.val = 6 then s.wick.state == .run
  else !s.wick.rcMgmt

/-- The frequency of an output of Wick in kHz: the VCO's, the feedback integer times REFCK's 100 MHz, by its divider; none while it
stands still (R305, Table 11-7). -/
def State.outputKHz (s : State) (n : Fin 8) : Option Nat :=
  if s.outputRuns n then some (feedbackInteger s.wick.binAct * 100000 / outputDivider s.wick.binAct n) else none

/-- The fine delay of an output, in codes of 1.5 ps, from the Trims words of the fuse shadow (R306). -/
def State.fineDelay (s : State) (n : Fin 8) : BitVec 6 :=
  Config.fineDelay ((List.range 126).map (fun k => sparseGet s.fuse.words (k + 1))) n.val

/-- The frequency at which the MX32 itself clocks a source, in kHz; none where it stands still or is as driven from outside. -/
def State.sourceKHz (s : State) : ClockSource → Option Nat
  | .output n => s.outputKHz n
  | .rc => some 25000
  | .wdqs | .wsc | .tck | .refck => none

/-! ## Rail sensing -/

/-- The sense reading of a rail at an SNS_ bump of Table 2-3, bumps 0 to 7 those of VDDQ by channel group, 8 to 13 those of VDD, VDDAON,
VDDPLL, VDDSB, VDD2 and VPP: invalid, none, where the bump is unconnected; its value is the board's, a free value (R34). -/
def State.senseReading (s : State) (k : Fin 14) : Option (BitVec 16) :=
  if s.power.sense.getLsbD k.val then some (Config.senseLevel k.val s.fresh) else none

end Sys2Proof.Machine
end

