-- ==== Sys2Proof/WellFormed.lean ====
section
/-! DEFINITION. Which commands are well formed: the constraints the manual puts on operands that the types do not carry.
A command outside them is still executed by the machine, as its row says. -/

namespace Sys2Proof

/-- Opcodes of the row bus that name no command: NOP and the reserved codes (Table 3-2). -/
def rowIdleOp (op : BitVec 4) : Bool := decide (9 ≤ op.toNat)

/-- Opcodes of the column bus that name no command: NOP and the reserved codes (Table 3-3). -/
def colIdleOp (op : BitVec 4) : Bool := decide (10 ≤ op.toNat)

/-- The command meets the operand constraints of its row. -/
def Instr.wf : Instr → Bool
  | .nop _ bus op _ => match bus with
    | .row => rowIdleOp op
    | .col => colIdleOp op
  | .lmwWindowEnd _ => true
  | .trackingWindow _ counts => decide (counts.length ≤ 100)
  | .recentringResult _ results => decide (results.lanes.length ≤ 100 ∧ results.rdqs.length ≤ 4)
  | .sampleTick base core => decide (base.length = 64 ∧ core.length = 64)
  | .profileBatchStart _ _ _ groups => decide (groups.length ≤ 16 ∧ groups.Nodup)
  | .stageComplete _ rep => decide ((rep.eyes.map (·.lane)).Nodup ∧ (rep.bumps.map (·.bump)).Nodup ∧ rep.path.length ≤ 8)
  | .wickBandSearch counts _ => decide (counts.length = 32)
  | .invalidCommandByte byte => decide (0x83 ≤ byte.toNat)
  | .quinceOpComplete _ pulses _ => decide (pulses ≤ 40)
  | _ => true

end Sys2Proof
end

