-- ==== Sys2Proof/Tests/Slice0.lean ====
section
/-! SUPPORT. Tests of the model: commands refused as ill formed, small steps whose results the manual gives, and for every
statement with hypotheses a state and operands that meet them. -/

set_option Elab.async false

namespace Sys2Proof.Tests

open Sys2Proof.Machine
open Sys2Proof.Safety

/-! ## Small states -/

/-- A verified table whose entries all start a thread at step 0. -/
def tbl : TableBank := { verified := true, complete := true, entries := (List.range 64).map (fun n => (n, 0x8000#16)) }

/-- The machine after reset with that table in channel 0, and a change of the channel. -/
def onChan (f : Channel → Channel) : State :=
  State.reset.updCh 0 (fun h => f { h with taper := { h.taper with active := tbl } })

/-- As onChan, with the Baltil table (assumption 5). -/
def onBaltil (f : Channel → Channel) : State := onChan (fun h => f { h with taper := { h.taper with active := { verified := true, complete := true, baltil := true } } })

/-- As onChan, a change of pseudo-channel 0. -/
def onPc (f : PseudoChannel → PseudoChannel) : State := onChan (fun h => h.updPc 0 f)

/-- As onChan, a change of both pseudo-channels. -/
def onPcs (f : PseudoChannel → PseudoChannel) : State := onChan (fun h => h.updPcs f)

/-- As onPc, a change of bank 0. -/
def onBank (f : Bank → Bank) : State := onPc (fun q => q.updBank 0 f)

/-- The machine after reset with a change of Wick. -/
def onWick (f : Wick → Wick) : State := State.reset.updWick f

/-- A machine whose management plane runs. -/
def live : State := { State.reset with
  power := { State.reset.power with booted := true }, mgmt := { State.reset.mgmt with ready := true } }

/-- A session of the host in slot 0 with one command ready. -/
def ready (op : BitVec 16) (payload : List Byte) (f : State → State := id) : State :=
  f { live with sessions := live.sessions.set 0 { live := true, gen := 1, scope := 15
                                                  cmds := [{ seq := 1, opcode := op, cont := false, payload := payload }] } }

/-- That command. -/
def cmd (op : BitVec 16) (payload : List Byte) : Cmd := { seq := 1, opcode := op, cont := false, payload := payload }

/-- A line that carries everything as driven. -/
def calm : LineEnv := { flips := 0, ods := 0, odsUi := 0, slip := false, limited := [], tsvLimited := [], spareMism := 0 }
/-! ## Hypotheses that hold: the machine and the LVI -/

theorem witness_StepRunsFrontCommand : State.reset.pending = [] := by decide +kernel

theorem witness_CommandsKeepQueue : ∃ t, exec (.nop 0 .row 15 .good) State.reset = .next t := ⟨_, rfl⟩

theorem witness_StepKeepsStoreAndTripInvariants :
    userCanonical State.reset ∧ pinShowsTrip State.reset ∧ sectorsWhole State.reset ∧ ∃ t, step State.reset = .next t :=
  ⟨by unfold userCanonical; decide +kernel, by unfold pinShowsTrip; decide +kernel, by unfold sectorsWhole; decide +kernel, _, rfl⟩

theorem witness_TripStandsUntilStackReset :
    ({ State.reset with thermal := { State.reset.thermal with trip := true } } : State).thermal.trip = true
      ∧ ∃ t, exec (.nop 0 .row 15 .good) { State.reset with thermal := { State.reset.thermal with trip := true } } = .next t :=
  ⟨by decide +kernel, _, rfl⟩

theorem witness_ResetPulsesAndTheOneStop :
    Instr.resetAssert 99 = .resetAssert 99 ∧ (100 : Nat) ≤ 100 ∧ (999 : Nat) < 1000 ∧ (1000 : Nat) ≤ 1000 := by decide

theorem witness_ActOpensRow_served :
    (onChan id).unservable (onChan id).chans[0] 0 24575 = false ∧ takes (onChan id) 0 .good 0 (pcMask 0) = true
      ∧ (onChan id).chans[0].pcs[0].powerDown = false ∧ (onChan id).chans[0].pcs[0].banks[bankIx 0 0 0].phase = .closed := by
  decide +kernel

theorem witness_ActOpensRow_unservable :
    (onChan id).unservable (onChan id).chans[0] 0 32767 = true ∧ takes (onChan id) 0 .good 1 (pcMask 0) = true := by
  decide +kernel

theorem witness_PrechargeClosesBanks :
    takes (onChan id) 0 .good 2 (pcMask 0) = true ∧ takes (onChan id) 0 .good 3 (pcMask 1) = true
      ∧ (onChan id).chans[0].pcs[0].powerDown = false ∧ (onChan id).chans[0].pcs[1].powerDown = false := by
  decide +kernel

theorem witness_RefreshCommandsTakeEffect_refab :
    takes (onChan id) 0 .good 4 (pcMask 0) = true
      ∧ ∀ i ∈ sidBanks 0, (onChan id).chans[0].pcs[0].banks[i].phase = .closed := by
  decide +kernel

theorem witness_RefreshCommandsTakeEffect_refpb :
    let s := onPc (fun q => { q with ready := true })
    takes s 0 .good 5 (pcMask 0) = true ∧ s.chans[0].pcs[0].banks[bankIx 0 0 0].phase = .closed
      ∧ s.chans[0].pcs[0].ready = true ∧ s.chans[0].pcs[0].qact = false ∧ s.chans[0].pcs[0].carriedIn 0 ≤ 42
      ∧ -(s.limitRows s.chans[0] 0) < s.chans[0].pcs[0].banks[bankIx 0 0 0].debt
      ∧ s.chans[0].pcs[0].banks[bankIx 0 0 0].debt ≤ s.limitRows s.chans[0] 0 := by
  decide +kernel

/-- A bank with a posted request. -/
def requested : State := onBank (fun b =>
  { b with rfm := some { left := 1, stamp := 0, row := 7 }, tracker := [{ slot := 0, row := 7, count := 2000 }] })

theorem witness_RefreshCommandsTakeEffect_rfm :
    takes requested 0 .good 6 (pcMask 0) = true ∧ requested.chans[0].pcs[0].refreshNop = false ∧ requested.chans[0].pcs[0].banks[bankIx 0 0 0].phase = .closed
      ∧ (requested.chans[0].pcs[0].banks[bankIx 0 0 0].rfm).isSome = true
      ∧ (trackUrgent requested.chans[0].pcs[0].banks[bankIx 0 0 0].tracker).isSome = true
      ∧ requested.chans[0].pcs[0].qact = false := by
  decide +kernel

/-- The same bank with the Baltil table. -/
def requestedBaltil : State := onBaltil (fun h => { h with pcs := requested.chans[0].pcs })

theorem witness_RefreshCommandsTakeEffect_baltil :
    takes requestedBaltil 0 .good 6 (pcMask 0) = true ∧ baltil requestedBaltil 0
      ∧ requestedBaltil.chans[0].pcs[0].banks[bankIx 0 0 0].phase = .closed ∧ requestedBaltil.chans[0].pcs[0].refreshNop = false
      ∧ (trackUrgent requestedBaltil.chans[0].pcs[0].banks[bankIx 0 0 0].tracker).isSome = true
      ∧ requestedBaltil.chans[0].pcs[0].qact = false := by
  have h : baltil requestedBaltil 0 := by unfold baltil; decide +kernel
  exact ⟨takes_baltil _ _ _ _ _ h (by decide +kernel) (by decide) (by decide +kernel), h, by decide +kernel⟩

theorem witness_RefreshCommandsTakeEffect_frame : ∃ t, exec (.rfm 0 0 0 0 0 .good) requested = .next t := ⟨_, rfl⟩

theorem witness_PowerDownAndSelfRefresh_pde :
    let s := onPcs (fun q => { q with quiesce := true })
    takes s 0 .good 7 3 = true ∧ (3 : BitVec 2) ≠ 0 ∧ s.chans[0].namesPowerDown 3 = false ∧ s.chans[0].pcs[1].failed = false
      ∧ s.chans[0].pcs[1].quiesce = true ∧ s.chans[0].pcs[1].allClosed = true := by
  decide +kernel

theorem witness_PowerDownAndSelfRefresh_pdx :
    let s := onPcs (fun q => { q with powerDown := true })
    takes s 0 .good 8 3 = true
      ∧ ∀ p : Pc, (3 : BitVec 2).getLsbD p.val = true → s.chans[0].pcs[p].powerDown = true ∧ s.chans[0].pcs[p].qact = false := by
  decide +kernel

theorem witness_PowerDownAndSelfRefresh_sre :
    takes (onChan id) 0 .good 9 0 = true ∧ takes (onChan id) 0 .good 10 0 = true
      ∧ ∀ p : Pc, (onChan id).chans[0].pcs[p].allClosed = true ∧ (onChan id).chans[0].pcs[p].qact = false := by
  decide +kernel

theorem witness_PowerDownAndSelfRefresh_baltil :
    takes (onBaltil id) 0 .good 9 0 = true ∧ baltil (onBaltil id) 0
      ∧ ∀ p : Pc, (onBaltil id).chans[0].pcs[p].allClosed = true ∧ (onBaltil id).chans[0].pcs[p].qact = false := by
  have h : baltil (onBaltil id) 0 := by unfold baltil; decide +kernel
  exact ⟨takes_baltil _ _ _ _ _ h (by decide +kernel) (by decide) (by decide +kernel), h, by decide +kernel⟩

theorem witness_PowerDownAndSelfRefresh_srx :
    let s := onBaltil (fun h => h.updRegs (fun r => { r with srAct := true }))
    admits s 0 .good = true ∧ s.chans[0].regs.srAct = true ∧ s.wick.state ≠ .linkhold ∧ starts s 0 11 = true
      ∧ noRepairDue s 0 ∧ nothingOwed s 0 ∧ baltil s 0 ∧ s.chans[0].regs.srManaged = false := by
  intro s
  have h : baltil s 0 := by unfold baltil; decide +kernel
  refine ⟨by decide +kernel, by decide +kernel, by decide +kernel, starts_baltil _ _ _ h (by decide +kernel) (by decide), ?_, ?_, h,
    by decide +kernel⟩
  · unfold noRepairDue; decide +kernel
  · unfold nothingOwed; decide +kernel

theorem witness_NopAndResync_nop : admits State.reset 0 .good = true := by decide +kernel

theorem witness_NopAndResync_resync :
    let s := onChan (fun h => { h with intake := { h.intake with discard := true, held := true, colNops := 8 } })
    s.lviDead = false ∧ s.isGated 0 = false ∧ 8 ≤ s.chans[0].intake.colNops ∧ s.chans[0].intake.lmw = none
      ∧ entryValid (s.chans[0].taper.active.entryWord 24) = true ∧ s.chans[0].regs.srAct = false
      ∧ s.chans[0].regs.nextCaErr = false ∧ ¬(s.chans[0].intake.held = true ∧ s.wick.state = .linkhold) := by
  decide +kernel

theorem witness_ParityDiscardAndDeafness_parity :
    let s := onBaltil (fun h => h.updRegs (fun r => { r with mr03 := 0x1FFF }))
    baltil s 0 ∧ lviCommand (.act 0 0 0 0 0 0 .badParity) = some (0, .badParity) ∧ lviCommand (.act 0 0 0 0 0 0 .slipped) = some (0, .slipped)
      ∧ s.chans[0].intake.outside = false ∧ s.lviDead = false ∧ s.isGated 0 = false
      ∧ s.chans[0].intake.discard = false ∧ s.chans[0].intake.held = false ∧ s.chans[0].regs.caparEn = true := by
  unfold baltil; decide +kernel

/-- Channel 0 in a discard. -/
def discarding : State := onBaltil (fun h => { h with intake := { h.intake with discard := true } })

theorem witness_ParityDiscardAndDeafness_discard :
    lviCommand (.pre 0 0 0 0 0 .good) = some (0, .good) ∧ discarding.chans[0].intake.discard = true ∧ baltil discarding 0
      ∧ ∃ t, exec (.pre 0 0 0 0 0 .good) discarding = .next t :=
  ⟨by decide, by decide +kernel, by unfold baltil; decide +kernel, _, rfl⟩

theorem witness_ParityDiscardAndDeafness_deaf :
    ({ State.reset with thermal := { State.reset.thermal with trip := true } } : State).lviDead = true
      ∧ ({ State.reset with power := { State.reset.power with gated := 1 } } : State).isGated 3 = true := by
  decide +kernel

/-- Channel 0 with a row open in bank 0, served or not. -/
def opened (v : Bool) : State := onBank (fun b => { b with phase := .opened 5 v })

theorem witness_ColumnCommandsPostChains_access :
    (opened true).chans[0].pcs[0].powerDown = false ∧ (opened true).chans[0].pcs[0].banks[bankIx 0 0 0].phase = .opened 5 true
      ∧ (opened false).chans[0].pcs[0].banks[bankIx 0 0 0].phase = .opened 5 false
      ∧ (∀ e ∈ [12, 13, 15, 16], takes (opened true) 0 .good e (pcMask 0) = true)
      ∧ ∀ e ∈ [14, 17], takes (opened false) 0 .good e (pcMask 0) = true := by
  decide +kernel

/-- Channel 0 with a row open in bank 0 and the Baltil table. -/
def openedBaltil : State := onBaltil (fun h => h.updPc 0 (fun q => q.updBank 0 (fun b => { b with phase := .opened 5 true })))

theorem witness_ColumnCommandsPostChains_baltil :
    baltil openedBaltil 0 ∧ openedBaltil.chans[0].pcs[0].powerDown = false
      ∧ openedBaltil.chans[0].pcs[0].banks[bankIx 0 0 0].phase = .opened 5 true
      ∧ takes openedBaltil 0 .good 13 (pcMask 0) = true ∧ takes openedBaltil 0 .good 16 (pcMask 0) = true := by
  have h : baltil openedBaltil 0 := by unfold baltil; decide +kernel
  exact ⟨h, by decide +kernel, by decide +kernel, by decide +kernel,
    takes_baltil _ _ _ _ _ h (by decide +kernel) (by decide) (by decide +kernel)⟩

theorem witness_ColumnCommandsPostChains_registers :
    (onChan id).chans[0].pcs[0].powerDown = false ∧ (∀ e ∈ [19, 20, 21], takes (onChan id) 0 .good e (pcMask 0) = true)
      ∧ takes (onChan id) 0 .good 23 0 = true := by
  decide +kernel

theorem witness_ModeRegisterWrites :
    let s := onPcs (fun q => { q with qact := true })
    takes s 0 .good 22 0 = true ∧ s.chans[0].pcs[1].qact = true ∧ s.chans[0].pcs[1].op = none
      ∧ (2 : BitVec 2).getLsbD 1 = true ∧ fillLegal 0 s.chans[0].pcs[1].managed = true := by
  decide +kernel

theorem witness_QuiesceAndAdaptiveRefresh_write :
    let s := onPc (fun q => { q with qact := true, op := some .fill })
    takes s 0 .good 22 0 = true ∧ (0 : BitVec 2).getLsbD 0 = false ∧ (2 : BitVec 2).getLsbD 1 = true
      ∧ s.chans[0].pcs[0].op.isSome = true ∧ s.chans[0].pcs[0].qact = true ∧ s.chans[0].pcs[1].op = none := by
  decide +kernel

theorem witness_QuiesceAndAdaptiveRefresh_change :
    let s := onChan (fun h => (h.updRegs (fun r => { r with adaptEn := true })).updPcs (fun q => { q with qact := true }))
    s.chans[0].regs.adaptEn ≠ s.chans[0].regs.adaptAct
      ∧ ∀ p : Pc, s.chans[0].pcs[p].qact = true ∧ s.chans[0].pcs[p].op = none := by
  decide +kernel

theorem witness_QuiesceAndAdaptiveRefresh_back :
    let s := onChan (fun h => (h.updRegs (fun r => { r with adaptAct := true })).updPcs (fun q => { q with qact := true }))
    s.chans[0].regs.adaptEn ≠ s.chans[0].regs.adaptAct ∧ s.chans[0].regs.adaptEn = false := by
  decide +kernel

theorem witness_QuiesceAndAdaptiveRefresh_cleared :
    (onChan (fun h => h.updRegs (fun r => { r with clearing := 3 }))).chans[0].regs.clearing ≠ 0 := by decide +kernel

theorem witness_LabControlsArm_lab :
    let s := (onChan id).updMgmt (fun m => { m with lab := true })
    let r := s.updWick (fun w => { w with state := .run })
    takes r 0 .good 22 0 = true ∧ r.mgmt.lab = true ∧ r.chans[0].regs.mr15.getLsbD 0 = false ∧ r.wick.state = .run
      ∧ r.wick.frozenAt = none ∧ r.wick.spread = false := by
  decide +kernel

theorem witness_LabControlsArm_locked : takes (onChan id) 0 .good 22 0 = true ∧ (onChan id).mgmt.lab = false := by
  decide +kernel

theorem witness_FillsAndChannelTimers :
    (onBank (fun b => { b with phase := .closing 3 true, postedPre := true })).chans[0].pcs[0].banks[bankIx 0 0 0].phase
        = .closing 3 true
      ∧ (onBank (fun b => { b with phase := .closing 3 true, postedPre := true })).chans[0].pcs[0].banks[bankIx 0 0 0].postedPre = true
      ∧ State.reset.sidPresent (accessOf (0 / 72)).1 = true ∧ accessSpare (0 / 72) = false
      ∧ (onChan (fun h => { h with intake := { h.intake with lmw := some 3 } })).chans[0].intake.lmw = some 3
      ∧ (onChan (fun h => h.updRegs (fun r => { r with policy := 1 }))).chans[0].regs.policy.getLsbD 0 = true
      ∧ (onPc (fun q => { q with op := some .fill })).chans[0].pcs[0].op = some .fill := by
  decide +kernel

/-- Channel 0 with one posted action. -/
def posted (a : Posted) : State := onPc (fun q => { q with calendar := [a] })

/-- A burst of zeros, its DPAR as given. -/
def burst (dpar : BitVec 16) : Burst := { data := 0, ecc := 0, dpar := dpar }

/-- A write burst in the write FIFOs, with so many entries staged. -/
def unloading (dpar : BitVec 16) (served : Bool) (staged : Nat) (owner : Option Nat) : State :=
  onChan (fun h => (h.updRegs (fun r => { r with mr03 := 0x1FFF })).updPc 0 (fun q => { q with
    calendar := [.unload], writeFifo := [{ access := 15, burst := burst dpar, served := served, owner := owner }]
    staging := List.replicate staged { owner := none, access := 1, data := 0, check := 0, verdict := true } }))

theorem witness_WriteChainCommits_write :
    let s := posted (.write 0 0 0 0 (burst 0) true none)
    s.isGated 0 = false ∧ s.chans[0].pcs[0].calendar = [.write 0 0 0 0 (burst 0) true none] := by
  decide +kernel

theorem witness_WriteChainCommits_unload :
    let s := unloading 0 true 3 none
    s.isGated 0 = false ∧ s.chans[0].pcs[0].calendar = [.unload]
      ∧ s.chans[0].pcs[0].writeFifo = [{ access := 15, burst := burst 0, served := true, owner := none }]
      ∧ s.mgmt.lab = false ∧ s.chans[0].pcs[0].inject = none ∧ s.writeFails 0 0 (burst 0) calm = false
      ∧ s.chans[0].pcs[0].staging.length < 4 ∧ (unloading 0 true 4 (some 1)).writeFails 0 0 (burst 0) calm = false
      ∧ 4 ≤ (unloading 0 true 4 (some 1)).chans[0].pcs[0].staging.length
      ∧ (unloading 0 false 0 none).writeFails 0 0 (burst 0) calm = false
      ∧ (unloading 1 true 0 none).writeFails 0 0 (burst 1) calm = true := by
  decide +kernel

theorem witness_WriteChainCommits_commit :
    let s := posted (.commit 0 0 32767 15 0 0)
    s.isGated 0 = false ∧ s.chans[0].pcs[0].calendar = [.commit 0 0 32767 15 0 0] ∧ calm.tsvLimited = [] := by
  decide +kernel

theorem witness_ReadChainsReturn_read :
    let s : State := { posted (.read 0 0 0 0 none) with dies := State.reset.dies.map (fun d => { d with coreRl := 18 }) }
    s.chans[0].pcs[0].calendar = [.read 0 0 0 0 none]
      ∧ (s.dies[layerOf 0 (accessOf (accessNo 0 0 0 0)).1]).coreRl ≠ 0 ∧ calm.cells = 0 := by
  decide +kernel

theorem witness_ReadChainsReturn_return :
    let r : TsvRead := { access := 0, data := 0, check := 0, ods := 0, odsUi := 0, owner := none }
    let b : OutBurst := { data := 0, ecc := 0, dpar := 0, spare := 0 }
    let d := onPc (fun q => { q with calendar := [.decode], tsvCapture := [r] })
    let o := onPc (fun q => { q with calendar := [.decode], tsvCapture := [r], readOutside := true })
    let l := onPc (fun q => { q with calendar := [.launch], returns := [b] })
    d.chans[0].pcs[0].calendar = [.decode] ∧ d.chans[0].pcs[0].tsvCapture = [r] ∧ d.readSlips 0 0 calm = false
      ∧ d.chans[0].pcs[0].echo = none ∧ o.readSlips 0 0 calm = true ∧ o.isGated 0 = false
      ∧ l.chans[0].pcs[0].calendar = [.launch] ∧ l.chans[0].pcs[0].returns = [b] ∧ l.mgmt.lab = false ∧ calm.slip = false := by
  decide +kernel

theorem witness_ReadChainsReturn_registers :
    (posted (.modeRead 1 [])).chans[0].pcs[0].calendar = [.modeRead 1 []] ∧ (posted (.modeRead 1 [])).readSlips 0 0 calm = false
      ∧ (posted .unservable).chans[0].pcs[0].calendar = [.unservable]
      ∧ (posted (.bufRead 15)).chans[0].pcs[0].calendar = [.bufRead 15] ∧ (posted (.bufRead 15)).chans[0].pcs[0].readOutside = false
      ∧ (posted (.bufWrite 15 0)).chans[0].pcs[0].calendar = [.bufWrite 15 0]
      ∧ (posted (.bufWrite 15 0)).writeSlips 0 0 calm = false := by
  decide +kernel

/-! ## Hypotheses that hold: Taper, Wick, thermal, power -/

/-- A thread of the maintenance class at step 0. -/
def thread : Thread := { tid := 0, cls := .maintenance, ptr := 0, addr := { pc := 0, sid := 0, bg := 0, ba := 0, row := 0, col := 0 } }

/-- Channel 0 with that thread at a step of an opcode, with TCMD as given. -/
def atStep (opc tcmd : Nat) : State :=
  onChan (fun h => h.updTaper (fun t => { t with
    active := { t.active with steps := [(0, BitVec.ofNat 64 (opc * 2 ^ 58 + tcmd * 2 ^ 42))] }, threads := [thread] }))

theorem atStep_stands (opc tcmd : Nat) (h : (atStep opc tcmd).chans[0].taper.find 0 = some thread
      ∧ (atStep opc tcmd).chans[0].taper.stepFault thread = false ∧ stepOpc ((atStep opc tcmd).chans[0].taper.word thread) = opc
      ∧ (stepFlg ((atStep opc tcmd).chans[0].taper.word thread)).getLsbD 3 = false) :
    stands (atStep opc tcmd) 0 0 opc thread :=
  ⟨h.1, h.2.1, h.2.2.1, h.2.2.2, fun _ h => nomatch h⟩

theorem witness_TaperFlowAndReportSteps_flow :
    stands (atStep 3 0) 0 0 3 thread ∧ stands (atStep 4 0) 0 0 4 thread ∧ stands (atStep 5 0) 0 0 5 thread
      ∧ stands (atStep 6 0) 0 0 6 thread ∧ stands (atStep 0 0) 0 0 0 thread :=
  ⟨atStep_stands _ _ (by decide +kernel), atStep_stands _ _ (by decide +kernel), atStep_stands _ _ (by decide +kernel),
   atStep_stands _ _ (by decide +kernel), atStep_stands _ _ (by decide +kernel)⟩

theorem witness_TaperFlowAndReportSteps_report :
    stands (atStep 7 0) 0 0 7 thread ∧ stands (atStep 8 0) 0 0 8 thread ∧ stands (atStep 9 0) 0 0 9 thread
      ∧ stands (atStep 10 0) 0 0 10 thread
      ∧ (stepFlg ((atStep 8 0).chans[0].taper.word thread)).getLsbD 1 = false ∧ (atStep 9 0).isGated 0 = false :=
  ⟨atStep_stands _ _ (by decide +kernel), atStep_stands _ _ (by decide +kernel), atStep_stands _ _ (by decide +kernel),
   atStep_stands _ _ (by decide +kernel), by decide +kernel, by decide +kernel⟩

theorem witness_TaperIssueSendsFrame_issue :
    stands (atStep 1 0) 0 0 1 thread ∧ stands (atStep 1 0x1000) 0 0 1 thread
      ∧ (atStep 1 0).issueForbidden 0 thread ((atStep 1 0).chans[0].taper.word thread) = false
      ∧ (atStep 1 0).issueWaits 0 thread ((atStep 1 0).chans[0].taper.word thread) = false
      ∧ (atStep 1 0x1000).issueForbidden 0 thread ((atStep 1 0x1000).chans[0].taper.word thread) = true
      ∧ noRepairDue (atStep 1 0) 0 ∧ (atStep 1 0).chans[0].carries (tcmdTop 0) = true :=
  ⟨atStep_stands _ _ (by decide +kernel), atStep_stands _ _ (by decide +kernel), by decide +kernel, by decide +kernel,
   by decide +kernel, by unfold noRepairDue; decide +kernel, by decide +kernel⟩

/-- A thread whose lease covers bank 0, which is open, at a refresh of that bank. -/
theorem witness_TaperIssueSendsFrame_waits :
    let x : Thread := { thread with lease := some { banks := [(0, 0)], setEnd := true } }
    let s := onChan (fun h => (h.updTaper (fun t => { t with
      active := { t.active with steps := [(0, BitVec.ofNat 64 (1 * 2 ^ 58 + 0x7000 * 2 ^ 42))] }, threads := [x] })).updPc 0 (fun q =>
        q.updBank 0 (fun b => { b with phase := .opened 5 true })))
    stepOpc (s.chans[0].taper.word x) = 1 ∧ s.issueForbidden 0 x (s.chans[0].taper.word x) = false
      ∧ s.issueWaits 0 x (s.chans[0].taper.word x) = true := by
  decide +kernel

theorem witness_TaperIssueSendsFrame_issueif : stands (atStep 2 0) 0 0 2 thread :=
  atStep_stands _ _ (by decide +kernel)

theorem witness_TaperTablesAndImages_swap :
    let s := onChan (fun h => h.updTaper (fun t => { t with armed := true, shadow := tbl }))
    s.chans[0].taper.armed = true ∧ s.chans[0].taper.shadow.verified = true ∧ s.chans[0].taper.shadow.complete = true
      ∧ s.chans[0].swapBoundary = true ∧ s.wick.state ≠ .linkhold ∧ s.chans[0].taper.stopped = false := by
  decide +kernel

theorem witness_TaperTablesAndImages_drain :
    let s := onChan (fun h => h.updTaper (fun t => { t with draining := true, threads := [thread] }))
    s.chans[0].taper.draining = true ∧ (s.chans[0].taper.threads.all (fun x => !x.oldBank)) = true := by
  decide +kernel

theorem witness_TaperTablesAndImages_scan :
    live.power.booted = true ∧ live.chans[0].taper.armed = false ∧ live.chans[0].taper.draining = false
      ∧ (live.updCh 0 (fun h => h.updTaper (fun t => { t with draining := true }))).chans[0].taper.draining = true := by
  decide +kernel

theorem witness_TaperTablesAndImages_image :
    (onChan (fun h => h.updTaper (fun t => { t with images := [(1, .inject 1 none)] }))).chans[0].taper.images
      = [(1, .inject 1 none)]
      ∧ (onChan (fun h => h.updTaper (fun t => { t with images := [(1, .inject 1 none)], held := [.inject 0 none] }))).chans[0].taper.held
        = [.inject 0 none] := by
  decide +kernel

theorem witness_TaperTablesAndImages_lease :
    (onChan (fun h => h.updTaper (fun t => { t with threads := [{ thread with lease := some { banks := [], setEnd := true } }] }))
      ).chans[0].taper.find 0 = some { thread with lease := some { banks := [], setEnd := true } } := by
  decide +kernel

/-- Wick in a state. -/
def wickIn (w : WickState) : State := onWick (fun x => { x with state := w })

theorem witness_WickAcquires_search :
    (wickIn .search).wick.state = .search
      ∧ (bandFound (List.replicate 32 0) (feedbackInteger (wickIn .search).wick.binAct) .inRange).isSome = true
      ∧ bandFound (List.replicate 32 0) (feedbackInteger (wickIn .search).wick.binAct) .neighbourLow = none
      ∧ (onWick (fun x => { x with state := .search, bandFail := true })).wick.bandFail = true := by
  decide +kernel

theorem witness_WickAcquires_lock :
    (wickIn .acquire).wick.state = .acquire ∧ (wickIn .acquire).wick.locked = false ∧ (wickIn .setup).wick.state = .setup
      ∧ (wickIn .run).wick.state = .run ∧ ¬((wickIn .run).wick.state = .setup ∧ (wickIn .run).quince.shadow.syncEn = true)
      ∧ ({ wickIn .setup with quince := { State.reset.quince with shadow := { State.reset.quince.shadow with syncEn := true } } }
          : State).quince.shadow.syncEn = true := by
  decide +kernel

theorem witness_WickHoldsOverAndChangesBin_hold :
    (wickIn .run).wick.state = .run ∧ (wickIn .run).wick.frozenAt = none ∧ (wickIn .run).wick.spread = false
      ∧ (wickIn .holdover).wick.state = .holdover ∧ (wickIn .holdover).wick.closed = false
      ∧ (wickIn .holdover).holdForced = false
      ∧ (onWick (fun x => { x with state := .holdover, closed := true })).wick.closed = true := by
  decide +kernel

theorem witness_WickHoldsOverAndChangesBin_linkhold :
    (wickIn .linkhold).wick.state = .linkhold ∧ (wickIn .linkhold).wick.lock = false
      ∧ (onWick (fun x => { x with state := .linkhold, lock := true })).wick.lock = true ∧ (wickIn .linkhold).thermal.trip = false
      ∧ ∀ c : Ch, noRepairDue (wickIn .linkhold) c := by
  unfold noRepairDue; decide +kernel

/-- Every channel in self-refresh and asking for a bin, Wick in RUN. -/
def asking (b : BitVec 2) : State :=
  ((wickIn .run).updWick (fun w => { w with binAct := 1 })).updAll (fun h => h.updRegs (fun r => { r with srAct := true, binReq := b }))

theorem witness_WickHoldsOverAndChangesBin_bin :
    (asking 0).wick.state = .run ∧ (asking 0).allAsleep = true ∧ (asking 0).binAsked = (some 0, true)
      ∧ (0 : BitVec 2) ≠ (asking 0).wick.binAct ∧ (0 : BitVec 2).toNat ≤ (asking 0).maxBin.toNat
      ∧ (asking 3).binAsked = (some 3, true) ∧ (asking 3).maxBin.toNat < (3 : BitVec 2).toNat := by
  decide +kernel

theorem witness_TripStopsStack_set :
    State.reset.trips 0 0 false = true
      ∧ ({ State.reset with thermal := { State.reset.thermal with
            sensors := State.reset.thermal.sensors.set 64 { valid := true } } } : State).trips 64 6000 true = true
      ∧ State.reset.chans[0].isFailed = false ∧ State.reset.fuseQueue = [] := by
  decide +kernel

theorem witness_TripStopsStack_record :
    let s := { live with thermal := { live.thermal with trip := true, tripBy := some (0, 6000) } }
    s.thermal.tripBy = some (0, 6000) ∧ s.power.booted = true ∧ s.quince.op = none := by
  decide +kernel

theorem witness_SamplesHistogramsAndBlindSensors :
    State.reset.inReset = false ∧ live.mgmt.ready = true ∧ State.reset.sensorPresent 0 = true
      ∧ ∃ t, exec (.sampleTick [] []) State.reset = .next t :=
  ⟨by decide +kernel, by decide +kernel, by decide +kernel, _, rfl⟩

theorem witness_RailsResetsAndDomains :
    State.reset.power.rails = Vector.replicate 7 true ∧ State.reset.fuseQueue = [] ∧ State.reset.quince.op = none
      ∧ ({ State.reset with power := { State.reset.power with resetN := true } } : State).power.resetN = true
      ∧ State.reset.tapAlive = true ∧ State.reset.inReset = false
      ∧ ({ State.reset with power := { State.reset.power with gated := 0x80 } } : State).power.gated.getLsbD 7 = true := by
  decide +kernel

/-- The power-up sequence after some of its steps. -/
def upTo (f : Power → Power) (g : State → State := id) : State :=
  g { State.reset with power := f State.reset.power, fuse := { State.reset.fuse with loaded := true } }

theorem witness_PowerUpSequence_boot :
    (upTo id).inReset = false ∧ (upTo id).fuse.loaded = true ∧ (upTo id).power.optionLoaded = false
      ∧ (let s := upTo (fun p => { p with optionLoaded := true, sramFilled := true })
         s.power.sramFilled = true ∧ s.power.optionLoaded = true ∧ s.power.booted = false ∧ s.mgmt.recovery = false
           ∧ s.nv.activeB = false ∧ s.mgmt.otherImage = false ∧ s.nv.imageA.status ≠ 2) := by
  decide +kernel

theorem witness_PowerUpSequence_stack :
    let s := upTo (fun p => { p with booted := true, tables := true, journal := true }) (fun s => (s.updWick (fun w =>
      { w with state := .run })).updAll (fun h => h.updTaper (fun t => { t with active := tbl })))
    s.thermal.trip = false ∧ s.power.booted = true ∧ s.wick.state = .run ∧ s.power.discovered = false ∧ s.power.tables = true
      ∧ (∀ c : Ch, s.chans[c].taper.active.verified = true) ∧ s.discovered = true ∧ s.power.journal = true
      ∧ s.power.tsvTested = false := by
  decide +kernel

theorem witness_PowerUpSequence_end :
    let s := upTo (fun p => { p with tsvTested := true })
    let u := upTo (fun p => { p with fillDone := true })
    s.power.tsvTested = true ∧ s.power.fillDone = false ∧ u.power.fillDone = true ∧ u.chans[31].isFailed = false := by
  decide +kernel

theorem witness_ManagementPlaneResetsAndRuns :
    live.lanternsRun = true ∧ live.quince.op = none ∧ live.serves = true ∧ (upTo (fun p => { p with booted := true })).mgmt.ready = false
      ∧ (live.updMgmt (fun m => { m with activation := some (0, 1) })).mgmt.activation.isSome = true := by
  decide +kernel

/-! ## Hypotheses that hold: training and retention -/

theorem witness_TrainingControl_go :
    let s := onChan (fun h => { h with ready := true })
    (0x80800000 : Word32).getLsbD 30 = false ∧ (0x80800000 : Word32).getLsbD 29 = false ∧ s.chans[0].trn.busy = false
      ∧ s.chans[0].goAccepted ((0x80800000 : Word32).extractLsb' 23 3).toNat
          (stageUnits ((0x80800000 : Word32).extractLsb' 23 3).toNat ((0x80800000 : Word32).extractLsb' 27 2)) = true := by
  decide +kernel

/-- Channel 0 with a change of its training record. -/
def onTrn (f : Training → Training) : State := onChan (fun h => { h with trn := f h.trn })

theorem witness_TrainingControl_run :
    (onTrn (fun t => { t with busy := true, saved := some State.reset.chans[0].lanes })).chans[0].trn.saved = some State.reset.chans[0].lanes
      ∧ (onTrn (fun t => { t with busy := true })).chans[0].trn.busy = true ∧ (onChan id).chans[0].trn.busy = false
      ∧ (onChan id).chans[0].pcs[0].tsvFailed = false ∧ (onChan id).chans[0].trn.bad 0 = false
      ∧ (onChan id).chans[0].trn.bad 1 = false := by
  decide +kernel

theorem witness_TrainingControl_finish :
    let good := onTrn (fun t => { t with res := t.res.map (fun _ => Vector.replicate 3 0) })
    let bad := onTrn (fun t => { t with res := t.res.map (fun _ => Vector.replicate 3 1) })
    (good.chans[0].trn.stageRes 7)[1] = 0 ∧ good.chans[0].trn.bad 0 = false ∧ good.chans[0].trn.bad 1 = false
      ∧ (bad.chans[0].trn.bad 0 || bad.chans[0].trn.bad 1) = true := by
  decide +kernel

theorem witness_LinkTracksAndRecentres :
    let e : EyeResult := { lane := 99, rx := 0, tx := 0, vref := 16, ctle := 0, dfe := 0, width := 116, height := 0 }
    let s := onChan (fun h => { h with
      lanes := h.lanes.map (fun l => { l with refRx := 0, refTx := 0, refVref := 16, txTarget := some 4095 })
      trn := { h.trn with passed7 := true }, intake := { h.intake with gathered := 120 } })
    let r := (s.updWick (fun w => { w with state := .run })).updMgmt (fun m => { m with ready := true })
    r.mgmt.lab = false ∧ r.chans[0].trn.passed7 = true ∧ 120 ≤ r.chans[0].intake.gathered ∧ r.wick.state = .run
      ∧ r.mgmt.ready = true ∧ r.chans[0].lanes[e.lane].plausible e = true ∧ r.chans[0].lanes[e.lane].txTarget = some 4095
      ∧ r.chans[0].map.replaced e.lane = false
      ∧ (onChan (fun h => { h with lanes := h.lanes.set 0 { h.lanes[0] with drift := 64 } })).chans[0].lanes[(0 : Fin 100)].drift = 64
      ∧ (onChan (fun h => { h with rdqs := h.rdqs.set 3 { h.rdqs[3] with target := some 4095 } })).chans[0].rdqs[(3 : Fin 4)].target
        = some 4095 := by
  decide +kernel

theorem witness_TsvCalibrationAndServiceBus_eval :
    let s := onChan (fun h => { h with tsv := { h.tsv with clocks := true } })
    s.chans[0].trimFree ⟨15, 16, 3, false, true, 0, false⟩ = true ∧ s.chans[0].tsv.clocks = true ∧ s.chans[0].taper.stopped = false ∧ 0 ≤ s.chans[0].tsv.trim (readDelayIx 15 16 3)
      ∧ s.chans[0].tsv.trim (readDelayIx 15 16 3) < 63 := by
  decide +kernel

theorem witness_TsvCalibrationAndServiceBus_move :
    let s := live.updCh 0 (fun h => { h with tsv := { h.tsv with marginal := [(15, 17)] } })
    s.mgmt.ready = true ∧ s.chans[0].tsv.marginal.contains (15, (17 : Fin 18).castSucc) = true ∧ s.chans[0].tsv.repair[(15 : Fin 16)] = none
      ∧ s.chans[0].tsv.move = none := by
  decide +kernel

/-- A service bus with a configuration command sent. -/
def busy (n : Nat) : State := { State.reset with
  buses := State.reset.buses.set 0 { State.reset.buses[0] with
    cmd := some { lid := 0, sop := 0, addr := 0, wdata := 0, purpose := .config, repeats := n } } }

theorem witness_TsvCalibrationAndServiceBus_bus :
    ((busy 2).buses[0].cmd).isSome = true ∧ (∀ x ∈ (busy 2).buses[0].cmd, x.repeats < 3 ∧ x.purpose = .config)
      ∧ responseCrcOk 0 = true ∧ responseLid 0 = 0 ∧ responseStatus 0 = 0
      ∧ ∃ f : BitVec 48, responseCrcOk f = true ∧ responseLid f = 0 ∧ responseStatus f = 1 := by
  refine ⟨by decide +kernel, by decide +kernel, by decide +kernel, by decide +kernel, by decide +kernel, ?_⟩
  exact ⟨BitVec.ofNat 48 (1 * 2 ^ 40 + (crc8 (natBytes 5 (1 * 2 ^ 32))).toNat), by decide +kernel⟩

theorem witness_TickAccruesDebt :
    let s := onPc (fun q => { q with ready := true, ticks := q.ticks.set 0 3 })
    s.chans[0].obliged 0 = true ∧ s.sidPresent 0 = true ∧ s.isGated 0 = false
      ∧ (s.chans[0].pcs[0].ticks[(0 : Sid)] + 1) % (s.thermal.mode[(0 : Sid)]).ticks = 0 := by
  decide +kernel

theorem witness_TickAccruesDebt_urgent :
    let s := onPc (fun q => { (q.updBank 0 (fun b => { b with debt := 24 })) with ready := true, ticks := q.ticks.set 0 3 })
    ∀ t, exec (.trefiAccrual 0 0 0) s = .next t → s.aboveLimit 0 0 0 = false ∧ t.aboveLimit 0 0 0 = true := by
  intro s t h
  have h' : t = (match exec (.trefiAccrual 0 0 0) s with | .next u => u | _ => s) := by rw [h]
  subst h'
  decide +kernel

theorem witness_InternalRefreshAdvancesCursors :
    let s := onBaltil id
    s.chans[0].selfRefreshes 0 0 = true ∧ s.sidPresent 0 = true ∧ s.chans[0].pcs[0].carriedIn 0 = 0 ∧ baltil s 0
      ∧ s.chans[0].pcs[0].banks[(0 : Fin 64)].debt ≤ s.limitRows s.chans[0] 0
      ∧ s.chans[0].pcs[0].banks[(0 : Fin 64)].cursor < s.rows := by
  unfold baltil; decide +kernel

theorem witness_ProfilingRuns_start :
    let s := { (onChan (fun h => h.updRegs (fun r => { r with adaptAct := true }))) with
      mgmt := { live.mgmt with ready := true }
      thermal := { State.reset.thermal with
        sensors := State.reset.thermal.sensors.map (fun _ => { valid := true, reading := 2250, reference := some 2250 }) } }
    s.mayProfile 0 0 0 = true ∧ [0, 15] ≠ ([] : List Nat) ∧ [0, 15].all (groupOk s.rows 0 s.chans[0].regs.adaptAct) = true := by
  decide +kernel

/-- A batch of one group at a step, its rows copied or its reads decoded, with rows in error as given. -/
def batch (step : Nat) (ended : Bool) (bad : BitVec 4) : ProfileBatch :=
  { sid := 0, step := step, t0 := 0, ended := ended, groups := [{ index := 3, slot := 0, copied := 4, read := 4, bad := bad }] }

theorem witness_ProfilingRuns_verdict :
    (onPc (fun q => { q with batch := some (batch 0 false 0) })).chans[0].pcs[0].batch = some (batch 0 false 0)
      ∧ (batch 0 false 0).ended = false ∧ (batch 0 false 0).groups.all (fun g => g.copied == 4) = true
      ∧ (batch 1 true 0).decided = true ∧ (batch 1 true 0).groups.all (fun g => g.bad == 0) = true ∧ (batch 1 true 0).groups ≠ []
      ∧ (batch 2 true 0).groups.all (fun g => groupOk State.reset.rows 0 false g.index) = true
      ∧ (batch 1 true 8).decided = true ∧ ∃ g, (batch 1 true 8).groups = [g] ∧ g.bad ≠ 0 := by
  refine ⟨by decide +kernel, by decide, by decide, by decide, by decide, by decide, by decide +kernel, by decide, _, rfl, by decide⟩

theorem witness_ProfilingRuns_log :
    let s := live.updPc 0 0 (fun q => { q with undurable := true })
    s.power.booted = true ∧ s.chans[0].pcs[0].undurable = true ∧ s.chans[0].pcs[0].mapState ≠ .disabled := by
  decide +kernel

/-- 08, R244: a slot whose generation fails its CRC holds none; a delta record is lost if neither copy gives it, and breaks the
sequence. -/
theorem test_map_reads :
    let n := ({ State.reset.nv with
      slots := State.reset.nv.slots.set 0 (some { number := 1, seq := 0, maps := [] })
      deltaLog := [{ seq := 1, unit := 0, item := .code 5 2 }, { seq := 2, unit := 0, item := .code 6 2 }] } : NonVolatile)
    let r := n.readMaps 1 [(1, 1), (2, 3)] false
    r.slots[0] = none ∧ r.deltaLog.map (·.seq) = [1] ∧ r.mapGap = some 2
      ∧ (n.readMaps 6 [(1, 2), (2, 1)] false).slots[0] = n.slots[0] ∧ (n.readMaps 6 [(1, 2), (2, 1)] false).mapGap = none := by
  decide +kernel

theorem witness_MapsLoadAndGenerate :
    let s := (live.updPc 0 0 (fun q => { q with mapState := .imported, undurable := true })).updCh 0 (fun h => h.updRegs (fun r =>
      { r with adaptAct := true }))
    let v := s.updNv (fun n => { n with slots := n.slots.set 0 (some { number := 1, seq := 0, maps := [(0, {})] }) })
    s.power.booted = true ∧ s.generationDue = true ∧ s.mapStands 0 0 = true ∧ s.mapStands 1 0 = false
      ∧ s.chans[0].pcs[0].bins = [] ∧ s.chans[0].regs.adaptAct = true ∧ s.chans[1].regs.adaptAct = false
      ∧ (v.durable 0 0).isSome = true
      ∧ (v.updCh 0 (fun h => h.updTaper (fun t => { t with images := [(1, .mapDone 0 none)] }))).chans[0].taper.images
        = [(1, .mapDone 0 none)] := by
  decide +kernel

/-- A Managed pseudo-channel filled with zeros, with an access captured by the scrubber. -/
def scrubbing : State := { onPc (fun q => { q with
    managed := true, filled := true, back := Vector.replicate 4 (.pattern 0 true), backRsv := .pattern 0 true
    captured := [{ access := 15 }], scrub := { q.scrub with enable := true } }) with
  dies := State.reset.dies.map (fun d => { d with coreRl := 18 }) }

theorem witness_ScrubAndBucketClocks_lap :
    scrubbing.chans[0].pcs[0].lapRuns = true ∧ scrubbing.chans[0].pcs[0].scrub.overdue = false := by decide +kernel

theorem witness_ScrubAndBucketClocks_gap :
    let w (e : LineEnv) := let g := scrubbing.gapRead 0 0 15 e none
      scrubWriteback (scrubbing.chans[0].pcs[0].decodes scrubbing.rows 15 scrubbing.chans[0].regs.adaptAct) g.2.1 g.1.ods g.1.data g.1.check
    scrubbing.chans[0].pcs[0].captured = [{ access := 15 }] ∧ scrubbing.chans[0].pcs[0].tsvCapture = []
      ∧ (w calm).isNone = true ∧ (w { calm with flips := 1 }).isSome = true
      ∧ (onPc (fun q => { q with captured := [{ access := 15, profiling := true }]
                                 tsvCapture := [{ access := 0, data := 0, check := 0, ods := 0, odsUi := 0, owner := none }] })).chans[0].pcs[0].tsvCapture
        ≠ [] := by
  decide +kernel

/-- A pending entry of a quiesced pseudo-channel. -/
def pending : State := live.updPc 0 0 (fun q => { q with qact := true, remap := q.remap.set 7 (remapWord 1 63 3 0 24575) })

theorem witness_RemapCopiesRowAndReplays :
    pending.mgmt.ready = true ∧ remapState pending.chans[0].pcs[0].remap[(7 : Fin 8)] = 1
      ∧ pending.chans[0].pcs[0].qact = true ∧ pending.chans[0].pcs[0].op = none
      ∧ pending.chans[0].pcs[0].inTest pending.rows (remapBank pending.chans[0].pcs[0].remap[(7 : Fin 8)])
          (remapRow pending.chans[0].pcs[0].remap[(7 : Fin 8)]) = false
      ∧ pending.chans[0].pcs[0].badSpares = []
      ∧ (onPc (fun q => { q with copy := some { entry := 7, cells := [] } })).chans[0].pcs[0].copy = some { entry := 7, cells := [] }
      ∧ (onPc (fun q => { q with op := some (.rowCopy 7) })).chans[0].pcs[0].op = some (.rowCopy 7)
      ∧ (upTo (fun p => { p with booted := true, discovered := true })).power.discovered = true := by
  decide +kernel

/-! ## Hypotheses that hold: windows, stores, sideband -/

/-- The host window claimed with tag 1, with a response collected from slot 0. -/
def claimed : State := { live with
  host := { live.host with claim := some 1, respValid := true, collected := some (0, 1) }
  sessions := live.sessions.set 0 { live := true, gen := 1, done := [1]
                                    cmds := [{ seq := 1, opcode := 0x0100, cont := false, payload := [], state := .done
                                               resp := some { status := 0 } }] } }

theorem witness_WindowClaimsAndSessionTimers :
    live.inReset = false ∧ (live.window .host).claim = none ∧ (claimed.window .host).claim ≠ none
      ∧ claimed.sessions[0].live = true ∧ claimed.stalled = false ∧ Transport.manager ≠ .host := by
  decide +kernel

theorem witness_DoorbellActs :
    claimed.inReset = false ∧ (claimed.window .host).claim = some 1 ∧ (claimed.window .host).claim ≠ some 2
      ∧ claimed.slotOf .host 0x10 = some 0 ∧ (claimed.sessions[0].oldest).isSome = true
      ∧ claimed.slotOf .host 0x11 = none
      ∧ (claimed.window .host).respValid = true ∧ (claimed.window .host).collected = some (0, 1)
      ∧ (claimed.sessions[0].find 1).isSome = true ∧ (∀ x ∈ claimed.sessions[0].find 1, x.opcode ≠ opClose ∧ x.opcode ≠ opOpen)
      ∧ claimed.mgmt.activation = none := by
  decide +kernel

/-- A frame of OPEN. -/
def openFrame : Frame :=
  { session := 0, cont := false, seq := 1, opcode := opOpen, len := 8, rsv := true, payload := zeros 8, crcOk := true }

theorem witness_AcceptanceOrder :
    992 < ({ openFrame with len := 993 } : Frame).len ∧ ({ openFrame with rsv := false } : Frame).rsv = false
      ∧ ({ openFrame with crcOk := false, len := 992 } : Frame).len ≤ 992 ∧ State.reset.mgmt.ready = false
      ∧ openFrame.len ≤ 992 ∧ openFrame.opcode = opOpen ∧ openFrame.session = 0 ∧ live.mgmt.ready = true ∧ live.stalled = false
      ∧ live.sessions[(15 : Slot)].live = false := by
  decide +kernel

theorem witness_RegisterWritesByFieldType :
    State.reset.inReset = false ∧ (0x1FFFFFFF : Word32).getLsbD 31 = false ∧ (0x1FFFFFFF : Word32).getLsbD 30 = false
      ∧ (0x1FFFFFFF : Word32).getLsbD 29 = false ∧ (0 : Word32).getLsbD 23 = false ∧ (0x00800000 : Word32).getLsbD 23 = true := by
  decide +kernel

theorem witness_StoresAndQuince_free :
    let w := live.updNv (fun n => { n with sectors := [{ use := .mapped 0, ecnt := 301 }, { use := .pool true }] })
    live.nvFree = true ∧ live.power.booted = true ∧ 4 ≤ (live.nv.sectors.filter (fun x => x.use == .pool true)).length
      ∧ (live.nv.wearMove true).isSome = true
      ∧ w.nv.wearMove false = some (0, 1) ∧ (∃ l : Fin 70, ∃ x ∈ live.nv.sectors[(0 : Nat)]?, x.use = .mapped l)
      ∧ live.mgmt.baseDue = false
      ∧ ((live.record 0x15 []).nv.ledger.filter (fun y => !y.stored)).length = 1 ∧ (live.record 0x15 []).nv.ledgerPlace.isSome = true
      ∧ ({ live with power := { live.power with quinceWaking := true } } : State).power.quinceWaking = true
      ∧ (upTo (fun p => { p with booted := true })).mgmt.ready = false := by
  refine ⟨by decide +kernel, by decide +kernel, by decide +kernel, by decide +kernel, by decide +kernel, ⟨0, by decide +kernel⟩, ?_⟩
  and_intros <;> decide +kernel

theorem witness_StoresAndQuince_end :
    let o : NvOp := { kind := .single, sector := none, cont := .userWrite 0xFFFFF [7] 1, owner := none }
    ({ live with quince := { live.quince with op := some o } } : State).quince.op = some o ∧ o.cont = .userWrite 0xFFFFF [7] 1 := by
  decide +kernel

theorem witness_FusesLoadAndProgram :
    State.reset.inReset = false ∧ State.reset.fuse.loaded = false ∧ (upTo id).fuse.loaded = true := by decide +kernel

/-- R276: a record of the repair journal without a valid copy ends the replay there. -/
theorem test_repairJournal_gap :
    let w := remapWord 1 0 0 0 5
    let n := (State.reset.nv.storeRepair 0 0 0 .add w).storeRepair 31 1 7 .add w
    n.remaps = [(0, w), (511, w)] ∧ ({ n with repairs := n.repairs.filter (fun r => decide (r.seq < 2)) }).remaps = [(0, w)]
      ∧ ((n.storeRepair 0 0 0 .hardDone 0).repairsNeeded).map (·.entry) = [7] := by
  decide +kernel

/-- Table 15-12: an option image fills one page of 512 bytes. -/
theorem test_optionImage_length : (OptionImage.bytes {}).length = 512 := by decide +kernel

/-- The I2C target in a phase. -/
def i2cIn (f : I2c → I2c) : State := { State.reset with i2c := f State.reset.i2c }

theorem witness_I2cTransfers_address :
    (i2cIn id).i2cWorks = true ∧ (i2cIn id).i2c.asleep = false
      ∧ (i2cIn id).i2cMatch (i2cIn id).i2c.begin.cfgLive (i2cIn id).i2c.begin.altLive 0x4C = true
      ∧ (i2cIn id).i2cMatch (i2cIn id).i2c.begin.cfgLive (i2cIn id).i2c.begin.altLive 0 = false
      ∧ (i2cIn (fun x => { x with asleep := true })).i2c.asleep = true ∧ (i2cIn id).i2c.active = false
      ∧ (i2cIn id).i2cMatch (i2cIn id).i2c.cfg (i2cIn id).i2c.alt 0x4C = true := by
  decide +kernel

theorem witness_I2cTransfers_bytes :
    (i2cIn (fun x => { x with phase := .command })).i2c.phase = .command ∧ (1 : Byte) ≠ 0 ∧ (i2cIn id).manager.claim = none
      ∧ 0x83 ≤ (0x83 : Byte).toNat ∧ (i2cIn (fun x => { x with phase := .bytes })).i2c.phase = .bytes
      ∧ (i2cIn id).i2c.cfgLive.getLsbD 0 = false ∧ (i2cIn (fun x => { x with phase := .reading })).i2c.phase = .reading
      ∧ (i2cIn (fun x => { x with phase := .window, offset := 0x0100 })).inReset = false
      ∧ (i2cIn (fun x => { x with phase := .window, offset := 0x0100 })).i2c.part = []
      ∧ (i2cIn (fun x => { x with phase := .bytes, pointer := 0x11 })).i2c.pointer = 0x11
      ∧ (i2cIn (fun x => { x with phase := .bytes, pointer := 0x13 })).i2c.pointer = 0x13 := by
  decide +kernel

theorem witness_I2cEndsAndFaults :
    let s := i2cIn (fun x => { x with active := true, swapDue := true })
    let w := { s with fuse := { s.fuse with words := (List.range 0x200).map (fun n => (n, 0xFFFFFFFF#32)) } }
    s.i2cWorks = true ∧ s.i2c.active = true ∧ s.i2c.held = [] ∧ s.i2c.cfgLive.getLsbD 0 = false ∧ s.manager.claim = none
      ∧ s.swapEn = false ∧ w.swapEn = true ∧ w.i2c.swapDue = true ∧ w.i2c.swapAt = none := by
  decide +kernel

theorem witness_WrapperInstructions_access :
    State.reset.inReset = false ∧ State.reset.extestAllowed = true
      ∧ (State.reset.updPc 31 1 (fun q => { q with ready := true })).extestAllowed = false
      ∧ (0x0101 : BitVec 16).toNat % 4 ≠ 0 := by
  decide +kernel

theorem witness_WrapperInstructions_test :
    let s := State.reset.updPc 0 1 (fun q => { q with qact := true })
    (0x80880000 : Word32).getLsbD 31 = true ∧ s.thermal.trip = false
      ∧ s.askTest 0 1 0 1 = .starts ∧ (0x80880000 : Word32).extractLsb' 29 2 = 0 ∧ (0x80880000 : Word32).extractLsb' 19 4 = 1 := by
  decide +kernel

theorem witness_WrapperInstructions_factory :
    State.reset.factoryClosed = false ∧ State.reset.thermal.trip = false
      ∧ ({ State.reset with fuse := { State.reset.fuse with words := [(0x1CC, 1)] } } : State).factoryClosed = true := by
  decide +kernel

theorem witness_TapInstructions :
    State.reset.tapAlive = true ∧ ({ State.reset with tap := { State.reset.tap with ir := 4 } } : State).tap.ir = 4
      ∧ ({ State.reset with thermal := { State.reset.thermal with trip := true } } : State).thermal.trip = true := by
  decide +kernel
/-! ## Hypotheses that hold: JMP commands -/

theorem witness_JmpTelemetryAnswers_empty : ∀ op ∈ [0x0100, 0x0102, 0x0101, 0x0200, 0x0300, 0x0904, 0x0B00],
    served (ready op []) 0 (cmd op []) op := by
  simp only [List.forall_mem_cons, List.not_mem_nil, false_implies, implies_true, and_true]
  unfold served
  and_intros <;> decide +kernel

theorem witness_JmpTelemetryAnswers_units :
    (∀ op ∈ [0x0500, 0x0601, 0x0604], served (ready op [31, 3, 0, 0]) 0 (cmd op [31, 3, 0, 0]) op)
      ∧ served (ready 0x0400 [31, 2, 0, 0]) 0 (cmd 0x0400 [31, 2, 0, 0]) 0x0400
      ∧ served (ready 0x0704 [31, 1, 0, 0]) 0 (cmd 0x0704 [31, 1, 0, 0]) 0x0704 := by
  simp only [List.forall_mem_cons, List.not_mem_nil, false_implies, implies_true, and_true]
  unfold served
  and_intros <;> decide +kernel

theorem witness_JmpReadsAnswer_lists :
    served (ready 0x0405 [31, 0, 0, 0]) 0 (cmd 0x0405 [31, 0, 0, 0]) 0x0405
      ∧ (∀ op ∈ [0x0700, 0x0702], served (ready op [31, 1, 0, 0]) 0 (cmd op [31, 1, 0, 0]) op)
      ∧ served (ready 0x0801 [0, 1, 0, 0] (fun s => s.updMgmt (fun m => { m with tests := [⟨1, 0, 0, 0, 1, 0, 0, 0, 0, 0⟩] })))
          0 (cmd 0x0801 [0, 1, 0, 0]) 0x0801 := by
  simp only [List.forall_mem_cons, List.not_mem_nil, false_implies, implies_true, and_true]
  unfold served
  and_intros <;> decide +kernel

theorem witness_JmpReadsAnswer_stores :
    let nv := natBytes 4 0xFFFFF ++ natBytes 2 1 ++ [0, 0]
    let led := natBytes 4 1 ++ natBytes 2 64 ++ natBytes 2 0x3FFF
    let s := ready 0x0201 led (fun s => s.record 0x10 [])
    (ready 0x0900 nv).nvFree = true ∧ (ready 0x0900 nv).quince.xo = [] ∧ served (ready 0x0900 nv) 0 (cmd 0x0900 nv) 0x0900
      ∧ served s 0 (cmd 0x0201 led) 0x0201 ∧ (s.selectRecords 1 64 0x3FFF).head?.isSome = true := by
  unfold served; decide +kernel

theorem witness_JmpReadsAnswer_settings :
    served (ready 0x0501 (zeros 8)) 0 (cmd 0x0501 (zeros 8)) 0x0501
      ∧ served (ready 0x0505 (zeros 4)) 0 (cmd 0x0505 (zeros 4)) 0x0505 true
      ∧ served (ready 0x0B01 (zeros 8)) 0 (cmd 0x0B01 (zeros 8)) 0x0B01 := by
  unfold served; decide +kernel

theorem witness_JmpReadsAnswer_options :
    ∀ op ∈ [0x0403, 0x0504, 0x0600], served (ready op (zeros 12)) 0 (cmd op (zeros 12)) op := by
  simp only [List.forall_mem_cons, List.not_mem_nil, false_implies, implies_true, and_true]
  unfold served
  and_intros <;> decide +kernel

theorem witness_JmpReadsAnswer_fuses :
    let b := [0, 0] ++ natBytes 2 0x1C0 ++ natBytes 2 64
    served (ready 0x0A00 b) 0 (cmd 0x0A00 b) 0x0A00
      ∧ ((List.range 64).map (fun i => 0x1C0 + i)).all (fun i => !(ready 0x0A00 b).readLocked (regionOf i)) = true
      ∧ served (ready 0x0A03 (natBytes 2 0x1FF ++ [0, 0])) 0 (cmd 0x0A03 (natBytes 2 0x1FF ++ [0, 0])) 0x0A03 := by
  unfold served; decide +kernel

theorem witness_JmpSessionCommands_open :
    let b := natBytes 2 3600 ++ natBytes 4 0xFFFFFFFF ++ [0, 0]
    served (ready opOpen b) 0 (cmd opOpen b) opOpen := by
  unfold served; decide +kernel

theorem witness_JmpSessionCommands_urgent :
    servedUrgent (ready opClose []) 0 (cmd opClose []) opClose
      ∧ (∀ y ∈ (ready opClose []).sessions[0].cmds, y.seq ≠ 1 → y.state = .done)
      ∧ servedUrgent (ready opKeepalive []) 0 (cmd opKeepalive []) opKeepalive := by
  unfold servedUrgent; decide +kernel

/-- An ABORT of command 2, which stands as given. -/
def aborting (st : CmdState) : State := (ready opAbort [0, 2, 0, 0]).updSession 0 (fun x =>
  { x with cmds := x.cmds ++ [{ cmd 0x0100 [] with seq := 2, state := st }] })

theorem witness_JmpSessionCommands_abort :
    servedUrgent (aborting .queued) 0 (cmd opAbort [0, 2, 0, 0]) opAbort ∧ servedUrgent (aborting .done) 0 (cmd opAbort [0, 2, 0, 0]) opAbort
      ∧ (aborting .queued).sessions[0].find 2 = some { cmd 0x0100 [] with seq := 2, state := .queued }
      ∧ (aborting .done).sessions[0].find 2 = some { cmd 0x0100 [] with seq := 2, state := .done } := by
  unfold servedUrgent; decide +kernel

theorem witness_JmpSessionCommands_events :
    served (ready 0x0005 []) 0 (cmd 0x0005 []) 0x0005
      ∧ served (ready 0x0C00 [30, 0, 0, 0]) 0 (cmd 0x0C00 [30, 0, 0, 0]) 0x0C00
      ∧ served (ready 0x0C01 (natBytes 4 1)) 0 (cmd 0x0C01 (natBytes 4 1)) 0x0C01 := by
  unfold served; decide +kernel

theorem witness_JmpUnlockGrants :
    let b := zeros 96 ++ [31] ++ zeros 99
    let s := (ready 0x0D01 b).updSession 0 (fun x => { x with challenge := some 0, fails := 2 })
    served (ready 0x0D00 []) 0 (cmd 0x0D00 []) 0x0D00 ∧ (ready 0x0D00 []).sessions[0].lockout = false
      ∧ served s 0 (cmd 0x0D01 b) 0x0D01 ∧ shaped b 196 [97, 98, 99] = true ∧ fieldAt b 96 1 < 32
      ∧ s.sessions[0].challenge = some 0 ∧ s.labClose = false
      ∧ ({ s with fuse := { s.fuse with words := (List.range 0x200).map (fun n => (n, 0xFFFFFFFF#32)) } } : State).labClose
        = true := by
  unfold served; decide +kernel

theorem witness_JmpSettingsTakeEffect_thermal :
    let b := [16, 0] ++ natBytes 2 5200
    served (ready 0x0301 b) 0 (cmd 0x0301 b) 0x0301 ∧ (ready 0x0301 b).unitPresent 4 = true
      ∧ served (ready 0x0403 ([1, 1] ++ zeros 10)) 0 (cmd 0x0403 ([1, 1] ++ zeros 10)) 0x0403 true
      ∧ calVisShape ([1, 1] ++ zeros 10) = true ∧ (ready 0x0403 []).visLock = false := by
  unfold served; decide +kernel

theorem witness_JmpSettingsTakeEffect_images :
    let rh := [1, 0] ++ natBytes 2 16000
    let lk := [31, 3, 22, 0] ++ natBytes 2 65535
    let sc := [31, 1, 1, 0] ++ natBytes 2 720
    served (ready 0x0505 rh) 0 (cmd 0x0505 rh) 0x0505 true ∧ served (ready 0x0602 lk) 0 (cmd 0x0602 lk) 0x0602
      ∧ served (ready 0x0603 sc) 0 (cmd 0x0603 sc) 0x0603 ∧ State.reset.areasFree (List.finRange 32) = true
      ∧ State.reset.areasFree [31] 2 = true := by
  unfold served; decide +kernel

theorem witness_JmpSettingsTakeEffect_inject :
    let arm := [0, 0, 0, 0, 7, 3, 0, 0, 0, 1, 63, 1, 71, 255, 0, 0]
    let off := [0, 0, 0, 0, 8] ++ zeros 11
    served (ready 0x0605 arm) 0 (cmd 0x0605 arm) 0x0605 true ∧ shaped arm 16 [6, 7, 14, 15] = true
      ∧ symsOk arm (fieldAt arm 5 1) = true ∧ (arm.getD 4 0).getLsbD 0 = true
      ∧ served (ready 0x0605 off) 0 (cmd 0x0605 off) 0x0605 true ∧ (off.getD 4 0).getLsbD 3 = true := by
  unfold served; decide +kernel

theorem witness_JmpStoresProgram_options :
    let vis := [2, 1, 0, 0] ++ natBytes 4 1 ++ [63, 3, 0, 0]
    let ad := [1, 0, 0, 0] ++ natBytes 4 0xFFFFFFFF ++ [0, 0, 0, 0]
    let ecc := [1, 0, 0, 0] ++ natBytes 4 1 ++ [3, 1] ++ natBytes 2 0x1FFF
    let seed := [1, 6, 1, 3] ++ natBytes 3 0xFFFFFF ++ [0]
    (ready 0x0403 vis).nvFree = true ∧ sectorsWhole (ready 0x0403 vis) ∧ served (ready 0x0403 vis) 0 (cmd 0x0403 vis) 0x0403 true ∧ calVisShape vis = true
      ∧ served (ready 0x0504 ad) 0 (cmd 0x0504 ad) 0x0504 true ∧ adaptiveShape ad = true
      ∧ served (ready 0x0600 ecc) 0 (cmd 0x0600 ecc) 0x0600 true ∧ eccModeShape ecc = true
      ∧ served (ready 0x0B01 seed) 0 (cmd 0x0B01 seed) 0x0B01 true ∧ shaped seed 8 [7] = true := by
  unfold served sectorsWhole; decide +kernel

theorem witness_JmpStoresProgram_records :
    let mark := natBytes 4 7 ++ zeros 32
    let pr := [1, 0] ++ natBytes 2 3600 ++ natBytes 2 720 ++ [0, 0]
    served (ready 0x0202 mark) 0 (cmd 0x0202 mark) 0x0202 ∧ mark.length = 36
      ∧ served (ready 0x0501 pr) 0 (cmd 0x0501 pr) 0x0501 := by
  unfold served; decide +kernel

/-- RAW_CHECK's preparations: channel 0, pseudo-channel 0 Managed and quiesced. -/
def rawReady (payload : List Byte) : State := ready 0x0606 payload (fun s => s.updPc 0 0 (fun q => { q with managed := true, qact := true }))

theorem witness_JmpRawAccess :
    let wr := zeros 80
    let rd := [1] ++ zeros 7
    served (rawReady wr) 0 (cmd 0x0606 wr) 0x0606 true ∧ served (rawReady rd) 0 (cmd 0x0606 rd) 0x0606 true
      ∧ (rawReady wr).addrOk 0 = true ∧ (rawReady wr).chans[0].pcs[0].managed = true ∧ (rawReady wr).chans[0].pcs[0].qact = true
      ∧ (rawReady wr).chans[0].pcs[0].op = none ∧ (rawReady wr).chans[0].taper.images = [] ∧ (rawReady wr).chans[0].taper.held = []
      ∧ (rawReady wr).reservedRow (rawReady wr).chans[0] 0 0 = false ∧ addrAt wr 4 = 0 := by
  unfold served; decide +kernel

theorem witness_JmpCalibrates_save :
    let b := zeros 4 ++ natBytes 4 0x80000000 ++ zeros 8
    let s := ready 0x0401 b (fun s => s.updAll (fun h => { h with trn := { h.trn with ever7 := true } }))
    let v := s.updNv (fun n => { n with baselines := [(31, { bin := 0, lmsig := 0, tcap := 0, lanes := [], ckPhase := 0, occ := [], groups := [], tsv := [] })] })
    served s 0 (cmd 0x0401 b) 0x0401 true ∧ (∀ c ∈ maskChs 0x80000000, s.chans[c].trn.ever7 = true)
      ∧ (s.updMgmt (fun m => { m with visible := true })).coefficients = true
      ∧ v.coefficients = false ∧ (v.handleBlob 0x80000000).isSome = true := by
  unfold served; decide +kernel

/-- The first chunk of an upload, the only one where it reaches TOTAL. -/
def chunk (op : BitVec 16) (spec : List Byte) (total : Nat) (data : List Byte) : Cmd :=
  { seq := 1, opcode := op, cont := decide (data.length < total), payload := natBytes 4 total ++ zeros 4 ++ spec ++ data }

/-- A session with that chunk ready. -/
def chunked (op : BitVec 16) (spec : List Byte) (total : Nat) (data : List Byte) : State :=
  { live with sessions := live.sessions.set 0 { live := true, gen := 1, scope := 15, cmds := [chunk op spec total data] } }

theorem witness_JmpCalibrates_restore :
    uploads (chunked opCalRestore (zeros 8) 27204 (zeros 8)) 0 (chunk opCalRestore (zeros 8) 27204 (zeros 8)) restoreBuffer
        { opcode := opCalRestore, spec := zeros 8, total := 27204, bytes := zeros 8 } false
      ∧ served (chunked opCalRestore (zeros 8) 27204 (zeros 8)) 0 (chunk opCalRestore (zeros 8) 27204 (zeros 8)) opCalRestore true
      ∧ uploads (chunked opCalRestore (zeros 8) 68 (zeros 68)) 0 (chunk opCalRestore (zeros 8) 68 (zeros 68)) restoreBuffer
        { opcode := opCalRestore, spec := zeros 8, total := 68, bytes := zeros 68 } true := by
  refine ⟨⟨by decide +kernel, by decide +kernel, by decide +kernel, .inr (by decide +kernel)⟩, by unfold served; decide +kernel,
    ⟨by decide +kernel, by decide +kernel, by decide +kernel, .inr (by decide +kernel)⟩⟩

theorem witness_JmpCalibrates_run :
    let s := ready 0x0404 [0, 3, 1, 0] (fun s => s.updCh 0 (fun h => h.updPcs (fun q => { q with qact := true })))
    served (ready 0x0404 [31, 3, 0, 0]) 0 (cmd 0x0404 [31, 3, 0, 0]) 0x0404 true
      ∧ served s 0 (cmd 0x0404 [0, 3, 1, 0]) 0x0404 true
      ∧ s.areasFree [0] (maskPcs 3).length = true ∧ State.reset.chans[31].taper.held = []
      ∧ ∀ p ∈ maskPcs 3, s.chans[0].pcs[p].op = none ∧ s.chans[0].pcs[p].qact = true := by
  unfold served; decide +kernel

/-- A CAL_RUN of mode 2 in progress. -/
def running : State := (ready 0x0404 [0, 1, 2, 0] (fun s => s.updPc 0 0 (fun q =>
  { q with qact := true, releaseHeld := true, op := some (.calRun 2 0 1) }))).markCmd 0 1 .started

theorem witness_JmpCalibrates_end :
    running.chans[0].pcs[0].op = some (.calRun 2 0 1)
      ∧ running.sessions[0].find 1 = some { cmd 0x0404 [0, 1, 2, 0] with state := .started }
      ∧ running.chans[0].runTaken 2 (running.chans[0].runPcs 0 1) = true := by
  decide +kernel

theorem witness_JmpTransfersAndActivates_export :
    let b := zeros 4 ++ natBytes 8 (2 ^ 63) ++ zeros 4
    served (ready 0x0502 b) 0 (cmd 0x0502 b) 0x0502 := by
  unfold served; decide +kernel

theorem witness_JmpTransfersAndActivates_import :
    let s := chunked opMapImport (zeros 8) 9 (zeros 8)
    uploads s 0 (chunk opMapImport (zeros 8) 9 (zeros 8)) importBuffer
        { opcode := opMapImport, spec := zeros 8, total := 9, bytes := zeros 8 } false
      ∧ s.nvFree = true ∧ served s 0 (chunk opMapImport (zeros 8) 9 (zeros 8)) opMapImport false (some 3) := by
  refine ⟨⟨by decide +kernel, by decide +kernel, by decide +kernel, .inr (by decide +kernel)⟩, by decide +kernel, ?_⟩
  unfold served
  and_intros <;> decide +kernel

theorem witness_JmpTransfersAndActivates_write :
    let spec := natBytes 4 0xFFFFF ++ zeros 4
    let s := chunked opNvWrite spec 1 [7]
    uploads s 0 (chunk opNvWrite spec 1 [7]) nvBuffer { opcode := opNvWrite, spec := spec, total := 1, bytes := [7] } true
      ∧ shaped spec 8 [4, 5, 6, 7] = true ∧ fieldAt spec 0 4 + 1 ≤ 0x100000 ∧ s.poolShort = false ∧ s.nvFree = true
      ∧ served s 0 (chunk opNvWrite spec 1 [7]) opNvWrite := by
  refine ⟨⟨by decide +kernel, by decide +kernel, by decide +kernel, .inr (by decide +kernel)⟩, by decide +kernel, by decide +kernel,
    by decide +kernel, by decide +kernel, ?_⟩
  unfold served; decide +kernel

theorem witness_JmpTransfersAndActivates_stage :
    let t := [1] ++ zeros 7
    uploads (chunked opFwStage (zeros 8) 1572864 [7]) 0 (chunk opFwStage (zeros 8) 1572864 [7]) imageArea
        { opcode := opFwStage, spec := zeros 8, total := 1572864, bytes := [7] } false
      ∧ served (chunked opFwStage (zeros 8) 1572864 [7]) 0 (chunk opFwStage (zeros 8) 1572864 [7]) opFwStage
      ∧ uploads (chunked opFwStage t 8480 [7]) 0 (chunk opFwStage t 8480 [7]) tableArea
        { opcode := opFwStage, spec := t, total := 8480, bytes := [7] } false
      ∧ served (chunked opFwStage t 8480 [7]) 0 (chunk opFwStage t 8480 [7]) opFwStage
      ∧ fieldAt (chunk opFwStage t 8480 [7]).payload 8 1 = 1 := by
  refine ⟨⟨by decide +kernel, by decide +kernel, by decide +kernel, .inr (by decide +kernel)⟩, by unfold served; decide +kernel,
    ⟨by decide +kernel, by decide +kernel, by decide +kernel, .inr (by decide +kernel)⟩, by unfold served; decide +kernel,
    by decide +kernel⟩

theorem witness_JmpTransfersAndActivates_image :
    let s := ready opFwActivate (zeros 8) (fun s => s.updNv (fun n => n.updImage (!n.activeB) (fun x => { x with status := 3 })))
    activateShape (zeros 8) = true ∧ (s.nv.image (!s.nv.activeB)).status = 3 ∧ raises (cmd opFwActivate (zeros 8)) = false
      ∧ imageArea.heldByOther s 0 = false ∧ s.nvFree = true
      ∧ served s 0 (cmd opFwActivate (zeros 8)) opFwActivate false (some 1) := by
  unfold served
  and_intros <;> decide +kernel

/-- A table image whose fields are as Table 6-10 has them. -/
def tableImage : List Byte := natBytes 4 0x7A3C0001 ++ natBytes 2 1 ++ zeros 2 ++ natBytes 4 0xFFFFFFFF ++ zeros 8468

theorem witness_JmpTransfersAndActivates_table :
    let b := [1, 0, 0, 0] ++ natBytes 4 0x80000000
    let s := ready opFwActivate b (fun s => s.updMgmt (fun m => { m with table := some tableImage }))
    activateShape b = true ∧ fieldAt b 0 1 = 1 ∧ fieldAt b 4 4 ≠ 0 ∧ tableFormatOk tableImage = true
      ∧ s.mgmt.table.isSome = true ∧ tableArea.heldByOther s 0 = false ∧ s.chans[(31 : Ch)].shadowWritable = true
      ∧ served s 0 (cmd opFwActivate b) opFwActivate false (some 1) := by
  unfold served; decide +kernel

/-- A row named by an ADDR word, with a change of its pseudo-channel. -/
def adding (w : Word32) (f : PseudoChannel → PseudoChannel) : State :=
  ready 0x0701 (wordBytes w) (fun s => s.updPc 0 0 f)

theorem witness_JmpRepairs_add :
    let s := adding 0 id
    let known := adding 0 (fun q => { q with remap := q.remap.set 0 (remapWord 1 0 0 0 0) })
    let full := adding 0 (fun q => { q with remap := q.remap.map (fun _ => remapWord 1 63 0 0 9) })
    served s 0 (cmd 0x0701 (wordBytes 0)) 0x0701 ∧ s.addrOk 0 = true ∧ s.reservedRow s.chans[0] 0 0 = false
      ∧ s.chans[0].pcs[0].rowKnown 0 0 = false ∧ s.chooseSpare 0 0 0 = some 0
      ∧ known.chans[0].pcs[0].rowKnown 0 0 = true ∧ full.chans[0].pcs[0].rowKnown 0 0 = false
      ∧ (List.finRange 8).find? (fun e => remapState full.chans[0].pcs[0].remap[e] == 0) = none
      ∧ addrAt (wordBytes 0) 0 = 0 ∧ (addrRow 0xFFFE0).toNat = 32767 := by
  unfold served; decide +kernel

theorem witness_JmpRepairs_row :
    let b := [0, 0, 7, 0]
    let w := remapWord 2 63 3 0 24575
    let s := ready 0x0703 b (fun s => s.updPc 0 0 (fun q => { q with qact := true, remap := q.remap.set 7 w }))
    served s 0 (cmd 0x0703 b) 0x0703 true (some 2) ∧ s.chans[0].pcs[0].remap[(7 : Fin 8)] = w ∧ remapState w = 2
      ∧ s.chans[0].pcs[0].op = none ∧ s.chans[0].pcs[0].qact = true ∧ s.chans[0].pcs[0].cands = [] ∧ s.spareWord 0 0 w = 0
      ∧ s.chans[0].taper.images = [] ∧ s.chans[0].taper.held = []
      ∧ s.busFailed.getLsbD (layerOf 0 (bankSid (remapBank w))).val = false := by
  unfold served; decide +kernel

theorem witness_JmpRepairs_lane :
    let b := [1, 31, 4, 0]
    let s := ready 0x0703 b (fun s => s.updCh 31 (fun h => { h with map := { h.map with ca := 0x40000 } }))
    let t := ready 0x0703 [2, 31, 15, 0] (fun s => s.updCh 31 (fun h => { h with tsv := { h.tsv with
      repair := h.tsv.repair.set 15 (some 17) } }))
    served s 0 (cmd 0x0703 b) 0x0703 true (some 2) ∧ s.writeLocked 2 = false ∧ s.regionClosed 2 = false
      ∧ (s.freeRecord 2).isSome = true ∧ (s.chans[(31 : Ch)].map.unit 4).en = true
      ∧ served t 0 (cmd 0x0703 [2, 31, 15, 0]) 0x0703 true (some 2) ∧ t.chans[(31 : Ch)].tsv.repair[(15 : Fin 16)] = some 17
      ∧ t.writeLocked 3 = false ∧ t.regionClosed 3 = false ∧ (t.freeRecord 3).isSome = true := by
  unfold served; decide +kernel

/-- SELFTEST on channel 0 with both pseudo-channels quiesced. -/
def testing (payload : List Byte) : State := ready 0x0800 payload (fun s => s.updCh 0 (fun h => h.updPcs (fun q => { q with qact := true })))

theorem witness_JmpTestsRun_start :
    ∀ kind ∈ [0, 1, 2], (let b : List Byte := [0, 1, byteOf kind, 1]
      served (testing b) 0 (cmd 0x0800 b) 0x0800 true ∧ (testing b).chans[0].taper.images = [] ∧ (testing b).chans[0].taper.held = []
        ∧ (testing b).askTest 0 1 (BitVec.ofNat 2 kind) 1 = .starts) := by
  unfold served; decide +kernel

theorem witness_JmpTestsRun_refused :
    served (testing [0, 1, 0, 0]) 0 (cmd 0x0800 [0, 1, 0, 0]) 0x0800 true
      ∧ served (testing [0, 1, 0, 8]) 0 (cmd 0x0800 [0, 1, 0, 8]) 0x0800 true ∧ (8 : BitVec 4).getLsbD 3 = true
      ∧ (testing [0, 1, 0, 8]).sidPresent 3 = false := by
  unfold served
  and_intros <;> decide +kernel

theorem witness_JmpTestsRun_end :
    let s := live.updPc 0 0 (fun q => { q with qact := true, releaseHeld := true, op := some (.test 1) })
    s.chans[0].pcs[0].op = some (.test 1) ∧ s.thermal.trip = false ∧ s.chans[0].pcs[0].releaseHeld = true
      ∧ running.chans[0].pcs[0].releaseHeld = true := by
  and_intros <;> decide +kernel

theorem witness_JmpFusesProgram_word :
    let b := [0, 0] ++ natBytes 2 0x0C0 ++ natBytes 4 1
    let l := [1, 0] ++ natBytes 2 0x7FF ++ natBytes 4 1
    served (ready 0x0A01 b) 0 (cmd 0x0A01 b) 0x0A01 false (some 0) ∧ ((ready 0x0A01 b).fuseAllowed 0x0C0 1).1 = stOk
      ∧ served (ready 0x0A01 l) 0 (cmd 0x0A01 l) 0x0A01 false (some 0) ∧ 0 < (ready 0x0A01 l).layerCount
      ∧ (ready 0x0A01 l).busFailed.getLsbD 0 = false := by
  unfold served; decide +kernel

/-! CRC-32C over the 63 data words of a blank region (R355, R457), 36 bytes at a time. -/

theorem crc_zeros_0 : (zeros 36).foldl crc32cByte 0xFFFFFFFF#32 = 0x05D9D92D#32 := by decide +kernel
theorem crc_zeros_1 : (zeros 36).foldl crc32cByte 0x05D9D92D#32 = 0xE01DA034#32 := by decide +kernel
theorem crc_zeros_2 : (zeros 36).foldl crc32cByte 0xE01DA034#32 = 0xB3F88C19#32 := by decide +kernel
theorem crc_zeros_3 : (zeros 36).foldl crc32cByte 0xB3F88C19#32 = 0x93E4DE9A#32 := by decide +kernel
theorem crc_zeros_4 : (zeros 36).foldl crc32cByte 0x93E4DE9A#32 = 0xC84FD679#32 := by decide +kernel
theorem crc_zeros_5 : (zeros 36).foldl crc32cByte 0xC84FD679#32 = 0xDFB45177#32 := by decide +kernel
theorem crc_zeros_6 : (zeros 36).foldl crc32cByte 0xDFB45177#32 = 0x9819ACDE#32 := by decide +kernel

theorem crc_blank_region : crc32c (zeros 252) = 0x67E65321#32 := by
  have h : zeros 252 = zeros 36 ++ (zeros 36 ++ (zeros 36 ++ (zeros 36 ++ (zeros 36 ++ (zeros 36 ++ zeros 36))))) := by
    decide +kernel
  simp only [crc32c, h, List.foldl_append, crc_zeros_0, crc_zeros_1, crc_zeros_2, crc_zeros_3, crc_zeros_4, crc_zeros_5, crc_zeros_6]
  rfl

/-- FUSE_LOCK of region 5 with the array's CRC word programmed or not. -/
def locking (kind : Byte) (crc : Bool) : State :=
  ready 0x0A02 [5, kind, 0, 0] (fun s => if crc then s.updNv (fun n => { n with efuse := [(0x1BF, fuseEncode 0x67E65321#32)] }) else s)

/-- The words of region 5 as locking senses them. -/
def lockedWords : List (Nat × Word32) := (List.range 64).map (fun i => (0x180 + i, if i = 63 then 0x67E65321#32 else 0))

theorem locking_words : ((regionWords 5).map (fun w => (w, resolveWord ((locking 0 true).sensedWith []) w))).filterMap
    (fun x => x.2.map (fun v => (x.1, v))) = lockedWords := by decide +kernel

theorem locking_ready : (locking 0 true).lockReady 5 = true := by
  have hc : regionCrc lockedWords (regionFirst 5) (regionLast 5) = 0x67E65321#32 := by
    have hz : ((List.range (regionLast 5 - regionFirst 5)).flatMap (fun i => wordBytes (sparseGet lockedWords (regionFirst 5 + i))))
        = zeros 252 := by decide +kernel
    rw [regionCrc, hz, crc_blank_region]
  have hs : ((regionWords 5).map (fun w => (w, resolveWord ((locking 0 true).sensedWith []) w))).all (fun x => x.2.isSome) = true := by
    decide +kernel
  have hr : resolveWord ((locking 0 true).sensedWith []) (regionLast 5) = some 0x67E65321#32 := by decide +kernel
  simp only [State.lockReady, locking_words, hc, hs, hr]
  decide

theorem witness_JmpFusesProgram_lock :
    served (locking 1 true) 0 (cmd 0x0A02 [5, 1, 0, 0]) 0x0A02 false (some 0)
      ∧ (locking 1 true).fuseBlown (Fin.ofNat 512 (0x1C0 + 2 * 5 + 1)) = false ∧ (locking 0 true).lockReady 5 = true
      ∧ (locking 0 false).lockReady 5 = false
      ∧ ({ locking 0 false with fuse := { State.reset.fuse with words := [(0x1CA, 1)] } } : State).fuseBlown
          (Fin.ofNat 512 (0x1C0 + 2 * 5 + 0)) = true := by
  refine ⟨by unfold served; decide +kernel, by decide +kernel, locking_ready, by decide +kernel, by decide +kernel⟩

/-- A fuse job of the command in the hands of the controller. -/
def blowing : State := { (ready 0x0A01 []).markCmd 0 1 .started with
  fuse := { State.reset.fuse with loaded := true }, fuseQueue := [{ word := 5, bits := 1, owner := some (0, 1) }] }

theorem witness_JmpFusesProgram_controller :
    blowing.fuseQueue = [{ word := 5, bits := 1, owner := some (0, 1) }] ∧ blowing.inReset = false ∧ blowing.fuse.loaded = true
      ∧ blowing.thermal.trip = false ∧ blowing.rawFuse 5 = 0
      ∧ blowing.sessions[0].find 1 = some { cmd 0x0A01 [] with state := .started } :=
  ⟨rfl, by decide +kernel, rfl, by decide +kernel, by decide +kernel, by decide +kernel⟩

/-! ## Ill-formed commands -/

theorem test_wf_nop : Instr.wf (.nop 0 .row 0 .good) = false ∧ Instr.wf (.nop 0 .col 9 .good) = false := by decide

theorem test_wf_tracking : Instr.wf (.trackingWindow 0 (List.replicate 101 ⟨0, 0, 0⟩)) = false := by decide +kernel

theorem test_wf_recentring : Instr.wf (.recentringResult 0 { lanes := List.replicate 101 ⟨0, 0, 0, 0, 0, 0, 0, 0⟩ }) = false
    ∧ Instr.wf (.recentringResult 0 { rdqs := List.replicate 5 (0, 0) }) = false := by decide +kernel

theorem test_wf_samples : Instr.wf (.sampleTick [] []) = false := by decide

theorem test_wf_profile : Instr.wf (.profileBatchStart 0 0 0 [7, 7]) = false
    ∧ Instr.wf (.profileBatchStart 0 0 0 (List.range 17)) = false := by decide

theorem test_wf_stage : Instr.wf (.stageComplete 0 { path := List.replicate 9 0 }) = false := by decide

theorem test_wf_search : Instr.wf (.wickBandSearch [0] .inRange) = false := by decide

theorem test_wf_byte : Instr.wf (.invalidCommandByte 0x82) = false := by decide

theorem test_wf_pulses : Instr.wf (.quinceOpComplete true 41 ⟨0, 0⟩) = false := by decide

/-! ## Encodings, by the manual's worked examples -/

/-- 03, "The LVI command encoding": the ACT of CH07.PC1/S2/G3/B1/row 1A2Ch. -/
theorem test_act_words : decodeRow 7 ⟨0x07A, 0x345, false⟩ ⟨0x004, 0x000, true⟩ = .act 7 1 2 3 1 0x1A2C .good := by decide +kernel

/-- The same example: the RDA of column 5h. -/
theorem test_rda_words (b : Burst) (x : BitVec 624) :
    decodeCol 7 ⟨0xD1, 0x2B, false⟩ ⟨0, 0, false⟩ b x = .rda 7 1 2 3 1 5 .good := by rfl

/-- 05: the row and column slots of that access on the TSVs. -/
theorem test_core_slots : rowSlot 2 1 2 3 1 0x1A2C = 0xB69A2C ∧ columnSlot 5 1 3 2 1 = 0x579 := by decide +kernel

/-- 06, "Worked fragment: one RDA": the step word 0442 0040 0003 C00Ah. -/
theorem test_step_word :
    stepOpc 0x044200400003C00A = 1 ∧ stepTcmd 0x044200400003C00A = 0x1080 ∧ stepDpc 0x044200400003C00A = 0x100
      ∧ stepBcnd 0x044200400003C00A = 15 ∧ stepFlg 0x044200400003C00A = 0xA ∧ stepReserved 0x044200400003C00A = false := by
  decide +kernel

/-- R355: CRC-32C of the nine bytes "123456789". -/
theorem test_crc32c : crc32c [0x31, 0x32, 0x33, 0x34, 0x35, 0x36, 0x37, 0x38, 0x39] = 0xE3069283 := by decide +kernel

/-- 16, the TSV record of word 10Ah: a bit lost at the normal margin too still decodes to the record. -/
theorem test_fuse_corrects : fuseDecode (fuseEncode 0x94D20000 ^^^ 0x20000#39) = some 0x94D20000
    ∧ fuseDecode (fuseEncode 0x94D20000 ^^^ 0x20001#39) = none := by decide +kernel

/-- 09: zero data with check symbol P3 = 5Ah reads CORRECTED with SYMIDX 67. -/
theorem test_ecc_check_symbol : (decodeManaged 0 (checkBits [0, 0, 0, 0x5A, 0, 0, 0, 0])).symidx = 67 ∧ (decodeManaged 0 (checkBits [0, 0, 0, 0x5A, 0, 0, 0, 0])).sev = .corrected := by
  decide +kernel

/-- 17: three years at 80 °C and one at 95 °C read 58.8%. -/
theorem test_life_used : lifeUsed [(121, 26280 * 3600), (136, 8760 * 3600)] = 588 := by decide +kernel

theorem test_no_table_word (n w : Nat) : decodeTableWord n w = none ∧ State.reset.withFetchWord n w = State.reset := ⟨rfl, rfl⟩

/-! ## Single steps -/

/-- R327: a pulse of 100 ns to 1 µs is undefined; a shorter one is ignored. -/
theorem test_reset_pulse : exec (.resetAssert 999) State.reset = .fault .resetPulseUndefined
    ∧ exec (.resetAssert 99) State.reset = .next State.reset := ⟨rfl, rfl⟩

/-- The queue is first in, first out, and a step takes its front. -/
theorem test_queue_front : step { State.reset with pending := [.resetAssert 99, .resetAssert 999] }
    = .next { State.reset with pending := [.resetAssert 999] } := rfl

/-- R61: PRE closes an open bank. -/
theorem test_pre_closes : (match exec (.pre 0 0 0 0 0 .good) (opened true) with
    | .next t => t
    | _ => opened true).chans[0].pcs[0].banks[bankIx 0 0 0].phase = .closed := by decide +kernel

/-- Tables 1-3 and 1-4: 24 power domains and 292 clock domains. -/
theorem test_domains : powerDomains.length = 24 ∧ clockDomains.length = 292 := by decide +kernel

/-- Two keys of a sparse store do not meet. -/
theorem test_sparse : sparseGet (sparseSet (sparseSet [] 3 (7 : Word32)) 5 9) 3 = 7 ∧ sparseSet [(3, (7 : Word32))] 3 0 = [] := by
  decide +kernel

end Sys2Proof.Tests
end

/-! Acquisition by Wick (R307 to R313, Table 11-3): what each of its commands does, as the state it answers, and from these
the settlement of `Obligations.WickAcquires`. -/

namespace Sys2Proof.Machine

/-! ## The command that each instruction of the acquisition runs -/

@[simp] theorem exec_wickBandSearch (counts : List Nat) (rail : RailSide) (s : State) :
    exec (.wickBandSearch counts rail) s = execWickBandSearch counts rail s := rfl

@[simp] theorem exec_bandFailRetry (s : State) : exec .bandFailRetry s = execBandFailRetry s := rfl

@[simp] theorem exec_lockDeclared (s : State) : exec .lockDeclared s = execLockDeclared s := rfl

@[simp] theorem exec_sync (inverted : Bool) (s : State) : exec (.sync inverted) s = execSync inverted s := rfl

@[simp] theorem exec_setupTimeout (s : State) : exec .setupTimeout s = execSetupTimeout s := rfl

@[simp] theorem exec_spreadFollowerConverged (period depth : BitVec 16) (s : State) :
    exec (.spreadFollowerConverged period depth) s = execSpreadFollowerConverged period depth s := rfl

/-! ## Changes of Wick alone -/

theorem State.updWick_eq (s : State) (f : Wick → Wick) : s.updWick f = { s with wick := f s.wick } := rfl

@[simp] theorem State.closeLoop_chans (s : State) : s.closeLoop.chans = s.chans := rfl
@[simp] theorem State.closeLoop_nv (s : State) : s.closeLoop.nv = s.nv := rfl
@[simp] theorem State.closeLoop_wick_state (s : State) : s.closeLoop.wick.state = s.wick.state := rfl

/-! ## Band search (R307, R308) -/

section
variable {counts : List Nat} {rail : RailSide} {s : State}

theorem execWickBandSearch_none (hs : s.wick.state = .search)
    (hb : bandFound counts (feedbackInteger s.wick.binAct) rail = none) :
    execWickBandSearch counts rail s = .next (s.updWick (fun w => { w with bandFail := true })) := by
  simp [execWickBandSearch, hs, hb]

/-- In SEARCH the loop closes in the band found and Wick is in ACQUIRE. -/
theorem execWickBandSearch_some {b : Nat} (hs : s.wick.state = .search)
    (hb : bandFound counts (feedbackInteger s.wick.binAct) rail = some b) :
    execWickBandSearch counts rail s = .next (s.closeLoop.updWick (fun w =>
      { w with refOk := true, bandFail := false, band := BitVec.ofNat 5 b, seed := s.ditherSeed, state := .acquire })) := by
  simp [execWickBandSearch, hs, hb, State.updWick]

theorem execBandFailRetry_search (hs : s.wick.state = .search) (hf : s.wick.bandFail = true) :
    execBandFailRetry s = .next (s.updWick (·.search)) := by
  simp [execBandFailRetry, hs, hf]

end

/-! ## Lock, SYNC and the end of SETUP (R309, R312, R313) -/

/-- Wick after the first lock since reset: in SETUP with SYNC_EN; without it in RUN, where O0 to O3 run. -/
def Wick.firstLock (w : Wick) (syncEn : Bool) : Wick :=
  { w with state := if syncEn then .setup else .run, lock := true, rcMgmt := false, locked := true
           outputs := if syncEn then w.outputs else true }

section
variable {s : State}

theorem execLockDeclared_first (hs : s.wick.state = .acquire) (hl : s.wick.locked = false) :
    execLockDeclared s = .next (s.updWick (·.firstLock s.quince.shadow.syncEn)) := by
  cases he : s.quince.shadow.syncEn <;> simp [execLockDeclared, hs, hl, he, State.updWick, Wick.firstLock]

theorem execSync_setup (inverted : Bool) (hs : s.wick.state = .setup) (he : s.quince.shadow.syncEn = true) :
    execSync inverted s = .next (s.updWick (fun w =>
      { w with refInv := w.refInv || inverted, syncDone := true, state := .run, outputs := true })) := by
  simp [execSync, hs, he]

theorem execSync_ignored (inverted : Bool) (h : ¬(s.wick.state = .setup ∧ s.quince.shadow.syncEn = true)) :
    execSync inverted s = .next (s.updWick (fun w => { w with syncIgn := Vector.replicate 2 true })) := by
  simp [execSync, h]

theorem execSetupTimeout_setup (hs : s.wick.state = .setup) :
    execSetupTimeout s = .next (s.updWick (fun w => { w with state := .run, syncMissed := true, outputs := true })) := by
  simp [execSetupTimeout, hs]

/-- R315: the spread follower of RUN takes the period and the depth it converged on. -/
theorem execSpreadFollowerConverged_run (period depth : BitVec 16) (hs : s.wick.state = .run) :
    execSpreadFollowerConverged period depth s = .next (s.updWick (fun w =>
      { w with spread := true, followOk := true, sscPeriod := period, sscDepth := depth })) := by
  simp [execSpreadFollowerConverged, hs]

end

/-! ## The clauses with two outcomes, and the obligation -/

theorem wickBandSearch_in_search (counts : List Nat) (rail : RailSide) (s : State) (hs : s.wick.state = .search) :
    ∃ t, exec (.wickBandSearch counts rail) s = .next t ∧ t.chans = s.chans ∧ t.nv = s.nv
      ∧ (∀ b, bandFound counts (feedbackInteger s.wick.binAct) rail = some b →
          t.wick.state = .acquire ∧ t.wick.band = BitVec.ofNat 5 b ∧ t.wick.bandFail = false)
      ∧ (bandFound counts (feedbackInteger s.wick.binAct) rail = none →
          t.wick.state = .search ∧ t.wick.bandFail = true) := by
  rw [exec_wickBandSearch]
  cases hb : bandFound counts (feedbackInteger s.wick.binAct) rail with
  | none => exact ⟨_, execWickBandSearch_none hs hb, by simp [hs]⟩
  | some b => exact ⟨_, execWickBandSearch_some hs hb, by simp⟩

theorem sync_in_setup_or_ignored (inverted : Bool) (s : State) :
    ∃ t, exec (.sync inverted) s = .next t ∧ t = { s with wick := t.wick }
      ∧ (s.wick.state = .setup → s.quince.shadow.syncEn = true →
          t.wick.state = .run ∧ t.wick.syncDone = true ∧ t.wick.outputs = true
            ∧ t.wick.refInv = (s.wick.refInv || inverted))
      ∧ (¬(s.wick.state = .setup ∧ s.quince.shadow.syncEn = true) →
          t = { s with wick := { s.wick with syncIgn := Vector.replicate 2 true } }) := by
  rw [exec_sync]
  by_cases h : s.wick.state = .setup ∧ s.quince.shadow.syncEn = true
  · exact ⟨_, execSync_setup inverted h.1 h.2, rfl, fun _ _ => ⟨rfl, rfl, rfl, rfl⟩, fun hn => absurd h hn⟩
  · exact ⟨_, execSync_ignored inverted h, rfl, fun hs he => absurd ⟨hs, he⟩ h, fun _ => State.updWick_eq s _⟩

/-- Settles O23: each command's answer is the state above for it, and its fields are read off. -/
theorem wickAcquires : Obligations.WickAcquires := by
  refine ⟨wickBandSearch_in_search, ?retry, ?lock, sync_in_setup_or_ignored, ?timeout, ?follower⟩
  case retry =>
    intro s hs hf
    exact ⟨_, execBandFailRetry_search hs hf, rfl, rfl, rfl, rfl⟩
  case lock =>
    intro s hs hl
    exact ⟨_, execLockDeclared_first hs hl, rfl, rfl, rfl, rfl, rfl, fun he => by simp [Wick.firstLock, he]⟩
  case timeout =>
    intro s hs
    exact ⟨_, execSetupTimeout_setup hs, rfl, rfl, rfl, rfl⟩
  case follower =>
    intro period depth s hs
    exact ⟨_, execSpreadFollowerConverged_run period depth hs, rfl, rfl, rfl, rfl⟩

end Sys2Proof.Machine

/-! RESET_n and the one stop of the block (R327, Table 12-9): every command answers a next state but for one width of a
RESET_n pulse, and a stack reset leaves the fuse array as it was but for bits it may have blown; from these the settlement of
`Obligations.ResetPulsesAndTheOneStop`. -/

namespace Sys2Proof.Machine

/-! ## Answers: a command completes with a next state -/

/-- The outcome is a next state, neither a stop nor a refusal. -/
def Answers (r : Result) : Prop := ∃ t, r = .next t

theorem answers_next (t : State) : Answers (.next t) := ⟨t, rfl⟩

section
variable {c d : Prop} [Decidable c] [Decidable d]

theorem answers_ite {a b : Result} (ha : Answers a) (hb : Answers b) : Answers (if c then a else b) := by
  split
  · exact ha
  · exact hb

/-- The shape of a command with one guard. -/
theorem answers_guard (t u : State) : Answers (if c then .next t else .next u) :=
  answers_ite (answers_next t) (answers_next u)

/-- The shape of a command with two guards, one after the other. -/
theorem answers_guard₂ (t u v : State) : Answers (if c then .next t else if d then .next u else .next v) :=
  answers_ite (answers_next t) (answers_guard u v)

end

/-! ## Commands that look into the state before they answer -/

section
variable (s : State)

theorem answers_wickBandSearch (counts : List Nat) (rail : RailSide) : Answers (execWickBandSearch counts rail s) := by
  refine answers_ite ?_ (answers_next s)
  split
  · exact answers_next _
  · exact answers_next _

theorem answers_lockDeclared : Answers (execLockDeclared s) := by
  unfold execLockDeclared
  split
  · exact answers_guard₂ _ _ _
  · exact answers_guard _ _
  · exact answers_guard _ _
  all_goals exact answers_next s

theorem answers_binChange : Answers (execBinChange s) := by
  refine answers_ite (answers_next s) ?_
  split
  · exact answers_guard _ _
  · exact answers_next _
  · exact answers_next _

theorem answers_srx (c : Ch) (ok : Sampled) : Answers (execSrx c ok s) :=
  answers_ite (answers_next _) (answers_ite (answers_guard _ _) (answers_guard _ _))

theorem answers_prechargeTimerExpiry (c : Ch) (p : Pc) (sid : Sid) (bg : Bg) (ba : Ba) :
    Answers (execPrechargeTimerExpiry c p sid bg ba s) := by
  unfold execPrechargeTimerExpiry
  split
  all_goals exact answers_next _

theorem answers_calendarAction (c : Ch) (p : Pc) (env : LineEnv) : Answers (execCalendarAction c p env s) := by
  unfold execCalendarAction
  split
  · exact answers_next s
  · exact answers_next _

theorem answers_runStep (c : Ch) (tid opc : Nat) (body : State → Thread → BitVec 64 → State) :
    Answers (s.runStep c tid opc body) := by
  unfold State.runStep
  split
  · exact answers_next s
  · exact answers_guard₂ _ _ _

theorem answers_leaseEnd (c : Ch) (tid : Nat) : Answers (execLeaseEnd c tid s) := by
  unfold execLeaseEnd
  split
  · exact answers_next s
  · split
    · exact answers_next s
    · exact answers_guard _ _

theorem answers_tableScan (c : Ch) (corrected : List (Fin 1088)) (bad : Option (Fin 1088)) :
    Answers (execTableScan c corrected bad s) :=
  answers_ite (answers_next _) (answers_guard₂ _ _ _)

theorem answers_tripRecord : Answers (execTripRecord s) := by
  unfold execTripRecord
  split
  · exact answers_guard _ _
  · exact answers_next s

theorem answers_profileVerdict (c : Ch) (p : Pc) (moment : ProfileMoment) :
    Answers (execProfileVerdict c p moment s) := by
  unfold execProfileVerdict
  split
  · exact answers_next s
  · exact answers_next _
  · exact answers_guard _ _

theorem answers_rowCopyTimeout (c : Ch) (p : Pc) : Answers (execRowCopyTimeout c p s) := by
  unfold execRowCopyTimeout
  split
  · exact answers_next _
  · exact answers_next s

theorem answers_serviceResponse (i : Fin 2) (f : BitVec 48) : Answers (execServiceResponse i f s) := by
  unfold execServiceResponse
  split
  · exact answers_next s
  · refine answers_ite (answers_next _) ?_
    split
    all_goals exact answers_next _

theorem answers_serviceTimeout (i : Fin 2) : Answers (execServiceTimeout i s) := by
  unfold execServiceTimeout
  split
  · exact answers_next s
  · exact answers_next _

theorem answers_transferImageTake (c : Ch) : Answers (execTransferImageTake c s) := by
  unfold execTransferImageTake
  split
  · exact answers_next s
  · exact answers_next _

theorem answers_decoderGapDecode (c : Ch) (p : Pc) (env reread : LineEnv) (leaseLow : Bool) :
    Answers (execDecoderGapDecode c p env reread leaseLow s) := by
  unfold execDecoderGapDecode
  dsimp only
  split
  · exact answers_next s
  · refine answers_ite (answers_next s) (answers_ite (answers_next _) ?_)
    split
    · exact answers_next _
    · exact answers_guard _ _

theorem answers_ledgerScan (lost : Option (Word32 × Word32)) (lifeValid : Bool) :
    Answers (execLedgerScan lost lifeValid s) := by
  refine answers_ite (answers_next s) ?_
  dsimp only
  split
  · exact answers_next _
  · exact answers_next _

theorem answers_bootVerify (okA okB : Bool) : Answers (execBootVerify okA okB s) :=
  answers_ite (answers_next s) (answers_guard₂ _ _ _)

theorem answers_calRunEnd (c : Ch) (p : Pc) (res : CalRunResult) : Answers (execCalRunEnd c p res s) := by
  unfold execCalRunEnd
  split
  · refine answers_ite (answers_next s) ?_
    dsimp only
    split
    · exact answers_next _
    · exact answers_next _
  · exact answers_next s

theorem answers_selftestEnd (c : Ch) (p : Pc) (rep : TestReport) : Answers (execSelftestEnd c p rep s) := by
  unfold execSelftestEnd
  split
  · exact answers_next _
  · exact answers_next s

theorem answers_testEndOnRelease (c : Ch) (p : Pc) : Answers (execTestEndOnRelease c p s) := by
  unfold execTestEndOnRelease
  dsimp only
  split
  all_goals exact answers_next _

theorem answers_fuseWordProgram (failBits : BitVec 39) : Answers (execFuseWordProgram failBits s) := by
  unfold execFuseWordProgram
  split
  · exact answers_next s
  · exact answers_guard _ _

theorem answers_quinceOpComplete (verified : Bool) (pulses : Nat) (margin : Margin) :
    Answers (execQuinceOpComplete verified pulses margin s) := by
  unfold execQuinceOpComplete
  split
  · exact answers_next s
  · exact answers_next _

theorem answers_i2cByteWrite (byte : Byte) : Answers (execI2cByteWrite byte s) := by
  unfold execI2cByteWrite
  split
  all_goals exact answers_next _

theorem answers_windowData (read : Bool) (bytes : List Byte) : Answers (execWindowData read bytes s) := by
  refine answers_ite (answers_next _) ?_
  split
  all_goals exact answers_next _

/-- Every command but a RESET_n pulse has a meaning that answers a next state, whatever its operands: no arm of `exec` is
refused and none stops. -/
theorem exec_answers (i : Instr) (hi : ∀ w, i ≠ .resetAssert w) : Answers (exec i s) := by
  cases i with
  | resetAssert w => exact absurd rfl (hi w)
  | issue | issueif | setcnt | loop | call | ret | fetch | count | alert | report | stepNop =>
    unfold exec
    exact answers_runStep s _ _ _ _
  | wickBandSearch => exact answers_wickBandSearch s _ _
  | lockDeclared => exact answers_lockDeclared s
  | binChange => exact answers_binChange s
  | srx => exact answers_srx s _ _
  | prechargeTimerExpiry => exact answers_prechargeTimerExpiry s _ _ _ _ _
  | calendarAction => exact answers_calendarAction s _ _ _
  | leaseEnd => exact answers_leaseEnd s _ _
  | tableScan => exact answers_tableScan s _ _ _
  | tripRecord => exact answers_tripRecord s
  | profileVerdict => exact answers_profileVerdict s _ _ _
  | rowCopyTimeout => exact answers_rowCopyTimeout s _ _
  | serviceResponse => exact answers_serviceResponse s _ _
  | serviceTimeout => exact answers_serviceTimeout s _
  | transferImageTake => exact answers_transferImageTake s _
  | decoderGapDecode => exact answers_decoderGapDecode s _ _ _ _ _
  | ledgerScan => exact answers_ledgerScan s _ _
  | bootVerify => exact answers_bootVerify s _ _
  | calRunEnd => exact answers_calRunEnd s _ _ _
  | selftestEnd => exact answers_selftestEnd s _ _ _
  | testEndOnRelease => exact answers_testEndOnRelease s _ _
  | fuseWordProgram => exact answers_fuseWordProgram s _
  | quinceOpComplete => exact answers_quinceOpComplete s _ _ _
  | i2cByteWrite => exact answers_i2cByteWrite s _
  | windowData => exact answers_windowData s _ _
  | adaptChangeApply | layerDiscovery | remapApply => exact answers_guard₂ _ _ _
  | i2cStop => exact answers_ite (answers_next _) (answers_guard _ _)
  | lossOfLock | relockComplete | sync | reservedRowClearDone | fillComplete | tableSwap | oldBankDrain | sampleTick
  | histogramSecond | tripLatchSet | stageComplete | trackingWindow | tsvCalEval | trefiAccrual | internalRef
  | profileBatchStart | deltaLogWrite | snapshotGeneration | scrubOverdue | journalReplay | powerHoursIncrement | tsvTest
  | powerUpFill | mgmtRestart | i2cAddress =>
    exact answers_guard _ _
  | _ => exact answers_next _

end

/-! ## RESET_n by the width of its pulse (R327) -/

section
variable {w : Nat} {s : State}

theorem exec_resetAssert_short (h : w < 100) : exec (.resetAssert w) s = .next s := if_pos h

theorem exec_resetAssert_undefined (h : 100 ≤ w) (h' : w < 1000) :
    exec (.resetAssert w) s = .fault .resetPulseUndefined :=
  (if_neg (by omega)).trans (if_pos h')

theorem exec_resetAssert_long (h : 1000 ≤ w) :
    exec (.resetAssert w) s = .next (s.stackReset { s.power.held with resetN := true }) :=
  (if_neg (by omega)).trans (if_neg (by omega))

end

/-- The block's only stop is the pulse whose outcome R327 leaves undefined. -/
theorem exec_next_or_undefined_pulse (i : Instr) (s : State) :
    (∃ t, exec i s = .next t)
      ∨ ∃ w, i = .resetAssert w ∧ 100 ≤ w ∧ w < 1000 ∧ exec i s = .fault .resetPulseUndefined := by
  by_cases hi : ∃ w, i = .resetAssert w
  · obtain ⟨w, rfl⟩ := hi
    by_cases hshort : w < 100
    · exact .inl ⟨s, exec_resetAssert_short hshort⟩
    by_cases hlong : 1000 ≤ w
    · exact .inl ⟨_, exec_resetAssert_long hlong⟩
    · have hw : 100 ≤ w ∧ w < 1000 := by omega
      exact .inr ⟨w, rfl, hw.1, hw.2, exec_resetAssert_undefined hw.1 hw.2⟩
  · exact .inl (exec_answers s i (fun w h => hi ⟨w, h⟩))

/-! ## What a cut Quince operation leaves of the fuse array: all of it (R447, R448) -/

theorem NonVolatile.foldl_efuse {α : Type} {f : NonVolatile → α → NonVolatile} (hf : ∀ m x, (f m x).efuse = m.efuse)
    (l : List α) (n : NonVolatile) : (l.foldl f n).efuse = n.efuse :=
  List.foldlRecOn (motive := fun m : NonVolatile => m.efuse = n.efuse) l f rfl (fun m hm x _ => (hf m x).trans hm)

section
variable (n : NonVolatile)

@[simp] theorem NonVolatile.updSector_efuse (i : Nat) (f : Sector → Sector) : (n.updSector i f).efuse = n.efuse := rfl

@[simp] theorem NonVolatile.note_efuse (r : JournalRec) : (n.note r).efuse = n.efuse := rfl

@[simp] theorem NonVolatile.updImage_efuse (b : Bool) (f : ImageSlot → ImageSlot) :
    (n.updImage b f).efuse = n.efuse := by
  cases b <;> rfl

@[simp] theorem NonVolatile.eraseSector_efuse (i pulses : Nat) : (n.eraseSector i pulses).efuse = n.efuse := by
  unfold NonVolatile.eraseSector
  dsimp only
  split
  · rfl
  · rfl

@[simp] theorem NonVolatile.cutSector_efuse (o : NvOp) : (n.cutSector o).efuse = n.efuse := by
  unfold NonVolatile.cutSector
  split
  · rfl
  · split
    · rfl
    · rfl

@[simp] theorem NonVolatile.cutShort_efuse (o : NvOp) : (n.cutShort o).efuse = n.efuse := by
  unfold NonVolatile.cutShort
  split
  · exact n.cutSector_efuse o
  · exact n.cutSector_efuse o

@[simp] theorem NonVolatile.opEnds_efuse (o : NvOp) (ok : Bool) : (n.opEnds o ok).efuse = n.efuse := by
  unfold NonVolatile.opEnds
  split
  · cases ok <;> simp
  · cases ok <;> simp

@[simp] theorem NonVolatile.logDeltas_efuse (u : Fin 64) (items : List DeltaItem) :
    (n.logDeltas u items).efuse = n.efuse := by
  refine foldl_efuse (fun m i => ?_) items n
  rfl

@[simp] theorem NonVolatile.remapUser_efuse (tag k : Nat) : (n.remapUser tag k).efuse = n.efuse := by
  unfold NonVolatile.remapUser
  split
  · split
    · simp
    · rfl
  · rfl

@[simp] theorem NonVolatile.commitUser_efuse (addr : Nat) (bytes : List Byte) (tag : Nat) :
    (n.commitUser addr bytes tag).efuse = n.efuse :=
  foldl_efuse (fun m k => m.remapUser_efuse tag k) _ _

@[simp] theorem NonVolatile.stagePages_efuse (slotB : Bool) (bytes : Nat) :
    (n.stagePages slotB bytes).efuse = n.efuse := by
  refine foldl_efuse (fun m k => ?_) _ n
  split
  · rfl
  · rfl

@[simp] theorem NonVolatile.commit_efuse (pulses : Nat) (k : NvCont) : (n.commit pulses k).efuse = n.efuse := by
  cases k with
  | mapImport bytes => exact foldl_efuse (fun m x => m.logDeltas_efuse _ _) _ n
  | userWrite addr bytes tag => exact n.commitUser_efuse addr bytes tag
  | imageChunk b complete => simp [NonVolatile.commit]
  | imageActive b => simp [NonVolatile.commit]
  | eraseSector i => exact n.eraseSector_efuse _ pulses
  | baseErase i => exact n.eraseSector_efuse _ pulses
  | _ => rfl

end

/-! ## What a stack reset leaves of the fuse array -/

section
variable (s : State)

/-- A fuse that reads blown in s reads blown in t (R467: pulses blow bits and nothing clears them). -/
def KeepsBlown (s t : State) : Prop := ∀ f : Nat, t.rawFuse f &&& s.rawFuse f = s.rawFuse f

theorem keepsBlown_of_efuse_eq {s t : State} (h : t.nv.efuse = s.nv.efuse) : KeepsBlown s t := by
  intro f
  simp [State.rawFuse, h]

theorem keepsBlown_blow (w : Nat) (bits failBits : BitVec 39) : KeepsBlown s (s.blow w bits failBits) := by
  intro f
  by_cases hf : f = w
  · subst hf
    have hself : (s.blow f bits failBits).rawFuse f = s.rawFuse f ||| (bits &&& ~~~failBits) := sparseGet_set_self
    rw [hself]
    ext i
    simp +contextual
  · have hother : (s.blow w bits failBits).rawFuse f = s.rawFuse f := sparseGet_set_other hf
    rw [hother, BitVec.and_self]

theorem State.cutFuse_of_queue_nil (h : s.fuseQueue = []) : s.cutFuse = s := by
  simp [State.cutFuse, h]

theorem keepsBlown_cutFuse : KeepsBlown s s.cutFuse := by
  unfold State.cutFuse
  split
  · exact keepsBlown_of_efuse_eq rfl
  · split
    · exact keepsBlown_of_efuse_eq rfl
    · exact keepsBlown_blow { s with fresh := s.fresh + 1 } _ _ _

@[simp] theorem State.cutNv_efuse : s.cutNv.nv.efuse = s.nv.efuse := by
  unfold State.cutNv
  split
  · rfl
  · dsimp only [State.free]
    split
    · simp [State.updNv]
    · simp [State.updNv]

@[simp] theorem State.cutNv_fuseQueue : s.cutNv.fuseQueue = s.fuseQueue := by
  unfold State.cutNv
  split
  · rfl
  · dsimp only
    split
    · rfl
    · rfl

variable (power : Power)

theorem State.stackReset_efuse : (s.stackReset power).nv.efuse = s.cutNv.cutFuse.nv.efuse := rfl

/-- With no word waiting the controller pulses none, and the array is as it was. -/
theorem State.stackReset_efuse_of_queue_nil (h : s.fuseQueue = []) :
    (s.stackReset power).nv.efuse = s.nv.efuse := by
  rw [s.stackReset_efuse, s.cutNv.cutFuse_of_queue_nil (s.cutNv_fuseQueue.trans h), s.cutNv_efuse]

theorem keepsBlown_stackReset : KeepsBlown s (s.stackReset power) := by
  intro f
  have hcut : s.cutNv.rawFuse f = s.rawFuse f := congrArg (sparseGet · f) s.cutNv_efuse
  have hblown := keepsBlown_cutFuse s.cutNv f
  rwa [hcut] at hblown

theorem State.stackReset_not_ready (c : Ch) (p : Pc) :
    (s.stackReset power).chans[c].ready = false ∧ (s.stackReset power).chans[c].pcs[p].ready = false := by
  simp [State.stackReset, Channel.keepDies, chansAt]

end

/-! ## The obligation -/

/-- Settles O6: every command but RESET_ASSERT answers a next state, and RESET_ASSERT by the width of its pulse. -/
theorem resetPulsesAndTheOneStop : Obligations.ResetPulsesAndTheOneStop := by
  intro i s
  refine ⟨exec_next_or_undefined_pulse i s, ?short, ?undefined, ?long⟩
  case short =>
    rintro w rfl hw
    exact exec_resetAssert_short hw
  case undefined =>
    rintro w rfl hlo hhi
    exact exec_resetAssert_undefined hlo hhi
  case long =>
    rintro w rfl hw
    exact ⟨_, exec_resetAssert_long hw, rfl, rfl, rfl, rfl, s.stackReset_efuse_of_queue_nil _, keepsBlown_stackReset s _,
      rfl, rfl, rfl, s.stackReset_not_ready _⟩

end Sys2Proof.Machine

/-! The doorbell of a mailbox window (R351 to R353): whom it serves, what acceptance leaves alone, what COLLECT shows and what
RELEASE drops; from these the settlement of `Obligations.DoorbellActs`. -/

namespace Sys2Proof.Machine

/-! ## The command that each action runs -/

section
variable (tr : Transport) (tag : BitVec 16) (id : Byte) (s : State)

@[simp] theorem exec_submit : exec (.submit tr tag) s = .next (s.doorbell tr tag (s.submit tr)) := rfl

@[simp] theorem exec_collect : exec (.collect tr tag id) s = .next (s.doorbell tr tag (s.collect tr id)) := rfl

@[simp] theorem exec_release : exec (.release tr tag) s = .next (s.doorbell tr tag (s.release tr)) := rfl

@[simp] theorem exec_claimExpiry : exec (.claimExpiry tr) s = .next (s.updWindow tr (·.endClaim)) := rfl

end

/-! ## Whom the doorbell serves (R351) -/

section
variable {tr : Transport} {tag : BitVec 16} {s : State} (body : State)

theorem State.doorbell_of_holder (hr : s.inReset = false) (hc : (s.window tr).claim = some tag) :
    s.doorbell tr tag body = body := by
  simp [State.doorbell, hr, hc]

theorem State.doorbell_of_stranger (hr : s.inReset = false) (hc : (s.window tr).claim ≠ some tag) :
    s.doorbell tr tag body = { s with mgmt := { s.mgmt with doorbells := bump s.mgmt.doorbells } } := by
  simp [State.doorbell, hr, hc, State.updMgmt]

end

/-! ## Acceptance changes sessions alone (Table 13-9) -/

/-- Nothing but the sessions differs between two states. -/
def SessionsAlone (s t : State) : Prop := t = { s with sessions := t.sessions }

theorem SessionsAlone.refl (s : State) : SessionsAlone s s := rfl

theorem SessionsAlone.trans {s t u : State} (h : SessionsAlone s t) (h' : SessionsAlone t u) : SessionsAlone s u := by
  unfold SessionsAlone at h h' ⊢
  rw [h', h]

theorem SessionsAlone.chans_eq {s t : State} (h : SessionsAlone s t) : t.chans = s.chans := by
  rw [h]

theorem SessionsAlone.nv_eq {s t : State} (h : SessionsAlone s t) : t.nv = s.nv := by
  rw [h]

theorem sessionsAlone_updSession (s : State) (k : Slot) (f : Session → Session) : SessionsAlone s (s.updSession k f) := rfl

section
variable (s : State) (tr : Transport) (f : Frame)

theorem sessionsAlone_restartLease (id : Byte) : SessionsAlone s (s.restartLease tr id) := by
  unfold State.restartLease
  split
  · exact sessionsAlone_updSession s _ _
  · exact .refl s

theorem sessionsAlone_acceptOpen : SessionsAlone s (s.acceptOpen tr f).1 := by
  unfold State.acceptOpen
  split
  · exact .refl s
  · split
    · exact .refl s
    · rfl

theorem sessionsAlone_acceptIn : SessionsAlone s (s.acceptIn tr f).1 := by
  unfold State.acceptIn
  split
  · exact .refl s
  · split
    · exact .refl s
    · split
      · exact .refl s
      · rfl

theorem sessionsAlone_accept : SessionsAlone s (s.accept tr f).1 := by
  have hlease := sessionsAlone_restartLease s tr f.session
  unfold State.accept
  split
  · exact .refl s
  · split
    · exact .refl s
    · dsimp only
      split
      · exact hlease
      · split
        · exact hlease.trans (sessionsAlone_acceptOpen _ tr f)
        · exact hlease.trans (sessionsAlone_acceptIn _ tr f)

end

/-! ## COLLECT (R353) -/

section
variable {tr : Transport} {id : Byte} {s : State}

theorem State.collect_of_oldest {k : Slot} {x : Cmd} {r : Response} (hk : s.slotOf tr id = some k)
    (ho : s.sessions[k].oldest = some (x, r)) :
    s.collect tr id = s.updWindow tr (fun w =>
      { w with resp := responseFrame id x r, respValid := true, collected := some (k, x.seq) }) := by
  simp only [State.collect, hk, ho]

theorem State.collect_of_none (h : ∀ k : Slot, s.slotOf tr id = some k → s.sessions[k].oldest = none) :
    s.collect tr id = s.updWindow tr (fun w => { w with respValid := false, collected := none }) := by
  unfold State.collect
  cases hk : s.slotOf tr id with
  | none => rfl
  | some k => simp only [h k hk]

end

/-! ## RELEASE (R353) -/

section
variable (w : Window)

@[simp] theorem Window.endClaim_claim : w.endClaim.claim = none := rfl

@[simp] theorem Window.endClaim_respValid : w.endClaim.respValid = false := rfl

end

/-- A reset of the management plane ends no claim (R349). -/
@[simp] theorem State.mgmtReset_claim (s : State) (cause : BitVec 3) (extra : List (Byte × List Byte)) (tr : Transport) :
    ((s.mgmtReset cause extra).window tr).claim = (s.window tr).claim := by
  have hruns (l : List Slot) (u : State) :
      (l.foldl (fun (t : State) k => t.endCalRuns k none) u).window tr = u.window tr :=
    List.foldlRecOn (motive := fun t : State => t.window tr = u.window tr) l _ rfl fun _ ht _ _ => by
      cases tr <;> exact ht
  unfold State.mgmtReset
  dsimp only
  rw [hruns]
  cases tr <;> rfl

theorem State.release_claim (s : State) (tr : Transport) : ((s.release tr).window tr).claim = none := by
  unfold State.release
  dsimp only
  split
  · simp
  · split
    · simp
    · simp

/-- A session without a command, its place among the responses and the download's capture that ends with it. -/
def Session.drop (y : Session) (x : Cmd) (seq : BitVec 16) : Session :=
  { y with
    cmds := y.cmds.filter (fun c => c.seq != seq), done := y.done.filter (fun n => n != seq)
    captures := y.captures.filter (fun c => x.resp.bind (·.ends) != some c.no) }

theorem Session.find_drop (y : Session) (x : Cmd) (seq : BitVec 16) : (y.drop x seq).find seq = none := by
  simp [Session.find, Session.drop]

section
variable {s : State} {tr : Transport} {k : Slot} {seq : BitVec 16} {x : Cmd}

/-- But for CLOSE and OPEN, no response's release frees its slot (R361, R539). -/
theorem State.releaseResponse_of_plain (hx : s.sessions[k].find seq = some x) (hclose : x.opcode ≠ opClose)
    (hopen : x.opcode ≠ opOpen) : s.releaseResponse k seq = s.updSession k (·.drop x seq) := by
  unfold State.releaseResponse
  simp only [hx]
  rw [if_neg (by simp [hclose, hopen])]
  rfl

theorem State.release_of_collected (hv : (s.window tr).respValid = true)
    (hcol : (s.window tr).collected = some (k, seq)) (ha : s.mgmt.activation = none) :
    s.release tr = (s.releaseResponse k seq).updWindow tr (·.endClaim) := by
  simp [State.release, hv, hcol, ha]

/-- RELEASE of a plain command's response drops it from its session and ends the claim. -/
theorem State.release_of_plain (hv : (s.window tr).respValid = true)
    (hcol : (s.window tr).collected = some (k, seq)) (hx : s.sessions[k].find seq = some x)
    (hclose : x.opcode ≠ opClose) (hopen : x.opcode ≠ opOpen) (ha : s.mgmt.activation = none) :
    s.release tr = (s.updSession k (·.drop x seq)).updWindow tr (·.endClaim) := by
  rw [State.release_of_collected hv hcol ha, State.releaseResponse_of_plain hx hclose hopen]

end

/-! ## The obligation -/

/-- Settles O40: each action's answer is the state above for it, and its fields are read off. -/
theorem doorbellActs : Obligations.DoorbellActs := by
  intro tr tag s hr
  refine ⟨fun hc id => ?stranger, fun hc => ?holder⟩
  case stranger =>
    have hignored (body : State) := State.doorbell_of_stranger body hr hc
    simp only [exec_submit, exec_collect, exec_release, hignored, and_self]
  case holder =>
    have hacts (body : State) := State.doorbell_of_holder body hr hc
    simp only [exec_submit, exec_collect, exec_release, exec_claimExpiry, hacts]
    refine ⟨⟨_, rfl, ?submit⟩, ?collect, ?nothing, ⟨_, rfl, s.release_claim tr⟩, ⟨_, rfl, by simp⟩, ?release⟩
    case submit =>
      have halone := sessionsAlone_accept s tr (s.window tr).frame
      simp [State.submit, halone.chans_eq, halone.nv_eq]
    case collect =>
      intro id k x r hk ho
      exact ⟨_, rfl, by simp [State.collect_of_oldest hk ho]⟩
    case nothing =>
      intro id hnone
      exact ⟨_, rfl, by simp [State.collect_of_none hnone]⟩
    case release =>
      intro k seq x hv hcol hx hclose hopen ha
      refine ⟨_, rfl, s.release_claim tr, ?_⟩
      rw [State.release_of_plain hv hcol hx hclose hopen ha]
      refine ⟨by simp, ?dropped, ?others, by simp⟩
      case dropped =>
        rw [State.updWindow_sessions, State.updSession_self]
        exact Session.find_drop _ x seq
      case others =>
        intro j hj
        rw [State.updWindow_sessions, State.updSession_other s _ hj]

end Sys2Proof.Machine

/-! Fields of a payload (R348, R372): what fieldAt reads of bytes written one by one or as a number. -/

namespace Sys2Proof.Machine

/-! ## Numbers as bytes -/

theorem bytesToNat_append (l : List Byte) (b : Byte) : bytesToNat (l ++ [b]) = bytesToNat l * 256 + b.toNat := by
  simp [bytesToNat]

@[simp] theorem natBytes_length (n v : Nat) : (natBytes n v).length = n := by
  simp [natBytes]

/-- The last byte of a number is its lowest. -/
theorem natBytes_succ (n v : Nat) : natBytes (n + 1) v = natBytes n (v / 256) ++ [BitVec.ofNat 8 v] := by
  unfold natBytes
  rw [List.range_succ, List.map_append]
  congr 1
  · refine List.map_congr_left fun i hi => ?_
    have hi : i < n := List.mem_range.mp hi
    rw [Nat.div_div_eq_div_mul, ← Nat.pow_succ', show (n - 1 - i).succ = n + 1 - 1 - i by omega]
  · simp

theorem bytesToNat_natBytes (n v : Nat) : bytesToNat (natBytes n v) = v % 256 ^ n := by
  induction n generalizing v with
  | zero => simp [natBytes, bytesToNat, Nat.mod_one]
  | succ n ih =>
    rw [natBytes_succ, bytesToNat_append, ih, Nat.pow_succ', Nat.mod_mul, BitVec.toNat_ofNat,
      Nat.mul_comm, Nat.add_comm]

/-! ## Fields -/

@[simp] theorem fieldAt_head (b : Byte) (l : List Byte) : fieldAt (b :: l) 0 1 = b.toNat := by
  simp [fieldAt, bytesToNat]

@[simp] theorem fieldAt_tail (b : Byte) (l : List Byte) (i n : Nat) : fieldAt (b :: l) (i + 1) n = fieldAt l i n := rfl

/-- A field that begins behind a number of n bytes. -/
theorem fieldAt_behind (n v : Nat) (l : List Byte) (i m : Nat) : fieldAt (natBytes n v ++ l) (n + i) m = fieldAt l i m := by
  rw [fieldAt, ← List.drop_drop, List.drop_left' (natBytes_length n v), fieldAt]

theorem fieldAt_natBytes {n v : Nat} (hv : v < 256 ^ n) (l : List Byte) : fieldAt (natBytes n v ++ l) 0 n = v := by
  rw [fieldAt, List.drop_zero, List.take_left' (natBytes_length n v), bytesToNat_natBytes, Nat.mod_eq_of_lt hv]

@[simp] theorem byteOf_fin_toNat {n : Nat} (i : Fin n) (h : n ≤ 256) : (byteOf i.val).toNat = i.val := by
  simp only [byteOf, BitVec.toNat_ofNat]
  omega

/-! ## Channels and pseudo-channels named by a byte -/

theorem chAt_of_field {b : List Byte} {i : Nat} {c : Ch} (h : fieldAt b i 1 = c.val) : chAt b i = c := by
  simp [chAt, h]

theorem pcAt_of_field {b : List Byte} {i : Nat} {p : Pc} (h : fieldAt b i 1 = p.val) : pcAt b i = p := by
  simp [pcAt, h]

end Sys2Proof.Machine

/-! The answer to a command of the row that is served (Table 14-2): how a plain answer of its body makes a report. -/

namespace Sys2Proof.Machine

open Sys2Proof.Safety

section
variable {s : State} {k : Slot} {x : Cmd} {op : BitVec 16} {hostOnly : Bool} {scope : Option (Fin 5)}

/-! ## The command that is served -/

theorem opcode_of_served (h : served s k x op hostOnly scope) : x.opcode = op := by
  obtain ⟨-, -, -, hop, -⟩ := h
  exact hop

theorem find_of_served (h : served s k x op hostOnly scope) : s.sessions[k].find x.seq = some x := by
  obtain ⟨-, -, hfind, -⟩ := h
  exact hfind

/-- A session's ready command has not completed (R360). -/
theorem Session.head_not_done {y : Session} {c : Cmd} (h : y.head = some c) : c.state ≠ .done := by
  unfold Session.head at h
  split at h
  · next d hd =>
    have hdone := List.find?_some hd
    split at h
    · cases h
      simp_all
    · cases h
  · cases h

theorem not_done_of_served (h : served s k x op hostOnly scope) : x.state ≠ .done := by
  obtain ⟨-, hhead, -⟩ := h
  exact Session.head_not_done hhead

/-! ## Plain answers -/

theorem State.ok_eq_answer (s : State) (k : Slot) (x : Cmd) (b : List Byte) : s.ok k x b = s.answer k x (okResp b) := rfl

theorem State.fails_eq_answer (s : State) (k : Slot) (x : Cmd) (st d : Byte) :
    s.fails k x st d = s.answer k x { status := st, detail := d } := rfl

/-- The answer to a command that is not privileged: no record of it is made (R371). -/
theorem State.answer_of_plain (r : Response) (hfind : s.sessions[k].find x.seq = some x)
    (hp : privilegedOp x.opcode = false) : s.answer k x r = (s.takeTurn k).updSession k (·.respond x.seq r) := by
  have hfind' : (s.takeTurn k).sessions[k].find x.seq = some x := by rw [State.takeTurn_find, hfind]
  unfold State.answer State.respond
  simp only [hfind', hp]
  rfl

/-- It changes its session and the turn alone (R362). -/
theorem onlySession_answer (r : Response) (hfind : s.sessions[k].find x.seq = some x) (hp : privilegedOp x.opcode = false) :
    onlySession s (s.answer k x r) k := by
  refine ⟨?_, fun j hj => s.answer_other x r hj⟩
  rw [State.answer_of_plain r hfind hp]
  rfl

variable {i : Instr} {isFor : Cmd → Bool} {body : Cmd → State → State} {r : Response}

theorem next_of_served (h : served s k x op hostOnly scope) (hi : exec i s = .next (s.serve k isFor hostOnly scope body))
    (hl : listedOp op = true) (hf : isFor x = true) : exec i s = .next (body x s) := by
  rw [hi, State.serve_served h hl hf]

/-- A row whose body answers the command that is served, one that is not privileged, reports the answer. -/
theorem reports_of_served (h : served s k x op hostOnly scope) (hi : exec i s = .next (s.serve k isFor hostOnly scope body))
    (hl : listedOp op = true) (hf : isFor x = true) (hp : privilegedOp op = false) (hb : body x s = s.answer k x r) :
    reports i s k x r := by
  have hfind := find_of_served h
  rw [← opcode_of_served h] at hp
  exact ⟨_, (next_of_served h hi hl hf).trans (congrArg _ hb), State.answer_answered s k x r hfind (not_done_of_served h),
    onlySession_answer r hfind hp⟩

end

/-! ## Which row a command is for -/

section
variable {x : Cmd} {op : BitVec 16} {i n : Nat}

theorem isOp_of_opcode (h : x.opcode = op) : isOp op x = true := by
  simp [isOp, h]

theorem isOpAt_of_opcode {v : Nat} (h : x.opcode = op) (hv : fieldAt x.payload i 1 = v) : isOpAt op i v x = true := by
  simp [isOpAt, h, hv]

theorem isOpFirst_of_opcode (h : x.opcode = op) (hv : fieldAt x.payload i 1 = 0) : isOpFirst op i n x = true := by
  simp [isOpFirst, h, hv]

end

/-! ## Tests of a payload (Table 14-2) -/

theorem State.valid_true (s : State) (k : Slot) (c : Cmd) {good : Bool} (h : good = true) (body : State) :
    s.valid k c good body = body := by
  rw [h]; rfl

theorem State.valid_false (s : State) (k : Slot) (c : Cmd) {good : Bool} (h : good = false) (body : State) :
    s.valid k c good body = s.fails k c stBadArg := by
  rw [h]; rfl

end Sys2Proof.Machine

/-! Lists and stores read by JMP commands (R375 to R417): what each read answers, and from these the settlement of
`Obligations.JmpReadsAnswer`. -/

namespace Sys2Proof.Machine

open Sys2Proof.Safety

section
variable {k : Slot} {x : Cmd} {s : State}

/-! ## Lists of a channel and of a pseudo-channel -/

theorem laneMap_reports (c : Ch) (hb : x.payload = [byteOf c.val, 0, 0, 0]) (h : served s k x 0x0405) :
    reports (.laneMap k) s k x
      (okResp ([byteOf c.val, 0, 0, 0] ++ s.chans[c].map.sg.toList.flatMap wordBytes ++ wordBytes s.chans[c].map.ca)) := by
  refine reports_of_served h rfl (by decide) (isOp_of_opcode (opcode_of_served h)) (by decide) ?_
  have hc : chAt x.payload 0 = c := chAt_of_field (by simp [hb])
  have hbyte : x.payload.getD 0 0 = byteOf c.val := by rw [hb]; rfl
  refine (State.valid_true s k x (by simp [hb, shaped]) _).trans ?_
  simp only [hc, hbyte]
  rfl

theorem onePcOk_of_bytes (c : Ch) (p : Pc) : onePcOk [byteOf c.val, byteOf p.val, 0, 0] = true := by
  simp [onePcOk, shaped]
  omega

theorem remapList_reports (c : Ch) (p : Pc) (hb : x.payload = [byteOf c.val, byteOf p.val, 0, 0])
    (h : served s k x 0x0700) :
    reports (.remapList k) s k x (okResp (s.chans[c].pcs[p].remap.toList.flatMap wordBytes
      ++ [byteOf s.chans[c].pcs[p].cands.length, 0, 0, 0])) := by
  refine reports_of_served h rfl (by decide) (isOp_of_opcode (opcode_of_served h)) (by decide) ?_
  have hc : chAt x.payload 0 = c := chAt_of_field (by simp [hb])
  have hp : pcAt x.payload 1 = p := pcAt_of_field (by simp [hb])
  refine (State.valid_true s k x (hb ▸ onePcOk_of_bytes c p) _).trans ?_
  simp only [hc, hp]
  rfl

/-- The bits of HARDOK (R404). -/
def PseudoChannel.hardOk (q : PseudoChannel) : Nat :=
  (List.finRange 8).foldl (fun acc e => if remapState q.remap[e] = 2 then acc + 2 ^ e.val else acc) 0

/-- The payload of REPAIR_PLAN: counts, the rows of the candidates and then their sources, each filled to 16 (R404). -/
def PseudoChannel.planPayload (q : PseudoChannel) : List Byte :=
  [byteOf q.cands.length, byteOf q.hardOk, 0, 0] ++ q.cands.flatMap (fun x => wordBytes x.1) ++ zeros (4 * (16 - q.cands.length))
    ++ q.cands.map (fun x => x.2.setWidth 8) ++ zeros (16 - q.cands.length)

theorem PseudoChannel.planPayload_length (q : PseudoChannel) (hq : q.cands.length ≤ 16) : q.planPayload.length = 84 := by
  have hrows : (q.cands.flatMap (fun x => wordBytes x.1)).length = 4 * q.cands.length := by
    simp [List.length_flatMap, wordBytes, Nat.mul_comm]
  simp only [planPayload, zeros, List.length_append, List.length_cons, List.length_nil, hrows, List.length_replicate,
    List.length_map]
  omega

theorem repairPlan_reports (c : Ch) (p : Pc) (hb : x.payload = [byteOf c.val, byteOf p.val, 0, 0])
    (h : served s k x 0x0702) : reports (.repairPlan k) s k x (okResp s.chans[c].pcs[p].planPayload) := by
  refine reports_of_served h rfl (by decide) (isOp_of_opcode (opcode_of_served h)) (by decide) ?_
  have hc : chAt x.payload 0 = c := chAt_of_field (by simp [hb])
  have hp : pcAt x.payload 1 = p := pcAt_of_field (by simp [hb])
  refine (State.valid_true s k x (hb ▸ onePcOk_of_bytes c p) _).trans ?_
  simp only [hc, hp]
  rfl

/-! ## Results, settings and thresholds -/

theorem selftestResult_reports {y : TestResult}
    (hy : s.mgmt.tests.find? (fun y => y.handle.toNat == fieldAt x.payload 0 2) = some y)
    (hb : shaped x.payload 4 [2, 3] = true) (h : served s k x 0x0801) :
    reports (.selftestResult k) s k x (okResp (natBytes 2 y.handle.toNat ++ [y.status, 0] ++ wordBytes y.progress
      ++ wordBytes y.nfail ++ wordBytes y.first ++ wordBytes y.elapsed)) := by
  refine reports_of_served h rfl (by decide) (isOp_of_opcode (opcode_of_served h)) (by decide) ?_
  simp only [hy, State.valid_true _ _ _ hb]
  rfl

theorem retProfileRead_reports (hb : x.payload = zeros 8) (h : served s k x 0x0501) :
    reports (.retProfileRead k) s k x (okResp (natBytes 2 s.nv.pace ++ natBytes 2 s.nv.rlimit)) := by
  refine reports_of_served h rfl (by decide) (isOpFirst_of_opcode (opcode_of_served h) (by rw [hb]; rfl)) (by decide) ?_
  exact State.valid_true s k x (by rw [hb]; decide) _

theorem rhCfgRead_reports (hb : x.payload = zeros 4) (h : served s k x 0x0505 true) :
    reports (.rhCfgRead k) s k x (okResp (natBytes 2 s.chans[0].th ++ [0, 0])) := by
  refine reports_of_served h rfl (by decide) (isOpFirst_of_opcode (opcode_of_served h) (by rw [hb]; rfl)) (by decide) ?_
  exact State.valid_true s k x (by rw [hb]; decide) _

/-! ## Stored options (R380) -/

/-- A CHMASK of four bytes. -/
def chMaskBytes (f : Ch → Bool) : List Byte :=
  natBytes 4 ((List.finRange 32).foldl (fun acc ch => if f ch then acc + 2 ^ ch.val else acc) 0)

/-- What ADAPTIVE_REF returns (R394). -/
def State.adaptivePayload (s : State) : List Byte :=
  chMaskBytes (fun ch => s.storedOptions.chans[ch].adapt) ++ chMaskBytes (fun ch => s.chans[ch].regs.adaptAct)

theorem State.adaptivePayload_length (s : State) : s.adaptivePayload.length = 8 := by
  simp [adaptivePayload, chMaskBytes]

theorem State.optionAnswer_calVis (hop : x.opcode = 0x0403) :
    s.optionAnswer k x = s.ok k x [byteOf s.coefficients.toNat, byteOf s.storedOptions.calVis.toNat, byteOf s.visLock.toNat, 0] := by
  simp [State.optionAnswer, hop]

theorem State.optionAnswer_adaptiveRef (hop : x.opcode = 0x0504) : s.optionAnswer k x = s.ok k x s.adaptivePayload := by
  simp [State.optionAnswer, hop, State.adaptivePayload, chMaskBytes]

theorem State.optionAnswer_eccMode (hop : x.opcode = 0x0600) :
    s.optionAnswer k x = s.ok k x (s.storedOptions.chans.toList.flatMap
      (fun y => [y.mode.setWidth 8, byteOf y.waive.toNat] ++ natBytes 2 y.mr03.toNat)) := by
  simp [State.optionAnswer, hop]

/-- DITHER_SEED's byte 0 is a free value, so that the next open choice changes with the answer (R419). -/
theorem State.optionAnswer_ditherSeed (hop : x.opcode = 0x0B01) :
    s.optionAnswer k x = (s.free 8).2.ok k x ([(s.free 8).1, s.storedOptions.lockCnt.setWidth 8,
      byteOf s.storedOptions.syncEn.toNat, s.storedOptions.binDef.setWidth 8] ++ natBytes 3 s.storedOptions.seed.toNat ++ [0]) := by
  simp [State.optionAnswer, hop]

theorem calVisRead_reports (hb : x.payload = zeros 12) (h : served s k x 0x0403) :
    reports (.calVisRead k) s k x (okResp [byteOf s.coefficients.toNat, byteOf s.storedOptions.calVis.toNat,
      byteOf s.visLock.toNat, 0]) := by
  have hop := opcode_of_served h
  refine reports_of_served h rfl (by decide) (isOpFirst_of_opcode hop (by rw [hb]; rfl)) (by decide) ?_
  exact (State.valid_true s k x (by rw [hb]; decide) _).trans (State.optionAnswer_calVis hop)

theorem adaptiveRefRead_reports (hb : x.payload = zeros 12) (h : served s k x 0x0504) :
    reports (.adaptiveRefRead k) s k x (okResp s.adaptivePayload) := by
  have hop := opcode_of_served h
  refine reports_of_served h rfl (by decide) (isOpFirst_of_opcode hop (by rw [hb]; rfl)) (by decide) ?_
  exact (State.valid_true s k x (by rw [hb]; decide) _).trans (State.optionAnswer_adaptiveRef hop)

theorem eccModeRead_reports (hb : x.payload = zeros 12) (h : served s k x 0x0600) :
    reports (.eccModeRead k) s k x (okResp (s.storedOptions.chans.toList.flatMap
      (fun y => [y.mode.setWidth 8, byteOf y.waive.toNat] ++ natBytes 2 y.mr03.toNat))) := by
  have hop := opcode_of_served h
  refine reports_of_served h rfl (by decide) (isOpFirst_of_opcode hop (by rw [hb]; rfl)) (by decide) ?_
  exact (State.valid_true s k x (by rw [hb]; decide) _).trans (State.optionAnswer_eccMode hop)

theorem ditherSeedRead_answers (hb : x.payload = zeros 8) (h : served s k x 0x0B01) :
    ∃ t b, exec (.ditherSeedRead k) s = .next t
      ∧ answered t k x (okResp ([b, s.storedOptions.lockCnt.setWidth 8, byteOf s.storedOptions.syncEn.toNat,
          s.storedOptions.binDef.setWidth 8] ++ natBytes 3 s.storedOptions.seed.toNat ++ [0]))
      ∧ t.chans = s.chans ∧ t.nv = s.nv ∧ ∀ j : Slot, j ≠ k → t.sessions[j] = s.sessions[j] := by
  have hop := opcode_of_served h
  have hfind : (s.free 8).2.sessions[k].find x.seq = some x := find_of_served h
  have hread : isOpFirst 0x0B01 0 1 x = true := isOpFirst_of_opcode hop (by rw [hb]; rfl)
  have hx := next_of_served (i := .ditherSeedRead k) h rfl (by decide) hread
  rw [State.valid_true s k x (by rw [hb]; decide), State.optionAnswer_ditherSeed hop, State.ok_eq_answer] at hx
  refine ⟨_, _, hx, State.answer_answered _ k x _ hfind (not_done_of_served h), ?_, ?_,
    fun j hj => State.answer_other _ x _ hj⟩
  · exact (State.answer_frame _ k x _).1
  · rw [State.answer_of_plain _ hfind (by rw [hop]; decide)]
    rfl

end

/-! ## The user area -/

section
variable {s : State}

/-- A read of a page out of an execute-only range changes the lines and the counts of Quince's controller alone (R431). -/
theorem State.readLine_quince {a : Nat} (h : s.quince.executeOnly a = false) :
    ∃ l r e, s.readLine a = { s with quince := { s.quince with lines := l, reads := r, busErrors := e } } := by
  unfold State.readLine
  rw [if_neg (by simp [h])]
  split
  · unfold QuinceCtl.loadLine
    split
    · exact ⟨_, _, _, rfl⟩
    · exact ⟨_, _, _, rfl⟩
  · exact ⟨_, _, _, rfl⟩

theorem foldl_readLine_quince (pages : List Nat) (a : Nat → Nat) (h : ∀ g ∈ pages, s.quince.executeOnly (a g) = false) :
    ∃ l r e, pages.foldl (fun (t : State) g => t.readLine (a g)) s
      = { s with quince := { s.quince with lines := l, reads := r, busErrors := e } } := by
  induction pages generalizing s with
  | nil => exact ⟨_, _, _, rfl⟩
  | cons g rest ih =>
    obtain ⟨l, r, e, hg⟩ := State.readLine_quince (h g List.mem_cons_self)
    have hrest := ih (s := s.readLine (a g)) (fun j hj => by
      rw [hg]
      exact h j (List.mem_cons_of_mem g hj))
    obtain ⟨l', r', e', hall⟩ := hrest
    exact ⟨l', r', e', by rw [List.foldl_cons, hall, hg]⟩

/-- No byte of the user area lies in an execute-only range. -/
def State.userOpen (s : State) : Prop := ∀ a : Nat, a < 0x100000 → s.quince.executeOnly (62 * 0x20000 + a) = false

theorem mem_userPages {addr len g : Nat} (hlen : 1 ≤ len) (hend : addr + len ≤ 0x100000) (hg : g ∈ userPages addr len) :
    512 * g < 0x100000 := by
  have hg := List.mem_range.mp (List.mem_of_mem_drop hg)
  omega

theorem State.readUser_quince {addr len : Nat} (hlen : 1 ≤ len) (hend : addr + len ≤ 0x100000) (h : s.userOpen) :
    ∃ l r e, s.readUser addr len = { s with quince := { s.quince with lines := l, reads := r, busErrors := e } } := by
  refine foldl_readLine_quince (userPages addr len) _ fun g hg => ?_
  exact h _ (mem_userPages hlen hend hg)

theorem State.readUserBytes_of_open {addr len : Nat} (hend : addr + len ≤ 0x100000) (h : s.userOpen) :
    s.readUserBytes addr len = (List.range len).map (fun i => (memFind s.nv.user (addr + i)).getD 0xFF) := by
  unfold State.readUserBytes NonVolatile.userBytes
  refine List.ext_getElem (by simp) fun i hi _ => ?_
  have hi : i < len := by simpa using hi
  have ho := h (addr + i) (by omega)
  rw [← Nat.add_assoc] at ho
  simp [ho]

theorem State.readQuince_of_free (h : s.nvFree = true) (body : State) : s.readQuince body = body := by
  have hop : s.quince.op.isSome = false := by
    simp only [State.nvFree, Bool.and_eq_true] at h
    simpa using h.1.2
  simp [State.readQuince, State.withQuince, hop, h]

variable {k : Slot} {x : Cmd}

theorem nvRead_answers {addr len : Nat} (hlen : 1 ≤ len) (hmax : len ≤ 976) (hend : addr + len ≤ 0x100000)
    (hb : x.payload = natBytes 4 addr ++ natBytes 2 len ++ [0, 0]) (hfree : s.nvFree = true) (ho : s.userOpen)
    (h : served s k x 0x0900) :
    ∃ t, exec (.nvRead k) s = .next t ∧ (∀ j : Slot, j ≠ k → t.sessions[j] = s.sessions[j])
      ∧ t = { s with
          sessions := t.sessions, mgmt := { s.mgmt with turn := k }
          quince := { s.quince with
            lines := t.quince.lines, reads := t.quince.reads, busErrors := t.quince.busErrors } }
      ∧ answered t k x (okResp ([byteOf ((userPages addr len).any s.nv.userBlank).toNat, 0, 0, 0]
          ++ (List.range len).map (fun i => (memFind s.nv.user (addr + i)).getD 0xFF))) := by
  have hop := opcode_of_served h
  have haddr : fieldAt x.payload 0 4 = addr := by
    rw [hb, List.append_assoc, fieldAt_natBytes (by omega)]
  have hlenf : fieldAt x.payload 4 2 = len := by
    rw [hb, List.append_assoc, fieldAt_behind 4 addr _ 0 2, fieldAt_natBytes (by omega)]
  have hshape : shaped x.payload 8 [6, 7] = true := by
    simp [hb, shaped, natBytes, List.range_succ]
  have hx := next_of_served (i := .nvRead k) h rfl (by decide) (isOp_of_opcode hop)
  simp only [haddr, hlenf] at hx
  rw [State.valid_true s k x (by simp [hshape, hlen, hmax, hend]), State.readQuince_of_free hfree,
    State.readUserBytes_of_open hend ho, State.ok_eq_answer] at hx
  obtain ⟨l, r, e, hread⟩ := State.readUser_quince (s := s) hlen hend ho
  have hsess : (s.readUser addr len).sessions = s.sessions := by rw [hread]
  have hfind : (s.readUser addr len).sessions[k].find x.seq = some x := by rw [hsess, find_of_served h]
  refine ⟨_, hx, fun j hj => ?_, ?_, State.answer_answered _ k x _ hfind (not_done_of_served h)⟩
  · rw [State.answer_other _ x _ hj, hsess]
  · rw [State.answer_of_plain _ hfind (by rw [hop]; decide), hread]
    rfl

theorem ledgerRead_reports {start count classes : Nat} {recs : List LedgerRec} {a b : LedgerRec} (hcount : 1 ≤ count)
    (hmax : count ≤ 64) (hclasses : classes < 0x4000) (hstart : start < 2 ^ 32)
    (hb : x.payload = natBytes 4 start ++ natBytes 2 count ++ natBytes 2 classes) (hfree : s.nvFree = true)
    (h : served s k x 0x0201) (hrecs : recs = s.selectRecords start count classes) (hfirst : recs.head? = some a)
    (hlast : recs.getLast? = some b) :
    reports (.ledgerRead k) s k x (okResp (natBytes 4 a.seq ++ natBytes 4 (b.seq + 1) ++ natBytes 2 recs.length ++ zeros 6
      ++ recs.flatMap (·.bytes))) := by
  have hstartf : fieldAt x.payload 0 4 = start := by
    rw [hb, List.append_assoc, fieldAt_natBytes (by omega)]
  have hcountf : fieldAt x.payload 4 2 = count := by
    rw [hb, List.append_assoc, fieldAt_behind 4 start _ 0 2, fieldAt_natBytes (by omega)]
  have hclassesf : fieldAt x.payload 6 2 = classes := by
    rw [hb, List.append_assoc, fieldAt_behind 4 start _ 2 2, fieldAt_behind 2 count _ 0 2,
      ← List.append_nil (natBytes 2 classes), fieldAt_natBytes (by omega)]
  refine reports_of_served h rfl (by decide) (isOp_of_opcode (opcode_of_served h)) (by decide) ?_
  simp only [hstartf, hcountf, hclassesf]
  rw [State.valid_true s k x (by simp [hb, hcount, hmax, hclasses]), State.readQuince_of_free hfree, ← hrecs]
  simp only [State.ledgerAnswer, hfirst, hlast]
  rfl

/-! ## Fuses -/

theorem fuseRead_reports {w n : Nat} (hn : 1 ≤ n) (hmax : n ≤ 64) (hend : w + n ≤ 0x200)
    (hb : x.payload = [0, 0] ++ natBytes 2 w ++ natBytes 2 n)
    (hopen : ((List.range n).map (fun i => w + i)).all (fun i => !s.readLocked (regionOf i)) = true)
    (h : served s k x 0x0A00) :
    reports (.fuseRead k) s k x (okResp (((List.range n).map (fun i => w + i)).flatMap
      (fun i => wordBytes (sparseGet s.fuse.words i)))) := by
  have htarget : fuseTarget x.payload = 0 := by
    rw [hb]
    rfl
  have hw : fuseWordOf x.payload = w := by
    rw [hb, List.append_assoc]
    exact fieldAt_natBytes (by omega) _
  have hnf : fieldAt x.payload 4 2 = n := by
    rw [hb, List.append_assoc, ← List.append_nil (natBytes 2 n)]
    exact (fieldAt_behind 2 w _ 0 2).trans (fieldAt_natBytes (by omega) _)
  have hshape : shaped x.payload 6 [1] = true := by simp [hb, shaped]
  have hopen' : ((List.range n).map (fun i => w + i)).any (fun i => s.readLocked (regionOf i)) = false := by
    rw [List.any_eq_not_all_not, hopen]
    rfl
  refine reports_of_served h rfl (by decide) (isOp_of_opcode (opcode_of_served h)) (by decide) ?_
  simp only [htarget, hw, hnf]
  rw [State.valid_true s k x (by simp [hshape, hn, hmax, hend]), if_pos (by decide), if_neg (by simp [hopen'])]
  rfl

theorem fuseMargin_reports (sense : FuseSense) (w : Fin 512) (hb : x.payload = natBytes 2 w.val ++ [0, 0])
    (hopen : s.readLocked (regionOf w.val) = false) (h : served s k x 0x0A03) :
    reports (.fuseMargin k sense) s k x
      (okResp (s.marginPayload w.val (s.sensedWith [sense] w.val).1 (s.sensedWith [sense] w.val).2)) := by
  have hw : fieldAt x.payload 0 2 = w.val := by rw [hb, fieldAt_natBytes (by omega)]
  have hshape : shaped x.payload 4 [2, 3] = true := by
    simp [hb, shaped, natBytes, List.range_succ]
  refine reports_of_served h rfl (by decide) (isOp_of_opcode (opcode_of_served h)) (by decide) ?_
  simp only [hw]
  rw [State.valid_true s k x (by simp [hshape]), if_neg (by simp [hopen])]
  rfl

end

/-! ## The obligation -/

/-- Settles O50: each read answers what the lemma above for it says. -/
theorem jmpReadsAnswer : Obligations.JmpReadsAnswer := by
  intro k x s
  refine ⟨laneMap_reports, fun c p hb => ⟨remapList_reports c p hb, fun h => ?plan⟩, fun y hy hb h => ?result,
    fun addr len h1 hmax hend hb hfree ho h => nvRead_answers h1 hmax hend hb hfree ho h,
    fun start count classes recs a b h1 hmax hcl hst hb hfree h => ledgerRead_reports h1 hmax hcl hst hb hfree h,
    retProfileRead_reports, rhCfgRead_reports, fun w n h1 hmax hend hb ho h => fuseRead_reports h1 hmax hend hb ho h,
    fuseMargin_reports, fun hb => ⟨calVisRead_reports hb, fun h => ?adaptive, eccModeRead_reports hb⟩,
    ditherSeedRead_answers⟩
  case plan =>
    exact ⟨_, repairPlan_reports c p hb h, rfl, PseudoChannel.planPayload_length _⟩
  case result =>
    exact selftestResult_reports hy hb h
  case adaptive =>
    exact ⟨_, adaptiveRefRead_reports hb h, s.adaptivePayload_length⟩

end Sys2Proof.Machine

/-! Exchanges with a layer over its service bus (R136, R137): what they change, and what FUSE_PGM and FUSE_RD leave in the
anti-fuses of the layer (R472, R473). -/

namespace Sys2Proof.Machine

/-! ## Changes of the layers alone -/

/-- Nothing but the service buses and the dies differs between two states, and of the dies only that of layer l. -/
def LayerAlone (l : Fin 16) (s t : State) : Prop :=
  t = { s with dies := t.dies, buses := t.buses } ∧ ∀ j : Fin 16, j ≠ l → t.dies[j] = s.dies[j]

theorem LayerAlone.refl (l : Fin 16) (s : State) : LayerAlone l s s := ⟨rfl, fun _ _ => rfl⟩

theorem LayerAlone.trans {l : Fin 16} {s t u : State} (h : LayerAlone l s t) (h' : LayerAlone l t u) : LayerAlone l s u :=
  ⟨by rw [h'.1, h.1], fun j hj => (h'.2 j hj).trans (h.2 j hj)⟩

section
variable (s : State) (l : Fin 16) (f : CoreDie → CoreDie)

theorem State.updDie_self : (s.updDie l f).dies[l] = f s.dies[l] := by
  simp [State.updDie]

theorem layerAlone_updDie : LayerAlone l s (s.updDie l f) := by
  refine ⟨rfl, fun j hj => ?_⟩
  have hne : l.val ≠ j.val := fun e => hj (Fin.ext e.symm)
  simpa [State.updDie] using Vector.getElem_set_ne l.isLt j.isLt hne

end

/-! ## Commands that leave the channels alone -/

/-- Neither SOFTREP_SET nor SOFTREP_CLR, the two commands that change what a pseudo-channel reads (R142). -/
def SvcCmd.keepsRows (x : SvcCmd) : Prop := x.sop ≠ 5 ∧ x.sop ≠ 6

theorem layerAlone_layerServes (s : State) {x : SvcCmd} (hx : x.keepsRows) (programs : Bool) :
    LayerAlone x.lid s (s.layerServes x programs).2.2 := by
  obtain ⟨h5, h6⟩ := hx
  unfold State.layerServes
  dsimp only
  split
  case h_9 h _ => exact absurd (BitVec.eq_of_toNat_eq h) h5
  case h_10 h _ => exact absurd (BitVec.eq_of_toNat_eq h) h6
  case h_5 =>
    split
    · exact .refl _ s
    · exact .refl _ s
  case h_1 | h_4 | h_7 | h_8 | h_11 =>
    dsimp only
    exact layerAlone_updDie s x.lid _
  case h_2 | h_3 | h_6 | h_12 => exact .refl _ s

/-- A frame has gone out on the bus of its layer. -/
def State.sent (s : State) (x : SvcCmd) : State :=
  { s with buses := s.buses.set (busOf x.lid) { s.buses[busOf x.lid] with sent := x.frame } }

theorem State.sendTo_eq (s : State) (x : SvcCmd) (programs : Bool) :
    s.sendTo x programs = (s.sent x).layerServes x programs := rfl

theorem layerAlone_sendTo (s : State) {x : SvcCmd} (hx : x.keepsRows) (programs : Bool) :
    LayerAlone x.lid s (s.sendTo x programs).2.2 :=
  LayerAlone.trans (t := s.sent x) ⟨rfl, fun _ _ => rfl⟩ (layerAlone_layerServes (s.sent x) hx programs)

theorem SvcCmd.poll_keepsRows (x : SvcCmd) : x.poll.keepsRows := by
  constructor <;> simp [SvcCmd.poll]

theorem layerAlone_poll (s : State) (x : SvcCmd) (programs : Bool) :
    LayerAlone x.lid s (s.sendTo x.poll programs).2.2 := layerAlone_sendTo s x.poll_keepsRows programs

theorem layerAlone_sendAndPoll (s : State) {x : SvcCmd} (hx : x.keepsRows) (programs : Bool) :
    LayerAlone x.lid s (s.sendAndPoll x programs).2.2 := by
  have hsend := layerAlone_sendTo s hx programs
  unfold State.sendAndPoll
  split
  · next h =>
    rw [h] at hsend
    exact hsend.trans (layerAlone_poll _ x programs)
  · exact hsend

theorem layerAlone_exchange (s : State) {x : SvcCmd} (hx : x.keepsRows) (programs : Bool) :
    LayerAlone x.lid s (s.exchange x programs).2.2 := by
  have hsend := layerAlone_sendTo s hx programs
  unfold State.exchange
  split
  · next h =>
    rw [h] at hsend
    exact hsend.trans (layerAlone_poll _ x programs)
  · next h =>
    rw [h] at hsend
    exact (hsend.trans (layerAlone_poll _ x programs)).trans (layerAlone_sendAndPoll _ hx programs)
  · exact hsend

/-! ## What the layer answers (R137) -/

section
variable {s : State} {x : SvcCmd} {programs : Bool}

theorem sendTo_poll {q : Nat × Word32} (hp : s.dies[x.lid].pend = some q) :
    (s.sendTo x.poll programs).2.1 = q.2
      ∧ (s.sendTo x.poll programs).2.2.dies[x.lid] = { s.dies[x.lid] with pend := none } := by
  have hsop : x.poll.sop.toNat = 8 := rfl
  have hpend : (s.sent x.poll).dies[x.poll.lid].pend = some q := hp
  rw [State.sendTo_eq]
  unfold State.layerServes
  simp only [hsop, hpend]
  exact ⟨trivial, State.updDie_self _ _ _⟩

/-- While an operation is pending the layer does nothing. -/
theorem sendTo_busy {q : Nat × Word32} (hx : x.sop ≠ 8) (hp : s.dies[x.lid].pend = some q) :
    s.sendTo x programs = (2, 0, s.sent x) := by
  have hpend : (s.sent x).dies[x.lid].pend = some q := hp
  rw [State.sendTo_eq]
  unfold State.layerServes
  dsimp only
  split
  case h_1 h _ => exact absurd (BitVec.eq_of_toNat_eq h) hx
  case h_3 => rfl
  all_goals exact absurd (hpend.symm.trans ‹(s.sent x).dies[x.lid].pend = none›) (by simp)

/-- A layer with nothing pending begins the operation of x: its anti-fuses change by f, and the data v waits for the POLL. -/
def SvcCmd.begins (x : SvcCmd) (programs : Bool) (f : List (Nat × Word32) → List (Nat × Word32))
    (v : List (Nat × Word32) → Word32) : Prop :=
  x.sop ≠ 8 ∧ ∀ s : State, s.dies[x.lid].pend = none →
    (s.sendTo x programs).1 = 1 ∧ (s.sendTo x programs).2.2.dies[x.lid].antifuse = f s.dies[x.lid].antifuse
      ∧ ∃ st, (s.sendTo x programs).2.2.dies[x.lid].pend = some (st, v s.dies[x.lid].antifuse)

variable {f : List (Nat × Word32) → List (Nat × Word32)} {v : List (Nat × Word32) → Word32}

theorem sendAndPoll_of_pending (h : (s.sendTo x programs).1 = 1) :
    s.sendAndPoll x programs = (s.sendTo x programs).2.2.sendTo x.poll programs := by
  unfold State.sendAndPoll
  generalize s.sendTo x programs = r at h ⊢
  obtain ⟨st, data, u⟩ := r
  subst h
  rfl

theorem exchange_of_pending (h : (s.sendTo x programs).1 = 1) :
    s.exchange x programs = (s.sendTo x programs).2.2.sendTo x.poll programs := by
  unfold State.exchange
  generalize s.sendTo x programs = r at h ⊢
  obtain ⟨st, data, u⟩ := r
  subst h
  rfl

theorem sendAndPoll_of_begins (h : x.begins programs f v) (hp : s.dies[x.lid].pend = none) :
    (s.sendAndPoll x programs).2.1 = v s.dies[x.lid].antifuse
      ∧ (s.sendAndPoll x programs).2.2.dies[x.lid].antifuse = f s.dies[x.lid].antifuse := by
  obtain ⟨hst, hfuse, st, hpend⟩ := h.2 s hp
  obtain ⟨hdata, hdie⟩ := sendTo_poll (programs := programs) hpend
  rw [sendAndPoll_of_pending hst, hdata, hdie]
  exact ⟨rfl, hfuse⟩

/-- The exchange of an operation that a layer may begin at once, or only after the POLL of an earlier one. -/
theorem exchange_of_begins (h : x.begins programs f v) :
    (s.exchange x programs).2.1 = v s.dies[x.lid].antifuse
      ∧ (s.exchange x programs).2.2.dies[x.lid].antifuse = f s.dies[x.lid].antifuse := by
  cases hp : s.dies[x.lid].pend with
  | none =>
    have hst := (h.2 s hp).1
    rw [exchange_of_pending hst, ← sendAndPoll_of_pending hst]
    exact sendAndPoll_of_begins h hp
  | some q =>
    obtain ⟨-, hdie⟩ := sendTo_poll (s := s.sent x) (programs := programs) hp
    have hsend : s.exchange x programs = ((s.sent x).sendTo x.poll programs).2.2.sendAndPoll x programs := by
      unfold State.exchange
      rw [sendTo_busy h.1 hp]
      rfl
    have hpend : ((s.sent x).sendTo x.poll programs).2.2.dies[x.lid].pend = none := by rw [hdie]
    have hfuse : ((s.sent x).sendTo x.poll programs).2.2.dies[x.lid].antifuse = s.dies[x.lid].antifuse := by
      rw [hdie]
      rfl
    rw [hsend, ← hfuse]
    exact sendAndPoll_of_begins h hpend

end

/-! ## FUSE_RD and FUSE_PGM (R472, R473) -/

section
variable (l : Fin 16) {w : Nat}

theorem svcCmd_addr (hw : w < 2048) (sop : BitVec 4) (n : Nat) : (svcCmd l sop w n).addr.toNat % 2048 = w := by
  simp only [svcCmd, BitVec.toNat_ofNat]
  omega

theorem fuseRd_begins (hw : w < 2048) (programs : Bool) :
    (svcCmd l 3 w 0).begins programs id (fun m => sparseGet m w) := by
  refine ⟨by simp [svcCmd], fun s hp => ?_⟩
  have hsop : (svcCmd l 3 w 0).sop.toNat = 3 := rfl
  have hpend : (s.sent (svcCmd l 3 w 0)).dies[(svcCmd l 3 w 0).lid].pend = none := hp
  rw [State.sendTo_eq]
  unfold State.layerServes
  simp only [hsop, hpend, svcCmd_addr l hw, State.updDie_self]
  exact ⟨trivial, rfl, 0, rfl⟩

/-- The anti-fuses of a layer after a pulse on a bit of word w. -/
def pulsed (w bit : Nat) (programs : Bool) (m : List (Nat × Word32)) : List (Nat × Word32) :=
  if programs then sparseSet m w (sparseGet m w ||| (1#32 <<< bit)) else m

theorem pulsed_getLsbD (m : List (Nat × Word32)) {bit : Nat} (hb : bit < 32) (programs : Bool) (i : Nat) :
    (sparseGet (pulsed w bit programs m) w).getLsbD i = ((sparseGet m w).getLsbD i || decide (i = bit) && programs) := by
  cases programs with
  | false => simp [pulsed]
  | true =>
    have hone : (1#32 <<< bit).getLsbD i = decide (i = bit) := by
      rw [BitVec.getLsbD_shiftLeft, BitVec.getLsbD_one]
      by_cases hi : i = bit
      · simp [hi, hb]
      · simp [hi]
        omega
    simp [pulsed, sparseGet_set_self, hone]

theorem fusePgm_begins (hw : w < 2048) {bit : Nat} (hb : bit < 32) (programs : Bool) :
    (svcCmd l 4 w bit).begins programs (pulsed w bit programs) (fun _ => 0) := by
  refine ⟨by simp [svcCmd], fun s hp => ?_⟩
  have hsop : (svcCmd l 4 w bit).sop.toNat = 4 := rfl
  have hbit : (svcCmd l 4 w bit).wdata.toNat % 32 = bit := by
    simp only [svcCmd, BitVec.toNat_ofNat]
    omega
  have hpend : (s.sent (svcCmd l 4 w bit)).dies[(svcCmd l 4 w bit).lid].pend = none := hp
  rw [State.sendTo_eq]
  unfold State.layerServes
  simp only [hsop, hpend, svcCmd_addr l hw, hbit, State.updDie_self]
  exact ⟨trivial, rfl, _, rfl⟩

variable (s : State)

theorem layerAlone_fuseRd : LayerAlone l s (s.fuseRd l w).2 :=
  layerAlone_exchange s (x := svcCmd l 3 w 0) (by simp [SvcCmd.keepsRows, svcCmd]) true

theorem fuseRd_reads (hw : w < 2048) : (s.fuseRd l w).1 = sparseGet s.dies[l].antifuse w :=
  (exchange_of_begins (s := s) (fuseRd_begins l hw true)).1

theorem fuseRd_antifuse (hw : w < 2048) : (s.fuseRd l w).2.dies[l].antifuse = s.dies[l].antifuse :=
  (exchange_of_begins (s := s) (fuseRd_begins l hw true)).2

theorem layerAlone_fusePgm (bit : Nat) (programs : Bool) : LayerAlone l s (s.fusePgm l w bit programs) :=
  layerAlone_exchange s (x := svcCmd l 4 w bit) (by simp [SvcCmd.keepsRows, svcCmd]) programs

theorem fusePgm_antifuse (hw : w < 2048) {bit : Nat} (hb : bit < 32) (programs : Bool) :
    (s.fusePgm l w bit programs).dies[l].antifuse = pulsed w bit programs s.dies[l].antifuse :=
  (exchange_of_begins (s := s) (fusePgm_begins l hw hb programs)).2

/-! ## One FUSE_PGM for each bit wanted -/

/-- One FUSE_PGM of programBits: the bit b, if it is wanted and not yet set. -/
def State.programBit (s : State) (l : Fin 16) (w : Nat) (want failBits : Word32) (b : Nat) : State :=
  if want.getLsbD b && !(sparseGet (s.dies[l]).antifuse w).getLsbD b then s.fusePgm l w b (!failBits.getLsbD b) else s

theorem State.programBits_eq (want failBits : Word32) :
    s.programBits l w want failBits = (List.range 32).foldl (·.programBit l w want failBits ·) s := rfl

theorem layerAlone_programBit (want failBits : Word32) (b : Nat) :
    LayerAlone l s (s.programBit l w want failBits b) := by
  unfold State.programBit
  split
  · exact layerAlone_fusePgm l s b _
  · exact .refl l s

/-- A step of programBits sets its bit where it is wanted and verifies, and no other. -/
theorem programBit_getLsbD (hw : w < 2048) (want failBits : Word32) {b : Nat} (hb : b < 32) (i : Nat) :
    (sparseGet (s.programBit l w want failBits b).dies[l].antifuse w).getLsbD i
      = ((sparseGet s.dies[l].antifuse w).getLsbD i || decide (i = b) && want.getLsbD b && !failBits.getLsbD b) := by
  unfold State.programBit
  split
  · next h =>
    have hwant : want.getLsbD b = true := by
      simp only [Bool.and_eq_true] at h
      exact h.1
    rw [fusePgm_antifuse l s hw hb, pulsed_getLsbD _ hb, hwant, Bool.and_true]
  · next h =>
    by_cases hi : i = b
    · subst hi
      cases hset : (sparseGet s.dies[l].antifuse w).getLsbD i with
      | true => rfl
      | false =>
        simp only [hset, Bool.not_false, Bool.and_true, Bool.not_eq_true] at h
        simp [h]
    · simp [hi]

theorem programBits_upTo (hw : w < 2048) (want failBits : Word32) {n : Nat} (hn : n ≤ 32) :
    LayerAlone l s ((List.range n).foldl (·.programBit l w want failBits ·) s)
      ∧ ∀ i, (sparseGet ((List.range n).foldl (·.programBit l w want failBits ·) s).dies[l].antifuse w).getLsbD i
        = ((sparseGet s.dies[l].antifuse w).getLsbD i || decide (i < n) && want.getLsbD i && !failBits.getLsbD i) := by
  induction n with
  | zero => exact ⟨.refl l s, fun i => by simp⟩
  | succ n ih =>
    obtain ⟨halone, hbits⟩ := ih (by omega)
    rw [List.range_succ, List.foldl_append]
    refine ⟨halone.trans (layerAlone_programBit l _ want failBits n), fun i => ?_⟩
    rw [List.foldl_cons, List.foldl_nil, programBit_getLsbD l _ hw want failBits (by omega), hbits]
    by_cases hi : i = n
    · subst hi
      simp
    · have hlt : (i < n + 1) = (i < n) := by
        apply propext
        omega
      simp [hi, hlt]

theorem layerAlone_programBits (hw : w < 2048) (want failBits : Word32) :
    LayerAlone l s (s.programBits l w want failBits) := (programBits_upTo l s hw want failBits (Nat.le_refl 32)).1

/-- The word takes the bits wanted that verify (R473). -/
theorem programBits_word (hw : w < 2048) (want failBits : Word32) :
    sparseGet (s.programBits l w want failBits).dies[l].antifuse w
      = sparseGet s.dies[l].antifuse w ||| (want &&& ~~~failBits) := by
  refine BitVec.eq_of_getLsbD_eq fun i hi => ?_
  have hbit := (programBits_upTo l s hw want failBits (Nat.le_refl 32)).2 i
  rw [← State.programBits_eq] at hbit
  rw [hbit]
  simp [hi]

end
end Sys2Proof.Machine

/-! Fuse commands and the fuse controller (R415, R416, R467 to R473): what waits for the controller, what a layer word
takes and what the controller blows; from these the settlement of `Obligations.JmpFusesProgram`. -/

namespace Sys2Proof.Machine

open Sys2Proof.Safety

/-! ## What an answer leaves -/

section
variable (s : State) (k : Slot) (seq : BitVec 16) (r : Response)

/-- A response is entered in its session and, for a privileged command, in the ledger (R371). -/
theorem State.respond_cases : s.respond k seq r = s.updSession k (·.respond seq r)
    ∨ ∃ op, s.respond k seq r = (s.updSession k (·.respond seq r)).recordPrivileged k op r := by
  unfold State.respond
  dsimp only
  split
  · split
    · exact .inr ⟨_, rfl⟩
    · exact .inl rfl
  · exact .inl rfl

@[simp] theorem State.recordPrivileged_nv_efuse (op : BitVec 16) :
    (s.recordPrivileged k op r).nv.efuse = s.nv.efuse := State.ledger_nv_efuse _ _ _

@[simp] theorem State.respond_chans : (s.respond k seq r).chans = s.chans := by
  rcases s.respond_cases k seq r with h | ⟨op, h⟩
  · rw [h, State.updSession_chans]
  · rw [h, State.recordPrivileged, State.ledger_chans, State.updSession_chans]

@[simp] theorem State.respond_dies : (s.respond k seq r).dies = s.dies := by
  rcases s.respond_cases k seq r with h | ⟨op, h⟩
  · rw [h, State.updSession_dies]
  · rw [h, State.recordPrivileged, State.ledger_dies, State.updSession_dies]

@[simp] theorem State.respond_dens : (s.respond k seq r).dens = s.dens := by
  rcases s.respond_cases k seq r with h | ⟨op, h⟩
  · rw [h, State.updSession_dens]
  · rw [h, State.recordPrivileged, State.ledger_dens, State.updSession_dens]

@[simp] theorem State.respond_fuseQueue : (s.respond k seq r).fuseQueue = s.fuseQueue := by
  rcases s.respond_cases k seq r with h | ⟨op, h⟩
  · rw [h, State.updSession_fuseQueue]
  · rw [h, State.recordPrivileged, State.ledger_fuseQueue, State.updSession_fuseQueue]

@[simp] theorem State.respond_nv_efuse : (s.respond k seq r).nv.efuse = s.nv.efuse := by
  rcases s.respond_cases k seq r with h | ⟨op, h⟩
  · rw [h, State.updSession_nv]
  · rw [h, State.recordPrivileged_nv_efuse, State.updSession_nv]

variable (x : Cmd)

@[simp] theorem State.answer_chans : (s.answer k x r).chans = s.chans := (s.answer_frame k x r).1
@[simp] theorem State.answer_dies : (s.answer k x r).dies = s.dies := State.respond_dies _ k x.seq r
@[simp] theorem State.answer_dens : (s.answer k x r).dens = s.dens := State.respond_dens _ k x.seq r
@[simp] theorem State.answer_fuseQueue : (s.answer k x r).fuseQueue = s.fuseQueue := State.respond_fuseQueue _ k x.seq r
@[simp] theorem State.answer_nv_efuse : (s.answer k x r).nv.efuse = s.nv.efuse := State.respond_nv_efuse _ k x.seq r

end

/-! ## A word that waits for the controller (R467) -/

section
variable {s : State} {k : Slot} {x : Cmd}

theorem Session.find_mark {cmds : List Cmd} {seq : BitVec 16} (st : CmdState) (h : cmds.find? (fun c => c.seq == seq) = some x) :
    (cmds.map (fun c => if c.seq == seq then { c with state := st } else c)).find? (fun c => c.seq == seq)
      = some { x with state := st } := by
  have hseq : (x.seq == seq) = true := by simpa using List.find?_some h
  have hsame : ((fun c : Cmd => c.seq == seq) ∘ fun c => if c.seq == seq then { c with state := st } else c)
      = fun c => c.seq == seq := by
    funext c
    simp only [Function.comp_apply]
    split <;> rfl
  rw [List.find?_map, hsame, h, Option.map_some, if_pos hseq]

theorem begun_markCmd (h : s.sessions[k].find x.seq = some x) : begun ((s.takeTurn k).markCmd k x.seq .started) k x := by
  unfold begun State.markCmd
  rw [State.updSession_self]
  exact Session.find_mark .started (by rw [← Session.find, State.takeTurn_find, h])

section
variable (w : Nat) (bits : Word32)

theorem State.startFuse_chans : (s.startFuse k x w bits).chans = s.chans := by
  simp [State.startFuse, State.queueFuse, State.markCmd, State.takeTurn]

theorem State.startFuse_nv : (s.startFuse k x w bits).nv = s.nv := by
  simp [State.startFuse, State.queueFuse, State.markCmd, State.takeTurn]

theorem State.startFuse_sessions :
    (s.startFuse k x w bits).sessions = ((s.takeTurn k).markCmd k x.seq .started).sessions := by
  simp [State.startFuse, State.queueFuse]

theorem State.startFuse_fuseQueue : (s.startFuse k x w bits).fuseQueue
    = s.fuseQueue ++ [{ word := Fin.ofNat 512 w, bits := fuseEncode bits, owner := some (k, x.seq) }] := by
  simp [State.startFuse, State.queueFuse, State.markCmd, State.takeTurn]

theorem queuesFuse_startFuse (h : s.sessions[k].find x.seq = some x) :
    queuesFuse s (s.startFuse k x w bits) k x w bits := by
  refine ⟨?_, State.startFuse_fuseQueue w bits, State.startFuse_nv w bits, State.startFuse_chans w bits⟩
  rw [begun, State.startFuse_sessions]
  exact begun_markCmd h

end

/-! ## Pulses (R467) -/

/-- PULSES may open a free value, and nothing else changes. -/
theorem State.pulses_eq (s : State) (nothing failed : Bool) :
    ∃ n fresh, s.pulses nothing failed = (n, { s with fresh := fresh }) := by
  unfold State.pulses
  split
  · exact ⟨_, _, rfl⟩
  · split
    · exact ⟨_, _, rfl⟩
    · exact ⟨_, _, rfl⟩

/-- A bit that failed took three. -/
theorem State.pulses_failed : s.pulses false true = (3, s) := rfl

/-! ## FUSE_PROGRAM (R415, R469, R473) -/

/-- The fields of a FUSE_PROGRAM payload. -/
theorem fuseProgram_fields {b : List Byte} {target : Byte} {w : Nat} {bits : Word32} (hw : w < 0x10000)
    (hb : b = [target, 0] ++ natBytes 2 w ++ natBytes 4 bits.toNat) :
    fuseTarget b = target.toNat ∧ fuseWordOf b = w ∧ BitVec.ofNat 32 (fieldAt b 4 4) = bits ∧ shaped b 8 [1] = true := by
  rw [List.append_assoc] at hb
  refine ⟨?_, ?_, ?_, ?_⟩
  · rw [hb]
    exact fieldAt_head target _
  · rw [hb]
    exact fieldAt_natBytes (by omega) _
  · have hbits : fieldAt b 4 4 = bits.toNat := by
      rw [hb, ← List.append_nil (natBytes 4 bits.toNat)]
      exact (fieldAt_behind 2 w _ 0 4).trans (fieldAt_natBytes bits.isLt _)
    rw [hbits, BitVec.ofNat_toNat, BitVec.setWidth_eq]
  · simp [hb, shaped]

variable {failBits : Word32}

theorem fuseProgram_base (w : Fin 512) (bits : Word32)
    (hb : x.payload = [0, 0] ++ natBytes 2 w.val ++ natBytes 4 bits.toNat) (ha : (s.fuseAllowed w.val bits).1 = stOk)
    (h : served s k x 0x0A01 false (some 0)) :
    exec (.fuseProgram k failBits) s = .next (s.startFuse k x w.val bits) := by
  obtain ⟨htarget, hw, hbits, hshape⟩ := fuseProgram_fields (by omega) hb
  rw [next_of_served (i := .fuseProgram k failBits) h rfl (by decide) (isOp_of_opcode (opcode_of_served h))]
  have hbase : fuseTarget x.payload = 0 := htarget
  simp only [hbase, hw, hbits]
  rw [State.valid_true s k x (by simp [hshape]), if_pos trivial, if_pos ha]

theorem fuseProgram_layer (l : Fin 16) {w : Nat} (bits : Word32) (hlo : 0x400 ≤ w) (hhi : w < 0x800)
    (hl : l.val < s.layerCount) (hb : x.payload = [byteOf (l.val + 1), 0] ++ natBytes 2 w ++ natBytes 4 bits.toNat)
    (hbus : s.busFailed.getLsbD l.val = false) (h : served s k x 0x0A01 false (some 0)) :
    exec (.fuseProgram k failBits) s = .next (s.programLayer k x l w bits failBits) := by
  obtain ⟨htarget, hw, hbits, hshape⟩ := fuseProgram_fields (by omega) hb
  have hbyte : (byteOf (l.val + 1)).toNat = l.val + 1 := byteOf_fin_toNat (⟨l.val + 1, by omega⟩ : Fin 17) (by omega)
  have hlayer : targetLayer (l.val + 1) = l := by simp [targetLayer]
  have hnamed : s.layerNamed (l.val + 1) = true := by simp [State.layerNamed]; omega
  rw [next_of_served (i := .fuseProgram k failBits) h rfl (by decide) (isOp_of_opcode (opcode_of_served h))]
  simp only [htarget, hbyte, hw, hbits, hlayer]
  rw [State.valid_true s k x (by simp [hshape, hnamed, hlo, hhi]), if_neg (by omega), if_neg (by rw [hbus]; decide)]

theorem or_and_not_self (a b c : Word32) : a ||| (b &&& ~~~a &&& c) = a ||| (b &&& c) := by
  ext i hi
  cases ha : a[i] with
  | true => simp [ha]
  | false => simp [ha]

/-- The bits of a layer word that a program wants and that do not verify (R473). -/
def State.layerFailed (s : State) (l : Fin 16) (w : Nat) (bits failBits : Word32) : Word32 :=
  bits &&& ~~~sparseGet (s.dies[l]).antifuse w &&& failBits

theorem State.programLayer_eq (l : Fin 16) (w : Nat) (bits : Word32) :
    ∃ n fresh, s.programLayer k x l w bits failBits
      = ({ s.programBits l w bits failBits with fresh := fresh } : State).answer k x
          (fuseResp (decide (s.layerFailed l w bits failBits = 0))
            (wordBytes (s.layerFailed l w bits failBits) ++ [n, 0, 0, 0])) := by
  obtain ⟨n, fresh, hpulses⟩ := (s.programBits l w bits failBits).pulses_eq
    (bits &&& ~~~sparseGet (s.dies[l]).antifuse w == 0) (s.layerFailed l w bits failBits != 0)
  refine ⟨n, fresh, ?_⟩
  unfold State.layerFailed at hpulses ⊢
  simp only [State.programLayer, hpulses, fuseResp, decide_eq_true_eq]

/-- A layer word takes the bits that verify, and the answer names those that do not (R473). -/
theorem programLayer_answers (l : Fin 16) {w : Nat} (bits : Word32) (hw : w < 0x800)
    (hfind : s.sessions[k].find x.seq = some x) (hd : x.state ≠ .done) :
    ∃ n, (s.programLayer k x l w bits failBits).chans = s.chans
      ∧ answered (s.programLayer k x l w bits failBits) k x
        (fuseResp (decide (s.layerFailed l w bits failBits = 0))
          (wordBytes (s.layerFailed l w bits failBits) ++ [n, 0, 0, 0]))
      ∧ sparseGet ((s.programLayer k x l w bits failBits).dies[l]).antifuse w = sparseGet (s.dies[l]).antifuse w
          ||| (bits &&& ~~~sparseGet (s.dies[l]).antifuse w &&& ~~~failBits)
      ∧ ∀ j : Fin 16, j ≠ l → (s.programLayer k x l w bits failBits).dies[j] = s.dies[j] := by
  obtain ⟨hrest, hother⟩ := layerAlone_programBits l s hw bits failBits
  have hword := programBits_word l s hw bits failBits
  obtain ⟨n, fresh, heq⟩ := State.programLayer_eq (s := s) (k := k) (x := x) (failBits := failBits) l w bits
  have hchans : (s.programBits l w bits failBits).chans = s.chans := by rw [hrest]
  have hsess : (s.programBits l w bits failBits).sessions = s.sessions := by rw [hrest]
  rw [heq]
  refine ⟨n, ?_, ?_, ?_, fun j hj => ?_⟩
  · rw [State.answer_chans, hchans]
  · exact State.answer_answered _ k x _ (by rw [hsess, hfind]) hd
  · rw [State.answer_dies, hword]
    exact (or_and_not_self _ _ _).symm
  · rw [State.answer_dies]
    exact hother j hj

/-! ## FUSE_LOCK (R416, R471) -/

theorem fuseLock_exec (r : Fin 6) (kind : Fin 2) {i : Instr} (hb : x.payload = [byteOf r.val, byteOf kind.val, 0, 0])
    (h : served s k x 0x0A02 false (some 0)) (hi : i = if kind = 0 then .fuseLockWrite k else .fuseLockRead k) :
    exec i s = .next (s.fuseLock k x kind.val) := by
  have hop := opcode_of_served h
  have hkind : fieldAt x.payload 1 1 = kind.val := by simp [hb]
  subst hi
  match kind with
  | 0 => exact next_of_served (i := .fuseLockWrite k) h rfl (by decide) (isOpFirst_of_opcode hop hkind)
  | 1 => exact next_of_served (i := .fuseLockRead k) h rfl (by decide) (isOpAt_of_opcode hop hkind)

theorem State.fuseLock_eq (r : Fin 6) (kind : Fin 2) (hb : x.payload = [byteOf r.val, byteOf kind.val, 0, 0]) :
    s.fuseLock k x kind.val
      = if s.fuseBlown (Fin.ofNat 512 (0x1C0 + 2 * r.val + kind.val)) then s.ok k x
        else if s.lockReady r.val then s.startFuse k x (0x1C0 + 2 * r.val + kind.val) (lockValue r.val kind.val)
        else s.fails k x stDenied 0x0C := by
  have hr : fieldAt x.payload 0 1 = r.val := by simp [hb]
  have hkind : fieldAt x.payload 1 1 = kind.val := by simp [hb]
  unfold State.fuseLock
  simp only [hr, hkind]
  exact State.valid_true s k x (by simp [hb, shaped]) _

theorem fuseLock_outcomes (r : Fin 6) (kind : Fin 2) {i : Instr} (hb : x.payload = [byteOf r.val, byteOf kind.val, 0, 0])
    (h : served s k x 0x0A02 false (some 0)) (hi : i = if kind = 0 then .fuseLockWrite k else .fuseLockRead k) :
    (s.fuseBlown (Fin.ofNat 512 (0x1C0 + 2 * r.val + kind.val)) = true → ∃ t, exec i s = .next t
        ∧ answered t k x (okResp []) ∧ t.fuseQueue = s.fuseQueue ∧ t.nv.efuse = s.nv.efuse)
      ∧ (s.fuseBlown (Fin.ofNat 512 (0x1C0 + 2 * r.val + kind.val)) = false → s.lockReady r.val = true →
        ∃ t, exec i s = .next t ∧ queuesFuse s t k x (0x1C0 + 2 * r.val + kind.val) (lockValue r.val kind.val))
      ∧ (s.fuseBlown (Fin.ofNat 512 (0x1C0 + 2 * r.val + kind.val)) = false → s.lockReady r.val = false →
        ∃ t, exec i s = .next t ∧ answered t k x { status := stDenied, detail := 0x0C } ∧ t.fuseQueue = s.fuseQueue
          ∧ t.nv.efuse = s.nv.efuse ∧ t.chans = s.chans) := by
  have hfind := find_of_served h
  have hd := not_done_of_served h
  have hx := fuseLock_exec r kind hb h hi
  rw [State.fuseLock_eq r kind hb] at hx
  refine ⟨fun hblown => ?inForce, fun hblown hready => ?ready, fun hblown hready => ?denied⟩
  case inForce =>
    rw [if_pos hblown, State.ok_eq_answer] at hx
    exact ⟨_, hx, State.answer_answered s k x _ hfind hd, State.answer_fuseQueue .., State.answer_nv_efuse ..⟩
  case ready =>
    rw [if_neg (by rw [hblown]; decide), if_pos hready] at hx
    exact ⟨_, hx, queuesFuse_startFuse _ _ hfind⟩
  case denied =>
    rw [if_neg (by rw [hblown]; decide), if_neg (by rw [hready]; decide), State.fails_eq_answer] at hx
    exact ⟨_, hx, State.answer_answered s k x _ hfind hd, State.answer_fuseQueue .., State.answer_nv_efuse ..,
      State.answer_chans ..⟩

/-! ## The answer to the owner of a word (R467) -/

theorem answered_respond (r : Response) (h : s.sessions[k].find x.seq = some x) (hd : x.state ≠ .done) :
    answered (s.respond k x.seq r) k x r := by
  unfold answered
  rw [State.respond_sessions, State.updSession_self]
  exact Session.find_respond _ _ _ _ h hd

section
variable (owner : Option (Slot × BitVec 16)) (status detail : Byte) (bits : Word32) (n : Byte)

/-- The answer to a word's owner leaves the machine but for its response, the words it had queued and an activation. -/
theorem State.answerWord_frame : (s.answerWord owner status detail bits n).chans = s.chans
    ∧ (s.answerWord owner status detail bits n).nv.efuse = s.nv.efuse := by
  unfold State.answerWord
  split
  · exact ⟨rfl, rfl⟩
  · split
    · exact ⟨rfl, rfl⟩
    · split
      · exact ⟨rfl, rfl⟩
      · split
        · unfold State.activated
          exact ⟨State.respond_chans .., State.respond_nv_efuse ..⟩
        · exact ⟨State.respond_chans .., State.respond_nv_efuse ..⟩

variable {owner}

/-- The last word of a command that is no activation answers it. -/
theorem State.answerWord_last (ho : owner = some (k, x.seq)) (hfind : s.sessions[k].find x.seq = some x)
    (hlast : s.queuedFor owner = false) (hop : x.opcode ≠ opFwActivate) :
    s.answerWord owner status detail bits n
      = (s.dropQueued owner).respond k x.seq { status := status, detail := detail, payload := fuseAnswer x bits n } := by
  subst ho
  unfold State.answerWord
  simp only [hfind]
  rw [if_neg (by simp [hlast]), if_neg hop]

end

/-! ## FUSE_WORD_PROGRAM (R467) -/

section
variable {j : FuseJob} {rest : List FuseJob} {fails : BitVec 39}

/-- The status of a word by the bits that did not verify. -/
def wordStatus (bits fails : BitVec 39) : Byte := if bits &&& fails = 0 then stOk else stNvFail

/-- The state in which the controller has taken its word and blown what verifies; the count of pulses may be a free value. -/
def State.wordBlown (s : State) (j : FuseJob) (rest : List FuseJob) (fails : BitVec 39) (fresh : Nat) : State :=
  { ({ s with fuseQueue := rest } : State).blow j.word.val j.bits fails with fresh := fresh }

theorem State.programWord_eq (hraw : s.rawFuse j.word.val = 0) :
    ∃ n fresh, ({ s with fuseQueue := rest } : State).programWord j fails
      = (s.wordBlown j rest fails fresh).answerWord j.owner (wordStatus j.bits fails) 0 (failWord j.bits fails) n := by
  have hraw' : ({ s with fuseQueue := rest } : State).rawFuse j.word.val = 0 := hraw
  obtain ⟨n, fresh, hpulses⟩ := (({ s with fuseQueue := rest } : State).blow j.word.val j.bits fails).pulses_eq
    (j.bits == 0) ((j.bits &&& fails) != 0)
  have hstatus : (if ((j.bits &&& fails) != 0) = true then stNvFail else stOk) = wordStatus j.bits fails := by
    simp [wordStatus]
  refine ⟨n, fresh, ?_⟩
  unfold State.programWord State.wordBlown
  rw [if_neg (by simp [hraw'])]
  simp only [hpulses, hstatus]

/-- The controller out of reset and before a trip takes the first word that waits. -/
theorem fuseWordProgram_exec (hq : s.fuseQueue = j :: rest) (hr : s.inReset = false) (hl : s.fuse.loaded = true)
    (ht : s.thermal.trip = false) :
    exec (.fuseWordProgram fails) s = .next (({ s with fuseQueue := rest } : State).programWord j fails) := by
  have hx : exec (.fuseWordProgram fails) s = execFuseWordProgram fails s := rfl
  rw [hx]
  unfold execFuseWordProgram
  simp only [hq, hr, hl, ht]
  rfl

section
variable (fresh : Nat)

theorem State.wordBlown_fuseQueue : (s.wordBlown j rest fails fresh).fuseQueue = rest := rfl

theorem State.wordBlown_self (hraw : s.rawFuse j.word.val = 0) :
    sparseGet (s.wordBlown j rest fails fresh).nv.efuse j.word.val = j.bits &&& ~~~fails := by
  have hself : sparseGet (s.wordBlown j rest fails fresh).nv.efuse j.word.val
      = s.rawFuse j.word.val ||| (j.bits &&& ~~~fails) := sparseGet_set_self
  rw [hself, hraw]
  exact BitVec.zero_or

theorem State.wordBlown_other {w : Nat} (hw : w ≠ j.word.val) :
    sparseGet (s.wordBlown j rest fails fresh).nv.efuse w = s.rawFuse w := sparseGet_set_other hw

/-- With no other word of the command waiting, the word answers it with what its layout has (R415, R416). -/
theorem wordBlown_answered (n : Byte) {owner : Option (Slot × BitVec 16)} (ho : owner = some (k, x.seq))
    (hfind : s.sessions[k].find x.seq = some x) (hd : x.state ≠ .done) (hlast : ∀ y ∈ rest, y.owner ≠ owner)
    (hop : x.opcode ≠ opFwActivate) :
    answered ((s.wordBlown j rest fails fresh).answerWord owner (wordStatus j.bits fails) 0 (failWord j.bits fails) n) k x
      (fuseResp (decide (j.bits &&& fails = 0)) (fuseAnswer x (failWord j.bits fails) n)) := by
  have hqueued : (s.wordBlown j rest fails fresh).queuedFor owner = false := by
    simp only [State.queuedFor, State.wordBlown_fuseQueue, Bool.and_eq_false_iff, List.any_eq_false]
    exact .inr fun y hy => by simpa using hlast y hy
  have hstatus : wordStatus j.bits fails = if decide (j.bits &&& fails = 0) then stOk else stNvFail := by
    simp [wordStatus]
  have hfind' : (s.wordBlown j rest fails fresh).sessions[k].find x.seq = some x := hfind
  have hdropped : ((s.wordBlown j rest fails fresh).dropQueued owner).sessions[k].find x.seq = some x := hfind
  rw [State.answerWord_last _ _ _ _ ho hfind' hqueued hop, fuseResp, ← hstatus]
  exact answered_respond _ hdropped hd

end

theorem fuseWordProgram_answers (hq : s.fuseQueue = j :: rest) (hr : s.inReset = false) (hl : s.fuse.loaded = true)
    (ht : s.thermal.trip = false) (hraw : s.rawFuse j.word.val = 0) :
    ∃ t, exec (.fuseWordProgram fails) s = .next t ∧ t.rawFuse j.word.val = j.bits &&& ~~~fails ∧ t.chans = s.chans
      ∧ (∀ w : Nat, w ≠ j.word.val → t.rawFuse w = s.rawFuse w)
      ∧ (j.owner = none → t.fuseQueue = rest)
      ∧ ∀ (k : Slot) (x : Cmd), j.owner = some (k, x.seq) → s.sessions[k].find x.seq = some x → x.state ≠ .done →
          (∀ y ∈ rest, y.owner ≠ j.owner) →
          (x.opcode = 0x0A01 → ∃ n, answered t k x
            (fuseResp (decide (j.bits &&& fails = 0)) (wordBytes (failWord j.bits fails) ++ [n, 0, 0, 0])))
          ∧ (x.opcode = 0x0A02 → answered t k x (fuseResp (decide (j.bits &&& fails = 0)) ([]))) := by
  obtain ⟨n, fresh, hword⟩ := State.programWord_eq (rest := rest) (fails := fails) hraw
  have hx := fuseWordProgram_exec (fails := fails) hq hr hl ht
  rw [hword] at hx
  obtain ⟨hchans, hfuse⟩ := (s.wordBlown j rest fails fresh).answerWord_frame j.owner (wordStatus j.bits fails) 0
    (failWord j.bits fails) n
  refine ⟨_, hx, ?blown, hchans, fun w hw => ?kept, fun ho => ?unowned, fun k x ho hfind hd hlast => ⟨fun hop => ⟨n, ?word⟩,
    fun hop => ?lock⟩⟩
  case blown =>
    exact (congrArg (sparseGet · j.word.val) hfuse).trans (State.wordBlown_self fresh hraw)
  case kept =>
    exact (congrArg (sparseGet · w) hfuse).trans (State.wordBlown_other fresh hw)
  case unowned =>
    rw [ho]
    rfl
  case word =>
    have hpay : fuseAnswer x (failWord j.bits fails) n = wordBytes (failWord j.bits fails) ++ [n, 0, 0, 0] := by
      simp [fuseAnswer, hop]
    have hans := wordBlown_answered (j := j) (fails := fails) fresh n ho hfind hd hlast (by rw [hop]; decide)
    rwa [hpay] at hans
  case lock =>
    have hpay : fuseAnswer x (failWord j.bits fails) n = [] := by
      simp [fuseAnswer, hop]
    have hans := wordBlown_answered (j := j) (fails := fails) fresh n ho hfind hd hlast (by rw [hop]; decide)
    rwa [hpay] at hans

end

end

/-! ## The obligation -/

/-- Settles O60: a word that waits and a lock by their answers, a layer word by its bits, and the controller by the word it
blows. -/
theorem jmpFusesProgram : Obligations.JmpFusesProgram := by
  refine ⟨fun k x failBits s => ⟨fun w bits hb ha h => ?base, fun l w bits hlo hhi hl hb hbus h => ?layer,
    fun r kind i hb h hi => fuseLock_outcomes r kind hb h hi⟩, fun fails j rest s => fuseWordProgram_answers⟩
  case base =>
    exact ⟨_, fuseProgram_base w bits hb ha h, queuesFuse_startFuse _ _ (find_of_served h)⟩
  case layer =>
    obtain ⟨n, hchans, hans, hword, hother⟩ := programLayer_answers (failBits := failBits) l bits hhi (find_of_served h)
      (not_done_of_served h)
    exact ⟨_, n, fuseProgram_layer l bits hlo hhi hl hb hbus h, hchans, hans, hword, hother⟩

end Sys2Proof.Machine

/-! Operations that hold the quiesce of a pseudo-channel, and transfer images (R17, R71): what their starts and ends leave of the
pseudo-channels. -/

namespace Sys2Proof.Machine

open Sys2Proof.Safety

/-! ## Memory that keeps its content -/

/-- Two states of a pseudo-channel store the same bytes, over the same content of what is not stored (Table 4-8). -/
structure SameCells (q r : PseudoChannel) : Prop where
  dram : r.dram = q.dram
  back : r.back = q.back
  backRsv : r.backRsv = q.backRsv
  backSpare : r.backSpare = q.backSpare

theorem SameCells.refl (q : PseudoChannel) : SameCells q q := ⟨rfl, rfl, rfl, rfl⟩

theorem SameCells.trans {q r t : PseudoChannel} (h : SameCells q r) (h' : SameCells r t) : SameCells q t :=
  ⟨h'.dram.trans h.dram, h'.back.trans h.back, h'.backRsv.trans h.backRsv, h'.backSpare.trans h.backSpare⟩

theorem SameCells.readByte {q r : PseudoChannel} (h : SameCells q r) (rows a : Nat) : r.readByte rows a = q.readByte rows a := by
  simp only [PseudoChannel.readByte, PseudoChannel.background, h.dram, h.back, h.backRsv, h.backSpare]

theorem memKept_of_sameCells {s t : State} (hd : t.dens = s.dens)
    (h : ∀ (c : Ch) (p : Pc), SameCells s.chans[c].pcs[p] t.chans[c].pcs[p]) : memKept s t := by
  have hrows : t.rows = s.rows := by simp only [State.rows, hd]
  intro c p a
  rw [hrows]
  exact (h c p).readByte _ _

theorem memKept_congr {s t u : State} (hc : u.chans = t.chans) (hd : u.dens = t.dens) (h : memKept s t) : memKept s u := by
  have hrows : u.rows = t.rows := by simp only [State.rows, hd]
  intro c p a
  rw [hc, hrows]
  exact h c p a

theorem memKept_trans {s t u : State} (h : memKept s t) (h' : memKept t u) : memKept s u :=
  fun c p a => (h' c p a).trans (h c p a)

/-! ## Quiesce ends (R71) -/

/-- Nothing but the refresh obligation and the quiesce flags differs between two states of a pseudo-channel. -/
def QuiesceAlone (q r : PseudoChannel) : Prop :=
  r = { q with banks := r.banks, ticks := r.ticks, qact := r.qact, releaseHeld := r.releaseHeld }

theorem QuiesceAlone.refl (q : PseudoChannel) : QuiesceAlone q q := rfl

theorem QuiesceAlone.trans {q r t : PseudoChannel} (h : QuiesceAlone q r) (h' : QuiesceAlone r t) : QuiesceAlone q t := by
  rw [QuiesceAlone, h', h]

theorem QuiesceAlone.op_eq {q r : PseudoChannel} (h : QuiesceAlone q r) : r.op = q.op := by
  rw [h]

theorem QuiesceAlone.sameCells {q r : PseudoChannel} (h : QuiesceAlone q r) : SameCells q r := by
  rw [h]
  exact ⟨rfl, rfl, rfl, rfl⟩

theorem quiesceAlone_settleQact (q : PseudoChannel) : QuiesceAlone q q.settleQact := by
  unfold PseudoChannel.settleQact
  split <;> rfl

theorem quiesceAlone_released (q : PseudoChannel) :
    QuiesceAlone q { q.restartObligation with qact := false, releaseHeld := false }.settleQact :=
  QuiesceAlone.trans (r := { q.restartObligation with qact := false, releaseHeld := false }) rfl (quiesceAlone_settleQact _)

theorem quiesceAlone_carry (q : PseudoChannel) (list : List OwedRow) : QuiesceAlone q (q.carry list) := by
  unfold PseudoChannel.carry
  exact List.foldlRecOn list _ (.refl q) fun r h x _ => h.trans rfl

section
variable (h : Channel)

theorem Channel.updPc_at (p q : Pc) (f : PseudoChannel → PseudoChannel) :
    (h.updPc p f).pcs[q] = if q = p then f h.pcs[q] else h.pcs[q] := by
  split
  · next e => rw [e, Channel.updPc_self]
  · next e => rw [Channel.updPc_other _ _ e]

/-- Nothing but the threads and what quiesce governs differs between two states of a channel. -/
def ReleaseAlone (h k : Channel) : Prop :=
  k = { h with pcs := k.pcs, taper := { h.taper with threads := k.taper.threads } }
    ∧ ∀ q : Pc, QuiesceAlone h.pcs[q] k.pcs[q]

theorem ReleaseAlone.refl : ReleaseAlone h h := ⟨rfl, fun _ => .refl _⟩

theorem ReleaseAlone.trans {h k m : Channel} (e : ReleaseAlone h k) (e' : ReleaseAlone k m) : ReleaseAlone h m :=
  ⟨by rw [e'.1, e.1], fun q => (e.2 q).trans (e'.2 q)⟩

theorem releaseAlone_updPc (p : Pc) {f : PseudoChannel → PseudoChannel} (hf : ∀ q, QuiesceAlone q (f q)) :
    ReleaseAlone h (h.updPc p f) := by
  refine ⟨rfl, fun q => ?_⟩
  rw [Channel.updPc_at]
  split
  · exact hf _
  · exact .refl _

theorem releaseAlone_revoke (pcs : BitVec 2) : ReleaseAlone h (h.revoke pcs) := by
  have hcarry := List.foldlRecOn (motive := ReleaseAlone h) (h.taper.threads.filter (·.dependsOn pcs))
    (fun (k : Channel) x => k.updPc x.addr.pc (fun q => q.carry x.owed)) (.refl h)
    fun k hk x _ => hk.trans (releaseAlone_updPc k _ (quiesceAlone_carry · x.owed))
  exact hcarry.trans ⟨rfl, fun _ => .refl _⟩

theorem releaseAlone_releaseQact (p : Pc) : ReleaseAlone h (h.releaseQact p) :=
  (releaseAlone_updPc h p quiesceAlone_released).trans (releaseAlone_revoke _ _)

/-- The end of an operation frees its pseudo-channel, and a release that waited takes effect. -/
theorem releaseAlone_opEnds (p : Pc) : ReleaseAlone (h.updPc p (fun q => { q with op := none })) (h.opEnds p) := by
  unfold Channel.opEnds
  dsimp only
  split
  · exact releaseAlone_releaseQact _ p
  · exact .refl _

/-- Operations end: the lanes and the memory stay, and no operation begins. -/
structure OpsEnd (h k : Channel) : Prop where
  lanes : k.lanes = h.lanes
  cells : ∀ q : Pc, SameCells h.pcs[q] k.pcs[q]
  free : ∀ q : Pc, h.pcs[q].op = none → k.pcs[q].op = none

theorem OpsEnd.refl : OpsEnd h h := ⟨rfl, fun _ => .refl _, fun _ => id⟩

theorem OpsEnd.trans {h k m : Channel} (e : OpsEnd h k) (e' : OpsEnd k m) : OpsEnd h m :=
  ⟨e'.lanes.trans e.lanes, fun q => (e.cells q).trans (e'.cells q), fun q hq => e'.free q (e.free q hq)⟩

theorem ReleaseAlone.opsEnd {h k : Channel} (e : ReleaseAlone h k) : OpsEnd h k := by
  obtain ⟨hk, hpcs⟩ := e
  exact ⟨by rw [hk], fun q => (hpcs q).sameCells, fun q hq => (hpcs q).op_eq.trans hq⟩

theorem opsEnd_clear (p : Pc) : OpsEnd h (h.updPc p (fun q => { q with op := none })) := by
  refine ⟨rfl, fun q => ?_, fun q hq => ?_⟩
  · rw [Channel.updPc_at]
    split <;> exact ⟨rfl, rfl, rfl, rfl⟩
  · rw [Channel.updPc_at]
    split
    · rfl
    · exact hq

theorem opsEnd_opEnds (p : Pc) : OpsEnd h (h.opEnds p) := (opsEnd_clear h p).trans (releaseAlone_opEnds h p).opsEnd

theorem Channel.opEnds_op (p : Pc) : (h.opEnds p).pcs[p].op = none := by
  rw [((releaseAlone_opEnds h p).2 p).op_eq, Channel.updPc_self]

/-- The threads of an entry of Table 6-8 end on a pseudo-channel, and with them its operation. -/
def Channel.endsEntry (n : Nat) (p : Pc) : Channel := (h.updTaper (·.endEntry n p)).opEnds p

theorem opsEnd_endsEntry (n : Nat) (p : Pc) : OpsEnd h (h.endsEntry n p) :=
  OpsEnd.trans (k := h.updTaper (·.endEntry n p)) ⟨rfl, fun _ => .refl _, fun _ => id⟩ (opsEnd_opEnds _ p)

/-- The same on each pseudo-channel of a list. -/
def Channel.endsEntries (n : Nat) (pcs : List Pc) : Channel := pcs.foldl (fun (k : Channel) p => k.endsEntry n p) h

theorem opsEnd_endsEntries (n : Nat) (pcs : List Pc) : OpsEnd h (h.endsEntries n pcs) :=
  List.foldlRecOn pcs _ (.refl h) fun k hk p _ => hk.trans (opsEnd_endsEntry k n p)

theorem Channel.endsEntries_op (n : Nat) {pcs : List Pc} {p : Pc} (hp : p ∈ pcs) : (h.endsEntries n pcs).pcs[p].op = none := by
  induction pcs generalizing h with
  | nil => cases hp
  | cons a pcs ih =>
    rcases List.mem_cons.mp hp with rfl | htail
    · exact (opsEnd_endsEntries _ n pcs).free p (Channel.opEnds_op _ p)
    · exact ih _ htail

end

theorem State.updCh_congr {s : State} {c : Ch} {f g : Channel → Channel} (h : f s.chans[c] = g s.chans[c]) :
    s.updCh c f = s.updCh c g := by
  simp only [State.updCh, h]

theorem State.updCh_id (s : State) (c : Ch) : s.updCh c (fun h => h) = s := by
  simp [State.updCh]

/-- Steps on one channel, one after the other. -/
theorem State.foldl_updCh {α : Type} (s : State) (c : Ch) (f : α → Channel → Channel) (list : List α) :
    list.foldl (fun (t : State) x => t.updCh c (f x)) s = s.updCh c (fun h => list.foldl (fun k x => f x k) h) := by
  induction list generalizing s with
  | nil => exact (s.updCh_id c).symm
  | cons x list ih => rw [List.foldl_cons, ih, State.updCh_updCh]; rfl

theorem memKept_updCh (s : State) (c : Ch) {f : Channel → Channel}
    (h : ∀ p : Pc, SameCells s.chans[c].pcs[p] (f s.chans[c]).pcs[p]) : memKept s (s.updCh c f) := by
  refine memKept_of_sameCells rfl fun d p => ?_
  by_cases hd : d = c
  · subst hd
    rw [State.updCh_self]
    exact h p
  · rw [State.updCh_other _ _ hd]
    exact .refl _

/-! ## Transfer images (R17) -/

/-- An image has passed an empty transfer area. -/
def Taper.passed (t : Taper) : Taper :=
  { t with images := [], held := [], imageSeq := t.imageSeq + 1, imageTaken := t.imageSeq + 1 }

theorem Taper.placeImage_nil {t : Taper} (h : t.images = []) (x : Transfer) :
    t.placeImage x = { t with images := [(t.imageSeq + 1, x)], imageSeq := t.imageSeq + 1 } := by
  rw [Taper.placeImage, h]
  rfl

section
variable {s : State} {c : Ch} (hi : s.chans[c].taper.images = []) (hh : s.chans[c].taper.held = [])
include hi hh

theorem State.drainImages_nil : s.drainImages c = s := by
  simp only [State.drainImages, hi, hh]
  rfl

/-- An image that finds the transfer area empty is taken at once. -/
theorem State.handImage_nil (x : Transfer) : s.handImage c x = (s.updCh c (·.updTaper (·.passed))).takeImage c x := by
  have hplace : (s.postImage c x).chans[c].taper
      = { s.chans[c].taper with images := [(s.chans[c].taper.imageSeq + 1, x)], imageSeq := s.chans[c].taper.imageSeq + 1 } := by
    rw [State.postImage, State.updCh_self]
    exact Taper.placeImage_nil hi x
  have htake : (s.postImage c x).updCh c (·.updTaper (·.takeOldest)) = s.updCh c (·.updTaper (·.passed)) := by
    rw [State.postImage, State.updCh_updCh]
    refine State.updCh_congr ?_
    simp only [Channel.updTaper, Taper.placeImage_nil hi, Taper.takeOldest, Taper.passed, hh, List.drop_nil]
  rw [State.handImage, State.drainImages_nil hi hh, State.drainImages, hplace]
  simp only [List.length_singleton, hh, List.length_nil, Nat.add_zero, List.range_one, List.foldl_cons, List.foldl_nil, hplace,
    htake]

end

end Sys2Proof.Machine

/-! SELFTEST (R71, R407, R408, R514, R515): a test starts, ends, and is ended by a release of quiesce. -/

namespace Sys2Proof.Machine

open Sys2Proof.Safety

/-! ## The arguments -/

section
variable {s : State} {sids : BitVec 4}

/-- SIDS that names none, or one that is absent. -/
theorem State.testSids_bad (h : sids = 0 ∨ ∃ d : Sid, sids.getLsbD d.val = true ∧ s.sidPresent d = false) :
    s.testSids sids = false := by
  rcases h with rfl | ⟨d, hd, hp⟩
  · rfl
  · simp only [State.testSids, Bool.and_eq_false_iff, List.all_eq_false]
    exact .inr ⟨d, List.mem_finRange d, by simp only [hd, hp]; decide⟩

theorem State.askTest_bad (c : Ch) (p : Pc) (kind : BitVec 2) (h : s.testSids sids = false) :
    s.askTest c p kind sids = .badArg := by
  rw [State.askTest, if_pos (by simp [h])]

end

/-! ## The start (R407, R514, R515) -/

theorem Channel.eventThread_cases (h : Channel) (halt : Bool) (n : Nat) (addr : ThreadAddr) (lease : Option Lease)
    (owed : List OwedRow) : h.eventThread halt n addr lease owed = h ∨ ∃ cnt, h.eventThread halt n addr lease owed
      = { h with taper := h.taper.start halt n addr lease owed, cnt := cnt } := by
  unfold Channel.eventThread
  extract_lets free
  split
  · exact .inl rfl
  · exact .inr ⟨_, rfl⟩

theorem Channel.eventThread_pcs (h : Channel) (halt : Bool) (n : Nat) (addr : ThreadAddr) (lease : Option Lease)
    (owed : List OwedRow) : (h.eventThread halt n addr lease owed).pcs = h.pcs := by
  rcases h.eventThread_cases halt n addr lease owed with e | ⟨cnt, e⟩ <;> rw [e]

/-- A pseudo-channel that a test holds. -/
def PseudoChannel.tested (q : PseudoChannel) (n : BitVec 16) : PseudoChannel := { q with op := some (.test n) }

/-- A test holds its pseudo-channels, and nothing else of the channel's pseudo-channels changes. -/
theorem Channel.beginTest_at (h : Channel) (halt : Bool) (p q : Pc) (n : BitVec 16) (kind : BitVec 2) :
    (h.beginTest halt p n kind).pcs[q] = if q ∈ testPcs kind p then h.pcs[q].tested n else h.pcs[q] := by
  unfold Channel.beginTest
  generalize testPcs kind p = list
  induction list generalizing h with
  | nil => rfl
  | cons a list ih =>
    rw [List.foldl_cons, ih, Channel.eventThread_pcs, Channel.updPc_at]
    simp only [List.mem_cons]
    by_cases ha : q = a
    · subst ha
      by_cases hl : q ∈ list
      · simp only [hl]; rfl
      · simp only [hl]; rfl
    · simp only [ha, if_false, false_or]

theorem Channel.lapsAfter_at (h old : Channel) (now : Nat) (q : Pc) :
    (h.lapsAfter old now).pcs[q] = h.pcs[q].lapAfter old.pcs[q] now := by
  simp [Channel.lapsAfter]

theorem PseudoChannel.lapAfter_eq (q old : PseudoChannel) (now : Nat) :
    ∃ scrub, q.lapAfter old now = { q with scrub := scrub } := by
  unfold PseudoChannel.lapAfter
  split
  · exact ⟨q.scrub, rfl⟩
  · exact ⟨_, rfl⟩

/-- Nothing but the layers and their buses differs between two states. -/
def LayersAlone (s t : State) : Prop := t = { s with dies := t.dies, buses := t.buses }

theorem LayersAlone.trans {s t u : State} (h : LayersAlone s t) (h' : LayersAlone t u) : LayersAlone s u := by
  rw [LayersAlone, h', h]

theorem layersAlone_exchange (s : State) {x : SvcCmd} (hx : x.keepsRows) (programs : Bool) :
    LayersAlone s (s.exchange x programs).2.2 := by
  obtain ⟨h, -⟩ := layerAlone_exchange s hx programs
  exact h

/-- CFG_WR changes no row. -/
theorem svcCmd_cfgWr_keepsRows (l : Fin 16) (a v : Nat) : (svcCmd l 0 a v).keepsRows := by
  constructor <;> simp [svcCmd]

theorem layersAlone_loopTest (s : State) (c : Ch) : LayersAlone s (s.loopTest c) := by
  unfold State.loopTest
  refine List.foldlRecOn _ _ (motive := LayersAlone s) rfl fun t ht sid _ => ht.trans ?_
  dsimp only
  exact (layersAlone_exchange t (svcCmd_cfgWr_keepsRows _ _ _) _).trans (layersAlone_exchange _ (svcCmd_cfgWr_keepsRows _ _ _) _)

section
variable (s : State) (c : Ch) (p : Pc) (kind : BitVec 2) (sids : BitVec 4)

/-- The result of a test that has just started, and the results that are kept. -/
def State.newTest : TestResult := { handle := s.mgmt.lastHandle + 1, ch := c, pc := p, kind := kind, sids := sids }
@[inherit_doc State.newTest] def State.listTest : State :=
  s.updMgmt (fun m => { m with
    lastHandle := s.mgmt.lastHandle + 1
    tests := (m.tests ++ [s.newTest c p kind sids]).drop (m.tests.length - 7) })

theorem State.listTest_last :
    (s.listTest c p kind sids).mgmt.tests.getLast? = some (s.newTest c p kind sids) := by
  have hlen : s.mgmt.tests.length - 7 < (s.mgmt.tests ++ [s.newTest c p kind sids]).length := by simp
  have hdrop : (s.listTest c p kind sids).mgmt.tests
      = (s.mgmt.tests ++ [s.newTest c p kind sids]).drop (s.mgmt.tests.length - 7) := rfl
  rw [hdrop, List.getLast?_drop, if_neg (by omega), List.getLast?_concat]

theorem State.takeImage_test (n : BitVec 16) :
    s.takeImage c (.test p n kind sids) = s.updCh c (·.beginTest (s.haltMaint c) p n kind) := rfl

/-- The image of a test has been taken from the transfer area. -/
def State.holdTest : State :=
  ((s.listTest c p kind sids).updCh c (·.updTaper (·.passed))).takeImage c (.test p (s.mgmt.lastHandle + 1) kind sids)

theorem State.holdTest_eq : ∃ halt, s.holdTest c p kind sids
    = (s.listTest c p kind sids).updCh c (fun h => (h.updTaper (·.passed)).beginTest halt p (s.mgmt.lastHandle + 1) kind) := by
  refine ⟨((s.listTest c p kind sids).updCh c (·.updTaper (·.passed))).haltMaint c, ?_⟩
  rw [State.holdTest, State.takeImage_test, State.updCh_updCh]

theorem State.holdTest_at (q : Pc) : (s.holdTest c p kind sids).chans[c].pcs[q]
    = if q ∈ testPcs kind p then s.chans[c].pcs[q].tested (s.mgmt.lastHandle + 1) else s.chans[c].pcs[q] := by
  obtain ⟨halt, h⟩ := s.holdTest_eq c p kind sids
  rw [h, State.updCh_self]
  exact Channel.beginTest_at _ _ _ _ _ _

theorem memKept_holdTest : memKept s (s.holdTest c p kind sids) := by
  obtain ⟨halt, h⟩ := s.holdTest_eq c p kind sids
  rw [h]
  refine memKept_updCh (s.listTest c p kind sids) c fun q => ?_
  rw [Channel.beginTest_at]
  split <;> exact ⟨rfl, rfl, rfl, rfl⟩

/-- Between a test that holds its quiesce and its first step nothing changes but the channel's memory and the layers. -/
structure TestSetUp (t u : State) : Prop where
  sessions : u.sessions = t.sessions
  mgmt : u.mgmt = t.mgmt
  others : ∀ d : Ch, d ≠ c → u.chans[d] = t.chans[d]
  op : ∀ q : Pc, u.chans[c].pcs[q].op = t.chans[c].pcs[q].op

theorem LayersAlone.testSetUp {t u : State} (h : LayersAlone t u) : TestSetUp c t u := by
  rw [h]
  exact ⟨rfl, rfl, fun _ _ => rfl, fun _ => rfl⟩

/-- The march clears FILLED of its pseudo-channel and keeps what holds the quiesce (R515). -/
theorem State.march_chans (t : State) : ∃ f : Channel → PseudoChannel → PseudoChannel,
    (t.march c p sids).chans = (t.updCh c (fun h => (h.updPc p (f h)).lapsAfter h t.timeUs)).chans
      ∧ ∀ h q, (f h q).op = q.op ∧ (f h q).filled = false := by
  unfold State.march
  extract_lets epoch filled
  exact ⟨filled, rfl, fun _ _ => ⟨rfl, rfl⟩⟩

theorem State.march_at (t : State) (q : Pc) : ((t.march c p sids).chans[c].pcs[q]).op = t.chans[c].pcs[q].op
    ∧ (q = p → ((t.march c p sids).chans[c].pcs[q]).filled = false) := by
  obtain ⟨f, hchans, hf⟩ := t.march_chans c p sids
  obtain ⟨scrub, e⟩ := ((t.chans[c].updPc p (f t.chans[c])).pcs[q]).lapAfter_eq t.chans[c].pcs[q] t.timeUs
  rw [hchans, State.updCh_self, Channel.lapsAfter_at, e, Channel.updPc_at]
  obtain ⟨hop, hfilled⟩ := hf t.chans[c] t.chans[c].pcs[q]
  split
  · exact ⟨hop, fun _ => hfilled⟩
  · next h => exact ⟨rfl, fun hq => absurd hq h⟩

theorem State.march_other (t : State) {d : Ch} (hd : d ≠ c) : (t.march c p sids).chans[d] = t.chans[d] := by
  obtain ⟨f, hchans, -⟩ := t.march_chans c p sids
  rw [hchans, State.updCh_other _ _ hd]

theorem testSetUp_march (t : State) : TestSetUp c t (t.march c p sids) :=
  ⟨rfl, rfl, fun _ hd => t.march_other c p sids hd, fun q => (t.march_at c p sids q).1⟩

section
variable {s c} (hi : s.chans[c].taper.images = []) (hh : s.chans[c].taper.held = [])
include hi hh

theorem State.startTest_eq : s.startTest c p kind sids
    = if kind = testMarch then (s.holdTest c p kind sids).march c p sids
      else if kind = testTsv then (s.holdTest c p kind sids).loopTest c else s.holdTest c p kind sids := by
  have hhand : (s.listTest c p kind sids).handImage c (.test p (s.mgmt.lastHandle + 1) kind sids) = s.holdTest c p kind sids :=
    State.handImage_nil (s := s.listTest c p kind sids) hi hh _
  rw [← hhand]
  rfl

theorem testSetUp_startTest : TestSetUp c (s.holdTest c p kind sids) (s.startTest c p kind sids) := by
  rw [State.startTest_eq p kind sids hi hh]
  split
  · exact testSetUp_march c p sids _
  · split
    · exact (layersAlone_loopTest _ c).testSetUp c
    · exact ⟨rfl, rfl, fun _ _ => rfl, fun _ => rfl⟩

theorem State.startTest_filled (hk : kind = testMarch) : (s.startTest c p kind sids).chans[c].pcs[p].filled = false := by
  rw [State.startTest_eq p kind sids hi hh, if_pos hk]
  exact (State.march_at c p sids _ p).2 rfl

theorem memKept_startTest (hk : kind ≠ testMarch) : memKept s (s.startTest c p kind sids) := by
  have hhold := memKept_holdTest s c p kind sids
  rw [State.startTest_eq p kind sids hi hh, if_neg hk]
  split
  · have hlayers := layersAlone_loopTest (s.holdTest c p kind sids) c
    rw [hlayers]
    exact hhold
  · exact hhold

end

end

/-! ## SELFTEST (R407) -/

section
variable {s : State} {k : Slot} {x : Cmd} {c : Ch} {p : Pc} {sids : BitVec 4} {i : Instr}

theorem State.answer_mgmt_of_plain (r : Response) (hfind : s.sessions[k].find x.seq = some x)
    (hp : privilegedOp x.opcode = false) : (s.answer k x r).mgmt = { s.mgmt with turn := k } := by
  obtain ⟨h, -⟩ := onlySession_answer r hfind hp
  exact congrArg State.mgmt h

theorem memKept_answer {t : State} (r : Response) (h : memKept s t) : memKept s (t.answer k x r) :=
  memKept_congr (t.answer_chans k r x) (t.answer_dens k r x) h

/-- A payload of SELFTEST. -/
def testBytes (c : Ch) (p : Pc) (kind : Fin 3) (sids : BitVec 4) : List Byte :=
  [byteOf c.val, byteOf p.val, byteOf kind.val, sids.setWidth 8]

/-- The instruction of SELFTEST for a kind of test. -/
def selftestInstr (k : Slot) (kind : Fin 3) : Instr :=
  match kind with
  | 0 => .selftestMarch k
  | 1 => .selftestTsvLoopback k
  | 2 => .selftestDatapathLoopback k

theorem selftest_exec (kind : Fin 3) (hb : x.payload = testBytes c p kind sids) (h : served s k x 0x0800 true) :
    exec (selftestInstr k kind) s = .next (s.selftest k x (BitVec.ofNat 2 kind.val)) := by
  have hop := opcode_of_served h
  have hkind : fieldAt x.payload 2 1 = kind.val := by simp [hb, testBytes]
  match kind with
  | 0 =>
    refine (next_of_served h (i := .selftestMarch k) rfl rfl (isOpFirst_of_opcode hop hkind)).trans ?_
    exact congrArg _ (State.valid_true s k x (by simp [hkind]) _)
  | 1 => exact next_of_served h (i := .selftestTsvLoopback k) rfl rfl (isOpAt_of_opcode hop hkind)
  | 2 => exact next_of_served h (i := .selftestDatapathLoopback k) rfl rfl (isOpAt_of_opcode hop hkind)

section
variable {kind : Fin 3} {test : BitVec 2} (hb : x.payload = testBytes c p kind sids)
include hb

theorem selftestShape_of_bytes : selftestShape x.payload = true := by
  simp [hb, testBytes, selftestShape, shaped]
  omega

theorem sids_of_bytes : BitVec.ofNat 4 (fieldAt x.payload 3 1) = sids := by
  have hfield : fieldAt x.payload 3 1 = sids.toNat := by simp [hb, testBytes]; omega
  rw [hfield, BitVec.ofNat_toNat, BitVec.setWidth_eq]

/-- SELFTEST asks for the test that its payload names. -/
theorem State.selftest_of_starts (ha : s.askTest c p test sids = .starts) : s.selftest k x test
    = (s.startTest c p test sids).answer k x (okResp (natBytes 2 (s.mgmt.lastHandle + 1).toNat)) := by
  have hc : chAt x.payload 0 = c := chAt_of_field (by simp [hb, testBytes])
  have hp : pcAt x.payload 1 = p := pcAt_of_field (by simp [hb, testBytes])
  refine (State.valid_true s k x (selftestShape_of_bytes hb) _).trans ?_
  simp only [hc, hp, sids_of_bytes hb, ha]
  rfl

theorem State.selftest_of_badArg (ha : s.askTest c p test sids = .badArg) :
    s.selftest k x test = s.answer k x { status := stBadArg } := by
  have hc : chAt x.payload 0 = c := chAt_of_field (by simp [hb, testBytes])
  have hp : pcAt x.payload 1 = p := pcAt_of_field (by simp [hb, testBytes])
  refine (State.valid_true s k x (selftestShape_of_bytes hb) _).trans ?_
  simp only [hc, hp, sids_of_bytes hb, ha]
  rfl

end

theorem selftest_starts (kind : Fin 3) (hb : x.payload = testBytes c p kind sids) (hi : s.chans[c].taper.images = [])
    (hh : s.chans[c].taper.held = []) (ha : s.askTest c p (BitVec.ofNat 2 kind.val) sids = .starts)
    (h : served s k x 0x0800 true) :
    ∃ t, exec (selftestInstr k kind) s = .next t ∧ answered t k x (okResp (natBytes 2 (s.mgmt.lastHandle + 1).toNat))
      ∧ t.mgmt.lastHandle = s.mgmt.lastHandle + 1
      ∧ (t.mgmt.tests.getLast?).map (fun y => (y.handle, y.ch, y.pc, y.status)) = some (s.mgmt.lastHandle + 1, c, p, 0)
      ∧ (∀ q ∈ testPcs (BitVec.ofNat 2 kind.val) p, t.chans[c].pcs[q].op = some (.test (s.mgmt.lastHandle + 1)))
      ∧ (kind = 0 → t.chans[c].pcs[p].filled = false) ∧ (kind ≠ 0 → memKept s t)
      ∧ ∀ c' : Ch, c' ≠ c → t.chans[c'] = s.chans[c'] := by
  have hsetup := testSetUp_startTest p (BitVec.ofNat 2 kind.val) sids hi hh
  have hfind : (s.startTest c p (BitVec.ofNat 2 kind.val) sids).sessions[k].find x.seq = some x := by
    rw [hsetup.sessions]
    exact find_of_served h
  have hplain : privilegedOp x.opcode = false := by rw [opcode_of_served h]; rfl
  have hmarch : kind = 0 ↔ BitVec.ofNat 2 kind.val = testMarch := by fin_cases kind <;> decide
  have hx := selftest_exec kind hb h
  rw [State.selftest_of_starts hb ha] at hx
  refine ⟨_, hx, State.answer_answered _ k x _ hfind (not_done_of_served h), ?handle, ?result, fun q hq => ?held,
    fun h0 => ?filled, fun h0 => ?kept, fun d hd => ?others⟩
  case handle => rw [State.answer_mgmt_of_plain _ hfind hplain, hsetup.mgmt]; rfl
  case result =>
    rw [State.answer_mgmt_of_plain _ hfind hplain, hsetup.mgmt]
    exact congrArg _ (s.listTest_last c p (BitVec.ofNat 2 kind.val) sids)
  case held => rw [State.answer_chans, hsetup.op, State.holdTest_at, if_pos hq]; rfl
  case filled => rw [State.answer_chans, State.startTest_filled p _ sids hi hh (hmarch.mp h0)]
  case kept => exact memKept_answer _ (memKept_startTest p _ sids hi hh (mt hmarch.mpr h0))
  case others =>
    rw [State.answer_chans, hsetup.others d hd]
    obtain ⟨halt, e⟩ := s.holdTest_eq c p (BitVec.ofNat 2 kind.val) sids
    rw [e, State.updCh_other _ _ hd]
    rfl

theorem selftest_refused (kind : Fin 3) (hb : x.payload = testBytes c p kind sids)
    (hs : sids = 0 ∨ ∃ d : Sid, sids.getLsbD d.val = true ∧ s.sidPresent d = false) (h : served s k x 0x0800 true) :
    reports (selftestInstr k kind) s k x { status := stBadArg } := by
  have hx := selftest_exec kind hb h
  rw [State.selftest_of_badArg hb (State.askTest_bad c p _ (State.testSids_bad hs))] at hx
  have hplain : privilegedOp x.opcode = false := by rw [opcode_of_served h]; rfl
  have hfind := find_of_served h
  exact ⟨_, hx, State.answer_answered s k x _ hfind (not_done_of_served h), onlySession_answer _ hfind hplain⟩

end

/-! ## The end of a test (R71, R408) -/

section
variable {s : State} {c : Ch} {p : Pc} {n : BitVec 16}

theorem PseudoChannel.testHandle_of_op {q : PseudoChannel} (h : q.op = some (.test n)) : q.testHandle = some n := by
  rw [PseudoChannel.testHandle, h]

/-- The pseudo-channels of a channel that a test holds. -/
def Channel.heldBy (h : Channel) (n : BitVec 16) : List Pc := (List.finRange 2).filter (fun q => h.pcs[q].testHandle == some n)

theorem Channel.mem_heldBy {h : Channel} (hop : h.pcs[p].op = some (.test n)) : p ∈ h.heldBy n := by
  simp only [Channel.heldBy, List.mem_filter, List.mem_finRange, PseudoChannel.testHandle_of_op hop, beq_self_eq_true, and_self]

/-- The results that are kept, with that of a test changed. -/
def State.enterResult (s : State) (n : BitVec 16) (f : TestResult → TestResult) : State :=
  s.updMgmt (fun m => { m with tests := m.tests.map (fun x => if x.handle = n then f x else x) })

theorem State.enterResult_of_handle {f : TestResult → TestResult} {y : TestResult}
    (hy : y ∈ (s.enterResult n f).mgmt.tests) (hn : y.handle = n) : ∃ z, y = f z := by
  obtain ⟨z, -, rfl⟩ := List.mem_map.mp hy
  by_cases hz : z.handle = n
  · exact ⟨z, if_pos hz⟩
  · rw [if_neg hz] at hn
    exact absurd hn hz

theorem State.endTest_eq (s : State) (c : Ch) (p : Pc) (n : BitVec 16) (f : TestResult → TestResult) :
    s.endTest c p n f = ((s.enterResult n f).updCh c (fun h => h.endsEntries 48 (h.heldBy n))).event 8 0 (byteOf c.val)
      (byteOf p.val) (n.setWidth 32) := rfl

/-- The end of a test frees its pseudo-channels and enters its result. -/
theorem endTest_frees (f : TestResult → TestResult) (hop : s.chans[c].pcs[p].op = some (.test n)) :
    (s.endTest c p n f).chans[c].pcs[p].op = none ∧ memKept s (s.endTest c p n f)
      ∧ ∀ y ∈ (s.endTest c p n f).mgmt.tests, y.handle = n → ∃ z, y = f z := by
  rw [State.endTest_eq]
  refine ⟨?op, ?kept, fun y hy hn => State.enterResult_of_handle hy hn⟩
  case op =>
    rw [State.event_chans, State.updCh_self]
    exact Channel.endsEntries_op _ 48 (Channel.mem_heldBy hop)
  case kept =>
    refine memKept_congr ?_ ?_ (memKept_updCh s c (f := fun h => h.endsEntries 48 (h.heldBy n)) (opsEnd_endsEntries _ 48 _).cells)
    · rw [State.event_chans, State.updCh_chans, State.updCh_chans]
      rfl
    · rw [State.event_dens, State.updCh_dens, State.updCh_dens]
      rfl

/-- What a report enters in the result of its test. -/
def TestResult.reported (rep : TestReport) (y : TestResult) : TestResult :=
  { y with status := if rep.nfail = 0 then 1 else 2, progress := rep.progress, nfail := rep.nfail, first := rep.first
           elapsed := rep.elapsed }

theorem selftestEnd_exec (rep : TestReport) (hop : s.chans[c].pcs[p].op = some (.test n)) (ht : s.thermal.trip = false) :
    exec (.selftestEnd c p rep) s = .next (s.endTest c p n (.reported rep)) := by
  have hx : exec (.selftestEnd c p rep) s = execSelftestEnd c p rep s := rfl
  rw [hx, execSelftestEnd, PseudoChannel.testHandle_of_op hop]
  dsimp only
  rw [ht]
  rfl

theorem selftestEnd_frees (rep : TestReport) (hop : s.chans[c].pcs[p].op = some (.test n)) (ht : s.thermal.trip = false) :
    ∃ t, exec (.selftestEnd c p rep) s = .next t ∧ t.chans[c].pcs[p].op = none ∧ memKept s t
      ∧ ∀ y ∈ t.mgmt.tests, y.handle = n → y.status = (if rep.nfail = 0 then 1 else 2) ∧ y.nfail = rep.nfail
          ∧ y.first = rep.first ∧ y.progress = rep.progress ∧ y.elapsed = rep.elapsed := by
  obtain ⟨hfree, hmem, htests⟩ := endTest_frees (.reported rep) hop
  refine ⟨_, selftestEnd_exec rep hop ht, hfree, hmem, fun y hy hn => ?_⟩
  obtain ⟨z, rfl⟩ := htests y hy hn
  exact ⟨rfl, rfl, rfl, rfl, rfl⟩

/-! ## A release of quiesce (R71, R218, R408) -/

theorem any_releaseHeld {h : Channel} {pcs : List Pc} (hp : p ∈ pcs) (hr : h.pcs[p].releaseHeld = true) (trip : Bool) :
    (trip || pcs.any (fun q => h.pcs[q].releaseHeld)) = true := by
  rw [List.any_eq_true.mpr ⟨p, hp, hr⟩, Bool.or_true]

theorem testEndOnRelease_exec_test (hr : s.chans[c].pcs[p].releaseHeld = true) (hop : s.chans[c].pcs[p].op = some (.test n)) :
    exec (.testEndOnRelease c p) s = .next (s.endTest c p n (fun x => { x with status := 3 })) := by
  have hx : exec (.testEndOnRelease c p) s = execTestEndOnRelease c p s := rfl
  rw [hx, execTestEndOnRelease]
  simp only [hop]
  exact congrArg _ (if_pos (any_releaseHeld (Channel.mem_heldBy hop) hr _))

theorem testEndOnRelease_test (hr : s.chans[c].pcs[p].releaseHeld = true) (hop : s.chans[c].pcs[p].op = some (.test n)) :
    ∃ t, exec (.testEndOnRelease c p) s = .next t ∧ t.chans[c].pcs[p].op = none ∧ memKept s t
      ∧ ∀ y ∈ t.mgmt.tests, y.handle = n → y.status = 3 := by
  obtain ⟨hfree, hmem, htests⟩ := endTest_frees (fun x => { x with status := 3 }) hop
  refine ⟨_, testEndOnRelease_exec_test hr hop, hfree, hmem, fun y hy hn => ?_⟩
  obtain ⟨z, rfl⟩ := htests y hy hn
  rfl

section
variable {mode : Nat} {k : Slot} {x : Cmd}

theorem Channel.mem_runPcs {h : Channel} (hop : h.pcs[p].op = some (.calRun mode k x.seq)) : p ∈ h.runPcs k x.seq := by
  simp only [Channel.runPcs, PseudoChannel.calRunOf, List.mem_filter, List.mem_finRange, hop, beq_self_eq_true, Bool.and_self,
    and_self]

section
variable (hr : s.chans[c].pcs[p].releaseHeld = true) (hop : s.chans[c].pcs[p].op = some (.calRun mode k x.seq))
include hr hop

theorem testEndOnRelease_exec_run : exec (.testEndOnRelease c p) s
    = .next ((s.respond k x.seq { status := stAborted }).updCh c (·.endsEntries 45 (s.chans[c].runPcs k x.seq))) := by
  have hx : exec (.testEndOnRelease c p) s = execTestEndOnRelease c p s := rfl
  rw [hx, execTestEndOnRelease]
  simp only [hop]
  refine congrArg _ ((if_pos (any_releaseHeld (Channel.mem_runPcs hop) hr _)).trans ?_)
  exact State.foldl_updCh _ c (fun q h => h.endsEntry 45 q) _

theorem testEndOnRelease_run (hfind : s.sessions[k].find x.seq = some x) (hd : x.state = .started) :
    ∃ t, exec (.testEndOnRelease c p) s = .next t ∧ t.chans[c].pcs[p].op = none ∧ memKept s t
      ∧ answered t k x { status := stAborted } ∧ t.chans[c].lanes = s.chans[c].lanes := by
  have hchans := s.respond_chans k x.seq { status := stAborted }
  refine ⟨_, testEndOnRelease_exec_run hr hop, ?op, ?kept, ?answer, ?lanes⟩
  case op =>
    rw [State.updCh_self]
    exact Channel.endsEntries_op _ 45 (Channel.mem_runPcs hop)
  case kept =>
    refine memKept_congr ?_ ?_ (memKept_updCh s c (f := (·.endsEntries 45 (s.chans[c].runPcs k x.seq)))
      (opsEnd_endsEntries _ 45 _).cells)
    · simp only [State.updCh_chans, hchans]
    · rw [State.updCh_dens, State.updCh_dens, State.respond_dens]
  case answer => exact answered_respond _ hfind (by simp [hd])
  case lanes =>
    rw [State.updCh_self, (opsEnd_endsEntries _ 45 _).lanes]
    simp only [hchans]

end

end

end

/-! ## The obligation -/

/-- Settles O59: a test by its start and by its arguments, and its end by the operations that end with it. -/
theorem jmpTestsRun : Obligations.JmpTestsRun :=
  ⟨fun _ _ _ _ _ kind _ _ hb hi hh ha h he => he ▸ selftest_starts kind hb hi hh ha h,
    fun _ _ _ _ _ kind _ _ hb hs h he => he ▸ selftest_refused kind hb hs h,
    fun _ _ rep _ _ hop ht => selftestEnd_frees rep hop ht,
    fun _ _ _ hr => ⟨fun _ hop => testEndOnRelease_test hr hop, fun _ _ _ => testEndOnRelease_run hr⟩⟩

end Sys2Proof.Machine

/-! Ledger records, events and the repair journal (R272, R420, R483): they leave the layers, the commands and the
pseudo-channels. -/

namespace Sys2Proof.Machine

open Sys2Proof.Safety

/-! ## What a record leaves -/

/-- The layers, and the commands of every session, are as they were. -/
structure Outside (s t : State) : Prop where
  dies : t.dies = s.dies
  busFailed : t.busFailed = s.busFailed
  find : ∀ (k : Slot) (seq : BitVec 16), t.sessions[k].find seq = s.sessions[k].find seq

theorem Outside.refl (s : State) : Outside s s := ⟨rfl, rfl, fun _ _ => rfl⟩

theorem Outside.trans {s t u : State} (h : Outside s t) (h' : Outside t u) : Outside s u :=
  ⟨h'.dies.trans h.dies, h'.busFailed.trans h.busFailed, fun k seq => (h'.find k seq).trans (h.find k seq)⟩

/-- The pseudo-channels and the Tapers are as they were, too: what is put on record, and told to the sessions. -/
structure Recorded (s t : State) : Prop extends Outside s t where
  dens : t.dens = s.dens
  pcs : ∀ c : Ch, t.chans[c].pcs = s.chans[c].pcs
  taper : ∀ c : Ch, t.chans[c].taper = s.chans[c].taper

theorem Recorded.refl (s : State) : Recorded s s := ⟨.refl s, rfl, fun _ => rfl, fun _ => rfl⟩

theorem Recorded.trans {s t u : State} (h : Recorded s t) (h' : Recorded t u) : Recorded s u :=
  ⟨h.toOutside.trans h'.toOutside, h'.dens.trans h.dens, fun c => (h'.pcs c).trans (h.pcs c),
    fun c => (h'.taper c).trans (h.taper c)⟩

theorem Recorded.memKept {s t : State} (h : Recorded s t) : memKept s t :=
  memKept_of_sameCells h.dens fun c p => by rw [h.pcs]; exact .refl _

section
variable (s : State)

theorem recorded_updMgmt (f : Mgmt → Mgmt) : Recorded s (s.updMgmt f) :=
  ⟨⟨rfl, rfl, fun _ _ => rfl⟩, rfl, fun _ => rfl, fun _ => rfl⟩

theorem recorded_updNv (f : NonVolatile → NonVolatile) : Recorded s (s.updNv f) :=
  ⟨⟨rfl, rfl, fun _ _ => rfl⟩, rfl, fun _ => rfl, fun _ => rfl⟩

theorem recorded_free (w : Nat) : Recorded s (s.free w).2 :=
  ⟨⟨rfl, rfl, fun _ _ => rfl⟩, rfl, fun _ => rfl, fun _ => rfl⟩

theorem recorded_ledger (typ : Byte) (body : List Byte) : Recorded s (s.ledger typ body) :=
  ⟨⟨State.ledger_dies s typ body, State.ledger_busFailed s typ body, fun k seq => by rw [State.ledger_sessions]⟩,
    State.ledger_dens s typ body, fun c => by rw [State.ledger_chans], fun c => by rw [State.ledger_chans]⟩

theorem Session.find_addEvent (y : Session) (e : Event) (seq : BitVec 16) : (y.addEvent e).find seq = y.find seq := by
  unfold Session.addEvent
  split
  · split <;> rfl
  · rfl

theorem recorded_event (typ : Nat) (u c p : Byte) (d : Word32) (q : Nat) : Recorded s (s.event typ u c p d q) := by
  refine ⟨⟨rfl, rfl, fun k seq => ?_⟩, rfl, fun _ => rfl, fun _ => rfl⟩
  have hat : (s.event typ u c p d q).sessions[k]
      = s.sessions[k].addEvent { typ := typ, unit := u, ch := c, pc := p, time := s.ms, seq := q, data := d } := by
    simp [State.event]
  rw [hat, Session.find_addEvent]

theorem recorded_ledgerEvent (rec : Byte) (body : List Byte) (typ : Nat) (u c p : Byte) (d : Word32) :
    Recorded s (s.ledgerEvent rec body typ u c p d) :=
  (recorded_ledger s rec body).trans (recorded_event _ typ u c p d _)

theorem recorded_setCauseAll (n : Nat) : Recorded s (s.setCauseAll n) := by
  have hat (c : Ch) : (s.setCauseAll n).chans[c] = if s.isGated c then s.chans[c] else s.chans[c].setCause n := by
    simp [State.setCauseAll]
  refine ⟨⟨rfl, rfl, fun _ _ => rfl⟩, rfl, fun c => ?_, fun c => ?_⟩
  · rw [hat]
    split <;> rfl
  · rw [hat]
    split <;> rfl

theorem recorded_evalHealth : Recorded s s.evalHealth := by
  unfold State.evalHealth State.signalHealth
  split
  · dsimp only
    split
    · exact .refl s
    · split
      · exact (recorded_updMgmt s _).trans (recorded_ledger _ _ _)
      · exact (((recorded_updMgmt s _).trans (recorded_setCauseAll _ _)).trans (recorded_event _ _ _ _ _ _ _)).trans
          (recorded_ledger _ _ _)
  · exact .refl s

end

/-! ## The repair journal (R272) -/

section
variable (s : State) (c : Ch) (p : Pc)

theorem outside_updCh (f : Channel → Channel) : Outside s (s.updCh c f) := ⟨rfl, rfl, fun _ _ => rfl⟩

theorem State.updPc_at (f : PseudoChannel → PseudoChannel) : (s.updPc c p f).chans[c].pcs[p] = f s.chans[c].pcs[p] := by
  rw [State.updPc, State.updCh_self, Channel.updPc_self]

/-- A word of an entry goes to the entry. -/
def State.setRemap (e : Fin 8) (w : BitVec 32) : State := s.updPc c p (fun q => { q with remap := q.remap.set e w })

theorem outside_setRemap (e : Fin 8) (w : BitVec 32) : Outside s (s.setRemap c p e w) := ⟨rfl, rfl, fun _ _ => rfl⟩

theorem State.setRemap_at (e : Fin 8) (w : BitVec 32) :
    (s.setRemap c p e w).chans[c].pcs[p] = { s.chans[c].pcs[p] with remap := s.chans[c].pcs[p].remap.set e w } :=
  s.updPc_at c p _

theorem recorded_journalRemap (e : Fin 8) (w : BitVec 32) (action : RemapAction) :
    Recorded (s.setRemap c p e w) (s.journalRemap c p e w action) :=
  ((recorded_updNv (s.setRemap c p e w) _).trans (recorded_ledgerEvent _ _ _ _ _ _ _ _)).trans (recorded_evalHealth _)

theorem outside_journalRemap (e : Fin 8) (w : BitVec 32) (action : RemapAction) : Outside s (s.journalRemap c p e w action) :=
  (outside_setRemap s c p e w).trans (recorded_journalRemap s c p e w action).toOutside

theorem State.journalRemap_at (e : Fin 8) (w : BitVec 32) (action : RemapAction) :
    (s.journalRemap c p e w action).chans[c].pcs[p] = { s.chans[c].pcs[p] with remap := s.chans[c].pcs[p].remap.set e w } := by
  rw [(recorded_journalRemap s c p e w action).pcs, State.setRemap_at]

theorem State.journalRemap_entry (e : Fin 8) (w : BitVec 32) (action : RemapAction) :
    (s.journalRemap c p e w action).chans[c].pcs[p].remap[e] = w := by
  rw [State.journalRemap_at]
  simp

theorem State.journalRemap_cands (e : Fin 8) (w : BitVec 32) (action : RemapAction) :
    (s.journalRemap c p e w action).chans[c].pcs[p].cands = s.chans[c].pcs[p].cands := by
  rw [State.journalRemap_at]

theorem memKept_updPc {f : PseudoChannel → PseudoChannel} (hf : SameCells s.chans[c].pcs[p] (f s.chans[c].pcs[p])) :
    memKept s (s.updPc c p f) := by
  refine memKept_updCh s c fun q => ?_
  rw [Channel.updPc_at]
  split
  · next h => rw [h]; exact hf
  · exact .refl _

theorem memKept_journalRemap (e : Fin 8) (w : BitVec 32) (action : RemapAction) : memKept s (s.journalRemap c p e w action) :=
  memKept_trans (memKept_updPc s c p ⟨rfl, rfl, rfl, rfl⟩) (recorded_journalRemap s c p e w action).memKept

end

end Sys2Proof.Machine

/-! Repairs (R270, R271, R277, R286, R403, R405): REMAP_ADD, the hard repair of a row, and the records of lanes and TSVs. -/

namespace Sys2Proof.Machine

open Sys2Proof.Safety

/-! ## Candidates (R270, R271) -/

section
variable {s : State} {c : Ch} {p : Pc} {bank : Fin 64} {row : Row} {src : BitVec 2}

/-- The first entry that is free. -/
def PseudoChannel.freeEntry (q : PseudoChannel) : Option (Fin 8) :=
  (List.finRange 8).find? (fun e => remapState q.remap[e] == 0)

theorem State.candidate_known (h : s.chans[c].pcs[p].rowKnown bank row = true) : s.candidate c p bank row src = (s, 2, 255) := by
  rw [State.candidate]
  exact if_pos h

theorem State.candidate_added {e : Fin 8} {spare : Fin 4} (h : s.chans[c].pcs[p].rowKnown bank row = false)
    (he : s.chans[c].pcs[p].freeEntry = some e) (hs : s.chooseSpare c p bank = some spare) :
    s.candidate c p bank row src = (s.journalRemap c p e (remapWord 1 bank spare src row) .add, 0, e.val) := by
  unfold PseudoChannel.freeEntry at he
  rw [State.candidate]
  refine (if_neg (by rw [h]; decide)).trans ?_
  simp only [he, hs]

/-- A candidate joins those held while there is room. -/
def PseudoChannel.holdCandidate (q : PseudoChannel) (x : BitVec 32 × BitVec 2) : PseudoChannel :=
  if q.cands.length < 16 then { q with cands := q.cands ++ [x] } else q

theorem State.updPc_holdCandidate (s : State) (c : Ch) (p : Pc) (x : BitVec 32 × BitVec 2) : s.updPc c p (·.holdCandidate x)
    = if s.chans[c].pcs[p].cands.length < 16 then s.updPc c p (fun q => { q with cands := q.cands ++ [x] }) else s := by
  split
  · next h =>
    refine State.updCh_congr (congrArg (fun q => { s.chans[c] with pcs := s.chans[c].pcs.set p q }) ?_)
    exact if_pos h
  · next h =>
    refine Eq.trans (State.updCh_congr (g := fun h => h) ?_) (s.updCh_id c)
    have hid : s.chans[c].pcs[p].holdCandidate x = s.chans[c].pcs[p] := if_neg h
    simp only [Channel.updPc, hid]
    simp

/-- The row is held as a candidate of its pseudo-channel, and REMAP_FULL is put on record. -/
def State.holdRow (s : State) (c : Ch) (p : Pc) (bank : Fin 64) (row : Row) (src : BitVec 2) : State :=
  s.updPc c p (·.holdCandidate (addrWord c p (accessNo (bankSid bank) ⟨bank.val % 16, by omega⟩ row 0), src))
@[inherit_doc State.holdRow] def State.noteFull (s : State) (c : Ch) (p : Pc) : State :=
  (s.free 32).2.ledger 0x05 ([byteOf c.val, byteOf p.val] ++ wordBytes (s.free 32).1)

theorem recorded_noteFull (s : State) (c : Ch) (p : Pc) : Recorded s (s.noteFull c p) :=
  (recorded_free s 32).trans (recorded_ledger _ _ _)

theorem State.candidate_held (h : s.chans[c].pcs[p].rowKnown bank row = false)
    (hn : s.chans[c].pcs[p].freeEntry = none ∨ s.chooseSpare c p bank = none) :
    s.candidate c p bank row src = ((s.holdRow c p bank row src).noteFull c p, 1, 255) := by
  unfold PseudoChannel.freeEntry at hn
  rw [State.candidate, State.holdRow, State.updPc_holdCandidate]
  refine (if_neg (by rw [h]; decide)).trans ?_
  rcases hn with hn | hn
  · rw [hn]
    rfl
  · rw [hn]
    cases (List.finRange 8).find? (fun e => remapState s.chans[c].pcs[p].remap[e] == 0) <;> rfl

theorem outside_candidate : Outside s (s.candidate c p bank row src).1 := by
  cases h : s.chans[c].pcs[p].rowKnown bank row with
  | true =>
    rw [State.candidate_known h]
    exact .refl s
  | false =>
    cases he : s.chans[c].pcs[p].freeEntry with
    | none =>
      rw [State.candidate_held h (.inl he)]
      exact (outside_updCh s c _).trans (recorded_noteFull _ c p).toOutside
    | some e =>
      cases hs : s.chooseSpare c p bank with
      | none =>
        rw [State.candidate_held h (.inr hs)]
        exact (outside_updCh s c _).trans (recorded_noteFull _ c p).toOutside
      | some spare =>
        rw [State.candidate_added h he hs]
        exact outside_journalRemap s c p e _ _

end

/-! ## REMAP_ADD (R403) -/

section
variable {s : State} {k : Slot} {x : Cmd} {w : Word32} {bank : Fin 64}

/-- The tests of REMAP_ADD on the address it names. -/
def State.rowServed (s : State) (w : Word32) : Bool :=
  s.addrOk w && !s.reservedRow s.chans[addrCh w] (addrSid w) (addrRow w)

theorem remapAdd_exec {u : State} {res e : Nat} (hw : w = addrAt x.payload 0) (hb : bank = bankAt (addrSid w) (addrBank w))
    (hc : s.candidate (addrCh w) (addrPc w) bank (addrRow w) 2 = (u, res, e)) (h : served s k x 0x0701) :
    exec (.remapAdd k) s
      = .next (s.valid k x (x.payload.length == 4 && s.rowServed w) (u.ok k x [byteOf res, byteOf e, 0, 0])) := by
  subst hw hb
  refine (next_of_served h (i := .remapAdd k) rfl rfl (isOp_of_opcode (opcode_of_served h))).trans ?_
  simp only [hc, State.rowServed, Bool.and_assoc]

theorem remapAdd_answers {u : State} {res e : Nat} (hw : w = addrAt x.payload 0) (hb : bank = bankAt (addrSid w) (addrBank w))
    (hlen : x.payload.length = 4) (ha : s.addrOk w = true)
    (hr : s.reservedRow s.chans[addrCh w] (addrSid w) (addrRow w) = false)
    (hc : s.candidate (addrCh w) (addrPc w) bank (addrRow w) 2 = (u, res, e)) (h : served s k x 0x0701) :
    exec (.remapAdd k) s = .next (u.answer k x (okResp [byteOf res, byteOf e, 0, 0])) := by
  have hserved : s.rowServed w = true := by
    rw [State.rowServed, ha, hr]
    rfl
  rw [remapAdd_exec hw hb hc h, State.valid_true s k x (by simp [hlen, hserved]), State.ok_eq_answer]

theorem remapAdd_outcomes (hw : w = addrAt x.payload 0) (hb : bank = bankAt (addrSid w) (addrBank w))
    (hlen : x.payload.length = 4) (ha : s.addrOk w = true)
    (hr : s.reservedRow s.chans[addrCh w] (addrSid w) (addrRow w) = false) (h : served s k x 0x0701) :
    (s.chans[addrCh w].pcs[addrPc w].rowKnown bank (addrRow w) = true → reports (.remapAdd k) s k x (okResp [2, 255, 0, 0]))
    ∧ (∀ (e : Fin 8) (spare : Fin 4), s.chans[addrCh w].pcs[addrPc w].rowKnown bank (addrRow w) = false →
      (List.finRange 8).find? (fun e => remapState s.chans[addrCh w].pcs[addrPc w].remap[e] == 0) = some e →
      s.chooseSpare (addrCh w) (addrPc w) bank = some spare →
      ∃ t, exec (.remapAdd k) s = .next t ∧ answered t k x (okResp [0, byteOf e.val, 0, 0]) ∧ memKept s t
        ∧ t.chans[addrCh w].pcs[addrPc w].remap
          = s.chans[addrCh w].pcs[addrPc w].remap.set e (remapWord 1 bank spare 2 (addrRow w)))
    ∧ (s.chans[addrCh w].pcs[addrPc w].rowKnown bank (addrRow w) = false →
      ((List.finRange 8).find? (fun e => remapState s.chans[addrCh w].pcs[addrPc w].remap[e] == 0) = none
        ∨ s.chooseSpare (addrCh w) (addrPc w) bank = none) →
      ∃ t, exec (.remapAdd k) s = .next t ∧ answered t k x (okResp [1, 255, 0, 0]) ∧ memKept s t
        ∧ t.chans[addrCh w].pcs[addrPc w].remap = s.chans[addrCh w].pcs[addrPc w].remap
        ∧ (s.chans[addrCh w].pcs[addrPc w].cands.length < 16 →
            t.chans[addrCh w].pcs[addrPc w].cands.length = s.chans[addrCh w].pcs[addrPc w].cands.length + 1)) := by
  have hfind := find_of_served h
  have hdone := not_done_of_served h
  refine ⟨fun hk => ?known, fun e spare hk he hs => ?added, fun hk hn => ?held⟩
  case known =>
    have hplain : privilegedOp x.opcode = false := by rw [opcode_of_served h]; rfl
    exact ⟨_, remapAdd_answers hw hb hlen ha hr (State.candidate_known hk) h, State.answer_answered s k x _ hfind hdone,
      onlySession_answer _ hfind hplain⟩
  case added =>
    have hout := outside_journalRemap s (addrCh w) (addrPc w) e (remapWord 1 bank spare 2 (addrRow w)) .add
    refine ⟨_, remapAdd_answers hw hb hlen ha hr (State.candidate_added hk he hs) h,
      State.answer_answered _ k x _ (by rw [hout.find, hfind]) hdone, memKept_answer _ (memKept_journalRemap s _ _ _ _ _), ?_⟩
    rw [State.answer_chans, State.journalRemap_at]
  case held =>
    have hrec := recorded_noteFull (s.holdRow (addrCh w) (addrPc w) bank (addrRow w) 2) (addrCh w) (addrPc w)
    have hcells (y : BitVec 32 × BitVec 2) (q : PseudoChannel) : SameCells q (q.holdCandidate y) := by
      unfold PseudoChannel.holdCandidate
      split <;> exact ⟨rfl, rfl, rfl, rfl⟩
    refine ⟨_, remapAdd_answers hw hb hlen ha hr (State.candidate_held hk hn) h,
      State.answer_answered _ k x _ (by rw [hrec.find]; exact hfind) hdone,
      memKept_answer _ (memKept_trans (memKept_updPc s _ _ (hcells _ _)) hrec.memKept), ?remap, fun hlt => ?cands⟩
    case remap =>
      rw [State.answer_chans, hrec.pcs, State.holdRow, State.updPc_at, PseudoChannel.holdCandidate]
      split <;> rfl
    case cands =>
      rw [State.answer_chans, hrec.pcs, State.holdRow, State.updPc_at, PseudoChannel.holdCandidate, if_pos hlt]
      simp

/-- A row beyond the density, or one that the maintenance keeps for itself. -/
theorem remapAdd_refused (hw : w = addrAt x.payload 0)
    (hbad : s.rows ≤ (addrRow w).toNat ∨ s.reservedRow s.chans[addrCh w] (addrSid w) (addrRow w) = true)
    (h : served s k x 0x0701) : reports (.remapAdd k) s k x { status := stBadArg } := by
  have hserved : s.rowServed w = false := by
    rcases hbad with hrow | hres
    · simp [State.rowServed, State.addrOk, hrow]
    · rw [State.rowServed, hres]
      exact Bool.and_false _
  obtain ⟨u, res, e, hc⟩ : ∃ u res e,
      s.candidate (addrCh w) (addrPc w) (bankAt (addrSid w) (addrBank w)) (addrRow w) 2 = (u, res, e) := ⟨_, _, _, rfl⟩
  have hx := remapAdd_exec hw rfl hc h
  rw [State.valid_false s k x (by simp [hserved]), State.fails_eq_answer] at hx
  have hplain : privilegedOp x.opcode = false := by rw [opcode_of_served h]; rfl
  exact ⟨_, hx, State.answer_answered s k x _ (find_of_served h) (not_done_of_served h),
    onlySession_answer _ (find_of_served h) hplain⟩

end

end Sys2Proof.Machine

/-! REPAIR_COMMIT (R277, R279, R286, R405): a hard repair follows its record from the row copy to the answer, and lane and TSV
records wait for the fuse controller. -/

namespace Sys2Proof.Machine

open Sys2Proof.Safety

/-! ## The record of a row (Table 5-19) -/

/-- A word of which no bit fails takes all of its bits. -/
theorem and_not_of_disjoint {v f : Word32} (h : f &&& v = 0) : v &&& ~~~f = v := by
  refine BitVec.eq_of_getLsbD_eq fun i hi => ?_
  have hbit := congrArg (·.getLsbD i) h
  simp only [BitVec.getLsbD_and] at hbit
  rw [BitVec.getLsbD_and, BitVec.getLsbD_not]
  cases hv : v.getLsbD i with
  | false => rfl
  | true =>
    rw [hv, Bool.and_true] at hbit
    have hf : f.getLsbD i = false := hbit.trans BitVec.getLsbD_zero
    rw [hf]
    simp [hi]

theorem disjoint_row_valid {f : Word32} {row : Row} (h : f &&& recordOf row = 0) :
    f &&& row.setWidth 32 = 0 ∧ f &&& 0x80000000 = 0 := by
  rw [recordOf, BitVec.and_or_distrib_left] at h
  exact BitVec.or_eq_zero_iff.mp h

theorem recordOf_valid (row : Row) : (recordOf row).getLsbD 31 = true := by
  simp [recordOf]

theorem recordOf_blows (row : Row) : recordOf row &&& ~~~0#32 ≠ 0 := by
  intro h
  have hbit := congrArg (·.getLsbD 31) h
  simp only [BitVec.getLsbD_and, recordOf_valid] at hbit
  exact absurd hbit (by decide)

section
variable (s : State) (l : Fin 16) {a : Nat} (row : Row) (f : Word32)

theorem layerAlone_programRecord (ha : a < 2048) : LayerAlone l s (s.programRecord l a row f) := by
  unfold State.programRecord
  split
  · exact .refl l s
  · dsimp only
    split
    · exact (layerAlone_programBits l s ha _ f).trans (layerAlone_programBits l _ ha _ f)
    · exact layerAlone_programBits l s ha _ f

variable {s l} (hb : s.busFailed.getLsbD l.val = false) (h0 : sparseGet s.dies[l].antifuse a = 0)
include hb h0

/-- A blank word takes the row, then VALID where the row verifies (R277 step 3, R279). -/
theorem programRecord_word (ha : a < 2048) : sparseGet (s.programRecord l a row f).dies[l].antifuse a
    = if (row.setWidth 32 &&& ~~~f) &&& row.setWidth 32 = row.setWidth 32
      then (row.setWidth 32 &&& ~~~f) ||| (0x80000000 &&& ~~~f) else row.setWidth 32 &&& ~~~f := by
  have hrow := programBits_word l s ha (row.setWidth 32) f
  rw [h0] at hrow
  replace hrow := hrow.trans BitVec.zero_or
  unfold State.programRecord
  rw [hb, if_neg (by decide)]
  dsimp only
  rw [hrow]
  split
  · rw [programBits_word l _ ha, hrow]
  · exact hrow

theorem programRecord_verifies (ha : a < 2048) (hf : f &&& recordOf row = 0) :
    sparseGet (s.programRecord l a row f).dies[l].antifuse a = recordOf row := by
  obtain ⟨hrow, hvalid⟩ := disjoint_row_valid hf
  rw [programRecord_word row f hb h0 ha, and_not_of_disjoint hrow, and_not_of_disjoint hvalid, if_pos (BitVec.and_self ..)]
  rfl

theorem programRecord_invalid (ha : a < 2048) (hf : f.getLsbD 31 = true) :
    (sparseGet (s.programRecord l a row f).dies[l].antifuse a).getLsbD 31 = false := by
  rw [programRecord_word row f hb h0 ha]
  split <;> simp [hf]

omit h0 in
theorem verifyRecord_eq (ha : a < 2048) : (s.verifyRecord l a row).1 = (sparseGet s.dies[l].antifuse a == recordOf row)
    ∧ LayerAlone l s (s.verifyRecord l a row).2
    ∧ (s.verifyRecord l a row).2.dies[l].antifuse = s.dies[l].antifuse := by
  unfold State.verifyRecord
  rw [hb, if_neg (by decide)]
  exact ⟨congrArg (· == recordOf row) (fuseRd_reads l s ha), layerAlone_fuseRd l s, fuseRd_antifuse l s ha⟩

end

theorem antifuseWord_lt (c : Ch) (p : Pc) (bank : Fin 64) (spare : Fin 4) : antifuseWord c p bank spare < 2048 := by
  unfold antifuseWord spareIndex
  omega

section
variable (s : State) (c : Ch) (p : Pc) (e : Fin 8)

/-- The word of an entry, with the layer of its spare and the spare's anti-fuse word. -/
def State.entryWord : Word32 := s.chans[c].pcs[p].remap[e]
@[inherit_doc State.entryWord] def State.entryLayer : Fin 16 := layerOf c (bankSid (remapBank (s.entryWord c p e)))
@[inherit_doc State.entryWord] def State.entryFuse : Nat :=
  antifuseWord c p (remapBank (s.entryWord c p e)) (remapSpare (s.entryWord c p e))

end

/-! ## A row repair in progress (R277) -/

/-- A repair that began in s holds the pseudo-channel: nothing waits in the transfer area, and the candidates, the commands and
the state of the buses are those of s. -/
structure Repairing (s : State) (c : Ch) (p : Pc) (e : Fin 8) (t : State) : Prop where
  find : ∀ (k : Slot) (seq : BitVec 16), t.sessions[k].find seq = s.sessions[k].find seq
  busFailed : t.busFailed = s.busFailed
  cands : t.chans[c].pcs[p].cands = s.chans[c].pcs[p].cands
  op : t.chans[c].pcs[p].op = some (.hardRepair e)
  images : t.chans[c].taper.images = []
  held : t.chans[c].taper.held = []

section
variable {s t u : State} {c : Ch} {p : Pc} {e : Fin 8} {l : Fin 16}

theorem Repairing.recorded (h : Repairing s c p e t) (hu : Recorded t u) : Repairing s c p e u where
  find k seq := (hu.find k seq).trans (h.find k seq)
  busFailed := hu.busFailed.trans h.busFailed
  cands := by rw [hu.pcs, h.cands]
  op := by rw [hu.pcs, h.op]
  images := by rw [hu.taper, h.images]
  held := by rw [hu.taper, h.held]

theorem Repairing.layerAlone (h : Repairing s c p e t) (hu : LayerAlone l t u) : Repairing s c p e u := by
  obtain ⟨he, -⟩ := hu
  rw [he]
  exact ⟨h.find, h.busFailed, h.cands, h.op, h.images, h.held⟩

/-- A step on the channel that leaves the operation, the candidates and the transfer area. -/
theorem Repairing.updCh (h : Repairing s c p e t) {f : Channel → Channel}
    (hcands : (f t.chans[c]).pcs[p].cands = t.chans[c].pcs[p].cands) (hop : (f t.chans[c]).pcs[p].op = t.chans[c].pcs[p].op)
    (himages : (f t.chans[c]).taper.images = []) (hheld : (f t.chans[c]).taper.held = []) : Repairing s c p e (t.updCh c f) where
  find := h.find
  busFailed := h.busFailed
  cands := by rw [State.updCh_self, hcands, h.cands]
  op := by rw [State.updCh_self, hop, h.op]
  images := by rw [State.updCh_self, himages]
  held := by rw [State.updCh_self, hheld]

theorem Repairing.updPc (h : Repairing s c p e t) {f : PseudoChannel → PseudoChannel}
    (hf : (f t.chans[c].pcs[p]).cands = t.chans[c].pcs[p].cands ∧ (f t.chans[c].pcs[p]).op = t.chans[c].pcs[p].op) :
    Repairing s c p e (t.updPc c p f) := by
  obtain ⟨hcands, hop⟩ := hf
  exact h.updCh (by rw [Channel.updPc_self, hcands]) (by rw [Channel.updPc_self, hop]) h.images h.held

theorem Repairing.passed (h : Repairing s c p e t) : Repairing s c p e (t.updCh c (·.updTaper (·.passed))) :=
  h.updCh rfl rfl rfl rfl

/-! ## The row copy -/

/-- An access that is written changes the memory, and the injections that stood in it. -/
theorem PseudoChannel.storeAccess_eq (q : PseudoChannel) (rows n : Nat) (data : BitVec 512) (check : BitVec 64) :
    ∃ dram injected, q.storeAccess rows n data check = { q with dram := dram, injected := injected } := ⟨_, _, rfl⟩

theorem PseudoChannel.pasteCells_frame (q : PseudoChannel) (rows : Nat) (sid : Sid) (bank : Fin 16) (row : Row)
    (cells : List (BitVec 512 × BitVec 64)) : (q.pasteCells rows sid bank row cells).cands = q.cands
      ∧ (q.pasteCells rows sid bank row cells).op = q.op := by
  unfold PseudoChannel.pasteCells
  refine List.foldlRecOn (motive := fun r : PseudoChannel => r.cands = q.cands ∧ r.op = q.op) _ _ ⟨rfl, rfl⟩
    fun r hr k _ => ?_
  split
  · next d check _ =>
    obtain ⟨dram, injected, h⟩ := r.storeAccess_eq rows (accessNo sid bank row (BitVec.ofNat 4 k)) d check
    rw [h]
    exact hr
  · exact hr

theorem recorded_recordCopyUe (s : State) (c : Ch) (p : Pc) (bank : Fin 64) (row : Row) :
    Recorded s (s.recordCopyUe c p bank row) := by
  unfold State.recordCopyUe
  refine List.foldlRecOn (motive := Recorded s) _ _ (.refl s) fun t ht k _ => ?_
  dsimp only
  split
  · exact ht.trans (recorded_ledger t _ _)
  · exact ht

theorem Channel.eventThread_area (h : Channel) (halt : Bool) (n : Nat) (addr : ThreadAddr) (lease : Option Lease)
    (owed : List OwedRow) : (h.eventThread halt n addr lease owed).taper.images = h.taper.images
      ∧ (h.eventThread halt n addr lease owed).taper.held = h.taper.held := by
  rcases h.eventThread_cases halt n addr lease owed with e | ⟨cnt, e⟩ <;> rw [e]
  · exact ⟨rfl, rfl⟩
  · dsimp only
    unfold Taper.start
    split <;> exact ⟨rfl, rfl⟩

theorem Repairing.fillCopy (h : Repairing s c p e t) : Repairing s c p e (t.fillCopy c p e) := by
  have hrec := h.recorded (recorded_recordCopyUe t c p (remapBank (t.entryWord c p e)) (remapRow (t.entryWord c p e)))
  unfold State.fillCopy
  refine hrec.updCh ?_ ?_ ?_ ?_
  · rw [Channel.eventThread_pcs, Channel.updPc_self]
  · rw [Channel.eventThread_pcs, Channel.updPc_self]
  · rw [(Channel.eventThread_area ..).1]
    exact hrec.images
  · rw [(Channel.eventThread_area ..).2]
    exact hrec.held

theorem Repairing.copied (h : Repairing s c p e t) : Repairing s c p e (t.handImage c (.copyRow p e)) := by
  rw [State.handImage_nil h.images h.held]
  exact h.passed.fillCopy

theorem Repairing.copied_dies (h : Repairing s c p e t) : (t.handImage c (.copyRow p e)).dies = t.dies := by
  rw [State.handImage_nil h.images h.held]
  exact (recorded_recordCopyUe (t.updCh c (·.updTaper (·.passed))) c p _ _).dies

theorem Repairing.repairCopy (h : Repairing s c p e t) (w : BitVec 32) : Repairing s c p e (t.repairCopy c p w) := by
  unfold State.repairCopy
  split
  · refine h.updPc ?_
    split
    · exact PseudoChannel.pasteCells_frame ..
    · exact ⟨rfl, rfl⟩
  · exact h

theorem State.repairCopy_dies (t : State) (c : Ch) (p : Pc) (w : BitVec 32) : (t.repairCopy c p w).dies = t.dies := by
  unfold State.repairCopy
  split <;> rfl

theorem Repairing.copyBack (h : Repairing s c p e t) : Repairing s c p e (t.copyBack c p) := by
  unfold State.copyBack
  refine h.updPc ?_
  split
  · exact PseudoChannel.pasteCells_frame ..
  · exact ⟨rfl, rfl⟩

/-- The release of the row copy writes the row back and ends its thread (R277 step 5). -/
theorem Repairing.release_eq (h : Repairing s c p e t) : t.handImage c (.release p)
    = ((t.updCh c (·.updTaper (·.passed))).copyBack c p).updCh c (·.updTaper (·.endEntry 43 p)) := by
  rw [State.handImage_nil h.images h.held]
  change (t.updCh c (·.updTaper (·.passed))).copyRelease c p = _
  rw [State.copyRelease, h.passed.op]

theorem Repairing.released (h : Repairing s c p e t) : Repairing s c p e (t.handImage c (.release p)) := by
  rw [h.release_eq]
  exact h.passed.copyBack.updCh rfl rfl h.passed.copyBack.images h.passed.copyBack.held

theorem Repairing.released_dies (h : Repairing s c p e t) : (t.handImage c (.release p)).dies = t.dies := by
  rw [h.release_eq]
  rfl

theorem Repairing.ended_at (h : Repairing s c p e t) :
    (t.updCh c (·.opEnds p)).chans[c].pcs[p].cands = s.chans[c].pcs[p].cands := by
  rw [State.updCh_self, (releaseAlone_opEnds t.chans[c] p).2 p, Channel.updPc_self]
  exact h.cands

end

/-! ## The repair of a row (R277, R279) -/

theorem State.spareWord_of_dies {s t : State} (c : Ch) (p : Pc) (w : Word32) (h : t.dies = s.dies) :
    t.spareWord c p w = s.spareWord c p w := by
  simp only [State.spareWord, h]

section
variable (s : State) (c : Ch) (p : Pc) (e : Fin 8) (f : Word32)

/-- A hard repair once its start is journalled, once its row is copied, once its record is programmed and read back, and once the
row copy is released. -/
def State.repairBegun : State :=
  (s.journalRemap c p e (remapSetState (s.entryWord c p e) 3) .hardStart).updPc c p (fun q =>
    { q with op := some (.hardRepair e) })
@[inherit_doc State.repairBegun] def State.repairCopied : State :=
  ((s.repairBegun c p e).handImage c (.copyRow p e)).repairCopy c p (s.entryWord c p e)
@[inherit_doc State.repairBegun] def State.repairProgrammed : State :=
  (s.repairCopied c p e).programRecord (s.entryLayer c p e) (s.entryFuse c p e) (remapRow (s.entryWord c p e)) f
@[inherit_doc State.repairBegun] def State.repairRead : Bool × State :=
  (s.repairProgrammed c p e f).verifyRecord (s.entryLayer c p e) (s.entryFuse c p e) (remapRow (s.entryWord c p e))
@[inherit_doc State.repairBegun] def State.repairFreed : State :=
  ((s.repairRead c p e f).2.handImage c (.release p)).updCh c (·.opEnds p)

/-- The count of the pulses that the record took. -/
def State.repairPulsed : Byte × State :=
  (s.repairFreed c p e f).pulses
    (recordOf (remapRow (s.entryWord c p e)) &&& ~~~(s.spareWord c p (s.entryWord c p e)) == 0) (!(s.repairRead c p e f).1)

theorem layerAlone_repairProgrammed :
    LayerAlone (s.entryLayer c p e) (s.repairCopied c p e) (s.repairProgrammed c p e f) :=
  layerAlone_programRecord _ _ _ f (antifuseWord_lt ..)

variable {s c p e} (hi : s.chans[c].taper.images = []) (hh : s.chans[c].taper.held = [])
include hi hh

theorem repairing_begun : Repairing s c p e (s.repairBegun c p e) := by
  have hrec := recorded_journalRemap s c p e (remapSetState (s.entryWord c p e) 3) .hardStart
  have htaper : (s.journalRemap c p e (remapSetState (s.entryWord c p e) 3) .hardStart).chans[c].taper = s.chans[c].taper := by
    rw [hrec.taper, State.setRemap, State.updPc, State.updCh_self]
    rfl
  unfold State.repairBegun
  refine ⟨hrec.find, hrec.busFailed, ?_, ?_, ?_, ?_⟩
  · rw [State.updPc_at, State.journalRemap_at]
  · rw [State.updPc_at]
  · rw [State.updPc, State.updCh_self]
    exact (congrArg Taper.images htaper).trans hi
  · rw [State.updPc, State.updCh_self]
    exact (congrArg Taper.held htaper).trans hh

theorem repairing_copied : Repairing s c p e (s.repairCopied c p e) := (repairing_begun hi hh).copied.repairCopy _

theorem State.repairCopied_dies : (s.repairCopied c p e).dies = s.dies := by
  rw [State.repairCopied, State.repairCopy_dies, (repairing_begun hi hh).copied_dies]
  exact (recorded_journalRemap s c p e _ _).dies

theorem repairing_programmed : Repairing s c p e (s.repairProgrammed c p e f) :=
  (repairing_copied hi hh).layerAlone (layerAlone_repairProgrammed s c p e f)

section
variable (hb : s.busFailed.getLsbD (s.entryLayer c p e).val = false)
include hb

theorem repairProgrammed_word (h0 : s.spareWord c p (s.entryWord c p e) = 0) :
    (f &&& recordOf (remapRow (s.entryWord c p e)) = 0 →
      (s.repairProgrammed c p e f).spareWord c p (s.entryWord c p e) = recordOf (remapRow (s.entryWord c p e)))
    ∧ (f.getLsbD 31 = true → ((s.repairProgrammed c p e f).spareWord c p (s.entryWord c p e)).getLsbD 31 = false) := by
  have ha : s.entryFuse c p e < 2048 := antifuseWord_lt ..
  have hb' : (s.repairCopied c p e).busFailed.getLsbD (s.entryLayer c p e).val = false := by
    rw [(repairing_copied hi hh).busFailed, hb]
  have h0' : sparseGet (s.repairCopied c p e).dies[s.entryLayer c p e].antifuse (s.entryFuse c p e) = 0 := by
    rw [State.repairCopied_dies hi hh, ← h0]
    rfl
  exact ⟨programRecord_verifies _ f hb' h0' ha, programRecord_invalid _ f hb' h0' ha⟩

/-- FUSE_RD reads what the programming left, and changes nothing of it (R277 step 4). -/
theorem repairRead_eq : (s.repairRead c p e f).1
      = ((s.repairProgrammed c p e f).spareWord c p (s.entryWord c p e) == recordOf (remapRow (s.entryWord c p e)))
    ∧ Repairing s c p e (s.repairRead c p e f).2
    ∧ (s.repairRead c p e f).2.spareWord c p (s.entryWord c p e)
      = (s.repairProgrammed c p e f).spareWord c p (s.entryWord c p e) := by
  have hprog := repairing_programmed (p := p) (e := e) f hi hh
  have hb' : (s.repairProgrammed c p e f).busFailed.getLsbD (s.entryLayer c p e).val = false := by
    rw [hprog.busFailed, hb]
  obtain ⟨hread, hlayer, hfuse⟩ := verifyRecord_eq (remapRow (s.entryWord c p e)) hb' (antifuseWord_lt ..)
  exact ⟨hread, hprog.layerAlone hlayer, congrArg (sparseGet · (s.entryFuse c p e)) hfuse⟩

theorem State.repairFreed_spareWord : (s.repairFreed c p e f).spareWord c p (s.entryWord c p e)
    = (s.repairProgrammed c p e f).spareWord c p (s.entryWord c p e) := by
  obtain ⟨-, hread, hword⟩ := repairRead_eq f hi hh hb
  rw [← hword]
  refine State.spareWord_of_dies c p _ ?_
  rw [State.repairFreed, State.updCh_dies, hread.released_dies]

theorem State.repairFreed_find (k : Slot) (seq : BitVec 16) :
    (s.repairFreed c p e f).sessions[k].find seq = s.sessions[k].find seq := by
  obtain ⟨-, hread, -⟩ := repairRead_eq f hi hh hb
  rw [State.repairFreed, State.updCh_sessions, hread.released.find]

theorem State.repairFreed_cands : (s.repairFreed c p e f).chans[c].pcs[p].cands = s.chans[c].pcs[p].cands := by
  obtain ⟨-, hread, -⟩ := repairRead_eq f hi hh hb
  exact hread.released.ended_at

end

end

/-! ## Its answer (R405) -/

theorem outside_promote (s : State) (c : Ch) (p : Pc) : Outside s (s.promote c p) := by
  unfold State.promote
  extract_lets bankOf
  split
  · next y _ => exact (outside_updCh s c _).trans outside_candidate
  · exact .refl s

theorem State.promote_nil {s : State} {c : Ch} {p : Pc} (h : s.chans[c].pcs[p].cands = []) : s.promote c p = s := by
  simp only [State.promote, h, List.find?_nil]

theorem outside_markSpareBad (s : State) (c : Ch) (p : Pc) (e : Fin 8) : Outside s (s.markSpareBad c p e) :=
  (outside_updCh s c _).trans (outside_journalRemap _ c p e _ _)

theorem outside_moveEntry (s : State) (c : Ch) (p : Pc) (e : Fin 8) : Outside s (s.moveEntry c p e) := by
  unfold State.moveEntry
  dsimp only
  split
  · split
    · exact outside_journalRemap s c p e _ _
    · exact .refl s
  · exact .refl s

section
variable {s : State} {c : Ch} {p : Pc} {e : Fin 8} {f : Word32} {k : Slot} {x : Cmd}

theorem State.hardRepair_eq (s : State) (k : Slot) (x : Cmd) (c : Ch) (p : Pc) (e : Fin 8) (f : Word32) :
    s.hardRepair k x c p e f
    = if (s.repairRead c p e f).1 then
        (((s.repairPulsed c p e f).2.journalRemap c p e 0 .hardDone).promote c p).ok k x [0, (s.repairPulsed c p e f).1, 0, 0]
      else (((s.repairPulsed c p e f).2.markSpareBad c p e).moveEntry c p e).answer k x
        { status := stNvFail, payload := [0, (s.repairPulsed c p e f).1, 0, 0] } := by
  rfl

theorem recorded_pulses (s : State) (nothing failed : Bool) : Recorded s (s.pulses nothing failed).2 := by
  obtain ⟨n, fresh, h⟩ := s.pulses_eq nothing failed
  rw [h]
  exact ⟨⟨rfl, rfl, fun _ _ => rfl⟩, rfl, fun _ => rfl, fun _ => rfl⟩

theorem recorded_repairPulsed (s : State) (c : Ch) (p : Pc) (e : Fin 8) (f : Word32) :
    Recorded (s.repairFreed c p e f) (s.repairPulsed c p e f).2 := recorded_pulses _ _ _

theorem hardRepair_done (hr : (s.repairRead c p e f).1 = true) : s.hardRepair k x c p e f
    = (((s.repairPulsed c p e f).2.journalRemap c p e 0 .hardDone).promote c p).answer k x
      (okResp [0, (s.repairPulsed c p e f).1, 0, 0]) := by
  rw [State.hardRepair_eq, if_pos hr, State.ok_eq_answer]

theorem hardRepair_failed (hr : (s.repairRead c p e f).1 = false) (h0 : s.spareWord c p (s.entryWord c p e) = 0) :
    s.hardRepair k x c p e f = (((s.repairFreed c p e f).markSpareBad c p e).moveEntry c p e).answer k x
      { status := stNvFail, payload := [0, 3, 0, 0] } := by
  have hp : s.repairPulsed c p e f = (3, s.repairFreed c p e f) := by
    have hblow : (recordOf (remapRow (s.entryWord c p e)) &&& ~~~(s.spareWord c p (s.entryWord c p e)) == 0) = false := by
      rw [h0, beq_eq_false_iff_ne]
      exact recordOf_blows _
    rw [State.repairPulsed, hblow, hr]
    exact State.pulses_failed
  rw [State.hardRepair_eq, hr, if_neg (by decide), hp]

end

section
variable {s : State} {k : Slot} {x : Cmd} {c : Ch} {p : Pc} {e : Fin 8} {f : Word32}

theorem repairCommitRow_exec (hb : x.payload = [0, byteOf c.val, byteOf (128 * p.val + e.val), 0])
    (hw : 2 ≤ remapState (s.entryWord c p e)) (hop : s.chans[c].pcs[p].op = none) (hq : s.chans[c].pcs[p].qact = true)
    (h : served s k x 0x0703 true (some 2)) : exec (.repairCommitRow k f) s = .next (s.hardRepair k x c p e f) := by
  have hkind : fieldAt x.payload 0 1 = 0 := by simp [hb]
  have hc : chAt x.payload 1 = c := chAt_of_field (by simp [hb])
  have hunit : fieldAt x.payload 2 1 = 128 * p.val + e.val := by
    simp only [hb, fieldAt_tail, fieldAt_head, byteOf, BitVec.toNat_ofNat]
    omega
  have hp : (Fin.ofNat 2 (fieldAt x.payload 2 1 / 128) : Pc) = p := by
    apply Fin.ext
    simp only [hunit, Fin.ofNat]
    omega
  have he : Fin.ofNat 8 (fieldAt x.payload 2 1) = e := by
    apply Fin.ext
    simp only [hunit, Fin.ofNat]
    omega
  have hshape : rowUnitOk x.payload = true := by
    have hch : fieldAt x.payload 1 1 = c.val := by simp [hb]
    have hfields : shaped x.payload 4 [3] = true := by simp [hb, shaped]
    simp only [rowUnitOk, hfields, hkind, hch, hunit, Bool.true_and, Bool.and_eq_true, decide_eq_true_eq, beq_self_eq_true]
    omega
  refine (next_of_served h (i := .repairCommitRow k f) rfl rfl (isOpFirst_of_opcode (opcode_of_served h) hkind)).trans ?_
  simp only [hc, hp, he]
  refine congrArg _ ((State.valid_true s k x (by rw [hshape, Bool.true_and]; exact decide_eq_true hw) _).trans ?_)
  rw [hop, hq]
  rfl

/-- A hard repair whose bits verify, and one whose VALID does not (R277, R279, R405). -/
theorem repairCommitRow_outcomes {w : Word32} (he : w = s.chans[c].pcs[p].remap[e])
    (hb : x.payload = [0, byteOf c.val, byteOf (128 * p.val + e.val), 0]) (hw : 2 ≤ remapState w)
    (hop : s.chans[c].pcs[p].op = none) (hq : s.chans[c].pcs[p].qact = true) (h0 : s.spareWord c p w = 0)
    (hbus : s.busFailed.getLsbD (layerOf c (bankSid (remapBank w))).val = false) (hi : s.chans[c].taper.images = [])
    (hh : s.chans[c].taper.held = []) (h : served s k x 0x0703 true (some 2)) :
    ∃ t, exec (.repairCommitRow k f) s = .next t
      ∧ (f &&& recordOf (remapRow w) = 0 → (s.chans[c].pcs[p].cands = [] → t.chans[c].pcs[p].remap[e] = 0)
          ∧ t.spareWord c p w = recordOf (remapRow w) ∧ ∃ n, answered t k x (okResp [0, n, 0, 0]))
      ∧ (f.getLsbD 31 = true → (t.spareWord c p w).getLsbD 31 = false
          ∧ answered t k x { status := stNvFail, payload := [0, 3, 0, 0] }) := by
  obtain rfl : w = s.entryWord c p e := he
  obtain ⟨hverifies, hinvalid⟩ := repairProgrammed_word f hi hh hbus h0
  obtain ⟨hread, -, -⟩ := repairRead_eq f hi hh hbus
  have hword := State.repairFreed_spareWord f hi hh hbus
  have hfind := (State.repairFreed_find f hi hh hbus k x.seq).trans (find_of_served h)
  have hdone := not_done_of_served h
  have hx := repairCommitRow_exec (f := f) hb hw hop hq h
  refine ⟨_, hx, fun hf => ?done, fun hf => ?failed⟩
  case done =>
    have hr : (s.repairRead c p e f).1 = true := by rw [hread, hverifies hf, beq_self_eq_true]
    have hpulsed := recorded_repairPulsed s c p e f
    have hjournal := outside_journalRemap (s.repairPulsed c p e f).2 c p e 0 .hardDone
    have hout := (hpulsed.toOutside.trans hjournal).trans (outside_promote _ c p)
    rw [hardRepair_done hr]
    refine ⟨fun hn => ?entry, ?word, _, State.answer_answered _ k x _ ((hout.find k x.seq).trans hfind) hdone⟩
    case entry =>
      have hcands : ((s.repairPulsed c p e f).2.journalRemap c p e 0 .hardDone).chans[c].pcs[p].cands = [] := by
        rw [State.journalRemap_cands, hpulsed.pcs, State.repairFreed_cands f hi hh hbus, hn]
      rw [State.answer_chans, State.promote_nil hcands, State.journalRemap_entry]
    case word =>
      rw [State.spareWord_of_dies c p _ (State.answer_dies ..), State.spareWord_of_dies c p _ hout.dies, hword,
        hverifies hf]
  case failed =>
    have hr : (s.repairRead c p e f).1 = false := by
      rw [hread, beq_eq_false_iff_ne]
      intro heq
      have hbit := hinvalid hf
      rw [heq, recordOf_valid] at hbit
      cases hbit
    have hout := (outside_markSpareBad (s.repairFreed c p e f) c p e).trans (outside_moveEntry _ c p e)
    rw [hardRepair_failed hr h0]
    refine ⟨?_, State.answer_answered _ k x _ ((hout.find k x.seq).trans hfind) hdone⟩
    rw [State.spareWord_of_dies c p _ (State.answer_dies ..), State.spareWord_of_dies c p _ hout.dies, hword]
    exact hinvalid hf

end

/-! ## Records of lanes and TSVs (R286, R469) -/

section
variable {s : State} {k : Slot} {x : Cmd} {c : Ch} {w : Nat}

theorem State.commitRecord_free {r : Nat} {record : Word32} (hl : s.writeLocked r = false) (hc : s.regionClosed r = false)
    (hw : s.freeRecord r = some w) : s.commitRecord k x r record = s.startFuse k x w record := by
  simp only [State.commitRecord, hl, hc, hw]
  rfl

theorem repairCommitLane_queues (unit : Fin 6) (hb : x.payload = [1, byteOf c.val, byteOf unit.val, 0])
    (hu : (s.chans[c].map.unit unit).en = true) (hl : s.writeLocked 2 = false) (hr : s.regionClosed 2 = false)
    (hw : s.freeRecord 2 = some w) (h : served s k x 0x0703 true (some 2)) :
    ∃ t, exec (.repairCommitLane k) s = .next t
      ∧ queuesFuse s t k x w (laneRecordWord c unit.val (s.chans[c].map.unit unit).pos) := by
  have hkind : fieldAt x.payload 0 1 = 1 := by simp [hb]
  have hc : chAt x.payload 1 = c := chAt_of_field (by simp [hb])
  have hunit : fieldAt x.payload 2 1 = unit.val := by simp [hb]
  have hix : Fin.ofNat 6 unit.val = unit := by simp
  have hch : fieldAt x.payload 1 1 = c.val := by simp [hb]
  have hfields : shaped x.payload 4 [3] = true := by simp [hb, shaped]
  refine ⟨_, (next_of_served h (i := .repairCommitLane k) rfl rfl (isOpAt_of_opcode (opcode_of_served h) hkind)).trans ?_,
    queuesFuse_startFuse w _ (find_of_served h)⟩
  simp only [hc, hunit, hix]
  rw [State.valid_true s k x (by simp only [hfields, hch, hu, c.isLt, unit.isLt, decide_true, Bool.and_self]),
    State.commitRecord_free hl hr hw]

theorem repairCommitTsv_queues (g : Fin 16) (pos : Fin 18) (hb : x.payload = [2, byteOf c.val, byteOf g.val, 0])
    (hg : s.chans[c].tsv.repair[g] = some pos) (hl : s.writeLocked 3 = false) (hr : s.regionClosed 3 = false)
    (hw : s.freeRecord 3 = some w) (h : served s k x 0x0703 true (some 2)) :
    ∃ t, exec (.repairCommitTsv k) s = .next t ∧ queuesFuse s t k x w (tsvRecordWord c g.val pos.val) := by
  have hkind : fieldAt x.payload 0 1 = 2 := by simp [hb]
  have hc : chAt x.payload 1 = c := chAt_of_field (by simp [hb])
  have hgroup : fieldAt x.payload 2 1 = g.val := by simp [hb]
  have hix : Fin.ofNat 16 g.val = g := by simp
  have hch : fieldAt x.payload 1 1 = c.val := by simp [hb]
  have hfields : shaped x.payload 4 [3] = true := by simp [hb, shaped]
  refine ⟨_, (next_of_served h (i := .repairCommitTsv k) rfl rfl (isOpAt_of_opcode (opcode_of_served h) hkind)).trans ?_,
    queuesFuse_startFuse w _ (find_of_served h)⟩
  simp only [hc, hgroup, hix, hg]
  rw [State.valid_true s k x (by simp only [hfields, hch, c.isLt, g.isLt, decide_true, Bool.and_self]),
    State.commitRecord_free hl hr hw]

end

/-! ## The obligation -/

/-- Settles O58: REMAP_ADD by what becomes of its candidate, a hard repair by the record it reads back, and the permanent repairs
of lanes and TSVs by the word that waits. -/
theorem jmpRepairs : Obligations.JmpRepairs := by
  refine fun k x s => ⟨fun w bank hw hb hlen ha hr h => remapAdd_outcomes hw hb hlen ha hr h,
    fun w hw _ hbad h => remapAdd_refused hw hbad h,
    fun c p e f w he hb hw hop hq h0 hbus hi hh h => repairCommitRow_outcomes he hb hw hop hq h0 hbus hi hh h,
    fun c unit w hb hu hl hr hw h => repairCommitLane_queues unit hb hu hl hr hw h,
    fun c g pos w hb hg hl hr hw h => repairCommitTsv_queues g pos hb hg hl hr hw h⟩

end Sys2Proof.Machine

/-! The IEEE 1149.1 TAP (R511 to R513): what drives the pins while it holds them, what each instruction selects, and from
these the settlement of `Obligations.TapInstructions`. -/

namespace Sys2Proof.Machine

/-! ## The pins (R513) -/

section
variable {s : State}

theorem State.cattripPin_of_trip (h : s.thermal.trip = true) : s.cattripPin = some true := if_pos h

theorem State.tapHolds_iff : s.tapHolds = true ↔ s.tap.ir = 0 ∨ s.tap.ir = 3 ∨ s.tap.ir = 4 := by
  simp [State.tapHolds, or_assoc]

theorem State.i2cWorks_of_tapHolds (h : s.tapHolds = true) : s.i2cWorks = false := by
  simp [State.i2cWorks, h]

theorem State.tempPins_of_highz (h : s.tap.ir = 3) : s.tempPins = none := by
  simp [State.tempPins, h]

/-- Under EXTEST and CLAMP cells 16 to 18 drive TEMP[2:0] and cell 19 enables them (Table 18-9). -/
theorem State.tempPins_of_cells (h : s.tap.ir = 0 ∨ s.tap.ir = 4) :
    s.tempPins = if s.power.rails[4] && s.tap.cells.getLsbD 19 then some (s.tap.cells.extractLsb' 16 3) else none := by
  cases hr : s.power.rails[4] <;> rcases h with h | h <;> simp [State.tempPins, h, hr]

theorem State.tempPins_thermal (h : s.tap.ir = 0 ∨ s.tap.ir = 3 ∨ s.tap.ir = 4) (th : Thermal) :
    ({ s with thermal := th } : State).tempPins = s.tempPins := by
  obtain hcells | hz : (s.tap.ir = 0 ∨ s.tap.ir = 4) ∨ s.tap.ir = 3 := by tauto
  · rw [State.tempPins_of_cells (s := { s with thermal := th }) hcells, State.tempPins_of_cells hcells]
  · rw [State.tempPins_of_highz (s := { s with thermal := th }) hz, State.tempPins_of_highz hz]

/-! ## The instructions (R511) -/

theorem State.tapRow_of_alive (h : s.tapAlive = true) (body : State) : s.tapRow body = .next body :=
  congrArg Host.Outcome.next (if_pos h)

theorem exec_tapExtest_of_alive (h : s.tapAlive = true) :
    exec .tapExtest s = .next (((s.free 24).2.selectTap 0 (s.sampleCells.1.setWidth 32)).holdPins) :=
  s.tapRow_of_alive h _

theorem exec_samplePreload_of_alive (h : s.tapAlive = true) (cells : BitVec 24) :
    exec (.samplePreload cells) s
      = .next { (s.free 24).2 with tap := ⟨1, cells, s.sampleCells.1.setWidth 32⟩ } :=
  s.tapRow_of_alive h _

theorem exec_idcode_of_alive (h : s.tapAlive = true) : exec .idcode s = .next (s.selectTap 2 s.idcodeWord) :=
  s.tapRow_of_alive h _

theorem exec_highz_of_alive (h : s.tapAlive = true) : exec .highz s = .next (s.selectTap 3 0).holdPins :=
  s.tapRow_of_alive h _

theorem exec_clamp_of_alive (h : s.tapAlive = true) : exec .clamp s = .next (s.selectTap 4 0).holdPins :=
  s.tapRow_of_alive h _

theorem exec_tapBypass_of_alive (h : s.tapAlive = true) : exec .tapBypass s = .next (s.selectTap 15 0) :=
  s.tapRow_of_alive h _

end

/-! ## The obligation -/

/-- Settles O48: the pins by the instruction in force, and each instruction by the state it answers, whose fields other than the
TAP, the I2C target and the counter of free values are those before it. -/
theorem tapInstructions : Obligations.TapInstructions := by
  refine ⟨fun s => ⟨State.cattripPin_of_trip, fun hir => ⟨State.i2cWorks_of_tapHolds (State.tapHolds_iff.mpr hir),
    State.tempPins_thermal hir⟩⟩, fun s halive => ⟨?extest, fun v => ?preload, ?idcode, ?highz, ?clamp, ?bypass⟩⟩
  case extest => exact ⟨_, exec_tapExtest_of_alive halive, rfl, rfl, rfl, rfl⟩
  case preload => exact ⟨_, exec_samplePreload_of_alive halive v, rfl, rfl, rfl⟩
  case idcode => exact ⟨_, exec_idcode_of_alive halive, rfl⟩
  case highz => exact ⟨_, exec_highz_of_alive halive, rfl, rfl, rfl⟩
  case clamp => exact ⟨_, exec_clamp_of_alive halive, rfl, rfl, rfl⟩
  case bypass => exact ⟨_, exec_tapBypass_of_alive halive, rfl⟩

end Sys2Proof.Machine

/-! What no command disturbs (R296, R297, R409, R423): the queue, the trip latch with its pin, the stored user area and the number of
Quince's sectors, as one record that every operation of the model leaves alone but for the few that are named; from this the
settlement of `Obligations.StepKeepsStoreAndTripInvariants`, `Obligations.TripStandsUntilStackReset` and
`Obligations.CommandsKeepQueue`. -/

namespace Sys2Proof.Machine

open Sys2Proof.Safety

/-! ## What is kept -/

/-- The queue, the trip latch, its pin, and of the stores the user area and the number of main sectors. -/
structure Kept where
  pending : List Instr
  trip : Bool
  cattrip : Bool
  store : List Host.Cell × Nat

def NonVolatile.kept (n : NonVolatile) : List Host.Cell × Nat := (n.user, n.sectors.length)

def State.kept (s : State) : Kept :=
  { pending := s.pending, trip := s.thermal.trip, cattrip := s.thermal.cattrip, store := s.nv.kept }

/-- Whatever next state the outcome is, it has this record. -/
def Keeps (r : Result) (k : Kept) : Prop := ∀ t, r = .next t → t.kept = k

@[simp] theorem keeps_next (t : State) (k : Kept) : Keeps (.next t) k ↔ t.kept = k := by
  constructor
  · exact fun h => h t rfl
  · rintro h _ ⟨⟩; exact h

@[simp] theorem State.kept_mk (p t f c d b bf l de w th po nv fu fq q h m se mg i wr ta) :
    State.kept (State.mk p t f c d b bf l de w th po nv fu fq q h m se mg i wr ta) = ⟨p, th.trip, th.cattrip, nv.kept⟩ := rfl

@[simp] theorem State.kept_eta (s : State) : Kept.mk s.pending s.thermal.trip s.thermal.cattrip s.nv.kept = s.kept := rfl

@[simp] theorem State.kept_pending (s : State) : s.kept.pending = s.pending := rfl
@[simp] theorem State.kept_trip (s : State) : s.kept.trip = s.thermal.trip := rfl
@[simp] theorem State.kept_cattrip (s : State) : s.kept.cattrip = s.thermal.cattrip := rfl
@[simp] theorem State.kept_store (s : State) : s.kept.store = s.nv.kept := rfl

@[simp] theorem NonVolatile.kept_mk (a b c d e f g h i j k l m o p q r t u v w x y z a1 a2 a3 a4 a5 a6 a7 a8 a9 b1 b2 b3 b4) :
    NonVolatile.kept
      (NonVolatile.mk a b c d e f g h i j k l m o p q r t u v w x y z a1 a2 a3 a4 a5 a6 a7 a8 a9 b1 b2 b3 b4)
      = (e, d.length) := rfl

@[simp] theorem NonVolatile.kept_eta (n : NonVolatile) : (n.user, n.sectors.length) = n.kept := rfl

@[simp] theorem foldl_kept {α : Type} {f : State → α → State} (hf : ∀ m x, (f m x).kept = m.kept) (l : List α) (n : State) :
    (l.foldl f n).kept = n.kept :=
  List.foldlRecOn (motive := fun m : State => m.kept = n.kept) l f rfl (fun m hm x _ => (hf m x).trans hm)

@[simp] theorem nv_foldl_kept {α : Type} {f : NonVolatile → α → NonVolatile} (hf : ∀ m x, (f m x).kept = m.kept) (l : List α)
    (n : NonVolatile) : (l.foldl f n).kept = n.kept :=
  List.foldlRecOn (motive := fun m : NonVolatile => m.kept = n.kept) l f rfl (fun m hm x _ => (hf m x).trans hm)

section
variable {c : Prop} [Decidable c]

@[simp] theorem ite_kept (a b : State) : (if c then a else b).kept = if c then a.kept else b.kept := apply_ite _ _ _ _

@[simp] theorem ite_nvkept (a b : NonVolatile) : (if c then a else b).kept = if c then a.kept else b.kept := apply_ite _ _ _ _

end

/-! ## Each operation, in the order of the model -/

@[simp] theorem State.updCh_kept (s : State) (c : Ch) (f : Channel → Channel) :
    (s.updCh c f).kept = s.kept := by simp [State.updCh]

@[simp] theorem State.updAll_kept (s : State) (f : Channel → Channel) : (s.updAll f).kept = s.kept := by simp [State.updAll]

@[simp] theorem State.updPc_kept (s : State) (c : Ch) (p : Pc) (f : PseudoChannel → PseudoChannel) :
    (s.updPc c p f).kept = s.kept := by simp [State.updPc]

@[simp] theorem State.updSession_kept (s : State) (k : Slot) (f : Session → Session) :
    (s.updSession k f).kept = s.kept := by simp [State.updSession]

@[simp] theorem State.updWindow_kept (s : State) (t : Transport) (f : Window → Window) :
    (s.updWindow t f).kept = s.kept := by
  unfold State.updWindow
  split <;> simp

@[simp] theorem State.updMgmt_kept (s : State) (f : Mgmt → Mgmt) : (s.updMgmt f).kept = s.kept := by simp [State.updMgmt]

@[simp] theorem State.updWick_kept (s : State) (f : Wick → Wick) : (s.updWick f).kept = s.kept := by simp [State.updWick]

@[simp] theorem State.updNv_kept (s : State) (f : NonVolatile → NonVolatile) :
    (s.updNv f).kept = ⟨s.pending, s.thermal.trip, s.thermal.cattrip, (f s.nv).kept⟩ := rfl

@[simp] theorem State.updI2c_kept (s : State) (f : I2c → I2c) : (s.updI2c f).kept = s.kept := by simp [State.updI2c]

@[simp] theorem State.setCause_kept (s : State) (c : Ch) (n : Nat) :
    (s.setCause c n).kept = s.kept := by simp [State.setCause]

@[simp] theorem State.setCauseAll_kept (s : State) (n : Nat) : (s.setCauseAll n).kept = s.kept := by simp [State.setCauseAll]

@[simp] theorem State.free_kept (s : State) (w : Nat) : (s.free w).2.kept = s.kept := by simp [State.free]

@[simp] theorem NonVolatile.rotate_kept (n : NonVolatile) : (n.rotate).kept = n.kept := by simp [NonVolatile.rotate]

@[simp] theorem NonVolatile.roomFor_kept (n : NonVolatile) (pages : Nat) :
    (n.roomFor pages).kept = n.kept := by simp [NonVolatile.roomFor]

@[simp] theorem NonVolatile.storeParam_kept (n : NonVolatile) (typ : Byte) :
    (n.storeParam typ).kept = n.kept := by simp [NonVolatile.storeParam]

@[simp] theorem NonVolatile.storeRepair_kept (n : NonVolatile) (c : Ch) (p : Pc) (e : Fin 8) (action : RemapAction)
    (w : BitVec 32) :
    (n.storeRepair c p e action w).kept = n.kept := by simp [NonVolatile.storeRepair]

@[simp] theorem State.record_kept (s : State) (typ : Byte) (body : List Byte) :
    (s.record typ body).kept = s.kept := by simp [State.record]

@[simp] theorem State.ledger_kept (s : State) (typ : Byte) (body : List Byte) :
    (s.ledger typ body).kept = s.kept := by simp [State.ledger]

@[simp] theorem State.event_kept (s : State) (typ : Nat) (unit ch pc : Byte) (data : Word32) (seq : Nat) :
    (s.event typ unit ch pc data seq).kept = s.kept := by simp [State.event]

@[simp] theorem State.ledgerEvent_kept (s : State) (rec : Byte) (body : List Byte) (typ : Nat) (unit ch pc : Byte)
    (data : Word32) :
    (s.ledgerEvent rec body typ unit ch pc data).kept = s.kept := by simp [State.ledgerEvent]

@[simp] theorem State.blow_kept (s : State) (w : Nat) (bits failBits : BitVec 39) :
    (s.blow w bits failBits).kept = s.kept := by simp [State.blow]

@[simp] theorem State.cutFuse_kept (s : State) : (s.cutFuse).kept = s.kept := by
  unfold State.cutFuse
  split <;> simp

@[simp] theorem unchanged_kept (s : State) : Keeps (unchanged s) s.kept := by simp [unchanged]

@[simp] theorem State.postImage_kept (s : State) (c : Ch) (x : Transfer) :
    (s.postImage c x).kept = s.kept := by simp [State.postImage]

@[simp] theorem NonVolatile.logDeltas_kept (n : NonVolatile) (u : Fin 64) (items : List DeltaItem) :
    (n.logDeltas u items).kept = n.kept := by
  unfold NonVolatile.logDeltas
  refine nv_foldl_kept (fun m x => ?_) _ _
  rfl

@[simp] theorem State.reportMapState_kept (s : State) (c : Ch) (p : Pc) (old new : MapState) :
    (s.reportMapState c p old new).kept = s.kept := by simp [State.reportMapState]

@[simp] theorem State.takeMapState_kept (s : State) (c : Ch) (p : Pc) (m : MapState) :
    (s.takeMapState c p m).kept = s.kept := by
  unfold State.takeMapState
  split <;> simp

@[simp] theorem State.setMapState_kept (s : State) (c : Ch) (p : Pc) (m : MapState) :
    (s.setMapState c p m).kept = s.kept := by simp [State.setMapState]

@[simp] theorem State.startMapLoad_kept (s : State) (c : Ch) (p : Pc) (m : MapImage) (old : Option MapState) :
    (s.startMapLoad c p m old).kept = s.kept := by simp [State.startMapLoad]

@[simp] theorem State.takeUpMap_kept (s : State) (c : Ch) (p : Pc) (old : Option MapState) :
    (s.takeUpMap c p old).kept = s.kept := by
  unfold State.takeUpMap
  split <;> simp

@[simp] theorem State.rewriteMapRow_kept (s : State) (c : Ch) (p : Pc) (access : Nat) :
    (s.rewriteMapRow c p access).kept = s.kept := by
  unfold State.rewriteMapRow
  split <;> simp

@[simp] theorem State.raiseUrgent_kept (s old : State) (c : Ch) :
    (s.raiseUrgent old c).kept = s.kept := by simp [State.raiseUrgent]

@[simp] theorem State.intake_kept (s : State) (c : Ch) (k : HostCmd) (ok : Sampled) {body : State → State}
    (hb : ∀ t, (body t).kept = t.kept) : (s.intake c k ok body).kept = s.kept := by
  obtain h | ⟨f, h⟩ | h := s.intake_cases c k ok body <;> simp [h, hb]

@[simp] theorem State.signalHealth_kept (s : State) (t : BitVec 32) :
    (s.signalHealth t).kept = s.kept := by simp [State.signalHealth]

@[simp] theorem State.evalHealth_kept (s : State) : (s.evalHealth).kept = s.kept := by simp [State.evalHealth]

@[simp] theorem State.foldHistograms_kept (s : State) : (s.foldHistograms).kept = s.kept := by simp [State.foldHistograms]

@[simp] theorem State.openRow_kept (s : State) (c : Ch) (p : Pc) (sid : Sid) (bg : Bg) (ba : Ba) (row : Row) :
    (s.openRow c p sid bg ba row).kept = s.kept := by
  unfold State.openRow
  dsimp only
  repeat' split
  all_goals simp

@[simp] theorem State.settleGates_kept (s : State) (c : Ch) : (s.settleGates c).kept = s.kept := by simp [State.settleGates]

@[simp] theorem State.enterSelfRefresh_kept (s : State) (c : Ch) (managed : Bool) :
    (s.enterSelfRefresh c managed).kept = s.kept := by simp [State.enterSelfRefresh]

@[simp] theorem State.leaveSelfRefresh_kept (s : State) (c : Ch) :
    (s.leaveSelfRefresh c).kept = s.kept := by simp [State.leaveSelfRefresh]

theorem execSrx_kept (c : Ch) (ok : Sampled) (s : State) : Keeps (execSrx c ok s) s.kept := by
  unfold execSrx
  dsimp only
  repeat' split
  all_goals simp

@[simp] theorem State.enterLinkHold_kept (s : State) : (s.enterLinkHold).kept = s.kept := by simp [State.enterLinkHold]

@[simp] theorem State.freeze_kept (s : State) : (s.freeze).kept = s.kept := by simp [State.freeze]

@[simp] theorem State.loseLock_kept (s : State) : (s.loseLock).kept = s.kept := by
  unfold State.loseLock
  split <;> simp

theorem execLossOfLock_kept (s : State) : Keeps (execLossOfLock s) s.kept := by
  unfold execLossOfLock
  split <;> simp

@[simp] theorem State.closeLoop_kept (s : State) : (s.closeLoop).kept = s.kept := by simp [State.closeLoop]

theorem execWickBandSearch_kept (counts : List Nat) (rail : RailSide) (s : State) :
    Keeps (execWickBandSearch counts rail s) s.kept := by
  unfold execWickBandSearch
  dsimp only
  repeat' split
  all_goals simp

@[simp] theorem State.endEpisode_kept (s : State) (held : Bool) :
    (s.endEpisode held).kept = s.kept := by simp [State.endEpisode]

theorem execLockDeclared_kept (s : State) : Keeps (execLockDeclared s) s.kept := by
  unfold execLockDeclared
  repeat' split
  all_goals simp

theorem execRelockComplete_kept (s : State) : Keeps (execRelockComplete s) s.kept := by
  unfold execRelockComplete
  split <;> simp

theorem execSync_kept (inverted : Bool) (s : State) : Keeps (execSync inverted s) s.kept := by
  unfold execSync
  split <;> simp

@[simp] theorem State.setCoreRl_kept (s : State) (bin : BitVec 2) :
    (s.setCoreRl bin).kept = s.kept := by simp [State.setCoreRl]

theorem execBinChange_kept (s : State) : Keeps (execBinChange s) s.kept := by
  unfold execBinChange
  dsimp only
  repeat' split
  all_goals simp

@[simp] theorem State.writeMr15_kept (s : State) (c : Ch) (v : BitVec 16) :
    (s.writeMr15 c v).kept = s.kept := by simp [State.writeMr15]

@[simp] theorem State.mrWrite_kept (s : State) (c : Ch) (ma : Fin 32) (v : BitVec 16) :
    (s.mrWrite c ma v).kept = s.kept := by
  unfold State.mrWrite
  repeat' split
  all_goals simp

@[simp] theorem State.mrwCommand_kept (s : State) (c : Ch) (ma : Fin 32) (v : BitVec 16) (ok : Sampled) :
    (s.mrwCommand c ma v ok).kept = s.kept := by simp [State.mrwCommand]

theorem execPrechargeTimerExpiry_kept (c : Ch) (p : Pc) (sid : Sid) (bg : Bg) (ba : Ba) (s : State) :
    Keeps (execPrechargeTimerExpiry c p sid bg ba s) s.kept := by
  unfold execPrechargeTimerExpiry
  split <;> simp

theorem execAdaptChangeApply_kept (c : Ch) (s : State) : Keeps (execAdaptChangeApply c s) s.kept := by
  unfold execAdaptChangeApply
  dsimp only
  repeat' split
  all_goals simp

theorem execReservedRowClearDone_kept (c : Ch) (s : State) : Keeps (execReservedRowClearDone c s) s.kept := by
  unfold execReservedRowClearDone
  split <;> simp

theorem execFillComplete_kept (c : Ch) (p : Pc) (s : State) : Keeps (execFillComplete c p s) s.kept := by
  unfold execFillComplete
  split <;> simp

@[simp] theorem State.laneMarginal_kept (s : State) (c : Ch) (k : Fin 100) (last : List Byte) :
    (s.laneMarginal c k last).kept = s.kept := by simp [State.laneMarginal]

@[simp] theorem State.tsvMarginal_kept (s : State) (c : Ch) (g : Fin 16) (pos : Fin 19) :
    (s.tsvMarginal c g pos).kept = s.kept := by simp [State.tsvMarginal]

@[simp] theorem State.journalRemap_kept (s : State) (c : Ch) (p : Pc) (e : Fin 8) (w : BitVec 32) (action : RemapAction) :
    (s.journalRemap c p e w action).kept = s.kept := by simp [State.journalRemap]

@[simp] theorem State.candidate_kept (s : State) (c : Ch) (p : Pc) (bank : Fin 64) (row : Row) (src : BitVec 2) :
    (s.candidate c p bank row src).1.kept = s.kept := by
  unfold State.candidate
  dsimp only
  repeat' split
  all_goals simp

@[simp] theorem State.promote_kept (s : State) (c : Ch) (p : Pc) : (s.promote c p).kept = s.kept := by
  unfold State.promote
  dsimp only
  repeat' split
  all_goals simp

@[simp] theorem State.foundCandidate_kept (s : State) (c : Ch) (p : Pc) (n : Nat) (src : BitVec 2) :
    (s.foundCandidate c p n src).kept = s.kept := by simp [State.foundCandidate]

@[simp] theorem State.bucketOverflow_kept (s : State) (c : Ch) (p : Pc) :
    (s.bucketOverflow c p).kept = s.kept := by simp [State.bucketOverflow]

@[simp] theorem State.bucketAdd_kept (s : State) (c : Ch) (p : Pc) (n sym : Nat) :
    (s.bucketAdd c p n sym).kept = s.kept := by simp [State.bucketAdd]

@[simp] theorem State.tallyUe_kept (s : State) (c : Ch) (p : Pc) (n : Nat) (scrub : Bool) :
    (s.tallyUe c p n scrub).kept = s.kept := by simp [State.tallyUe]

@[simp] theorem State.noteCorrected_kept (s : State) (c : Ch) (p : Pc) (n : Nat) :
    (s.noteCorrected c p n).kept = s.kept := by simp [State.noteCorrected]

@[simp] theorem State.noteSymbol_kept (s : State) (c : Ch) (p : Pc) (n sym : Nat) :
    (s.noteSymbol c p n sym).kept = s.kept := by simp [State.noteSymbol]

@[simp] theorem State.countRead_kept (s : State) (c : Ch) (p : Pc) (n : Nat) (v : ReadEvents) (inj : Option Bool)
    (scrub : Bool) :
    (s.countRead c p n v inj scrub).kept = s.kept := by simp [State.countRead]

@[simp] theorem State.dieRead_kept (s : State) (c : Ch) (p : Pc) (n : Nat) (env : LineEnv) (owner : Option Nat) :
    (s.dieRead c p n env owner).2.kept = s.kept := by
  unfold State.dieRead
  dsimp only
  repeat' split
  all_goals simp

@[simp] theorem State.slip_kept (s : State) (c : Ch) : (s.slip c).kept = s.kept := by simp [State.slip]

@[simp] theorem State.readSlip_kept (s : State) (c : Ch) (p : Pc) (env : LineEnv) :
    (s.readSlip c p env).kept = s.kept := by simp [State.readSlip]

@[simp] theorem State.loadRead_kept (s : State) (c : Ch) (p : Pc) (env : LineEnv) (b : OutBurst) :
    (s.loadRead c p env b).kept = s.kept := by simp [State.loadRead]

@[simp] theorem State.fireRead_kept (s : State) (c : Ch) (p : Pc) (n : Nat) (owner : Option Nat) (env : LineEnv) :
    (s.fireRead c p n owner env).kept = s.kept := by simp [State.fireRead]

@[simp] theorem State.fireDecode_kept (s : State) (c : Ch) (p : Pc) (env : LineEnv) :
    (s.fireDecode c p env).kept = s.kept := by
  unfold State.fireDecode
  dsimp only
  repeat' split
  all_goals simp

@[simp] theorem State.fireUnservable_kept (s : State) (c : Ch) (p : Pc) (env : LineEnv) :
    (s.fireUnservable c p env).kept = s.kept := by simp [State.fireUnservable]

@[simp] theorem State.labPattern_kept (s : State) (c : Ch) (b : OutBurst) : (s.labPattern c b).2.kept = s.kept := by
  unfold State.labPattern
  dsimp only
  repeat' split
  all_goals simp

@[simp] theorem State.driverLimits_kept (s : State) (c : Ch) (p : Pc) (env : LineEnv) : (s.driverLimits c p env).kept = s.kept := by
  refine foldl_kept (fun t lane => ?_) _ _
  dsimp only
  split <;> simp

@[simp] theorem State.fireLaunch_kept (s : State) (c : Ch) (p : Pc) (env : LineEnv) :
    (s.fireLaunch c p env).kept = s.kept := by
  unfold State.fireLaunch
  repeat' split
  all_goals simp

@[simp] theorem State.fireBufRead_kept (s : State) (c : Ch) (p : Pc) (tb : Fin 16) (env : LineEnv) :
    (s.fireBufRead c p tb env).kept = s.kept := by simp [State.fireBufRead]

@[simp] theorem State.failWrite_kept (s : State) (c : Ch) (p : Pc) (slips : Bool) :
    (s.failWrite c p slips).kept = s.kept := by simp [State.failWrite]

@[simp] theorem State.stage_kept (s : State) (c : Ch) (p : Pc) (x : Staged) :
    (s.stage c p x).kept = s.kept := by simp [State.stage]

@[simp] theorem State.fireUnload_kept (s : State) (c : Ch) (p : Pc) (env : LineEnv) :
    (s.fireUnload c p env).kept = s.kept := by
  unfold State.fireUnload
  split <;> simp

@[simp] theorem State.fireCommit_kept (s : State) (c : Ch) (p : Pc) (n : Nat) (data : BitVec 512) (check : BitVec 64)
    (env : LineEnv) :
    (s.fireCommit c p n data check env).kept = s.kept := by simp [State.fireCommit]

@[simp] theorem State.fireBufWrite_kept (s : State) (c : Ch) (p : Pc) (tb : Fin 16) (bits : BitVec 624) (env : LineEnv) :
    (s.fireBufWrite c p tb bits env).kept = s.kept := by simp [State.fireBufWrite]

@[simp] theorem State.fireCopyRead_kept (s : State) (c : Ch) (p : Pc) (sid : Sid) (bank : Fin 16) (row : Row)
    (owner : Option Nat) (env : LineEnv) :
    (s.fireCopyRead c p sid bank row owner env).kept = s.kept := by simp [State.fireCopyRead]

@[simp] theorem State.fireFill_kept (s : State) (c : Ch) (p : Pc) (n : Nat) :
    (s.fireFill c p n).kept = s.kept := by simp [State.fireFill]

theorem execCalendarAction_kept (c : Ch) (p : Pc) (env : LineEnv) (s : State) :
    Keeps (execCalendarAction c p env s) s.kept := by
  unfold execCalendarAction
  repeat' split
  all_goals simp

@[simp] theorem NonVolatile.updSector_kept (n : NonVolatile) (i : Nat) (f : Sector → Sector) :
    (n.updSector i f).kept = n.kept := by simp [NonVolatile.updSector]

@[simp] theorem NonVolatile.note_kept (n : NonVolatile) (r : JournalRec) :
    (n.note r).kept = n.kept := by simp [NonVolatile.note]

@[simp] theorem NonVolatile.move_kept (n : NonVolatile) (i j : Nat) : (n.move i j).kept = n.kept := by
  unfold NonVolatile.move
  repeat' split
  all_goals simp

@[simp] theorem NonVolatile.eraseSector_kept (n : NonVolatile) (i pulses : Nat) :
    (n.eraseSector i pulses).kept = n.kept := by simp [NonVolatile.eraseSector]

@[simp] theorem NonVolatile.cutSector_kept (n : NonVolatile) (o : NvOp) : (n.cutSector o).kept = n.kept := by
  unfold NonVolatile.cutSector
  repeat' split
  all_goals simp

@[simp] theorem NonVolatile.opEnds_kept (n : NonVolatile) (o : NvOp) (ok : Bool) : (n.opEnds o ok).kept = n.kept := by
  unfold NonVolatile.opEnds
  split <;> simp

@[simp] theorem NonVolatile.scan_kept (n : NonVolatile) : (n.scan).kept = n.kept := by simp [NonVolatile.scan]

@[simp] theorem NonVolatile.turnLedger_kept (n : NonVolatile) : (n.turnLedger).kept = n.kept := by
  unfold NonVolatile.turnLedger
  dsimp only
  repeat' split
  all_goals simp

@[simp] theorem NonVolatile.ledgerOpen_kept (n : NonVolatile) :
    (n.ledgerOpen).kept = n.kept := by simp [NonVolatile.ledgerOpen]

@[simp] theorem NonVolatile.ledgerPage_kept (n : NonVolatile) : (n.ledgerPage).kept = n.kept := by
  unfold NonVolatile.ledgerPage
  split <;> simp

@[simp] theorem NonVolatile.packRecord_kept (x : NonVolatile × Nat) (r : LedgerRec) :
    (NonVolatile.packRecord x r).1.kept = x.1.kept := by
  unfold NonVolatile.packRecord
  dsimp only
  by_cases h : 20 + r.body.length ≤ x.2 <;> simp [h]

@[simp] theorem NonVolatile.packLedger_kept (n : NonVolatile) : n.packLedger.kept = n.kept :=
  List.foldlRecOn (motive := fun a : NonVolatile × Nat => a.1.kept = n.kept) _ _ rfl
    (fun a ha r _ => (NonVolatile.packRecord_kept a r).trans ha)

@[simp] theorem State.readLine_kept (s : State) (a : Nat) : (s.readLine a).kept = s.kept := by
  unfold State.readLine
  repeat' split
  all_goals simp

@[simp] theorem State.fetchLine_kept (s : State) (a : Nat) (branch : Bool) : (s.fetchLine a branch).kept = s.kept := by
  unfold State.fetchLine
  split <;> simp

@[simp] theorem State.dmaRead_kept (s : State) (a : Nat) : (s.dmaRead a).kept = s.kept := by
  unfold State.dmaRead
  split <;> simp

@[simp] theorem State.wakeQuince_kept (s : State) : (s.wakeQuince).kept = s.kept := by simp [State.wakeQuince]

@[simp] theorem State.withQuince_kept (s body : State) :
    (s.withQuince body).kept = if s.nvFree then body.kept else s.kept := by
  simp [State.withQuince]

@[simp] theorem State.readQuince_kept (s body : State) :
    (s.readQuince body).kept = if s.quince.op.isSome then s.kept else if s.nvFree then body.kept else s.kept := by
  simp [State.readQuince]

@[simp] theorem State.startNv_kept (s : State) (kind : NvKind) (sector : Option (Fin 255)) (page : Option (Fin 264))
    (cont : NvCont) (owner : Option (Slot × BitVec 16)) :
    (s.startNv kind sector page cont owner).kept = s.kept := by simp [State.startNv]

@[simp] theorem State.keepErased_kept (s : State) : (s.keepErased).kept = s.kept := by
  unfold State.keepErased
  repeat' split
  all_goals simp

@[simp] theorem State.branchTrue_kept (s : State) (c : Ch) (x : Thread) (bcnd : Nat) :
    (s.branchTrue c x bcnd).2.kept = s.kept := by
  unfold State.branchTrue
  dsimp only
  repeat' split
  all_goals simp

@[simp] theorem State.traceStep_kept (s : State) (c : Ch) (x : Thread) (on : Bool) (wait : BitVec 12) :
    (s.traceStep c x on wait).kept = s.kept := by simp [State.traceStep]

@[simp] theorem State.finishStep_kept (s : State) (c : Ch) (x : Thread) (issued : Bool) (next : BitVec 10) (wait : BitVec 12) :
    (s.finishStep c x issued next wait).kept = s.kept := by simp [State.finishStep]

@[simp] theorem State.branchStep_kept (s : State) (c : Ch) (x : Thread) (issued : Bool) :
    (s.branchStep c x issued).kept = s.kept := by simp [State.branchStep]

@[simp] theorem State.runStep_kept (s : State) (c : Ch) (tid opc : Nat) {body : State → Thread → BitVec 64 → State}
    (hb : ∀ t x w, (body t x w).kept = t.kept) : Keeps (s.runStep c tid opc body) s.kept := by
  unfold State.runStep
  repeat' split
  all_goals simp [hb]

@[simp] theorem State.issueAction_kept (s : State) (c : Ch) (x : Thread) (w : BitVec 64) :
    (s.issueAction c x w).1.kept = s.kept := by
  unfold State.issueAction
  dsimp only
  repeat' split
  all_goals simp

@[simp] theorem State.refuseStep_kept (s : State) (c : Ch) (x : Thread) :
    (s.refuseStep c x).kept = s.kept := by simp [State.refuseStep]

@[simp] theorem State.issueStep_kept (s : State) (c : Ch) (x : Thread) (w : BitVec 64) {done : State → Thread → State}
    (hd : ∀ t x, (done t x).kept = t.kept) : (s.issueStep c x w done).kept = s.kept := by
  simp [State.issueStep, hd]

theorem execFetch_kept (c : Ch) (tid : Nat) (s : State) : Keeps (execFetch c tid s) s.kept := by
  refine State.runStep_kept _ _ _ _ (fun t x w => ?_)
  dsimp only
  split <;> simp

theorem execLeaseEnd_kept (c : Ch) (tid : Nat) (s : State) : Keeps (execLeaseEnd c tid s) s.kept := by
  unfold execLeaseEnd
  repeat' split
  all_goals simp

theorem execTableSwap_kept (c : Ch) (s : State) : Keeps (execTableSwap c s) s.kept := by
  unfold execTableSwap
  dsimp only
  repeat' split
  all_goals simp

theorem execOldBankDrain_kept (c : Ch) (s : State) : Keeps (execOldBankDrain c s) s.kept := by
  unfold execOldBankDrain
  dsimp only
  repeat' split
  all_goals simp

theorem execTableScan_kept (c : Ch) (corrected : List (Fin 1088)) (bad : Option (Fin 1088)) (s : State) :
    Keeps (execTableScan c corrected bad s) s.kept := by
  unfold execTableScan
  dsimp only
  repeat' split
  all_goals simp

@[simp] theorem State.setThreshold_kept (s : State) (c : Ch) (th : Nat) :
    (s.setThreshold c th).kept = s.kept := by simp [State.setThreshold]

@[simp] theorem State.copyBack_kept (s : State) (c : Ch) (p : Pc) :
    (s.copyBack c p).kept = s.kept := by simp [State.copyBack]

@[simp] theorem State.remapActive_kept (s : State) (c : Ch) (p : Pc) (e : Fin 8) :
    (s.remapActive c p e).kept = s.kept := by simp [State.remapActive]

@[simp] theorem State.sensorFault_kept (s : State) (i : Fin 128) (cause : Nat) :
    (s.sensorFault i cause).kept = s.kept := by simp [State.sensorFault]

@[simp] theorem State.updateCodes_kept (s : State) : (s.updateCodes).kept = s.kept := by simp [State.updateCodes]

@[simp] theorem State.updateModes_kept (s : State) : (s.updateModes).kept = s.kept := by simp [State.updateModes]

@[simp] theorem State.unitEvent_kept (s : State) (u : Fin 5) : (s.unitEvent u).kept = s.kept := by
  unfold State.unitEvent
  split <;> simp

@[simp] theorem State.updatePeaks_kept (s : State) : (s.updatePeaks).kept = s.kept := by simp [State.updatePeaks]

theorem execSampleTick_kept (base0 core0 : List Reading) (s : State) : Keeps (execSampleTick base0 core0 s) s.kept := by
  unfold execSampleTick
  split <;> simp

theorem execHistogramSecond_kept (s : State) : Keeps (execHistogramSecond s) s.kept := by
  unfold execHistogramSecond
  split <;> simp

theorem execTripRecord_kept (s : State) : Keeps (execTripRecord s) s.kept := by
  unfold execTripRecord
  repeat' split
  all_goals simp

@[simp] theorem State.driveBaselines_kept (s : State) : (s.driveBaselines).kept = s.kept := by
  unfold State.driveBaselines
  repeat' split
  all_goals simp

@[simp] theorem State.saveBaselines_kept (s : State) : (s.saveBaselines).kept = s.kept := by simp [State.saveBaselines]

@[simp] theorem State.finish_kept (s : State) (c : Ch) : (s.finish c).kept = s.kept := by simp [State.finish]

@[simp] theorem State.trnWrite_kept (s : State) (c : Ch) (w : Word32) :
    (s.trnWrite c w).kept = s.kept := by simp [State.trnWrite]

theorem execStageComplete_kept (c : Ch) (rep : StageReport) (s : State) : Keeps (execStageComplete c rep s) s.kept := by
  unfold execStageComplete
  dsimp only
  repeat' split
  all_goals simp

theorem execTrackingWindow_kept (c : Ch) (counts : List LaneCount) (s : State) :
    Keeps (execTrackingWindow c counts s) s.kept := by
  unfold execTrackingWindow
  split <;> simp

@[simp] theorem State.reject_kept (s : State) (c : Ch) (k : Fin 100) (last : List Byte) :
    (s.reject c k last).kept = s.kept := by simp [State.reject]

@[simp] theorem State.takeResult_kept (s : State) (c : Ch) (e : EyeResult) :
    (s.takeResult c e).kept = s.kept := by simp [State.takeResult]

theorem execTsvCalEval_kept (c : Ch) (reports : List TsvReport) (s : State) : Keeps (execTsvCalEval c reports s) s.kept := by
  unfold execTsvCalEval
  split
  · rw [keeps_next, foldl_kept (fun t r => ?_)]
    · simp
    · dsimp only; split <;> simp
  · simp

@[simp] theorem State.service_kept (s : State) (x : SvcCmd) : (s.service x).kept = s.kept := by simp [State.service]

@[simp] theorem State.startMove_kept (s : State) (c : Ch) (g : Fin 16) (pos : Fin 18) :
    (s.startMove c g pos).kept = s.kept := by
  unfold State.startMove
  split <;> simp

@[simp] theorem State.updDie_kept (s : State) (l : Fin 16) (f : CoreDie → CoreDie) :
    (s.updDie l f).kept = s.kept := by simp [State.updDie]

@[simp] theorem State.softChange_kept (s : State) (x : SvcCmd) (set : Bool) :
    (s.softChange x set).kept = s.kept := by simp [State.softChange]

@[simp] theorem State.layerServes_kept (s : State) (x : SvcCmd) (programs : Bool) :
    (s.layerServes x programs).2.2.kept = s.kept := by
  unfold State.layerServes
  dsimp only
  repeat' split
  all_goals simp

@[simp] theorem State.sendTo_kept (s : State) (x : SvcCmd) (programs : Bool) :
    (s.sendTo x programs).2.2.kept = s.kept := by simp [State.sendTo]

@[simp] theorem State.sendAndPoll_kept (s : State) (x : SvcCmd) (programs : Bool) :
    (s.sendAndPoll x programs).2.2.kept = s.kept := by
  have h := s.sendTo_kept x programs
  unfold State.sendAndPoll
  generalize s.sendTo x programs = r at h ⊢
  split <;> simp_all

@[simp] theorem State.exchange_kept (s : State) (x : SvcCmd) (programs : Bool) :
    (s.exchange x programs).2.2.kept = s.kept := by
  have h := s.sendTo_kept x programs
  unfold State.exchange
  generalize s.sendTo x programs = r at h ⊢
  split <;> simp_all

@[simp] theorem State.fuseRd_kept (s : State) (l : Fin 16) (w : Nat) :
    (s.fuseRd l w).2.kept = s.kept := by simp [State.fuseRd]

@[simp] theorem State.fuseRdAll_kept (s : State) (l : Fin 16) (words : List Nat) : (s.fuseRdAll l words).2.kept = s.kept :=
  List.foldlRecOn (motive := fun a : List Word32 × State => a.2.kept = s.kept) words _ rfl
    (fun a ha w _ => (a.2.fuseRd_kept l w).trans ha)

@[simp] theorem State.fusePgm_kept (s : State) (l : Fin 16) (w bit : Nat) (programs : Bool) :
    (s.fusePgm l w bit programs).kept = s.kept := by simp [State.fusePgm]

@[simp] theorem State.programBits_kept (s : State) (l : Fin 16) (w : Nat) (want failBits : Word32) :
    (s.programBits l w want failBits).kept = s.kept := by
  refine foldl_kept (fun t b => ?_) _ _
  split <;> simp

theorem execTrefiAccrual_kept (c : Ch) (p : Pc) (sid : Sid) (s : State) : Keeps (execTrefiAccrual c p sid s) s.kept := by
  unfold execTrefiAccrual
  split <;> simp

theorem execInternalRef_kept (c : Ch) (p : Pc) (sid : Sid) (s : State) : Keeps (execInternalRef c p sid s) s.kept := by
  unfold execInternalRef
  split <;> simp

theorem execProfileBatchStart_kept (c : Ch) (p : Pc) (sid : Sid) (groups : List Nat) (s : State) :
    Keeps (execProfileBatchStart c p sid groups s) s.kept := by
  unfold execProfileBatchStart
  split <;> simp

@[simp] theorem State.listRow_kept (s : State) (c : Ch) (p : Pc) (i : Fin 64) (row : Nat) :
    (s.listRow c p i row).kept = s.kept := by simp [State.listRow]

@[simp] theorem State.failGroup_kept (s : State) (c : Ch) (p : Pc) (g : ProfileGroup) (code : BitVec 2) :
    (s.failGroup c p g code).kept = s.kept := by simp [State.failGroup]

@[simp] theorem State.groupVerdict_kept (s : State) (c : Ch) (p : Pc) (step : Nat) (g : ProfileGroup) :
    (s.groupVerdict c p step g).1.kept = s.kept := by
  unfold State.groupVerdict
  repeat' split
  all_goals simp

@[simp] theorem State.batchVerdict_kept (s : State) (c : Ch) (p : Pc) (b : ProfileBatch) :
    (s.batchVerdict c p b).kept = s.kept := by
  refine (State.updPc_kept _ _ _ _).trans (List.foldlRecOn (motive := fun a : State × List ProfileGroup => a.1.kept = s.kept)
    b.groups _ rfl (fun a ha g _ => (a.1.groupVerdict_kept c p b.step g).trans ha))

theorem execProfileVerdict_kept (c : Ch) (p : Pc) (moment : ProfileMoment) (s : State) :
    Keeps (execProfileVerdict c p moment s) s.kept := by
  unfold execProfileVerdict
  repeat' split
  all_goals simp

theorem execDeltaLogWrite_kept (c : Ch) (p : Pc) (s : State) : Keeps (execDeltaLogWrite c p s) s.kept := by
  unfold execDeltaLogWrite
  dsimp only
  repeat' split
  all_goals simp

@[simp] theorem State.reduceMap_kept (s : State) (c : Ch) (p : Pc) (number : Nat) :
    (s.reduceMap c p number).kept = s.kept := by simp [State.reduceMap]

@[simp] theorem NonVolatile.writeGeneration_kept (n : NonVolatile) (maps : List (Fin 64 × MapImage)) (only : Bool) :
    (n.writeGeneration maps only).kept = n.kept := by simp [NonVolatile.writeGeneration]

@[simp] theorem State.generated_kept (s : State) (c : Ch) (p : Pc) :
    (s.generated c p).kept = s.kept := by simp [State.generated]

theorem execSnapshotGeneration_kept (s : State) : Keeps (execSnapshotGeneration s) s.kept := by
  unfold execSnapshotGeneration
  split <;> simp

@[simp] theorem NonVolatile.readMaps_kept (n : NonVolatile) (unread : BitVec 3) (lost : List (Nat × BitVec 2))
    (hoursLost : Bool) :
    (n.readMaps unread lost hoursLost).kept = n.kept := by simp [NonVolatile.readMaps]

@[simp] theorem State.loadMapOf_kept (s : State) (c : Ch) (p : Pc) :
    (s.loadMapOf c p).kept = s.kept := by simp [State.loadMapOf]

@[simp] theorem State.readSlots_kept (s : State) : (s.readSlots).kept = s.kept := by simp [State.readSlots]

@[simp] theorem State.findMaps_kept (s : State) : s.findMaps.kept = s.kept := by
  have h : ∀ (l : List DeltaRec) (t : State), (l.foldl (fun (acc : List (Nat × BitVec 2) × State) d =>
      (acc.1 ++ [(d.seq, (acc.2.free 2).1)], (acc.2.free 2).2)) ([], t)).2.kept = t.kept := fun l t =>
    List.foldlRecOn (motive := fun a : List (Nat × BitVec 2) × State => a.2.kept = t.kept) l _ rfl
      (fun a ha d _ => (a.2.free_kept 2).trans ha)
  have h2 := h s.nv.deltaLog (s.free 4).2
  refine (State.updNv_kept _ _).trans ?_
  rw [NonVolatile.readMaps_kept, State.kept_eta]
  exact h2

@[simp] theorem State.resumeLoads_kept (s : State) : s.resumeLoads.kept = s.kept := by
  refine (foldl_kept (fun t x => ?_) _ _).trans (State.updMgmt_kept _ _)
  split <;> simp

theorem execScrubOverdue_kept (c : Ch) (p : Pc) (s : State) : Keeps (execScrubOverdue c p s) s.kept := by
  unfold execScrubOverdue
  split <;> simp

@[simp] theorem State.markSpareBad_kept (s : State) (c : Ch) (p : Pc) (e : Fin 8) :
    (s.markSpareBad c p e).kept = s.kept := by simp [State.markSpareBad]

@[simp] theorem State.moveEntry_kept (s : State) (c : Ch) (p : Pc) (e : Fin 8) : (s.moveEntry c p e).kept = s.kept := by
  unfold State.moveEntry
  dsimp only
  repeat' split
  all_goals simp

@[simp] theorem State.recordCopyUe_kept (s : State) (c : Ch) (p : Pc) (bank : Fin 64) (row : Row) :
    (s.recordCopyUe c p bank row).kept = s.kept := by
  refine foldl_kept (fun t k => ?_) _ _
  dsimp only
  split <;> simp

@[simp] theorem State.fillCopy_kept (s : State) (c : Ch) (p : Pc) (e : Fin 8) :
    (s.fillCopy c p e).kept = s.kept := by simp [State.fillCopy]

@[simp] theorem State.startCopy_kept (s : State) (c : Ch) (p : Pc) (e : Fin 8) (op : QuiesceOp) :
    (s.startCopy c p e op).kept = s.kept := by simp [State.startCopy]

theorem execRemapApply_kept (c : Ch) (p : Pc) (e : Fin 8) (s : State) : Keeps (execRemapApply c p e s) s.kept := by
  unfold execRemapApply
  dsimp only
  repeat' split
  all_goals simp

theorem execRowCopyTimeout_kept (c : Ch) (p : Pc) (s : State) : Keeps (execRowCopyTimeout c p s) s.kept := by
  unfold execRowCopyTimeout
  split <;> simp

@[simp] theorem State.undoMove_kept (s : State) (c : Ch) (lid : Fin 16) : (s.undoMove c lid).kept = s.kept := by
  unfold State.undoMove
  repeat' split
  all_goals simp

@[simp] theorem State.moveDone_kept (s : State) (c : Ch) (lid : Fin 16) : (s.moveDone c lid).kept = s.kept := by
  unfold State.moveDone
  dsimp only
  repeat' split
  all_goals simp

@[simp] theorem State.moveStep_kept (s : State) (c : Ch) (lid : Fin 16) (ok : Bool) :
    (s.moveStep c lid ok).kept = s.kept := by
  unfold State.moveStep
  split <;> simp

@[simp] theorem State.serviceEnd_kept (s : State) (x : SvcCmd) (ok fail : Bool) :
    (s.serviceEnd x ok fail).kept = s.kept := by
  unfold State.serviceEnd
  split <;> simp

@[simp] theorem State.updBus_kept (s : State) (i : Fin 2) (f : SvcBus → SvcBus) :
    (s.updBus i f).kept = s.kept := by simp [State.updBus]

@[simp] theorem State.complete_kept (s : State) (i : Fin 2) (x : SvcCmd) (ok fail : Bool) :
    (s.complete i x ok fail).kept = s.kept := by simp [State.complete]

@[simp] theorem State.layerActs_kept (s : State) (x : SvcCmd) : (s.layerActs x).kept = s.kept := by simp [State.layerActs]

@[simp] theorem State.layerMayAct_kept (s : State) (x : SvcCmd) :
    (s.layerMayAct x).kept = s.kept := by simp [State.layerMayAct]

@[simp] theorem State.layerFails_kept (s : State) (l : Fin 16) : (s.layerFails l).kept = s.kept := by simp [State.layerFails]

@[simp] theorem State.serviceRetry_kept (s : State) (i : Fin 2) (x : SvcCmd) :
    (s.serviceRetry i x).kept = s.kept := by simp [State.serviceRetry]

theorem execServiceResponse_kept (i : Fin 2) (f : BitVec 48) (s : State) : Keeps (execServiceResponse i f s) s.kept := by
  unfold execServiceResponse
  repeat' split
  all_goals simp

theorem execServiceTimeout_kept (i : Fin 2) (s : State) : Keeps (execServiceTimeout i s) s.kept := by
  unfold execServiceTimeout
  split <;> simp

@[simp] theorem State.copyRelease_kept (s : State) (c : Ch) (p : Pc) : (s.copyRelease c p).kept = s.kept := by
  unfold State.copyRelease
  split <;> simp

@[simp] theorem State.takeImage_kept (s : State) (c : Ch) (x : Transfer) : (s.takeImage c x).kept = s.kept := by
  unfold State.takeImage
  repeat' split
  all_goals simp

theorem execTransferImageTake_kept (c : Ch) (s : State) : Keeps (execTransferImageTake c s) s.kept := by
  unfold execTransferImageTake
  split <;> simp

@[simp] theorem State.gapRead_kept (s : State) (c : Ch) (p : Pc) (n : Nat) (env : LineEnv) (owner : Option Nat) :
    (s.gapRead c p n env owner).2.2.kept = s.kept := by simp [State.gapRead]

@[simp] theorem State.loseMap_kept (s : State) (c : Ch) (p : Pc) (n : Nat) : (s.loseMap c p n).kept = s.kept := by
  unfold State.loseMap
  split <;> simp

@[simp] theorem State.countGap_kept (s : State) (c : Ch) (p : Pc) (x : Captured) (v : ReadEvents) (ods : BitVec 2) :
    (s.countGap c p x v ods).kept = s.kept := by simp [State.countGap]

@[simp] theorem State.scrubBack_kept (s : State) (c : Ch) (p : Pc) (n : Nat) (managed : Bool) (w : BitVec 512 × BitVec 64)
    (reread : LineEnv) :
    (s.scrubBack c p n managed w reread).kept = s.kept := by simp [State.scrubBack]

theorem execDecoderGapDecode_kept (c : Ch) (p : Pc) (env reread : LineEnv) (leaseLow : Bool) (s : State) :
    Keeps (execDecoderGapDecode c p env reread leaseLow s) s.kept := by
  unfold execDecoderGapDecode
  dsimp only
  repeat' split
  all_goals simp

@[simp] theorem State.replayHard_kept (s : State) (c : Ch) (p : Pc) (e : Fin 8) :
    (s.replayHard c p e).kept = s.kept := by simp [State.replayHard]

@[simp] theorem State.replayEntry_kept (s : State) (key : Nat) (w : BitVec 32) :
    (s.replayEntry key w).kept = s.kept := by simp [State.replayEntry]

@[simp] theorem State.loseRepairs_kept (s : State) (seq : Word32) :
    (s.loseRepairs seq).kept = s.kept := by simp [State.loseRepairs]

theorem execJournalReplay_kept (lost : Option Word32) (s : State) : Keeps (execJournalReplay lost s) s.kept := by
  unfold execJournalReplay
  repeat' split
  all_goals simp

@[simp] theorem State.recordPrivileged_kept (s : State) (k : Slot) (op : BitVec 16) (r : Response) :
    (s.recordPrivileged k op r).kept = s.kept := by simp [State.recordPrivileged]

@[simp] theorem State.respond_kept (s : State) (k : Slot) (seq : BitVec 16) (r : Response) :
    (s.respond k seq r).kept = s.kept := by
  unfold State.respond
  split <;> simp

@[simp] theorem State.markCmd_kept (s : State) (k : Slot) (seq : BitVec 16) (st : CmdState) :
    (s.markCmd k seq st).kept = s.kept := by simp [State.markCmd]

@[simp] theorem State.respondOwner_kept (s : State) (owner : Option (Slot × BitVec 16)) (r : Response) :
    (s.respondOwner owner r).kept = s.kept := by
  unfold State.respondOwner
  split <;> simp

@[simp] theorem NonVolatile.updImage_kept (n : NonVolatile) (b : Bool) (f : ImageSlot → ImageSlot) :
    (n.updImage b f).kept = n.kept := by simp [NonVolatile.updImage]

@[simp] theorem State.abandon_kept (s : State) (k : Slot) : (s.abandon k).kept = s.kept := by
  unfold State.abandon
  split <;> simp

@[simp] theorem State.endCalRuns_kept (s : State) (k : Slot) (seq : Option (BitVec 16)) :
    (s.endCalRuns k seq).kept = s.kept := by simp [State.endCalRuns]

@[simp] theorem NonVolatile.cutShort_kept (n : NonVolatile) (o : NvOp) : (n.cutShort o).kept = n.kept := by
  unfold NonVolatile.cutShort
  split <;> simp

@[simp] theorem State.cancel_kept (s : State) (k : Slot) (seq : BitVec 16) : (s.cancel k seq).kept = s.kept := by
  unfold State.cancel
  refine (State.endCalRuns_kept _ _ _).trans ?_
  cases s.quince.op with
  | none => simp
  | some o => dsimp only; split <;> simp

@[simp] theorem State.abandonBy_kept (s : State) (k : Slot) (op : BitVec 16) : (s.abandonBy k op).kept = s.kept := by
  unfold State.abandonBy
  split <;> simp

@[simp] theorem State.abortCmd_kept (s : State) (k : Slot) (c : Cmd) :
    (s.abortCmd k c).kept = s.kept := by simp [State.abortCmd]

@[simp] theorem State.abortAll_kept (s : State) (k : Slot) (but : BitVec 16) :
    (s.abortAll k but).kept = s.kept := by simp [State.abortAll]

@[simp] theorem State.disown_kept (s : State) (k : Slot) : (s.disown k).kept = s.kept := by simp [State.disown]

@[simp] theorem State.freeSlot_kept (s : State) (k : Slot) : (s.freeSlot k).kept = s.kept := by simp [State.freeSlot]

@[simp] theorem State.restartLease_kept (s : State) (t : Transport) (id : Byte) : (s.restartLease t id).kept = s.kept := by
  unfold State.restartLease
  split <;> simp

@[simp] theorem State.acceptIn_kept (s : State) (t : Transport) (f : Frame) : (s.acceptIn t f).1.kept = s.kept := by
  unfold State.acceptIn
  repeat' split
  all_goals simp

@[simp] theorem State.acceptOpen_kept (s : State) (t : Transport) (f : Frame) : (s.acceptOpen t f).1.kept = s.kept := by
  unfold State.acceptOpen
  repeat' split
  all_goals simp

@[simp] theorem State.accept_kept (s : State) (t : Transport) (f : Frame) : (s.accept t f).1.kept = s.kept := by
  unfold State.accept
  repeat' split
  all_goals simp

@[simp] theorem State.doorbell_kept {s body : State} (h : body.kept = s.kept) (t : Transport) (tag : BitVec 16) :
    (s.doorbell t tag body).kept = s.kept := by
  unfold State.doorbell
  repeat' split
  all_goals simp [h]

@[simp] theorem State.submit_kept (s : State) (t : Transport) : (s.submit t).kept = s.kept := by simp [State.submit]

@[simp] theorem State.collect_kept (s : State) (t : Transport) (id : Byte) : (s.collect t id).kept = s.kept := by
  unfold State.collect
  repeat' split
  all_goals simp

@[simp] theorem State.releaseResponse_kept (s : State) (k : Slot) (seq : BitVec 16) :
    (s.releaseResponse k seq).kept = s.kept := by
  unfold State.releaseResponse
  split <;> simp

@[simp] theorem State.retire_kept (s : State) (i reason : Nat) : (s.retire i reason).kept = s.kept := by
  unfold State.retire
  dsimp only
  repeat' split
  all_goals simp

@[simp] theorem NonVolatile.storeOptions_kept (n : NonVolatile) (o : OptionImage) :
    (n.storeOptions o).kept = n.kept := by simp [NonVolatile.storeOptions]

@[simp] theorem NonVolatile.remapUser_kept (n : NonVolatile) (tag k : Nat) : (n.remapUser tag k).kept = n.kept := by
  unfold NonVolatile.remapUser
  repeat' split
  all_goals simp

@[simp] theorem NonVolatile.importSection_kept (n : NonVolatile) (x : MapSection) :
    (n.importSection x).kept = n.kept := by simp [NonVolatile.importSection]

@[simp] theorem State.importLive_kept (s : State) (x : MapSection) :
    (s.importLive x).kept = s.kept := by simp [State.importLive]

@[simp] theorem NonVolatile.stagePages_kept (n : NonVolatile) (slotB : Bool) (bytes : Nat) : (n.stagePages slotB bytes).kept = n.kept := by
  refine nv_foldl_kept (fun m k => ?_) _ _
  split <;> simp

@[simp] theorem NonVolatile.storeBaseline_kept (n : NonVolatile) (rec : List (Ch × Baseline)) (i : Fin 255) :
    (n.storeBaseline rec i).kept = n.kept := by simp [NonVolatile.storeBaseline]

@[simp] theorem State.recordMark_kept (s : State) (tag : Word32) (text : List Byte) (manager : Bool) (session : Byte) :
    (s.recordMark tag text manager session).kept = s.kept := by simp [State.recordMark]

@[simp] theorem State.commitNv_kept (s : State) (k : NvCont) (pulses : Nat) :
    (s.commitNv k pulses).kept = (s.updNv (·.commit pulses k)).kept := by
  unfold State.commitNv
  cases k <;> simp

@[simp] theorem State.patrol_kept (s : State) (sector : Fin 266) (corrected : Nat) (margin : Margin) (decodes young : Bool) :
    (s.patrol sector corrected margin decodes young).kept = s.kept := by
  unfold State.patrol
  dsimp only
  repeat' split
  all_goals simp

theorem execWearLevel_kept (cold : Bool) (s : State) : Keeps (execWearLevel cold s) s.kept := by
  unfold execWearLevel
  repeat' split
  all_goals simp

@[simp] theorem NonVolatile.compact_kept (n : NonVolatile) : (n.compact).kept = n.kept := by simp [NonVolatile.compact]

@[simp] theorem NonVolatile.lifeRestart_kept (n : NonVolatile) :
    (n.lifeRestart).kept = n.kept := by simp [NonVolatile.lifeRestart]

theorem execLedgerScan_kept (lost : Option (Word32 × Word32)) (lifeValid : Bool) (s : State) :
    Keeps (execLedgerScan lost lifeValid s) s.kept := by
  unfold execLedgerScan
  repeat' split
  all_goals simp

@[simp] theorem State.countFallback_kept (s : State) (c : Ch) (p : Pc) :
    (s.countFallback c p).kept = s.kept := by simp [State.countFallback]

theorem execPowerHoursIncrement_kept (s : State) : Keeps (execPowerHoursIncrement s) s.kept := by
  unfold execPowerHoursIncrement
  split <;> simp

@[simp] theorem State.loadLane_kept (s : State) (w : Word32) : (s.loadLane w).kept = s.kept := by
  unfold State.loadLane
  dsimp only
  repeat' split
  all_goals simp

@[simp] theorem State.loadTsv_kept (s : State) (w : Word32) : (s.loadTsv w).kept = s.kept := by
  unfold State.loadTsv
  dsimp only
  repeat' split
  all_goals simp

@[simp] theorem State.recordLoad_kept (s : State) (f : Sensed) : (s.recordLoad f).kept = s.kept := by
  refine (foldl_kept (fun t r => ?_) _ _).trans (foldl_kept (fun t w => ?_) _ _)
  · split <;> simp
  · simp

@[simp] theorem State.fuseLoad_kept (s : State) (f : Sensed) : (s.fuseLoad f).kept = s.kept := by simp [State.fuseLoad]

@[simp] theorem State.pulses_kept (s : State) (nothing failed : Bool) : (s.pulses nothing failed).2.kept = s.kept := by
  unfold State.pulses
  dsimp only
  repeat' split
  all_goals simp

@[simp] theorem State.queueFuse_kept (s : State) (w : Nat) (bits : Word32) (owner : Option (Slot × BitVec 16)) :
    (s.queueFuse w bits owner).kept = s.kept := by simp [State.queueFuse]

@[simp] theorem NonVolatile.dropUnstored_kept (n : NonVolatile) :
    (n.dropUnstored).kept = n.kept := by simp [NonVolatile.dropUnstored]

@[simp] theorem State.diesPowerUp_kept (s : State) : (s.diesPowerUp).kept = s.kept := by simp [State.diesPowerUp]

@[simp] theorem State.loadOptions_kept (s : State) : (s.loadOptions).kept = s.kept := by simp [State.loadOptions]

@[simp] theorem State.closeOpen_kept (s : State) : (s.closeOpen).kept = s.kept := by simp [State.closeOpen]

@[simp] theorem State.bootScan_kept (s : State) : (s.bootScan).kept = s.kept := by simp [State.bootScan]

@[simp] theorem State.startImage_kept (s : State) (b : Bool) : (s.startImage b).kept = s.kept := by simp [State.startImage]

theorem execBootVerify_kept (okA okB : Bool) (s : State) : Keeps (execBootVerify okA okB s) s.kept := by
  unfold execBootVerify
  dsimp only
  repeat' split
  all_goals simp

@[simp] theorem State.askLayers_kept (s : State) : s.askLayers.kept = s.kept := by
  refine foldl_kept (fun t l => ?_) _ _
  dsimp only
  split <;> simp

@[simp] theorem State.stackFound_kept (s : State) : (s.stackFound).kept = s.kept := by simp [State.stackFound]

theorem execLayerDiscovery_kept (s : State) : Keeps (execLayerDiscovery s) s.kept := by
  unfold execLayerDiscovery
  repeat' split
  all_goals simp

@[simp] theorem State.tsvFault_kept (s : State) (x₀ : TsvFault) : (s.tsvFault x₀).kept = s.kept := by
  unfold State.tsvFault
  split <;> simp

@[simp] theorem State.writeTsvRep_kept (s : State) (c : Ch) : (s.writeTsvRep c).kept = s.kept := by
  refine foldl_kept (fun t sid => foldl_kept (fun u g => ?_) _ _) _ _
  dsimp only
  split <;> simp

@[simp] theorem State.loopTest_kept (s : State) (c : Ch) : (s.loopTest c).kept = s.kept := by simp [State.loopTest]

theorem execTsvTest_kept (faults : List TsvFault) (s : State) : Keeps (execTsvTest faults s) s.kept := by
  unfold execTsvTest
  split <;> simp

theorem execPowerUpFill_kept (s : State) : Keeps (execPowerUpFill s) s.kept := by
  unfold execPowerUpFill
  split <;> simp

@[simp] theorem State.mgmtReset_kept (s : State) (cause : BitVec 3) (extra : List (Byte × List Byte)) :
    (s.mgmtReset cause extra).kept = s.kept := by simp [State.mgmtReset]

@[simp] theorem State.leaveExtest_kept (s : State) : (s.leaveExtest).kept = s.kept := by simp [State.leaveExtest]

@[simp] theorem State.rebuildSnap_kept (s : State) : (s.rebuildSnap).kept = s.kept := by simp [State.rebuildSnap]

@[simp] theorem State.takeTurn_kept (s : State) (k : Slot) : (s.takeTurn k).kept = s.kept := by simp [State.takeTurn]

@[simp] theorem State.answer_kept (s : State) (k : Slot) (c : Cmd) (r : Response) :
    (s.answer k c r).kept = s.kept := by simp [State.answer]

@[simp] theorem State.fails_kept (s : State) (k : Slot) (c : Cmd) (status : Byte) (detail : Byte) :
    (s.fails k c status detail).kept = s.kept := by simp [State.fails]

@[simp] theorem State.ok_kept (s : State) (k : Slot) (c : Cmd) (payload : List Byte) :
    (s.ok k c payload).kept = s.kept := by simp [State.ok]

@[simp] theorem State.snapAnswer_kept (s : State) (k : Slot) (c : Cmd) (payload : List Byte) :
    (s.snapAnswer k c payload).kept = s.kept := by simp [State.snapAnswer]

@[simp] theorem State.serve_kept (s : State) (k : Slot) (isFor : Cmd → Bool) (hostOnly : Bool) (scope : Option (Fin 5))
    {body : Cmd → State → State} (hb : ∀ c, (body c s).kept = s.kept) : (s.serve k isFor hostOnly scope body).kept = s.kept := by
  obtain h | ⟨c, -, ⟨st, d, h⟩ | ⟨-, h⟩⟩ := s.serve_cases k isFor hostOnly scope body <;> simp [h, hb]

@[simp] theorem State.valid_kept (s body : State) (k : Slot) (c : Cmd) (good : Bool) :
    (s.valid k c good body).kept = if good then body.kept else s.kept := by
  simp [State.valid]

@[simp] theorem State.download_kept (s : State) (k : Slot) (c : Cmd) (build : List Byte → (Byte × Byte) ⊕ List Byte)
    {onCapture : State → State} (h : (onCapture s).kept = s.kept) : (s.download k c build onCapture).kept = s.kept := by
  unfold State.download
  dsimp only
  repeat' split
  all_goals simp [h]

@[simp] theorem State.putUpload_kept (s : State) (k : Slot) (u : Option Upload) :
    (s.putUpload k u).kept = s.kept := by simp [State.putUpload]

@[simp] theorem State.uploadChunk_kept (s : State) (k : Slot) (c : Cmd) (o : OwnedObject) (first : List Byte → Nat → Bool)
    {take : Upload → Bool → State} (h : ∀ u b, (take u b).kept = s.kept) : (s.uploadChunk k c o first take).kept = s.kept := by
  unfold State.uploadChunk
  dsimp only
  repeat' split
  all_goals simp [h]

@[simp] theorem State.openCmd_kept (s : State) (k : Slot) (c : Cmd) :
    (s.openCmd k c).kept = s.kept := by simp [State.openCmd]

@[simp] theorem State.serveUrgent_kept (s : State) (k : Slot) (op : BitVec 16) {body : Cmd → State → State}
    (hb : ∀ c, (body c s).kept = s.kept) : (s.serveUrgent k op body).kept = s.kept := by
  unfold State.serveUrgent
  repeat' split
  all_goals simp [hb]

@[simp] theorem State.closeCmd_kept (s : State) (k : Slot) (c : Cmd) :
    (s.closeCmd k c).kept = s.kept := by simp [State.closeCmd]

@[simp] theorem State.abortTarget_kept (s : State) (k : Slot) (c : Cmd) : (s.abortTarget k c).kept = s.kept := by
  unfold State.abortTarget
  repeat' split
  all_goals simp

@[simp] theorem State.telemetry_kept (s : State) (k : Slot) (op : BitVec 16) :
    (s.telemetry k op).kept = s.kept := by simp [State.telemetry]

@[simp] theorem State.pcTelemetry_kept (s : State) (k : Slot) (op : BitVec 16) :
    (s.pcTelemetry k op).kept = s.kept := by simp [State.pcTelemetry]

@[simp] theorem State.ledgerAnswer_kept (s : State) (k : Slot) (c : Cmd) (recs : List LedgerRec) :
    (s.ledgerAnswer k c recs).kept = s.kept := by
  unfold State.ledgerAnswer
  split <;> simp

theorem execSelftestResult_kept (k : Slot) (s : State) : Keeps (execSelftestResult k s) s.kept := by
  refine (keeps_next _ _).mpr (State.serve_kept _ _ _ _ _ fun c => ?_)
  split <;> simp

@[simp] theorem State.readUser_kept (s : State) (addr len : Nat) :
    (s.readUser addr len).kept = s.kept := by simp [State.readUser]

@[simp] theorem State.unlockFails_kept (s : State) (k : Slot) (c : Cmd) (detail : Byte) :
    (s.unlockFails k c detail).kept = s.kept := by simp [State.unlockFails]

@[simp] theorem State.unlockGrants_kept (s : State) (k : Slot) (c : Cmd) (scope : BitVec 5) :
    (s.unlockGrants k c scope).kept = s.kept := by simp [State.unlockGrants]

theorem execUnlockResponse_kept (k : Slot) (s : State) : Keeps (execUnlockResponse k s) s.kept := by
  refine (keeps_next _ _).mpr (State.serve_kept _ _ _ _ _ fun c => ?_)
  rw [State.valid_kept]
  repeat' split
  all_goals simp

@[simp] theorem State.program_kept (s : State) (k : Slot) (c : Cmd) (kind : NvKind) (sector : Option (Fin 255))
    (page : Option (Fin 264)) (cont : NvCont) :
    (s.program k c kind sector page cont).kept = s.kept := by simp [State.program]

@[simp] theorem State.ownerPage_kept (s : State) (first n : Nat) : (s.ownerPage first n).2.kept = s.kept := by
  unfold State.ownerPage
  dsimp only
  repeat' split
  all_goals simp

@[simp] theorem State.optionAnswer_kept (s : State) (k : Slot) (c : Cmd) :
    (s.optionAnswer k c).kept = s.kept := by simp [State.optionAnswer]

@[simp] theorem State.storeOption_kept (s : State) (k : Slot) (c : Cmd) (o : OptionImage) :
    (s.storeOption k c o).kept = s.kept := by simp [State.storeOption]

@[simp] theorem State.posting_kept (s body : State) (chs : List Ch) (n : Nat) :
    (s.posting chs body n).kept = if s.areasFree chs n then body.kept else s.kept := ite_kept _ _

@[simp] theorem State.drainImages_kept (s : State) (c : Ch) : (s.drainImages c).kept = s.kept := by
  refine foldl_kept (fun t _ => ?_) _ _
  split <;> simp

@[simp] theorem State.rawCheck_kept (s : State) (k : Slot) (c : Cmd) (len : Nat) (body : State) (h : body.kept = s.kept) :
    (s.rawCheck k c len body).kept = s.kept := by
  simp [State.rawCheck, h]

@[simp] theorem State.rawReadOut_kept (s : State) (k : Slot) (c : Cmd) (env : LineEnv) :
    (s.rawReadOut k c env).kept = s.kept := by simp [State.rawReadOut]

@[simp] theorem State.keepChunk_kept (s : State) (k : Slot) (c : Cmd) (o : OwnedObject) (u : Upload) :
    (s.keepChunk k c o u).kept = s.kept := by simp [State.keepChunk]

@[simp] theorem State.dropUpload_kept (s : State) (k : Slot) (o : OwnedObject) :
    (s.dropUpload k o).kept = s.kept := by simp [State.dropUpload]

@[simp] theorem State.acceptBlob_kept (s : State) (b : List Byte) : (s.acceptBlob b).kept = s.kept := by
  refine foldl_kept (fun t x => ?_) _ _
  split <;> simp

@[simp] theorem State.restoreBlob_kept (s : State) (k : Slot) (c : Cmd) (b : List Byte) :
    (s.restoreBlob k c b).kept = s.kept := by simp [State.restoreBlob]

@[simp] theorem State.postRun_kept (s : State) (ch : Ch) (pcs : List Pc) (mode : Nat) :
    (s.postRun ch pcs mode).kept = s.kept := by simp [State.postRun]

@[simp] theorem State.startCalRun_kept (s : State) (k : Slot) (c : Cmd) (mode : Nat) :
    (s.startCalRun k c mode).kept = s.kept := by simp [State.startCalRun]

@[simp] theorem State.assignTsv_kept (s : State) (c : Ch) (g : Fin 16) (pos : Fin 18) :
    (s.assignTsv c g pos).kept = s.kept := by simp [State.assignTsv]

@[simp] theorem State.applyRun_kept (s : State) (c : Ch) (mode : Nat) (pcs : List Pc) (spares : List (Fin 16 × Fin 18)) :
    (s.applyRun c mode pcs spares).kept = s.kept := by simp [State.applyRun]

theorem execCalRunEnd_kept (c : Ch) (p : Pc) (res : CalRunResult) (s : State) : Keeps (execCalRunEnd c p res s) s.kept := by
  unfold execCalRunEnd
  dsimp only
  repeat' split
  all_goals simp

@[simp] theorem State.programUpload_kept (s : State) (k : Slot) (c : Cmd) (o : OwnedObject) (u : Upload) (cont : NvCont) :
    (s.programUpload k c o u cont).kept = s.kept := by simp [State.programUpload]

@[simp] theorem State.march_kept (s : State) (c : Ch) (p : Pc) (sids : BitVec 4) :
    (s.march c p sids).kept = s.kept := by simp [State.march]

@[simp] theorem State.startTest_kept (s : State) (c : Ch) (p : Pc) (kind : BitVec 2) (sids : BitVec 4) :
    (s.startTest c p kind sids).kept = s.kept := by simp [State.startTest]

@[simp] theorem State.selftest_kept (s : State) (k : Slot) (c : Cmd) (kind : BitVec 2) :
    (s.selftest k c kind).kept = s.kept := by
  unfold State.selftest
  dsimp only
  repeat' split
  all_goals simp

@[simp] theorem State.endTest_kept (s : State) (c : Ch) (p : Pc) (n : BitVec 16) (f : TestResult → TestResult) :
    (s.endTest c p n f).kept = s.kept := by simp [State.endTest]

theorem execSelftestEnd_kept (c : Ch) (p : Pc) (rep : TestReport) (s : State) :
    Keeps (execSelftestEnd c p rep s) s.kept := by
  unfold execSelftestEnd
  split <;> simp

theorem execTestEndOnRelease_kept (c : Ch) (p : Pc) (s : State) : Keeps (execTestEndOnRelease c p s) s.kept := by
  unfold execTestEndOnRelease
  dsimp only
  repeat' split
  all_goals simp

@[simp] theorem State.repairCopy_kept (s : State) (c : Ch) (p : Pc) (w : BitVec 32) :
    (s.repairCopy c p w).kept = s.kept := by simp [State.repairCopy]

@[simp] theorem State.programRecord_kept (s : State) (l : Fin 16) (a : Nat) (row : Row) (failBits : Word32) :
    (s.programRecord l a row failBits).kept = s.kept := by simp [State.programRecord]

@[simp] theorem State.verifyRecord_kept (s : State) (l : Fin 16) (a : Nat) (row : Row) :
    (s.verifyRecord l a row).2.kept = s.kept := by
  unfold State.verifyRecord
  split <;> simp

@[simp] theorem State.handImage_kept (s : State) (c : Ch) (x : Transfer) :
    (s.handImage c x).kept = s.kept := by simp [State.handImage]

@[simp] theorem State.hardRepair_kept (s : State) (k : Slot) (c : Cmd) (ch : Ch) (p : Pc) (e : Fin 8) (failBits : Word32) :
    (s.hardRepair k c ch p e failBits).kept = s.kept := by simp [State.hardRepair]

@[simp] theorem State.commitRecord_kept (s : State) (k : Slot) (c : Cmd) (r : Nat) (record : Word32) :
    (s.commitRecord k c r record).kept = s.kept := by
  unfold State.commitRecord
  repeat' split
  all_goals simp

theorem execRepairCommitTsv_kept (k : Slot) (s : State) : Keeps (execRepairCommitTsv k s) s.kept := by
  refine (keeps_next _ _).mpr (State.serve_kept _ _ _ _ _ fun c => ?_)
  dsimp only
  split <;> simp

@[simp] theorem NonVolatile.clearSlot_kept (n : NonVolatile) (b : Bool) : (n.clearSlot b).kept = n.kept := by
  refine nv_foldl_kept (fun m k => ?_) _ _
  split <;> simp

@[simp] theorem State.armTable_kept (s : State) (k : Slot) (c : Cmd) (b : List Byte) :
    (s.armTable k c b).kept = s.kept := by simp [State.armTable]

theorem execFwActivateTable_kept (k : Slot) (s : State) : Keeps (execFwActivateTable k s) s.kept := by
  refine (keeps_next _ _).mpr (State.serve_kept _ _ _ _ _ fun c => ?_)
  split <;> simp

@[simp] theorem State.startFuse_kept (s : State) (k : Slot) (c : Cmd) (w : Nat) (bits : Word32) :
    (s.startFuse k c w bits).kept = s.kept := by simp [State.startFuse]

@[simp] theorem State.programLayer_kept (s : State) (k : Slot) (c : Cmd) (l : Fin 16) (w : Nat) (bits failBits : Word32) :
    (s.programLayer k c l w bits failBits).kept = s.kept := by simp [State.programLayer]

@[simp] theorem State.fuseLock_kept (s : State) (k : Slot) (c : Cmd) (kind : Nat) :
    (s.fuseLock k c kind).kept = s.kept := by simp [State.fuseLock]

@[simp] theorem State.dropQueued_kept (s : State) (owner : Option (Slot × BitVec 16)) :
    (s.dropQueued owner).kept = s.kept := by simp [State.dropQueued]

@[simp] theorem State.activated_kept (s : State) (k : Slot) (seq : BitVec 16) (status : Byte) :
    (s.activated k seq status).kept = s.kept := by simp [State.activated]

@[simp] theorem State.answerWord_kept (s : State) (owner : Option (Slot × BitVec 16)) (status detail : Byte)
    (failBits : Word32) (n : Byte) :
    (s.answerWord owner status detail failBits n).kept = s.kept := by
  unfold State.answerWord
  repeat' split
  all_goals simp

@[simp] theorem State.programWord_kept (s : State) (j : FuseJob) (failBits : BitVec 39) :
    (s.programWord j failBits).kept = s.kept := by simp [State.programWord]

@[simp] theorem State.wordAfterTrip_kept (s : State) (j : FuseJob) :
    (s.wordAfterTrip j).kept = s.kept := by simp [State.wordAfterTrip]

theorem execFuseWordProgram_kept (failBits : BitVec 39) (s : State) : Keeps (execFuseWordProgram failBits s) s.kept := by
  unfold execFuseWordProgram
  repeat' split
  all_goals simp

@[simp] theorem State.imageActivated_kept (s : State) (k : Slot) (c : Cmd) :
    (s.imageActivated k c).kept = s.kept := by simp [State.imageActivated]

@[simp] theorem State.programDone_kept (s before : State) (k : Slot) (c : Cmd) (cont : NvCont) :
    (s.programDone before k c cont).kept = s.kept := by
  unfold State.programDone
  split <;> simp

@[simp] theorem State.programFailed_kept (s : State) (k : Slot) (c : Cmd) :
    (s.programFailed k c).kept = s.kept := by simp [State.programFailed]

@[simp] theorem State.answerOp_kept (s before : State) (o : NvOp) (ok : Bool) : (s.answerOp before o ok).kept = s.kept := by
  unfold State.answerOp
  repeat' split
  all_goals simp

@[simp] theorem State.wornSector_kept (s : State) (o : NvOp) (ok : Bool) (pulses : Nat) (margin : Margin) :
    (s.wornSector o ok pulses margin).kept = s.kept := by
  unfold State.wornSector
  split <;> simp

@[simp] theorem State.nextOp_kept (s : State) (o : NvOp) (ok : Bool) : (s.nextOp o ok).kept = s.kept := by
  unfold State.nextOp
  split <;> simp

@[simp] theorem State.recordOwed_kept (s : State) : (s.recordOwed).kept = s.kept := by simp [State.recordOwed]

@[simp] theorem State.restage_kept (s : State) : (s.restage).kept = s.kept := by simp [State.restage]

theorem execMgmtRestart_kept (s : State) : Keeps (execMgmtRestart s) s.kept := by
  unfold execMgmtRestart
  split <;> simp

@[simp] theorem State.release_kept (s : State) (t : Transport) : (s.release t).kept = s.kept := by
  unfold State.release
  dsimp only
  repeat' split
  all_goals simp

@[simp] theorem State.ring_kept (s : State) (t : Transport) (w : Word32) : (s.ring t w).kept = s.kept := by
  unfold State.ring
  split <;> simp

@[simp] theorem State.writeRequest_kept (s : State) (t : Transport) (i : Fin 256) (w : Word32) :
    (s.writeRequest t i w).kept = s.kept := by simp [State.writeRequest]

@[simp] theorem State.clearSyncIgn_kept (s : State) (t : Transport) (w : Word32) :
    (s.clearSyncIgn t w).kept = s.kept := by simp [State.clearSyncIgn]

@[simp] theorem State.windowWrite_kept (s : State) (t : Transport) (offset : BitVec 16) (w : Word32) :
    (s.windowWrite t offset w).kept = s.kept := by
  unfold State.windowWrite
  dsimp only
  repeat' split
  all_goals simp

theorem execRegisterWrite_kept (target : RegTarget) (s : State) : Keeps (execRegisterWrite target s) s.kept := by
  unfold execRegisterWrite
  repeat' split
  all_goals simp

theorem execI2cAddress_kept (a : BitVec 7) (read : Bool) (s : State) : Keeps (execI2cAddress a read s) s.kept := by
  unfold execI2cAddress
  split <;> simp

@[simp] theorem State.i2cWord_kept (s : State) (w : Word32) : (s.i2cWord w).kept = s.kept := by simp [State.i2cWord]

@[simp] theorem State.i2cWords_kept (s : State) (l : List Byte) : (s.i2cWords l).kept = s.kept := by
  fun_induction State.i2cWords s l <;> simp_all

@[simp] theorem State.i2cWindow_kept (s : State) (bytes : List Byte) :
    (s.i2cWindow bytes).kept = s.kept := by simp [State.i2cWindow]

theorem execI2cByteWrite_kept (byte : Byte) (s : State) : Keeps (execI2cByteWrite byte s) s.kept := by
  unfold execI2cByteWrite
  split <;> simp

@[simp] theorem State.i2cSend_kept (s : State) : (s.i2cSend).kept = s.kept := by
  unfold State.i2cSend
  dsimp only
  repeat' split
  all_goals simp

@[simp] theorem State.i2cSends_kept (n : Nat) (s : State) : (State.i2cSends n s).kept = s.kept := by
  induction n generalizing s with
  | zero => rfl
  | succ n ih => simp [State.i2cSends, ih]

theorem execWindowData_kept (read : Bool) (bytes : List Byte) (s : State) : Keeps (execWindowData read bytes s) s.kept := by
  unfold execWindowData
  repeat' split
  all_goals simp

@[simp] theorem State.i2cRelease_kept (s : State) (x₀ : Held) : (s.i2cRelease x₀).kept = s.kept := by
  unfold State.i2cRelease
  split <;> simp

theorem execI2cStop_kept (pec : Option Byte) (s : State) : Keeps (execI2cStop pec s) s.kept := by
  unfold execI2cStop
  dsimp only
  repeat' split
  all_goals simp

@[simp] theorem State.recordSwap_kept (s : State) : (s.recordSwap).kept = s.kept := by simp [State.recordSwap]

@[simp] theorem State.loadWir_kept (s : State) (code : Byte) : (s.loadWir code).kept = s.kept := by simp [State.loadWir]

@[simp] theorem State.refuseWir_kept (s : State) : (s.refuseWir).kept = s.kept := by simp [State.refuseWir]

@[simp] theorem State.setCapture_kept (s : State) (v : BitVec 64) :
    (s.setCapture v).kept = s.kept := by simp [State.setCapture]

@[simp] theorem State.wrapperRow_kept {s body : State} (h : body.kept = s.kept) : Keeps (s.wrapperRow body) s.kept := by
  simp [State.wrapperRow, h]

@[simp] theorem State.mbxRead_kept (s : State) (offset : BitVec 16) :
    (s.mbxRead offset).kept = s.kept := by simp [State.mbxRead]

theorem execLaneRepair_kept (wr : Bool) (c : Ch) (unit : Fin 8) (word : Word32) (s : State) :
    Keeps (execLaneRepair wr c unit word s) s.kept := by
  unfold execLaneRepair
  split <;> simp

@[simp] theorem State.mbistGo_kept (s : State) (c : Ch) (p : Pc) (kind : BitVec 2) (sids : BitVec 4) :
    (s.mbistGo c p kind sids).kept = s.kept := by
  unfold State.mbistGo
  repeat' split
  all_goals simp

theorem execFactory_kept (op : FactoryOp) (s : State) : Keeps (execFactory op s) s.kept := by
  unfold execFactory
  split <;> simp

@[simp] theorem State.tapRow_kept {s body : State} (h : body.kept = s.kept) : Keeps (s.tapRow body) s.kept := by
  simp [State.tapRow, h]

@[simp] theorem State.selectTap_kept (s : State) (ir : BitVec 4) (capture : Word32) :
    (s.selectTap ir capture).kept = s.kept := by simp [State.selectTap]

@[simp] theorem State.holdPins_kept (s : State) : (s.holdPins).kept = s.kept := by simp [State.holdPins]

@[simp] theorem State.sampleCells_kept (s : State) : (s.sampleCells).2.kept = s.kept := by simp [State.sampleCells]

/-! ## The commands that change the record -/

/-- One store follows from another without disturbing the invariants of R409 and R423. -/
structure StoreKept (n m : NonVolatile) : Prop where
  sectors : m.sectors.length = n.sectors.length
  user : memWf (fun _ => some 0xFF) n.user = true → memWf (fun _ => some 0xFF) m.user = true

theorem StoreKept.of_kept {n m : NonVolatile} (h : m.kept = n.kept) : StoreKept n m where
  sectors := congrArg Prod.snd h
  user := fun hu => by rwa [show m.user = n.user from congrArg Prod.fst h]

theorem StoreKept.trans {n m o : NonVolatile} (h : StoreKept n m) (h' : StoreKept m o) : StoreKept n o :=
  ⟨h'.sectors.trans h.sectors, h'.user ∘ h.user⟩

/-- A write of the user area puts its bytes with `memPut`, which keeps the canonical form (R409). -/
theorem NonVolatile.commitUser_storeKept (n : NonVolatile) (addr : Nat) (bytes : List Byte) (tag : Nat) :
    StoreKept n (n.commitUser addr bytes tag) := by
  unfold NonVolatile.commitUser
  refine StoreKept.trans (m := { n with user := memPutAll (fun _ => some 0xFF) n.user addr bytes }) ⟨rfl, memPutAll_wf bytes⟩
    (StoreKept.of_kept ?_)
  simp

theorem NonVolatile.commit_storeKept (n : NonVolatile) (pulses : Nat) (k : NvCont) : StoreKept n (n.commit pulses k) := by
  cases k with
  | userWrite addr bytes tag => exact n.commitUser_storeKept addr bytes tag
  | imageChunk b complete => exact .of_kept (by simp [NonVolatile.commit])
  | mapImport bytes => exact .of_kept (nv_foldl_kept NonVolatile.importSection_kept _ _)
  | _ => exact .of_kept (by simp [NonVolatile.commit])

/-- What a command leaves of the queue, of the stores, and, but for a stack reset, of the trip latch. -/
structure KeepsInvariants (s t : State) : Prop where
  pending : t.pending = s.pending
  pin : pinShowsTrip s → pinShowsTrip t
  store : StoreKept s.nv t.nv

theorem KeepsInvariants.of_kept {s t : State} (h : t.kept = s.kept) : KeepsInvariants s t where
  pending := congrArg Kept.pending h
  pin := fun hp => (congrArg Kept.cattrip h).trans (hp.trans (congrArg Kept.trip h).symm)
  store := .of_kept (congrArg Kept.store h)

theorem KeepsInvariants.trans {s t u : State} (h : KeepsInvariants s t) (h' : KeepsInvariants t u) : KeepsInvariants s u :=
  ⟨h'.pending.trans h.pending, h'.pin ∘ h.pin, h.store.trans h'.store⟩

theorem State.cutNv_keepsInvariants (s : State) : KeepsInvariants s s.cutNv := by
  unfold State.cutNv
  split
  · exact .of_kept rfl
  · dsimp only
    split
    · exact ⟨rfl, id, .trans (.of_kept (NonVolatile.opEnds_kept _ _ _)) (NonVolatile.commit_storeKept _ _ _)⟩
    · exact .of_kept (by simp)

/-- A stack reset clears the latch and its pin together (Table 12-9). -/
theorem State.stackReset_keepsInvariants (s : State) (power : Power) : KeepsInvariants s (s.stackReset power) where
  pending := rfl
  pin := fun _ => rfl
  store := s.cutNv_keepsInvariants.store.trans (.of_kept
    (show s.cutNv.cutFuse.nv.dropUnstored.kept = s.cutNv.nv.kept from
      (NonVolatile.dropUnstored_kept _).trans (congrArg Kept.store s.cutNv.cutFuse_kept)))

theorem execTripLatchSet_kept (i : Fin 128) (r : BitVec 16) (again : Bool) (s t : State)
    (h : execTripLatchSet i r again s = .next t) : t.kept = s.kept ∨ t.kept = { s.kept with trip := true, cattrip := true } := by
  unfold execTripLatchSet at h
  split at h
  · obtain rfl := Host.Outcome.next.inj h
    right
    rw [← s.cutFuse_kept]
    rfl
  · obtain rfl := Host.Outcome.next.inj h
    exact .inl rfl

theorem execQuinceOpComplete_kept (verified : Bool) (pulses : Nat) (margin : Margin) (s t : State)
    (h : execQuinceOpComplete verified pulses margin s = .next t) :
    ∃ n, StoreKept s.nv n ∧ t.kept = { s.kept with store := n.kept } := by
  unfold execQuinceOpComplete at h
  split at h
  · obtain rfl := Host.Outcome.next.inj h
    exact ⟨s.nv, .of_kept rfl, rfl⟩
  · next o _ =>
    obtain rfl := Host.Outcome.next.inj h
    by_cases hok : (verified && decide (pulses ≤ failLimit o.kind)) = true
    · exact ⟨_, .trans (.of_kept (NonVolatile.opEnds_kept s.nv o true)) (NonVolatile.commit_storeKept _ pulses o.cont),
        by simp [hok]⟩
    · exact ⟨_, .of_kept rfl, by simp [hok]⟩

/-! ## Every command -/

/-- The commands that can change the record: the trip, the end of a Quince operation, and the two stack resets. -/
def Instr.disturbs : Instr → Bool
  | .tripLatchSet _ _ _ | .quinceOpComplete _ _ _ | .resetAssert _ | .railLost _ => true
  | _ => false

/-- Every other command leaves the record. -/
theorem exec_kept (i : Instr) (s : State) (hi : Instr.disturbs i = false) : Keeps (exec i s) s.kept := by
  cases i with
  | tripLatchSet | quinceOpComplete | resetAssert | railLost => cases hi
  | issue | issueif | setcnt | loop | call | ret | count | alert | report | stepNop =>
    unfold exec
    refine State.runStep_kept _ _ _ _ (fun t x w => ?_)
    simp
  | srx => exact execSrx_kept _ _ _
  | prechargeTimerExpiry => exact execPrechargeTimerExpiry_kept _ _ _ _ _ _
  | binChange => exact execBinChange_kept _
  | adaptChangeApply => exact execAdaptChangeApply_kept _ _
  | reservedRowClearDone => exact execReservedRowClearDone_kept _ _
  | fillComplete => exact execFillComplete_kept _ _ _
  | fetch => exact execFetch_kept _ _ _
  | calendarAction => exact execCalendarAction_kept _ _ _ _
  | tableSwap => exact execTableSwap_kept _ _
  | oldBankDrain => exact execOldBankDrain_kept _ _
  | transferImageTake => exact execTransferImageTake_kept _ _
  | leaseEnd => exact execLeaseEnd_kept _ _ _
  | tableScan => exact execTableScan_kept _ _ _ _
  | stageComplete => exact execStageComplete_kept _ _ _
  | trackingWindow => exact execTrackingWindow_kept _ _ _
  | tsvCalEval => exact execTsvCalEval_kept _ _ _
  | serviceResponse => exact execServiceResponse_kept _ _ _
  | serviceTimeout => exact execServiceTimeout_kept _ _
  | trefiAccrual => exact execTrefiAccrual_kept _ _ _ _
  | internalRef => exact execInternalRef_kept _ _ _ _
  | sampleTick => exact execSampleTick_kept _ _ _
  | profileBatchStart => exact execProfileBatchStart_kept _ _ _ _ _
  | profileVerdict => exact execProfileVerdict_kept _ _ _ _
  | deltaLogWrite => exact execDeltaLogWrite_kept _ _ _
  | snapshotGeneration => exact execSnapshotGeneration_kept _
  | decoderGapDecode => exact execDecoderGapDecode_kept _ _ _ _ _ _
  | scrubOverdue => exact execScrubOverdue_kept _ _ _
  | remapApply => exact execRemapApply_kept _ _ _ _
  | rowCopyTimeout => exact execRowCopyTimeout_kept _ _ _
  | journalReplay => exact execJournalReplay_kept _ _
  | tripRecord => exact execTripRecord_kept _
  | histogramSecond => exact execHistogramSecond_kept _
  | wickBandSearch => exact execWickBandSearch_kept _ _ _
  | lockDeclared => exact execLockDeclared_kept _
  | sync => exact execSync_kept _ _
  | lossOfLock => exact execLossOfLock_kept _
  | relockComplete => exact execRelockComplete_kept _
  | bootVerify => exact execBootVerify_kept _ _ _
  | layerDiscovery => exact execLayerDiscovery_kept _
  | tsvTest => exact execTsvTest_kept _ _
  | powerUpFill => exact execPowerUpFill_kept _
  | mgmtRestart => exact execMgmtRestart_kept _
  | registerWrite => exact execRegisterWrite_kept _ _
  | calRunEnd => exact execCalRunEnd_kept _ _ _ _
  | repairCommitTsv => exact execRepairCommitTsv_kept _ _
  | selftestEnd => exact execSelftestEnd_kept _ _ _ _
  | testEndOnRelease => exact execTestEndOnRelease_kept _ _ _
  | selftestResult => exact execSelftestResult_kept _ _
  | fwActivateTable => exact execFwActivateTable_kept _ _
  | fuseWordProgram => exact execFuseWordProgram_kept _ _
  | unlockResponse => exact execUnlockResponse_kept _ _
  | wearLevel => exact execWearLevel_kept _ _
  | ledgerScan => exact execLedgerScan_kept _ _ _
  | powerHoursIncrement => exact execPowerHoursIncrement_kept _
  | i2cAddress => exact execI2cAddress_kept _ _ _
  | i2cByteWrite => exact execI2cByteWrite_kept _ _
  | windowData => exact execWindowData_kept _ _ _
  | i2cStop => exact execI2cStop_kept _ _
  | laneRepair => exact execLaneRepair_kept _ _ _ _ _
  | factory => exact execFactory_kept _ _
  | _ => exact (keeps_next _ _).mpr (by simp)

theorem exec_keepsInvariants {i : Instr} {s t : State} (h : exec i s = .next t) : KeepsInvariants s t := by
  cases i with
  | tripLatchSet n r b =>
    obtain hk | hk := execTripLatchSet_kept n r b s t h
    · exact .of_kept hk
    · simp only [State.kept, Kept.mk.injEq] at hk
      obtain ⟨hp, ht, hc, hn⟩ := hk
      exact ⟨hp, fun _ => hc.trans ht.symm, .of_kept hn⟩
  | quinceOpComplete v n m =>
    obtain ⟨n', hn', hk⟩ := execQuinceOpComplete_kept v n m s t h
    simp only [State.kept, Kept.mk.injEq] at hk
    obtain ⟨hp, ht, hc, hn⟩ := hk
    exact ⟨hp, fun hs => hc.trans (hs.trans ht.symm), hn'.trans (.of_kept hn)⟩
  | resetAssert w =>
    obtain hw | hw | hw : w < 100 ∨ (100 ≤ w ∧ w < 1000) ∨ 1000 ≤ w := by omega
    · rw [exec_resetAssert_short hw] at h
      exact .of_kept (congrArg State.kept (Host.Outcome.next.inj h)).symm
    · rw [exec_resetAssert_undefined hw.1 hw.2] at h
      cases h
    · rw [exec_resetAssert_long hw] at h
      exact Host.Outcome.next.inj h ▸ s.stackReset_keepsInvariants _
  | railLost r =>
    refine (s.stackReset_keepsInvariants { s.power.held with rails := s.power.rails.set (railIx r) false, por := true }).trans
      (.of_kept ?_)
    rw [← Host.Outcome.next.inj h]
    simp
  | _ => exact .of_kept (exec_kept _ s rfl t h)

/-- A trip stands through every command but a RESET_n pulse that resets the stack and the loss of a rail (R296). -/
theorem exec_trip_stands {i : Instr} {s t : State} (htrip : s.thermal.trip = true) (h : exec i s = .next t) :
    t.thermal.trip = true ∨ (∃ w, i = .resetAssert w ∧ 1000 ≤ w) ∨ ∃ r, i = .railLost r := by
  have hkept : t.kept = s.kept → t.thermal.trip = true := fun hk => (congrArg Kept.trip hk).trans htrip
  cases i with
  | railLost r => exact .inr (.inr ⟨r, rfl⟩)
  | resetAssert w =>
    obtain hw | hw | hw : w < 100 ∨ (100 ≤ w ∧ w < 1000) ∨ 1000 ≤ w := by omega
    · rw [exec_resetAssert_short hw] at h
      exact .inl (Host.Outcome.next.inj h ▸ htrip)
    · rw [exec_resetAssert_undefined hw.1 hw.2] at h
      cases h
    · exact .inr (.inl ⟨w, rfl, hw⟩)
  | tripLatchSet n r b =>
    obtain hk | hk := execTripLatchSet_kept n r b s t h
    · exact .inl (hkept hk)
    · exact .inl (congrArg Kept.trip hk)
  | quinceOpComplete v n m =>
    obtain ⟨n', -, hk⟩ := execQuinceOpComplete_kept v n m s t h
    exact .inl ((congrArg Kept.trip hk).trans htrip)
  | _ => exact .inl (hkept (exec_kept _ s rfl t h))

/-! ## The obligations -/

/-- Settles O2: the queue is part of the record that every command keeps. -/
theorem commandsKeepQueue : Obligations.CommandsKeepQueue := fun _ _ _ h => (exec_keepsInvariants h).pending

/-- Settles O4: the idle step leaves stores and latch, and a command at the front of the queue keeps the invariants. -/
theorem stepKeepsStoreAndTripInvariants : Obligations.StepKeepsStoreAndTripInvariants := by
  intro s t hu hp hs h
  have hkeeps : KeepsInvariants { s with pending := t.pending } t := by
    unfold step at h
    split at h
    · exact Host.Outcome.next.inj h ▸ .of_kept rfl
    · have hk := exec_keepsInvariants h
      exact ⟨rfl, hk.pin, hk.store⟩
  exact ⟨hkeeps.store.user hu, hkeeps.pin hp, hkeeps.store.sectors.trans hs⟩

/-- Settles O5. -/
theorem tripStandsUntilStackReset : Obligations.TripStandsUntilStackReset := fun _ _ _ htrip h => exec_trip_stands htrip h

end Sys2Proof.Machine



/-! # The core-die memory of every pseudo-channel

What of a pseudo-channel its memory reads from (`Cells`), and the operations that leave it as it is. -/

namespace Sys2Proof.Machine
structure Cells where
  dram : List Host.Cell
  back : Vector Background 4
  backRsv : Background
  backSpare : Background

def PseudoChannel.cells (q : PseudoChannel) : Cells :=
  { dram := q.dram, back := q.back, backRsv := q.backRsv, backSpare := q.backSpare }

def Channel.cells (h : Channel) : Vector Cells 2 := h.pcs.map PseudoChannel.cells

def State.cells (s : State) : Bool × Vector (Vector Cells 2) 32 := (s.dens, s.chans.map Channel.cells)

@[simp] theorem PseudoChannel.cells_mk
        (x0 x1 x2 x3 x4 x5 x6 x7 x8 x9 x10 x11 x12 x13 x14 x15 x16 x17 x18 x19 x20 x21 x22 x23 x24 x25 x26 x27 x28 x29 x30
      x31 x32 x33 x34 x35 x36 x37 x38 x39 x40 x41 x42 x43 x44 x45 x46 x47 x48 x49 x50 x51 x52 x53 x54 x55 x56 x57) :
        PseudoChannel.cells (PseudoChannel.mk x0 x1 x2 x3 x4 x5 x6 x7 x8 x9 x10 x11 x12 x13 x14 x15 x16 x17 x18 x19 x20 x21
      x22 x23 x24 x25 x26 x27 x28 x29 x30 x31 x32 x33 x34 x35 x36 x37 x38 x39 x40 x41 x42 x43 x44 x45 x46 x47 x48 x49 x50
      x51 x52 x53 x54 x55 x56 x57) = ⟨x1, x2, x3, x4⟩ := (rfl)
@[simp] theorem PseudoChannel.cells_eta (q : PseudoChannel) : Cells.mk q.dram q.back q.backRsv q.backSpare = q.cells := (rfl)
@[simp] theorem Channel.cells_mk (x0 x1 x2 x3 x4 x5 x6 x7 x8 x9 x10 x11 x12 x13 x14 x15 x16) :
    Channel.cells (Channel.mk x0 x1 x2 x3 x4 x5 x6 x7 x8 x9 x10 x11 x12 x13 x14 x15 x16) = x2.map PseudoChannel.cells := (rfl)
@[simp] theorem Channel.cells_eta (h : Channel) : h.pcs.map PseudoChannel.cells = h.cells := (rfl)
@[simp] theorem State.cells_mk (x0 x1 x2 x3 x4 x5 x6 x7 x8 x9 x10 x11 x12 x13 x14 x15 x16 x17 x18 x19 x20 x21 x22) :
        State.cells (State.mk x0 x1 x2 x3 x4 x5 x6 x7 x8 x9 x10 x11 x12 x13 x14 x15 x16 x17 x18 x19 x20 x21 x22) = (x8,
      x3.map Channel.cells) := (rfl)
@[simp] theorem State.cells_eta (s : State) : (s.dens, s.chans.map Channel.cells) = s.cells := (rfl)
@[simp] theorem pcs_set_cells {v : Vector PseudoChannel 2} {p : Nat} {hp : p < 2} {q : PseudoChannel}
    (h : q.cells = v[p].cells) :
    (v.map PseudoChannel.cells).set p q.cells hp = v.map PseudoChannel.cells := by
  ext i hi : 1
  by_cases e : p = i <;> simp_all [Vector.getElem_set]
@[simp] theorem Channel.cells_set {h : Channel} {p : Nat} {hp : p < 2} {q : PseudoChannel} (hq : q.cells = h.pcs[p].cells) :
    h.cells.set p q.cells hp = h.cells := pcs_set_cells hq
@[simp] theorem chans_set_cells {v : Vector Channel 32} {p : Nat} {hp : p < 32} {q : Channel} (h : q.cells = v[p].cells) :
    (v.map Channel.cells).set p q.cells hp = v.map Channel.cells := by
  ext i hi : 1
  by_cases e : p = i <;> simp_all [Vector.getElem_set]
@[simp] theorem pcs_map_cells {v : Vector PseudoChannel 2} {f : PseudoChannel → PseudoChannel} (h : ∀ q,
    (f q).cells = q.cells) :
    v.map (PseudoChannel.cells ∘ f) = v.map PseudoChannel.cells := by
  ext i hi : 1
  simp [h]
@[simp] theorem chans_map_cells {v : Vector Channel 32} {f : Channel → Channel} (h : ∀ q, (f q).cells = q.cells) :
    v.map (Channel.cells ∘ f) = v.map Channel.cells := by
  ext i hi : 1
  simp [h]
@[simp] theorem pcs_mapFinIdx_cells {v : Vector PseudoChannel 2} {f : (i : Nat) → PseudoChannel → i < 2 → PseudoChannel}
    (h : ∀ i q hi, (f i q hi).cells = q.cells) :
    (v.mapFinIdx f).map PseudoChannel.cells = v.map PseudoChannel.cells := by
  ext i hi : 1
  simp [h]
@[simp] theorem chans_mapFinIdx_cells {v : Vector Channel 32} {f : (i : Nat) → Channel → i < 32 → Channel} (h : ∀ i q hi,
    (f i q hi).cells = q.cells) :
    (v.mapFinIdx f).map Channel.cells = v.map Channel.cells := by
  ext i hi : 1
  simp [h]
@[simp] theorem foldl_cells {α : Type} {f : State → α → State} (hf : ∀ m x, (f m x).cells = m.cells) (l : List α) (n : State) :
    (l.foldl f n).cells = n.cells :=
  List.foldlRecOn (motive := fun m : State => m.cells = n.cells) l f rfl (fun m hm x _ => (hf m x).trans hm)
@[simp] theorem chan_foldl_cells {α : Type} {f : Channel → α → Channel} (hf : ∀ m x, (f m x).cells = m.cells) (l : List α)
    (n : Channel) :
    (l.foldl f n).cells = n.cells :=
  List.foldlRecOn (motive := fun m : Channel => m.cells = n.cells) l f rfl (fun m hm x _ => (hf m x).trans hm)
@[simp] theorem pc_foldl_cells {α : Type} {f : PseudoChannel → α → PseudoChannel} (hf : ∀ m x, (f m x).cells = m.cells)
    (l : List α) (n : PseudoChannel) :
    (l.foldl f n).cells = n.cells :=
  List.foldlRecOn (motive := fun m : PseudoChannel => m.cells = n.cells) l f rfl (fun m hm x _ => (hf m x).trans hm)
@[simp] theorem pc_foldl_fst_cells {α β : Type} {f : PseudoChannel × β → α → PseudoChannel × β} (hf : ∀ m x,
    (f m x).1.cells = m.1.cells) (l : List α) (n : PseudoChannel × β) :
    (l.foldl f n).1.cells = n.1.cells :=
  List.foldlRecOn (motive := fun m : PseudoChannel × β => m.1.cells = n.1.cells) l f rfl (fun m hm x _ => (hf m x).trans hm)

section
variable {c : Prop} [Decidable c]
@[simp] theorem ite_cells (a b : State) : (if c then a else b).cells = if c then a.cells else b.cells := apply_ite _ _ _ _
@[simp] theorem ite_chan_cells (a b : Channel) : (if c then a else b).cells = if c then a.cells else b.cells := apply_ite _
    _ _ _
@[simp] theorem ite_pc_cells (a b : PseudoChannel) : (if c then a else b).cells = if c then a.cells else b.cells :=
    apply_ite _ _ _ _
end

@[simp] theorem State.updCh_cells {s : State} {c : Ch} {f : Channel → Channel} (hf : (f s.chans[c]).cells = s.chans[c].cells) :
    (s.updCh c f).cells = s.cells := by
  simpa [State.updCh] using congrArg (Prod.mk s.dens) (chans_set_cells hf)

@[simp] theorem State.updAll_cells {s : State} {f : Channel → Channel} (hf : ∀ h, (f h).cells = h.cells) :
    (s.updAll f).cells = s.cells := by
  simp [State.updAll, hf]

@[simp] theorem Channel.updPc_cells {h : Channel} {p : Pc} {f : PseudoChannel → PseudoChannel}
    (hf : (f h.pcs[p]).cells = h.pcs[p].cells) : (h.updPc p f).cells = h.cells := by
  simpa [Channel.updPc] using Channel.cells_set hf

@[simp] theorem Channel.updPcs_cells {h : Channel} {f : PseudoChannel → PseudoChannel} (hf : ∀ q, (f q).cells = q.cells) :
    (h.updPcs f).cells = h.cells := by
  simp [Channel.updPcs, hf]

@[simp] theorem State.updPc_cells {s : State} {c : Ch} {p : Pc} {f : PseudoChannel → PseudoChannel}
    (hf : (f s.chans[c].pcs[p]).cells = s.chans[c].pcs[p].cells) : (s.updPc c p f).cells = s.cells :=
  State.updCh_cells (Channel.updPc_cells hf)

@[simp] theorem Channel.updRegs_cells (h : Channel) (f : ModeRegs → ModeRegs) :
    (h.updRegs f).cells = h.cells := by simp [Channel.updRegs]

@[simp] theorem Channel.updCnt_cells (h : Channel) (f : ChanCounters → ChanCounters) :
    (h.updCnt f).cells = h.cells := by simp [Channel.updCnt]

@[simp] theorem Channel.updTaper_cells (h : Channel) (f : Taper → Taper) :
    (h.updTaper f).cells = h.cells := by simp [Channel.updTaper]

@[simp] theorem PseudoChannel.updBank_cells (p : PseudoChannel) (i : Fin 64) (f : Bank → Bank) :
    (p.updBank i f).cells = p.cells := by simp [PseudoChannel.updBank]

@[simp] theorem PseudoChannel.updBanks_cells (p : PseudoChannel) (f : Bank → Bank) :
    (p.updBanks f).cells = p.cells := by simp [PseudoChannel.updBanks]

@[simp] theorem PseudoChannel.updSid_cells (p : PseudoChannel) (sid : Sid) (f : Bank → Bank) :
    (p.updSid sid f).cells = p.cells := by simp [PseudoChannel.updSid]

@[simp] theorem State.updSession_cells (s : State) (k : Slot) (f : Session → Session) :
    (s.updSession k f).cells = s.cells := by simp [State.updSession]

@[simp] theorem State.updWindow_cells (s : State) (t : Transport) (f : Window → Window) :
    (s.updWindow t f).cells = s.cells := by
  unfold State.updWindow
  split <;> simp

@[simp] theorem State.updMgmt_cells (s : State) (f : Mgmt → Mgmt) : (s.updMgmt f).cells = s.cells := by simp [State.updMgmt]

@[simp] theorem State.updWick_cells (s : State) (f : Wick → Wick) : (s.updWick f).cells = s.cells := by simp [State.updWick]

@[simp] theorem State.updNv_cells (s : State) (f : NonVolatile → NonVolatile) :
    (s.updNv f).cells = s.cells := by simp [State.updNv]

@[simp] theorem State.updI2c_cells (s : State) (f : I2c → I2c) : (s.updI2c f).cells = s.cells := by simp [State.updI2c]

@[simp] theorem Channel.setCause_cells (h : Channel) (n : Nat) : (h.setCause n).cells = h.cells := by simp [Channel.setCause]

@[simp] theorem State.setCause_cells (s : State) (c : Ch) (n : Nat) :
    (s.setCause c n).cells = s.cells := by simp [State.setCause]

@[simp] theorem State.setCauseAll_cells (s : State) (n : Nat) :
    (s.setCauseAll n).cells = s.cells := by simp [State.setCauseAll]

@[simp] theorem Channel.startDiscard_cells (h : Channel) : (h.startDiscard).cells = h.cells := by simp [Channel.startDiscard]

@[simp] theorem State.free_cells (s : State) (w : Nat) : (s.free w).2.cells = s.cells := by simp [State.free]

@[simp] theorem State.record_cells (s : State) (typ : Byte) (body : List Byte) :
    (s.record typ body).cells = s.cells := by simp [State.record]

@[simp] theorem State.ledger_cells (s : State) (typ : Byte) (body : List Byte) :
    (s.ledger typ body).cells = s.cells := by simp [State.ledger]

@[simp] theorem State.event_cells (s : State) (typ : Nat) (unit ch pc : Byte) (data : Word32) (seq : Nat) :
    (s.event typ unit ch pc data seq).cells = s.cells := by simp [State.event]

@[simp] theorem State.ledgerEvent_cells (s : State) (rec : Byte) (body : List Byte) (typ : Nat) (unit ch pc : Byte)
    (data : Word32) :
    (s.ledgerEvent rec body typ unit ch pc data).cells = s.cells := by simp [State.ledgerEvent]

@[simp] theorem State.blow_cells (s : State) (w : Nat) (bits failBits : BitVec 39) :
    (s.blow w bits failBits).cells = s.cells := by simp [State.blow]

@[simp] theorem State.cutFuse_cells (s : State) : (s.cutFuse).cells = s.cells := by
  unfold State.cutFuse
  split <;> simp

@[simp] theorem PseudoChannel.clearInjected_cells (q : PseudoChannel) (n : Nat) :
    (q.clearInjected n).cells = q.cells := by simp [PseudoChannel.clearInjected]

@[simp] theorem State.postImage_cells (s : State) (c : Ch) (x : Transfer) :
    (s.postImage c x).cells = s.cells := by simp [State.postImage]

@[simp] theorem State.reportMapState_cells (s : State) (c : Ch) (p : Pc) (old new : MapState) :
    (s.reportMapState c p old new).cells = s.cells := by simp [State.reportMapState]

@[simp] theorem State.takeMapState_cells (s : State) (c : Ch) (p : Pc) (m : MapState) :
    (s.takeMapState c p m).cells = s.cells := by
  unfold State.takeMapState
  split <;> simp

@[simp] theorem State.setMapState_cells (s : State) (c : Ch) (p : Pc) (m : MapState) :
    (s.setMapState c p m).cells = s.cells := by simp [State.setMapState]

@[simp] theorem State.startMapLoad_cells (s : State) (c : Ch) (p : Pc) (m : MapImage) (old : Option MapState) :
    (s.startMapLoad c p m old).cells = s.cells := by simp [State.startMapLoad]

@[simp] theorem State.takeUpMap_cells (s : State) (c : Ch) (p : Pc) (old : Option MapState) :
    (s.takeUpMap c p old).cells = s.cells := by
  unfold State.takeUpMap
  split <;> simp

@[simp] theorem State.rewriteMapRow_cells (s : State) (c : Ch) (p : Pc) (access : Nat) :
    (s.rewriteMapRow c p access).cells = s.cells := by
  unfold State.rewriteMapRow
  split <;> simp

@[simp] theorem PseudoChannel.trackRefreshed_cells (p : PseudoChannel) (rows : Nat) (i : Fin 64) (row : Nat) :
    (p.trackRefreshed rows i row).cells = p.cells := by simp [PseudoChannel.trackRefreshed]

@[simp] theorem PseudoChannel.cancelWhere_cells (p : PseudoChannel) (rows : Nat) (host : Option Nat) (f : ProfileGroup → Bool) :
    (p.cancelWhere rows host f).cells = p.cells := by
  unfold PseudoChannel.cancelWhere
  split <;> simp

@[simp] theorem PseudoChannel.cancelRow_cells (p : PseudoChannel) (rows : Nat) (i : Fin 64) (row : Nat) (host : Bool) :
    (p.cancelRow rows i row host).cells = p.cells := by simp [PseudoChannel.cancelRow]

@[simp] theorem PseudoChannel.neighbourRefresh_cells (p : PseudoChannel) (rows : Nat) (i : Fin 64) (row : Row) :
    (p.neighbourRefresh rows i row).cells = p.cells := by
  unfold PseudoChannel.neighbourRefresh
  dsimp only
  repeat' split
  all_goals simp

@[simp] theorem Channel.postRequest_cells (h : Channel) (p : Pc) (i : Fin 64) :
    (h.postRequest p i).cells = h.cells := by simp [Channel.postRequest]

@[simp] theorem Channel.serveRfm_cells (h : Channel) (rows : Nat) (p : Pc) (i : Fin 64) :
    (h.serveRfm rows p i).cells = h.cells := by
  unfold Channel.serveRfm
  split <;> simp

@[simp] theorem PseudoChannel.passRows_cells (p : PseudoChannel) (x : RefCtx) (i : Fin 64) (n : Nat) :
    (p.passRows x i n).1.cells = p.cells := by
  induction n generalizing p with
  | zero => rfl
  | succ n ih => exact (ih _).trans (by simp)

@[simp] theorem PseudoChannel.cursorWork_cells (p : PseudoChannel) (x : RefCtx) (count : Bool) (i : Fin 64) :
    (p.cursorWork x count i).1.cells = p.cells := by
  unfold PseudoChannel.cursorWork
  dsimp only
  repeat' split
  all_goals simp

@[simp] theorem PseudoChannel.handOut_cells (p : PseudoChannel) (x : RefCtx) (banks : List (Fin 64)) (count : Bool) :
    (p.handOut x banks count).1.cells = p.cells := by simp [PseudoChannel.handOut]

@[simp] theorem PseudoChannel.refreshRows_cells (p : PseudoChannel) (rows : Nat) (list : List OwedRow) :
    (p.refreshRows rows list).cells = p.cells := by simp [PseudoChannel.refreshRows]

@[simp] theorem PseudoChannel.carry_cells (p : PseudoChannel) (list : List OwedRow) :
    (p.carry list).cells = p.cells := by simp [PseudoChannel.carry]

@[simp] theorem PseudoChannel.repay_cells (p : PseudoChannel) (x : RefCtx) (i : Fin 64) (fuel units : Nat) :
    (p.repay x i fuel units).1.cells = p.cells := by
  induction fuel generalizing p units with
  | zero => rfl
  | succ n ih =>
    unfold PseudoChannel.repay
    dsimp only
    split
    · exact (ih _ _).trans (by simp)
    · rfl

@[simp] theorem PseudoChannel.repayWork_cells (p : PseudoChannel) (x : RefCtx) (units : Nat) (i : Fin 64) :
    (p.repayWork x units i).1.cells = p.cells := by
  unfold PseudoChannel.repayWork
  split <;> simp

@[simp] theorem PseudoChannel.halfWork_cells (p : PseudoChannel) (x : RefCtx) (units : Nat) (i : Fin 64) :
    (p.halfWork x units i).1.cells = p.cells := by
  refine pc_foldl_fst_cells (fun m e => ?_) _ _
  dsimp only
  split <;> simp

@[simp] theorem PseudoChannel.readRow_cells (p : PseudoChannel) (i : Fin 64) (row : Nat) (profiling : Bool) :
    (p.readRow i row profiling).cells = p.cells := by simp [PseudoChannel.readRow]

@[simp] theorem PseudoChannel.scrubRows_cells (p : PseudoChannel) (x : RefCtx) (banks : List (Fin 64)) (fuel units : Nat) :
    (p.scrubRows x banks fuel units).1.cells = p.cells := by
  induction fuel generalizing p units with
  | zero => rfl
  | succ n ih =>
    unfold PseudoChannel.scrubRows
    split
    · rfl
    · dsimp only
      split
      · rfl
      · exact (ih _ _).trans (by simp)

@[simp] theorem PseudoChannel.scrubWork_cells (p : PseudoChannel) (x : RefCtx) (banks : List (Fin 64)) (units : Nat) :
    (p.scrubWork x banks units).1.cells = p.cells := by
  unfold PseudoChannel.scrubWork
  split <;> simp

@[simp] theorem Channel.rfmWork_cells (h : Channel) (x : RefCtx) (p : Pc) (banks : List (Fin 64)) (units : Nat) :
    (h.rfmWork x p banks units).1.cells = h.cells :=
  List.foldlRecOn (motive := fun m : Channel × Nat => m.1.cells = h.cells) _ _ rfl
    (fun m hm r _ => by dsimp only; split <;> simp [hm])

@[simp] theorem State.raiseUrgent_cells (s old : State) (c : Ch) :
    (s.raiseUrgent old c).cells = s.cells := by simp [State.raiseUrgent]

@[simp] theorem PseudoChannel.restartObligation_cells (p : PseudoChannel) :
    (p.restartObligation).cells = p.cells := by simp [PseudoChannel.restartObligation]

@[simp] theorem PseudoChannel.blindLap_cells (p : PseudoChannel) (rows : Nat) :
    (p.blindLap rows).cells = p.cells := by simp [PseudoChannel.blindLap]

@[simp] theorem PseudoChannel.spillTracker_cells (p : PseudoChannel) :
    (p.spillTracker).cells = p.cells := by simp [PseudoChannel.spillTracker]

@[simp] theorem PseudoChannel.loadTracker_cells (p : PseudoChannel) :
    (p.loadTracker).cells = p.cells := by simp [PseudoChannel.loadTracker]

@[simp] theorem PseudoChannel.cancelBatch_cells (p : PseudoChannel) (rows : Nat) :
    (p.cancelBatch rows).cells = p.cells := by simp [PseudoChannel.cancelBatch]

@[simp] theorem PseudoChannel.lapAfter_cells (q old : PseudoChannel) (now : Nat) :
    (q.lapAfter old now).cells = q.cells := by simp [PseudoChannel.lapAfter]

@[simp] theorem Channel.lapsAfter_cells (h old : Channel) (now : Nat) :
    (h.lapsAfter old now).cells = h.cells := by simp [Channel.lapsAfter]

@[simp] theorem Channel.eventThread_cells (h : Channel) (halt : Bool) (n : Nat) (addr : ThreadAddr) (lease : Option Lease)
    (owed : List OwedRow) :
    (h.eventThread halt n addr lease owed).cells = h.cells := by simp [Channel.eventThread]

@[simp] theorem Channel.revoke_cells (h : Channel) (pcs : BitVec 2) :
    (h.revoke pcs).cells = h.cells := by simp [Channel.revoke]

@[simp] theorem Channel.stageEnd_cells (h : Channel) (now : Nat) (aborted : Bool) (hit : BitVec 2) :
    (h.stageEnd now aborted hit).cells = h.cells := by simp [Channel.stageEnd]

@[simp] theorem Channel.stageBreak_cells (h : Channel) (now : Nat) (pcs : BitVec 2) :
    (h.stageBreak now pcs).cells = h.cells := by simp [Channel.stageBreak]

@[simp] theorem Channel.beginDiscard_cells (h : Channel) : (h.beginDiscard).cells = h.cells := by simp [Channel.beginDiscard]

@[simp] theorem Channel.slipped_cells (h : Channel) : (h.slipped).cells = h.cells := by simp [Channel.slipped]

@[simp] theorem Channel.refuse_cells (h : Channel) (parity : Bool) :
    (h.refuse parity).cells = h.cells := by simp [Channel.refuse]

@[simp] theorem Channel.sampled_cells (h : Channel) (k : Sampled) (bus : Bus) : (h.sampled k bus).cells = h.cells := by
  unfold Channel.sampled
  split <;> simp

@[simp] theorem Channel.sawCommand_cells (h : Channel) (bus : Bus) : (h.sawCommand bus).cells = h.cells := by
  unfold Channel.sawCommand
  split <;> simp

@[simp] theorem PseudoChannel.endGaps_cells (p : PseudoChannel) (sid : Option Sid) :
    (p.endGaps sid).cells = p.cells := by simp [PseudoChannel.endGaps]

@[simp] theorem Channel.number_cells (h : Channel) (k : HostCmd) : (h.number k).cells = h.cells := by simp [Channel.number]

@[simp] theorem Channel.hostThread_cells (h : Channel) (k : HostCmd) :
    (h.hostThread k).cells = h.cells := by simp [Channel.hostThread]

@[simp] theorem Channel.accept_cells (h : Channel) (now : Nat) (k : HostCmd) :
    (h.accept now k).cells = h.cells := by simp [Channel.accept]

@[simp] theorem Channel.discarded_cells (h : Channel) (k : HostCmd) :
    (h.discarded k).cells = h.cells := by simp [Channel.discarded]

@[simp] theorem Channel.failCapture_cells (h : Channel) (bus : Bus) (parity : Bool) :
    (h.failCapture bus parity).cells = h.cells := by simp [Channel.failCapture]

@[simp] theorem State.intake_cells (s : State) (c : Ch) (k : HostCmd) (ok : Sampled) {body : State → State}
    (hb : ∀ t, (body t).cells = t.cells) : (s.intake c k ok body).cells = s.cells := by
  unfold State.intake
  dsimp only
  repeat' split
  all_goals simp [hb]

@[simp] theorem PseudoChannel.settleQact_cells (p : PseudoChannel) :
    (p.settleQact).cells = p.cells := by simp [PseudoChannel.settleQact]

@[simp] theorem Channel.releaseQact_cells (h : Channel) (p : Pc) :
    (h.releaseQact p).cells = h.cells := by simp [Channel.releaseQact]

@[simp] theorem Channel.opEnds_cells (h : Channel) (p : Pc) : (h.opEnds p).cells = h.cells := by simp [Channel.opEnds]

@[simp] theorem Channel.send_cells (h : Channel) (f : BitVec 48) : (h.send f).cells = h.cells := by simp [Channel.send]

@[simp] theorem Channel.sendHost_cells (h : Channel) (f : BitVec 48) :
    (h.sendHost f).cells = h.cells := by simp [Channel.sendHost]

@[simp] theorem Channel.deliver_cells (h : Channel) (rows : Nat) (f : BitVec 48) :
    (h.deliver rows f).cells = h.cells := by simp [Channel.deliver]

@[simp] theorem Channel.srefEnter_cells (h : Channel) (mask : BitVec 4) :
    (h.srefEnter mask).cells = h.cells := by simp [Channel.srefEnter]

@[simp] theorem Channel.dropLane_cells (h : Channel) (u : Fin 6) (code : Nat) : (h.dropLane u code).cells = h.cells := by
  unfold Channel.dropLane
  split <;> simp

@[simp] theorem Channel.applyMap_cells (h : Channel) (reg : Fin 5) (w : Word32) :
    (h.applyMap reg w).cells = h.cells := by simp [Channel.applyMap]

@[simp] theorem Channel.writeMap_cells (h : Channel) (reg : Fin 5) (w : Word32) :
    (h.writeMap reg w).cells = h.cells := by simp [Channel.writeMap]

@[simp] theorem Channel.applyArmed_cells (h : Channel) : h.applyArmed.cells = h.cells := by
  refine chan_foldl_cells (fun k reg => ?_) _ _
  split <;> simp

@[simp] theorem Channel.applyTargets_cells (h : Channel) (run : Bool) (pcs : BitVec 2) :
    (h.applyTargets run pcs).cells = h.cells := by simp [Channel.applyTargets]

@[simp] theorem State.signalHealth_cells (s : State) (t : BitVec 32) :
    (s.signalHealth t).cells = s.cells := by simp [State.signalHealth]

@[simp] theorem State.evalHealth_cells (s : State) : (s.evalHealth).cells = s.cells := by simp [State.evalHealth]

@[simp] theorem State.foldHistograms_cells (s : State) : (s.foldHistograms).cells = s.cells := by simp [State.foldHistograms]

@[simp] theorem Channel.causeIf_cells (h : Channel) (b : Bool) (n : Nat) :
    (h.causeIf b n).cells = h.cells := by simp [Channel.causeIf]

@[simp] theorem Channel.track_cells (h : Channel) (x : RefCtx) (p : Pc) (i : Fin 64) (row : Row) :
    (h.track x p i row).1.cells = h.cells := by simp [Channel.track]

@[simp] theorem State.openRow_cells (s : State) (c : Ch) (p : Pc) (sid : Sid) (bg : Bg) (ba : Ba) (row : Row) :
    (s.openRow c p sid bg ba row).cells = s.cells := by
  unfold State.openRow
  dsimp only
  repeat' split
  all_goals simp

@[simp] theorem Channel.refThreads_cells (h : Channel) (x : RefCtx) (entry : Nat) (addr : ThreadAddr) (lease : Lease)
    (owed : List OwedRow) :
    (h.refThreads x entry addr lease owed).cells = h.cells := by simp [Channel.refThreads]

@[simp] theorem Channel.updNamed_cells {h : Channel} {pcs : BitVec 2} {f : PseudoChannel → PseudoChannel}
    (hf : ∀ q, (f q).cells = q.cells) : (h.updNamed pcs f).cells = h.cells := by
  refine pcs_mapFinIdx_cells (fun i q hi => ?_)
  split <;> simp [hf]

@[simp] theorem State.settleGates_cells (s : State) (c : Ch) :
    (s.settleGates c).cells = s.cells := by simp [State.settleGates]

@[simp] theorem Channel.enterSr_cells (h : Channel) (rows sids : Nat) (managed : Bool) :
    (h.enterSr rows sids managed).cells = h.cells := by simp [Channel.enterSr]

@[simp] theorem State.enterSelfRefresh_cells (s : State) (c : Ch) (managed : Bool) :
    (s.enterSelfRefresh c managed).cells = s.cells := by simp [State.enterSelfRefresh]

@[simp] theorem PseudoChannel.post_cells (p : PseudoChannel) (a : Posted) :
    (p.post a).cells = p.cells := by simp [PseudoChannel.post]

@[simp] theorem PseudoChannel.read_cells (p : PseudoChannel) (sid : Sid) (bg : Bg) (ba : Ba) (col : Col) :
    (p.read sid bg ba col).cells = p.cells := by
  unfold PseudoChannel.read
  split <;> simp

@[simp] theorem Channel.readCmd_cells (h : Channel) (p : Pc) (sid : Sid) (bg : Bg) (ba : Ba) (col : Col) (close : Bool) :
    (h.readCmd p sid bg ba col close).cells = h.cells := by simp [Channel.readCmd]

@[simp] theorem PseudoChannel.write_cells (p : PseudoChannel) (sid : Sid) (bg : Bg) (ba : Ba) (col : Col) (burst : Burst) :
    (p.write sid bg ba col burst).cells = p.cells := by
  unfold PseudoChannel.write
  split <;> simp

@[simp] theorem Channel.writeCmd_cells (h : Channel) (p : Pc) (sid : Sid) (bg : Bg) (ba : Ba) (col : Col) (burst : Burst)
    (close : Bool) :
    (h.writeCmd p sid bg ba col burst close).cells = h.cells := by simp [Channel.writeCmd]

@[simp] theorem Channel.postHost_cells (h : Channel) (p : Pc) (a : Posted) :
    (h.postHost p a).cells = h.cells := by simp [Channel.postHost]

@[simp] theorem Channel.drivePattern_cells (h : Channel) (len : BitVec 2) :
    (h.drivePattern len).cells = h.cells := by simp [Channel.drivePattern]

@[simp] theorem Channel.resynced_cells (h : Channel) (rows : Nat) :
    (h.resynced rows).cells = h.cells := by simp [Channel.resynced]

@[simp] theorem Channel.coreSleep_cells (h : Channel) (sids : Nat) :
    (h.coreSleep sids).cells = h.cells := by simp [Channel.coreSleep]

@[simp] theorem Channel.switchNative_cells (h : Channel) (sids : Nat) :
    (h.switchNative sids).cells = h.cells := by simp [Channel.switchNative]

@[simp] theorem Channel.linkHold_cells (h : Channel) (sids : Nat) :
    (h.linkHold sids).cells = h.cells := by simp [Channel.linkHold]

@[simp] theorem State.enterLinkHold_cells (s : State) : (s.enterLinkHold).cells = s.cells := by simp [State.enterLinkHold]

@[simp] theorem State.freeze_cells (s : State) : (s.freeze).cells = s.cells := by simp [State.freeze]

@[simp] theorem State.loseLock_cells (s : State) : (s.loseLock).cells = s.cells := by
  unfold State.loseLock
  split <;> simp

@[simp] theorem State.closeLoop_cells (s : State) : (s.closeLoop).cells = s.cells := by simp [State.closeLoop]

@[simp] theorem State.endEpisode_cells (s : State) (held : Bool) :
    (s.endEpisode held).cells = s.cells := by simp [State.endEpisode]

@[simp] theorem Channel.binChanged_cells (h : Channel) (sids : Nat) :
    (h.binChanged sids).cells = h.cells := by simp [Channel.binChanged]

@[simp] theorem State.setCoreRl_cells (s : State) (bin : BitVec 2) :
    (s.setCoreRl bin).cells = s.cells := by simp [State.setCoreRl]

@[simp] theorem Channel.ignoreMrw_cells (h : Channel) : (h.ignoreMrw).cells = h.cells := by simp [Channel.ignoreMrw]

@[simp] theorem PseudoChannel.setMode_cells (p : PseudoChannel) (managed : Bool) :
    (p.setMode managed).cells = p.cells := by simp [PseudoChannel.setMode]

@[simp] theorem Channel.fillGo_cells (h : Channel) (halt : Bool) (p : Pc) (pat : BitVec 4) :
    (h.fillGo halt p pat).cells = h.cells := by simp [Channel.fillGo]

@[simp] theorem Channel.writeMr02_cells (h : Channel) (halt : Bool) (pat : BitVec 4) (go modes : BitVec 2) :
    (h.writeMr02 halt pat go modes).cells = h.cells := by simp [Channel.writeMr02]

@[simp] theorem Channel.writeMr04_cells (h : Channel) (rows : Nat) (lim : BitVec 4) (en : Bool) :
    (h.writeMr04 rows lim en).cells = h.cells := by simp [Channel.writeMr04]

@[simp] theorem Channel.askQuiesce_cells (h : Channel) (p : Pc) :
    (h.askQuiesce p).cells = h.cells := by simp [Channel.askQuiesce]

@[simp] theorem Channel.releaseQuiesce_cells (h : Channel) (p : Pc) :
    (h.releaseQuiesce p).cells = h.cells := by simp [Channel.releaseQuiesce]

@[simp] theorem Channel.writeMr08_cells (h : Channel) (bits : BitVec 2) :
    (h.writeMr08 bits).cells = h.cells := by simp [Channel.writeMr08]

@[simp] theorem Channel.clearCauses_cells (h : Channel) (mask : BitVec 10) :
    (h.clearCauses mask).cells = h.cells := by simp [Channel.clearCauses]

@[simp] theorem Channel.writeMr12_cells (h : Channel) (bits : BitVec 4) :
    (h.writeMr12 bits).cells = h.cells := by simp [Channel.writeMr12]

@[simp] theorem State.writeMr15_cells (s : State) (c : Ch) (v : BitVec 16) :
    (s.writeMr15 c v).cells = s.cells := by simp [State.writeMr15]

@[simp] theorem State.mrWrite_cells (s : State) (c : Ch) (ma : Fin 32) (v : BitVec 16) :
    (s.mrWrite c ma v).cells = s.cells := by
  unfold State.mrWrite
  repeat' split
  all_goals simp

@[simp] theorem State.mrwCommand_cells (s : State) (c : Ch) (ma : Fin 32) (v : BitVec 16) (ok : Sampled) :
    (s.mrwCommand c ma v ok).cells = s.cells := by simp [State.mrwCommand]

@[simp] theorem State.laneMarginal_cells (s : State) (c : Ch) (k : Fin 100) (last : List Byte) :
    (s.laneMarginal c k last).cells = s.cells := by simp [State.laneMarginal]

@[simp] theorem State.tsvMarginal_cells (s : State) (c : Ch) (g : Fin 16) (pos : Fin 19) :
    (s.tsvMarginal c g pos).cells = s.cells := by simp [State.tsvMarginal]

@[simp] theorem State.journalRemap_cells (s : State) (c : Ch) (p : Pc) (e : Fin 8) (w : BitVec 32) (action : RemapAction) :
    (s.journalRemap c p e w action).cells = s.cells := by simp [State.journalRemap]

@[simp] theorem State.candidate_cells (s : State) (c : Ch) (p : Pc) (bank : Fin 64) (row : Row) (src : BitVec 2) :
    (s.candidate c p bank row src).1.cells = s.cells := by
  unfold State.candidate
  dsimp only
  repeat' split
  all_goals simp

@[simp] theorem State.promote_cells (s : State) (c : Ch) (p : Pc) : (s.promote c p).cells = s.cells := by
  unfold State.promote
  dsimp only
  repeat' split
  all_goals simp

@[simp] theorem State.foundCandidate_cells (s : State) (c : Ch) (p : Pc) (n : Nat) (src : BitVec 2) :
    (s.foundCandidate c p n src).cells = s.cells := by simp [State.foundCandidate]

@[simp] theorem State.bucketOverflow_cells (s : State) (c : Ch) (p : Pc) :
    (s.bucketOverflow c p).cells = s.cells := by simp [State.bucketOverflow]

@[simp] theorem State.bucketAdd_cells (s : State) (c : Ch) (p : Pc) (n sym : Nat) :
    (s.bucketAdd c p n sym).cells = s.cells := by simp [State.bucketAdd]

@[simp] theorem State.tallyUe_cells (s : State) (c : Ch) (p : Pc) (n : Nat) (scrub : Bool) :
    (s.tallyUe c p n scrub).cells = s.cells := by simp [State.tallyUe]

@[simp] theorem State.noteCorrected_cells (s : State) (c : Ch) (p : Pc) (n : Nat) :
    (s.noteCorrected c p n).cells = s.cells := by simp [State.noteCorrected]

@[simp] theorem State.noteSymbol_cells (s : State) (c : Ch) (p : Pc) (n sym : Nat) :
    (s.noteSymbol c p n sym).cells = s.cells := by simp [State.noteSymbol]

@[simp] theorem State.countRead_cells (s : State) (c : Ch) (p : Pc) (n : Nat) (v : ReadEvents) (inj : Option Bool)
    (scrub : Bool) :
    (s.countRead c p n v inj scrub).cells = s.cells := by simp [State.countRead]

@[simp] theorem PseudoChannel.consumeRead_cells (q : PseudoChannel) (n : Nat) :
    (q.consumeRead n).cells = q.cells := by simp [PseudoChannel.consumeRead]

@[simp] theorem State.dieRead_cells (s : State) (c : Ch) (p : Pc) (n : Nat) (env : LineEnv) (owner : Option Nat) :
    (s.dieRead c p n env owner).2.cells = s.cells := by
  unfold State.dieRead
  dsimp only
  repeat' split
  all_goals simp

@[simp] theorem Channel.countTsv_cells (h : Channel) (p : Pc) (env : LineEnv) :
    (h.countTsv p env).cells = h.cells := by simp [Channel.countTsv]

@[simp] theorem State.slip_cells (s : State) (c : Ch) : (s.slip c).cells = s.cells := by simp [State.slip]

@[simp] theorem State.readSlip_cells (s : State) (c : Ch) (p : Pc) (env : LineEnv) : (s.readSlip c p env).cells = s.cells := by
  refine (State.slip_cells _ _).trans (State.updCh_cells (Channel.updPc_cells ?_))
  simp

@[simp] theorem Channel.countSpares_cells (h : Channel) (n : Nat) :
    (h.countSpares n).cells = h.cells := by simp [Channel.countSpares]

@[simp] theorem PseudoChannel.follow_cells (q : PseudoChannel) (a : Posted) :
    (q.follow a).cells = q.cells := by simp [PseudoChannel.follow]

@[simp] theorem PseudoChannel.toReturn_cells (q : PseudoChannel) (b : OutBurst) :
    (q.toReturn b).cells = q.cells := by simp [PseudoChannel.toReturn]

@[simp] theorem State.loadRead_cells (s : State) (c : Ch) (p : Pc) (env : LineEnv) (b : OutBurst) :
    (s.loadRead c p env b).cells = s.cells := by simp [State.loadRead]

@[simp] theorem State.fireRead_cells (s : State) (c : Ch) (p : Pc) (n : Nat) (owner : Option Nat) (env : LineEnv) :
    (s.fireRead c p n owner env).cells = s.cells := by simp [State.fireRead]

@[simp] theorem State.fireDecode_cells (s : State) (c : Ch) (p : Pc) (env : LineEnv) :
    (s.fireDecode c p env).cells = s.cells := by
  unfold State.fireDecode
  dsimp only
  repeat' split
  all_goals simp

@[simp] theorem State.fireUnservable_cells (s : State) (c : Ch) (p : Pc) (env : LineEnv) :
    (s.fireUnservable c p env).cells = s.cells := by simp [State.fireUnservable]

@[simp] theorem State.labPattern_cells (s : State) (c : Ch) (b : OutBurst) : (s.labPattern c b).2.cells = s.cells := by
  unfold State.labPattern
  dsimp only
  repeat' split
  all_goals simp

@[simp] theorem State.driverLimits_cells (s : State) (c : Ch) (p : Pc) (env : LineEnv) :
    (s.driverLimits c p env).cells = s.cells := by simp [State.driverLimits]

@[simp] theorem State.fireLaunch_cells (s : State) (c : Ch) (p : Pc) (env : LineEnv) :
    (s.fireLaunch c p env).cells = s.cells := by
  unfold State.fireLaunch
  repeat' split
  all_goals simp

@[simp] theorem State.fireBufRead_cells (s : State) (c : Ch) (p : Pc) (tb : Fin 16) (env : LineEnv) :
    (s.fireBufRead c p tb env).cells = s.cells := by simp [State.fireBufRead]

@[simp] theorem PseudoChannel.arm_cells (q : PseudoChannel) (n : Nat) (b : Burst) (served : Bool) (owner : Option Nat) :
    (q.arm n b served owner).cells = q.cells := by simp [PseudoChannel.arm]

@[simp] theorem State.failWrite_cells (s : State) (c : Ch) (p : Pc) (slips : Bool) :
    (s.failWrite c p slips).cells = s.cells := by simp [State.failWrite]

@[simp] theorem State.stage_cells (s : State) (c : Ch) (p : Pc) (x : Staged) :
    (s.stage c p x).cells = s.cells := by simp [State.stage]

@[simp] theorem State.fireUnload_cells (s : State) (c : Ch) (p : Pc) (env : LineEnv) : (s.fireUnload c p env).cells =
    s.cells := by
  unfold State.fireUnload
  split
  · rfl
  · next w rest _ =>
    dsimp only
    generalize hs : s.updCh c _ = s1
    have h1 : s1.cells = s.cells := by
      rw [← hs]
      refine State.updCh_cells ((Channel.updTaper_cells _ _).trans (Channel.updPc_cells ?_ |>.trans ?_)) <;> simp
    repeat' split
    all_goals simp [h1]

@[simp] theorem State.fireBufWrite_cells (s : State) (c : Ch) (p : Pc) (tb : Fin 16) (bits : BitVec 624) (env : LineEnv) :
    (s.fireBufWrite c p tb bits env).cells = s.cells := by simp [State.fireBufWrite]

@[simp] theorem PseudoChannel.captureScrub_cells (q : PseudoChannel) (n : Nat) (owner : Option Nat) :
    (q.captureScrub n owner).cells = q.cells := by simp [PseudoChannel.captureScrub]

@[simp] theorem State.fireCopyRead_cells (s : State) (c : Ch) (p : Pc) (sid : Sid) (bank : Fin 16) (row : Row)
    (owner : Option Nat) (env : LineEnv) :
    (s.fireCopyRead c p sid bank row owner env).cells = s.cells := by simp [State.fireCopyRead]

@[simp] theorem State.fireFill_cells (s : State) (c : Ch) (p : Pc) (n : Nat) :
    (s.fireFill c p n).cells = s.cells := by simp [State.fireFill]

@[simp] theorem State.readLine_cells (s : State) (a : Nat) : (s.readLine a).cells = s.cells := by
  unfold State.readLine
  repeat' split
  all_goals simp

@[simp] theorem State.fetchLine_cells (s : State) (a : Nat) (branch : Bool) : (s.fetchLine a branch).cells = s.cells := by
  unfold State.fetchLine
  split <;> simp

@[simp] theorem State.dmaRead_cells (s : State) (a : Nat) : (s.dmaRead a).cells = s.cells := by
  unfold State.dmaRead
  split <;> simp

@[simp] theorem State.wakeQuince_cells (s : State) : (s.wakeQuince).cells = s.cells := by simp [State.wakeQuince]

@[simp] theorem State.withQuince_cells (s body : State) :
    (s.withQuince body).cells = if s.nvFree then body.cells else s.cells := by
  simp [State.withQuince]

@[simp] theorem State.readQuince_cells (s body : State) :
    (s.readQuince body).cells = if s.quince.op.isSome then s.cells else if s.nvFree then body.cells else s.cells := by
  simp [State.readQuince]

@[simp] theorem State.startNv_cells (s : State) (kind : NvKind) (sector : Option (Fin 255)) (page : Option (Fin 264))
    (cont : NvCont) (owner : Option (Slot × BitVec 16)) :
    (s.startNv kind sector page cont owner).cells = s.cells := by simp [State.startNv]

@[simp] theorem State.keepErased_cells (s : State) : (s.keepErased).cells = s.cells := by
  unfold State.keepErased
  repeat' split
  all_goals simp

@[simp] theorem Channel.closeOpened_cells (h : Channel) (rows : Nat) (x : Thread) :
    (h.closeOpened rows x).cells = h.cells := by simp [Channel.closeOpened]

@[simp] theorem Channel.carryOwed_cells (h : Channel) (x : Thread) :
    (h.carryOwed x).cells = h.cells := by simp [Channel.carryOwed]

@[simp] theorem Channel.endThread_cells (h : Channel) (x : Thread) :
    (h.endThread x).cells = h.cells := by simp [Channel.endThread]

@[simp] theorem Channel.tableError_cells (h : Channel) (rows : Nat) (x : Thread) :
    (h.tableError rows x).cells = h.cells := by simp [Channel.tableError]

@[simp] theorem PseudoChannel.scrubTaken_cells (q : PseudoChannel) (rows : Nat) (x : Thread) :
    (q.scrubTaken rows x).cells = q.cells := by
  unfold PseudoChannel.scrubTaken
  split <;> simp

@[simp] theorem State.branchTrue_cells (s : State) (c : Ch) (x : Thread) (bcnd : Nat) :
    (s.branchTrue c x bcnd).2.cells = s.cells := by
  unfold State.branchTrue
  dsimp only
  repeat' split
  all_goals simp

@[simp] theorem State.traceStep_cells (s : State) (c : Ch) (x : Thread) (on : Bool) (wait : BitVec 12) :
    (s.traceStep c x on wait).cells = s.cells := by
  unfold State.traceStep
  split
  · exact (State.updCh_cells (Channel.updTaper_cells _ _)).trans (s.free_cells 32)
  · exact State.updCh_cells (Channel.updTaper_cells _ _)

@[simp] theorem State.finishStep_cells (s : State) (c : Ch) (x : Thread) (issued : Bool) (next : BitVec 10) (wait : BitVec 12) :
    (s.finishStep c x issued next wait).cells = s.cells := by simp [State.finishStep]

@[simp] theorem State.branchStep_cells (s : State) (c : Ch) (x : Thread) (issued : Bool) :
    (s.branchStep c x issued).cells = s.cells := by simp [State.branchStep]

@[simp] theorem Channel.countWord_cells (h : Channel) (x : Thread) :
    (h.countWord x).cells = h.cells := by simp [Channel.countWord]

@[simp] theorem Channel.postPre_cells (h : Channel) (a : ThreadAddr) :
    (h.postPre a).cells = h.cells := by simp [Channel.postPre]

@[simp] theorem Channel.rowDone_cells (h : Channel) (rows : Nat) (x : Thread) (p : Pc) (i : Fin 64) (row : Nat) :
    (h.rowDone rows x p i row).1.cells = h.cells := by simp [Channel.rowDone]

@[simp] theorem PseudoChannel.commitStaged_cells (q : PseudoChannel) (tid top : Nat) :
    (q.commitStaged tid top).cells = q.cells := by
  unfold PseudoChannel.commitStaged
  split <;> simp

@[simp] theorem PseudoChannel.dropStaged_cells (q : PseudoChannel) (tid : Nat) :
    (q.dropStaged tid).cells = q.cells := by simp [PseudoChannel.dropStaged]

@[simp] theorem PseudoChannel.dataAction_cells (q : PseudoChannel) (dop top : Nat) (x : Thread) (a : ThreadAddr) :
    (q.dataAction dop top x a).cells = q.cells := by
  unfold PseudoChannel.dataAction
  repeat' split
  all_goals simp

@[simp] theorem State.refuseStep_cells (s : State) (c : Ch) (x : Thread) :
    (s.refuseStep c x).cells = s.cells := by simp [State.refuseStep]

@[simp] theorem Channel.discardWrite_cells (h : Channel) : (h.discardWrite).cells = h.cells := by simp [Channel.discardWrite]

@[simp] theorem Channel.scanned_cells (h : Channel) (corrected : List (Fin 1088)) (bad : Option (Fin 1088)) :
    (h.scanned corrected bad).cells = h.cells := by simp [Channel.scanned]

@[simp] theorem State.sensorFault_cells (s : State) (i : Fin 128) (cause : Nat) :
    (s.sensorFault i cause).cells = s.cells := by simp [State.sensorFault]

@[simp] theorem State.updateCodes_cells (s : State) : (s.updateCodes).cells = s.cells := by simp [State.updateCodes]

@[simp] theorem PseudoChannel.tooHot_cells (q : PseudoChannel) (rows : Nat) (reading : Sid → Option Int) :
    (q.tooHot rows reading).cells = q.cells := by
  unfold PseudoChannel.tooHot
  repeat' split
  all_goals simp

@[simp] theorem State.updateModes_cells (s : State) : (s.updateModes).cells = s.cells := by simp [State.updateModes]

@[simp] theorem State.unitEvent_cells (s : State) (u : Fin 5) : (s.unitEvent u).cells = s.cells := by
  unfold State.unitEvent
  split <;> simp

@[simp] theorem State.updatePeaks_cells (s : State) : (s.updatePeaks).cells = s.cells := by simp [State.updatePeaks]

@[simp] theorem Channel.trip_cells (h : Channel) (sids : Nat) : (h.trip sids).cells = h.cells := by simp [Channel.trip]

@[simp] theorem Channel.go_cells (h : Channel) (now : Nat) (warm : Bool) :
    (h.go now warm).cells = h.cells := by simp [Channel.go]

@[simp] theorem Channel.abortStage_cells (h : Channel) (now : Nat) :
    (h.abortStage now).cells = h.cells := by simp [Channel.abortStage]

@[simp] theorem Channel.setTxeq_cells (h : Channel) (before : Vector Bool 2) (w : Word32) :
    (h.setTxeq before w).cells = h.cells := by simp [Channel.setTxeq]

@[simp] theorem Channel.setTrnFields_cells (h : Channel) (w : Word32) :
    (h.setTrnFields w).cells = h.cells := by simp [Channel.setTrnFields]

@[simp] theorem Channel.finishPc_cells (h : Channel) (p : Pc) : (h.finishPc p).cells = h.cells := by simp [Channel.finishPc]

@[simp] theorem State.driveBaselines_cells (s : State) : (s.driveBaselines).cells = s.cells := by
  unfold State.driveBaselines
  repeat' split
  all_goals simp

@[simp] theorem State.saveBaselines_cells (s : State) : (s.saveBaselines).cells = s.cells := by simp [State.saveBaselines]

@[simp] theorem State.finish_cells (s : State) (c : Ch) : (s.finish c).cells = s.cells := by simp [State.finish]

@[simp] theorem State.trnWrite_cells (s : State) (c : Ch) (w : Word32) :
    (s.trnWrite c w).cells = s.cells := by simp [State.trnWrite]

@[simp] theorem Channel.stage1_cells (h : Channel) (rep : StageReport) :
    (h.stage1 rep).1.cells = h.cells := by simp [Channel.stage1]

@[simp] theorem Channel.stage2_cells (h : Channel) (rep : StageReport) :
    (h.stage2 rep).1.cells = h.cells := by simp [Channel.stage2]

@[simp] theorem Channel.eyeStage_cells (h : Channel) (n : Nat) (rep : StageReport) (occ : List Byte) (sids limit : Nat) :
    (h.eyeStage n rep occ sids limit).1.cells = h.cells := by simp [Channel.eyeStage]

@[simp] theorem Channel.measure_cells (h : Channel) (n seed : Nat) (rep : StageReport) (base : Option Baseline)
    (occ : List Byte) :
    (h.measure n seed rep base occ).cells = h.cells := by simp [Channel.measure]

@[simp] theorem State.reject_cells (s : State) (c : Ch) (k : Fin 100) (last : List Byte) :
    (s.reject c k last).cells = s.cells := by simp [State.reject]

@[simp] theorem State.takeResult_cells (s : State) (c : Ch) (e : EyeResult) :
    (s.takeResult c e).cells = s.cells := by simp [State.takeResult]

@[simp] theorem Channel.takeRdqs_cells (h : Channel) (x : Fin 4 × BitVec 12) :
    (h.takeRdqs x).cells = h.cells := by simp [Channel.takeRdqs]

@[simp] theorem State.service_cells (s : State) (x : SvcCmd) : (s.service x).cells = s.cells := by simp [State.service]

@[simp] theorem State.startMove_cells (s : State) (c : Ch) (g : Fin 16) (pos : Fin 18) :
    (s.startMove c g pos).cells = s.cells := by
  unfold State.startMove
  split <;> simp

@[simp] theorem State.updDie_cells (s : State) (l : Fin 16) (f : CoreDie → CoreDie) :
    (s.updDie l f).cells = s.cells := by simp [State.updDie]

@[simp] theorem State.generated_cells (s : State) (c : Ch) (p : Pc) :
    (s.generated c p).cells = s.cells := by simp [State.generated]

@[simp] theorem State.loadMapOf_cells (s : State) (c : Ch) (p : Pc) :
    (s.loadMapOf c p).cells = s.cells := by simp [State.loadMapOf]

@[simp] theorem State.readSlots_cells (s : State) : (s.readSlots).cells = s.cells := by simp [State.readSlots]

@[simp] theorem State.findMaps_cells (s : State) : s.findMaps.cells = s.cells := by
  have h : ∀ (l : List DeltaRec) (t : State), (l.foldl (fun (acc : List (Nat × BitVec 2) × State) d =>
      (acc.1 ++ [(d.seq, (acc.2.free 2).1)], (acc.2.free 2).2)) ([], t)).2.cells = t.cells := fun l t =>
    List.foldlRecOn (motive := fun a : List (Nat × BitVec 2) × State => a.2.cells = t.cells) l _ rfl
      (fun a ha d _ => (a.2.free_cells 2).trans ha)
  have h2 := h s.nv.deltaLog (s.free 4).2
  refine (State.updNv_cells _ _).trans ?_
  exact h2

@[simp] theorem State.resumeLoads_cells (s : State) : (s.resumeLoads).cells = s.cells := by simp [State.resumeLoads]

@[simp] theorem State.markSpareBad_cells (s : State) (c : Ch) (p : Pc) (e : Fin 8) :
    (s.markSpareBad c p e).cells = s.cells := by simp [State.markSpareBad]

@[simp] theorem State.moveEntry_cells (s : State) (c : Ch) (p : Pc) (e : Fin 8) : (s.moveEntry c p e).cells = s.cells := by
  unfold State.moveEntry
  dsimp only
  repeat' split
  all_goals simp

@[simp] theorem State.recordCopyUe_cells (s : State) (c : Ch) (p : Pc) (bank : Fin 64) (row : Row) :
    (s.recordCopyUe c p bank row).cells = s.cells := by simp [State.recordCopyUe]

@[simp] theorem State.fillCopy_cells (s : State) (c : Ch) (p : Pc) (e : Fin 8) :
    (s.fillCopy c p e).cells = s.cells := by simp [State.fillCopy]

@[simp] theorem State.startCopy_cells (s : State) (c : Ch) (p : Pc) (e : Fin 8) (op : QuiesceOp) :
    (s.startCopy c p e op).cells = s.cells := by simp [State.startCopy]

@[simp] theorem State.undoMove_cells (s : State) (c : Ch) (lid : Fin 16) : (s.undoMove c lid).cells = s.cells := by
  unfold State.undoMove
  repeat' split
  all_goals simp

@[simp] theorem State.moveDone_cells (s : State) (c : Ch) (lid : Fin 16) : (s.moveDone c lid).cells = s.cells := by
  unfold State.moveDone
  dsimp only
  repeat' split
  all_goals simp

@[simp] theorem State.moveStep_cells (s : State) (c : Ch) (lid : Fin 16) (ok : Bool) :
    (s.moveStep c lid ok).cells = s.cells := by
  unfold State.moveStep
  split <;> simp

@[simp] theorem State.serviceEnd_cells (s : State) (x : SvcCmd) (ok fail : Bool) :
    (s.serviceEnd x ok fail).cells = s.cells := by
  unfold State.serviceEnd
  split <;> simp

@[simp] theorem State.updBus_cells (s : State) (i : Fin 2) (f : SvcBus → SvcBus) :
    (s.updBus i f).cells = s.cells := by simp [State.updBus]

@[simp] theorem State.complete_cells (s : State) (i : Fin 2) (x : SvcCmd) (ok fail : Bool) :
    (s.complete i x ok fail).cells = s.cells := by simp [State.complete]

@[simp] theorem State.layerFails_cells (s : State) (l : Fin 16) :
    (s.layerFails l).cells = s.cells := by simp [State.layerFails]

@[simp] theorem State.serviceRetry_cells (s : State) (i : Fin 2) (x : SvcCmd) :
    (s.serviceRetry i x).cells = s.cells := by simp [State.serviceRetry]

@[simp] theorem Channel.beginTest_cells (h : Channel) (halt : Bool) (p : Pc) (n : BitVec 16) (kind : BitVec 2) :
    (h.beginTest halt p n kind).cells = h.cells := by simp [Channel.beginTest]

@[simp] theorem Channel.beginRun_cells (h : Channel) (halt : Bool) (p : Pc) (mode : Nat) :
    (h.beginRun halt p mode).cells = h.cells := by
  unfold Channel.beginRun
  split <;> simp

@[simp] theorem State.gapRead_cells (s : State) (c : Ch) (p : Pc) (n : Nat) (env : LineEnv) (owner : Option Nat) :
    (s.gapRead c p n env owner).2.2.cells = s.cells := by simp [State.gapRead]

@[simp] theorem PseudoChannel.lapEnd_cells (q : PseudoChannel) (rows sids now : Nat) :
    (q.lapEnd rows sids now).cells = q.cells := by simp [PseudoChannel.lapEnd]

@[simp] theorem PseudoChannel.noteProfile_cells (q : PseudoChannel) (rows n : Nat) (bad : Bool) :
    (q.noteProfile rows n bad).cells = q.cells := by simp [PseudoChannel.noteProfile]

@[simp] theorem State.loseMap_cells (s : State) (c : Ch) (p : Pc) (n : Nat) : (s.loseMap c p n).cells = s.cells := by
  unfold State.loseMap
  split <;> simp

@[simp] theorem State.countGap_cells (s : State) (c : Ch) (p : Pc) (x : Captured) (v : ReadEvents) (ods : BitVec 2) :
    (s.countGap c p x v ods).cells = s.cells := by simp [State.countGap]

@[simp] theorem State.loseRepairs_cells (s : State) (seq : Word32) :
    (s.loseRepairs seq).cells = s.cells := by simp [State.loseRepairs]

@[simp] theorem State.recordPrivileged_cells (s : State) (k : Slot) (op : BitVec 16) (r : Response) :
    (s.recordPrivileged k op r).cells = s.cells := by simp [State.recordPrivileged]

@[simp] theorem State.respond_cells (s : State) (k : Slot) (seq : BitVec 16) (r : Response) :
    (s.respond k seq r).cells = s.cells := by
  unfold State.respond
  split <;> simp

@[simp] theorem State.markCmd_cells (s : State) (k : Slot) (seq : BitVec 16) (st : CmdState) :
    (s.markCmd k seq st).cells = s.cells := by simp [State.markCmd]

@[simp] theorem State.respondOwner_cells (s : State) (owner : Option (Slot × BitVec 16)) (r : Response) :
    (s.respondOwner owner r).cells = s.cells := by
  unfold State.respondOwner
  split <;> simp

@[simp] theorem State.abandon_cells (s : State) (k : Slot) : (s.abandon k).cells = s.cells := by
  unfold State.abandon
  split <;> simp

@[simp] theorem State.endCalRuns_cells (s : State) (k : Slot) (seq : Option (BitVec 16)) :
    (s.endCalRuns k seq).cells = s.cells := by simp [State.endCalRuns]

@[simp] theorem State.cancel_cells (s : State) (k : Slot) (seq : BitVec 16) :
    (s.cancel k seq).cells = s.cells := by simp [State.cancel]

@[simp] theorem State.abandonBy_cells (s : State) (k : Slot) (op : BitVec 16) : (s.abandonBy k op).cells = s.cells := by
  unfold State.abandonBy
  split <;> simp

@[simp] theorem State.abortCmd_cells (s : State) (k : Slot) (c : Cmd) :
    (s.abortCmd k c).cells = s.cells := by simp [State.abortCmd]

@[simp] theorem State.abortAll_cells (s : State) (k : Slot) (but : BitVec 16) :
    (s.abortAll k but).cells = s.cells := by simp [State.abortAll]

@[simp] theorem State.disown_cells (s : State) (k : Slot) : (s.disown k).cells = s.cells := by simp [State.disown]

@[simp] theorem State.freeSlot_cells (s : State) (k : Slot) : (s.freeSlot k).cells = s.cells := by simp [State.freeSlot]

@[simp] theorem State.restartLease_cells (s : State) (t : Transport) (id : Byte) :
    (s.restartLease t id).cells = s.cells := by
  unfold State.restartLease
  split <;> simp

@[simp] theorem State.acceptIn_cells (s : State) (t : Transport) (f : Frame) : (s.acceptIn t f).1.cells = s.cells := by
  unfold State.acceptIn
  repeat' split
  all_goals simp

@[simp] theorem State.acceptOpen_cells (s : State) (t : Transport) (f : Frame) : (s.acceptOpen t f).1.cells = s.cells := by
  unfold State.acceptOpen
  repeat' split
  all_goals simp

@[simp] theorem State.accept_cells (s : State) (t : Transport) (f : Frame) : (s.accept t f).1.cells = s.cells := by
  unfold State.accept
  repeat' split
  all_goals simp

@[simp] theorem State.doorbell_cells {s body : State} (h : body.cells = s.cells) (t : Transport) (tag : BitVec 16) :
    (s.doorbell t tag body).cells = s.cells := by
  unfold State.doorbell
  repeat' split
  all_goals simp [h]

@[simp] theorem State.submit_cells (s : State) (t : Transport) : (s.submit t).cells = s.cells := by simp [State.submit]

@[simp] theorem State.collect_cells (s : State) (t : Transport) (id : Byte) : (s.collect t id).cells = s.cells := by
  unfold State.collect
  repeat' split
  all_goals simp

@[simp] theorem State.releaseResponse_cells (s : State) (k : Slot) (seq : BitVec 16) :
    (s.releaseResponse k seq).cells = s.cells := by
  unfold State.releaseResponse
  split <;> simp

@[simp] theorem State.retire_cells (s : State) (i : Nat) (reason : Nat) : (s.retire i reason).cells = s.cells := by
  unfold State.retire
  split <;> simp

@[simp] theorem State.importLive_cells (s : State) (x : MapSection) :
    (s.importLive x).cells = s.cells := by simp [State.importLive]

@[simp] theorem State.recordMark_cells (s : State) (tag : Word32) (text : List Byte) (manager : Bool) (session : Byte) :
    (s.recordMark tag text manager session).cells = s.cells := by simp [State.recordMark]

@[simp] theorem State.commitNv_cells (s : State) (k : NvCont) (pulses : Nat) : (s.commitNv k pulses).cells = s.cells := by
  unfold State.commitNv
  split <;> simp

@[simp] theorem State.patrol_cells (s : State) (sector : Fin 266) (corrected : Nat) (margin : Margin) (decodes young : Bool) :
    (s.patrol sector corrected margin decodes young).cells = s.cells := by
  unfold State.patrol
  dsimp only
  repeat' split
  all_goals simp

@[simp] theorem PseudoChannel.hourEnds_cells (q : PseudoChannel) :
    (q.hourEnds).cells = q.cells := by simp [PseudoChannel.hourEnds]

@[simp] theorem State.countFallback_cells (s : State) (c : Ch) (p : Pc) :
    (s.countFallback c p).cells = s.cells := by simp [State.countFallback]

@[simp] theorem State.loadLane_cells (s : State) (w : Word32) : (s.loadLane w).cells = s.cells := by
  unfold State.loadLane
  dsimp only
  repeat' split
  all_goals simp

@[simp] theorem State.loadTsv_cells (s : State) (w : Word32) : (s.loadTsv w).cells = s.cells := by
  unfold State.loadTsv
  dsimp only
  repeat' split
  all_goals simp

@[simp] theorem State.recordLoad_cells (s : State) (f : Sensed) :
    (s.recordLoad f).cells = s.cells := by simp [State.recordLoad]

@[simp] theorem State.fuseLoad_cells (s : State) (f : Sensed) : (s.fuseLoad f).cells = s.cells := by simp [State.fuseLoad]

@[simp] theorem State.pulses_cells (s : State) (nothing failed : Bool) : (s.pulses nothing failed).2.cells = s.cells := by
  unfold State.pulses
  dsimp only
  repeat' split
  all_goals simp

@[simp] theorem State.queueFuse_cells (s : State) (w : Nat) (bits : Word32) (owner : Option (Slot × BitVec 16)) :
    (s.queueFuse w bits owner).cells = s.cells := by simp [State.queueFuse]

@[simp] theorem State.cutNv_cells (s : State) : (s.cutNv).cells = s.cells := by
  unfold State.cutNv
  dsimp only
  repeat' split
  all_goals simp

@[simp] theorem Channel.keepDies_cells (h old : Channel) : (h.keepDies old).cells = h.cells := by simp [Channel.keepDies]

@[simp] theorem State.diesPowerUp_cells (s : State) : (s.diesPowerUp).cells = s.cells := by simp [State.diesPowerUp]

@[simp] theorem Channel.takeOptions_cells (h : Channel) (o : ChanOption) (bin : BitVec 2) :
    (h.takeOptions o bin).cells = h.cells := by simp [Channel.takeOptions]

@[simp] theorem State.loadOptions_cells (s : State) : (s.loadOptions).cells = s.cells := by simp [State.loadOptions]

@[simp] theorem State.closeOpen_cells (s : State) : (s.closeOpen).cells = s.cells := by simp [State.closeOpen]

@[simp] theorem State.bootScan_cells (s : State) : (s.bootScan).cells = s.cells := by simp [State.bootScan]

@[simp] theorem State.startImage_cells (s : State) (b : Bool) :
    (s.startImage b).cells = s.cells := by simp [State.startImage]

@[simp] theorem Channel.stageImage_cells (h : Channel) (tver : BitVec 16) :
    (h.stageImage tver).cells = h.cells := by simp [Channel.stageImage]

@[simp] theorem State.stackFound_cells (s : State) : (s.stackFound).cells = s.cells := by simp [State.stackFound]

@[simp] theorem Channel.columnFault_cells (h : Channel) (g : Fin 16) (pos : Fin 18) :
    (h.columnFault g pos).cells = h.cells := by
  unfold Channel.columnFault
  split <;> simp

@[simp] theorem State.tsvFault_cells (s : State) (y0 : TsvFault) : (s.tsvFault y0).cells = s.cells := by
  unfold State.tsvFault
  split <;> simp

@[simp] theorem Channel.calibrateTsv_cells (h : Channel) (seed : Nat) :
    (h.calibrateTsv seed).cells = h.cells := by simp [Channel.calibrateTsv]

@[simp] theorem Channel.mgmtReset_cells (h : Channel) : (h.mgmtReset).cells = h.cells := by simp [Channel.mgmtReset]

@[simp] theorem State.mgmtReset_cells (s : State) (cause : BitVec 3) (extra : List (Byte × List Byte)) :
    (s.mgmtReset cause extra).cells = s.cells := by simp [State.mgmtReset]

@[simp] theorem State.leaveExtest_cells (s : State) : (s.leaveExtest).cells = s.cells := by simp [State.leaveExtest]

@[simp] theorem State.rebuildSnap_cells (s : State) : (s.rebuildSnap).cells = s.cells := by simp [State.rebuildSnap]

@[simp] theorem State.takeTurn_cells (s : State) (k : Slot) : (s.takeTurn k).cells = s.cells := by simp [State.takeTurn]

@[simp] theorem State.answer_cells (s : State) (k : Slot) (c : Cmd) (r : Response) :
    (s.answer k c r).cells = s.cells := by simp [State.answer]

@[simp] theorem State.fails_cells (s : State) (k : Slot) (c : Cmd) (status : Byte) (detail : Byte) :
    (s.fails k c status detail).cells = s.cells := by simp [State.fails]

@[simp] theorem State.ok_cells (s : State) (k : Slot) (c : Cmd) (payload : List Byte) :
    (s.ok k c payload).cells = s.cells := by simp [State.ok]

@[simp] theorem State.snapAnswer_cells (s : State) (k : Slot) (c : Cmd) (payload : List Byte) :
    (s.snapAnswer k c payload).cells = s.cells := by simp [State.snapAnswer]

@[simp] theorem State.serve_cells (s : State) (k : Slot) (isFor : Cmd → Bool) (hostOnly : Bool) (scope : Option (Fin 5))
        {body : Cmd → State → State} (hb : ∀ c, (body c s).cells = s.cells) : (s.serve k isFor hostOnly scope body).cells =
      s.cells := by
  obtain h | ⟨c, -, ⟨st, d, h⟩ | ⟨-, h⟩⟩ := s.serve_cases k isFor hostOnly scope body <;> simp [h, hb]

@[simp] theorem State.valid_cells (s body : State) (k : Slot) (c : Cmd) (good : Bool) :
    (s.valid k c good body).cells = if good then body.cells else s.cells := by
  simp [State.valid]

@[simp] theorem State.download_cells (s : State) (k : Slot) (c : Cmd) (build : List Byte → (Byte × Byte) ⊕ List Byte)
    {onCapture : State → State} (h : (onCapture s).cells = s.cells) : (s.download k c build onCapture).cells = s.cells := by
  unfold State.download
  dsimp only
  repeat' split
  all_goals simp [h]

@[simp] theorem State.putUpload_cells (s : State) (k : Slot) (u : Option Upload) :
    (s.putUpload k u).cells = s.cells := by simp [State.putUpload]

@[simp] theorem State.uploadChunk_cells (s : State) (k : Slot) (c : Cmd) (o : OwnedObject) (first : List Byte → Nat → Bool)
        {take : Upload → Bool → State} (h : ∀ u b, (take u b).cells = s.cells) : (s.uploadChunk k c o first take).cells =
      s.cells := by
  unfold State.uploadChunk
  dsimp only
  repeat' split
  all_goals simp [h]

@[simp] theorem State.openCmd_cells (s : State) (k : Slot) (c : Cmd) :
    (s.openCmd k c).cells = s.cells := by simp [State.openCmd]

@[simp] theorem State.serveUrgent_cells (s : State) (k : Slot) (op : BitVec 16) {body : Cmd → State → State}
    (hb : ∀ c, (body c s).cells = s.cells) : (s.serveUrgent k op body).cells = s.cells := by
  unfold State.serveUrgent
  repeat' split
  all_goals simp [hb]

@[simp] theorem State.closeCmd_cells (s : State) (k : Slot) (c : Cmd) :
    (s.closeCmd k c).cells = s.cells := by simp [State.closeCmd]

@[simp] theorem State.abortTarget_cells (s : State) (k : Slot) (c : Cmd) : (s.abortTarget k c).cells = s.cells := by
  unfold State.abortTarget
  repeat' split
  all_goals simp

@[simp] theorem State.telemetry_cells (s : State) (k : Slot) (op : BitVec 16) :
    (s.telemetry k op).cells = s.cells := by simp [State.telemetry]

@[simp] theorem State.pcTelemetry_cells (s : State) (k : Slot) (op : BitVec 16) :
    (s.pcTelemetry k op).cells = s.cells := by simp [State.pcTelemetry]

@[simp] theorem State.ledgerAnswer_cells (s : State) (k : Slot) (c : Cmd) (recs : List LedgerRec) :
    (s.ledgerAnswer k c recs).cells = s.cells := by
  unfold State.ledgerAnswer
  split <;> simp

@[simp] theorem State.readUser_cells (s : State) (addr len : Nat) :
    (s.readUser addr len).cells = s.cells := by simp [State.readUser]

@[simp] theorem State.unlockFails_cells (s : State) (k : Slot) (c : Cmd) (detail : Byte) :
    (s.unlockFails k c detail).cells = s.cells := by simp [State.unlockFails]

@[simp] theorem State.unlockGrants_cells (s : State) (k : Slot) (c : Cmd) (scope : BitVec 5) :
    (s.unlockGrants k c scope).cells = s.cells := by simp [State.unlockGrants]

@[simp] theorem State.program_cells (s : State) (k : Slot) (c : Cmd) (kind : NvKind) (sector : Option (Fin 255))
    (page : Option (Fin 264)) (cont : NvCont) :
    (s.program k c kind sector page cont).cells = s.cells := by simp [State.program]

@[simp] theorem State.ownerPage_cells (s : State) (first n : Nat) : (s.ownerPage first n).2.cells = s.cells := by
  unfold State.ownerPage
  dsimp only
  repeat' split
  all_goals simp

@[simp] theorem State.optionAnswer_cells (s : State) (k : Slot) (c : Cmd) :
    (s.optionAnswer k c).cells = s.cells := by simp [State.optionAnswer]

@[simp] theorem State.storeOption_cells (s : State) (k : Slot) (c : Cmd) (o : OptionImage) :
    (s.storeOption k c o).cells = s.cells := by simp [State.storeOption]

@[simp] theorem State.posting_cells (s body : State) (chs : List Ch) (n : Nat) :
    (s.posting chs body n).cells = if s.areasFree chs n then body.cells else s.cells := ite_cells _ _

@[simp] theorem State.rawCheck_cells (s : State) (k : Slot) (c : Cmd) (len : Nat) (body : State) (h : body.cells = s.cells) :
    (s.rawCheck k c len body).cells = s.cells := by
  simp [State.rawCheck, h]

@[simp] theorem State.rawReadOut_cells (s : State) (k : Slot) (c : Cmd) (env : LineEnv) :
    (s.rawReadOut k c env).cells = s.cells := by simp [State.rawReadOut]

@[simp] theorem State.keepChunk_cells (s : State) (k : Slot) (c : Cmd) (o : OwnedObject) (u : Upload) :
    (s.keepChunk k c o u).cells = s.cells := by simp [State.keepChunk]

@[simp] theorem State.dropUpload_cells (s : State) (k : Slot) (o : OwnedObject) :
    (s.dropUpload k o).cells = s.cells := by simp [State.dropUpload]

@[simp] theorem State.acceptBlob_cells (s : State) (b : List Byte) : (s.acceptBlob b).cells = s.cells := by
  refine foldl_cells (fun t x => ?_) _ _
  split <;> simp

@[simp] theorem State.restoreBlob_cells (s : State) (k : Slot) (c : Cmd) (b : List Byte) :
    (s.restoreBlob k c b).cells = s.cells := by simp [State.restoreBlob]

@[simp] theorem State.postRun_cells (s : State) (ch : Ch) (pcs : List Pc) (mode : Nat) :
    (s.postRun ch pcs mode).cells = s.cells := by simp [State.postRun]

@[simp] theorem State.startCalRun_cells (s : State) (k : Slot) (c : Cmd) (mode : Nat) :
    (s.startCalRun k c mode).cells = s.cells := by simp [State.startCalRun]

@[simp] theorem Channel.recalibrate_cells (h : Channel) (p : Pc) (seed : Nat) :
    (h.recalibrate p seed).cells = h.cells := by simp [Channel.recalibrate]

@[simp] theorem State.assignTsv_cells (s : State) (c : Ch) (g : Fin 16) (pos : Fin 18) :
    (s.assignTsv c g pos).cells = s.cells := by simp [State.assignTsv]

@[simp] theorem State.applyRun_cells (s : State) (c : Ch) (mode : Nat) (pcs : List Pc) (spares : List (Fin 16 × Fin 18)) :
    (s.applyRun c mode pcs spares).cells = s.cells := by simp [State.applyRun]

@[simp] theorem State.programUpload_cells (s : State) (k : Slot) (c : Cmd) (o : OwnedObject) (u : Upload) (cont : NvCont) :
    (s.programUpload k c o u cont).cells = s.cells := by simp [State.programUpload]

@[simp] theorem State.commitRecord_cells (s : State) (k : Slot) (c : Cmd) (r : Nat) (record : Word32) :
    (s.commitRecord k c r record).cells = s.cells := by
  unfold State.commitRecord
  repeat' split
  all_goals simp

@[simp] theorem State.armTable_cells (s : State) (k : Slot) (c : Cmd) (b : List Byte) :
    (s.armTable k c b).cells = s.cells := by simp [State.armTable]

@[simp] theorem State.startFuse_cells (s : State) (k : Slot) (c : Cmd) (w : Nat) (bits : Word32) :
    (s.startFuse k c w bits).cells = s.cells := by simp [State.startFuse]

@[simp] theorem State.fuseLock_cells (s : State) (k : Slot) (c : Cmd) (kind : Nat) :
    (s.fuseLock k c kind).cells = s.cells := by simp [State.fuseLock]

@[simp] theorem State.dropQueued_cells (s : State) (owner : Option (Slot × BitVec 16)) :
    (s.dropQueued owner).cells = s.cells := by simp [State.dropQueued]

@[simp] theorem State.activated_cells (s : State) (k : Slot) (seq : BitVec 16) (status : Byte) :
    (s.activated k seq status).cells = s.cells := by simp [State.activated]

@[simp] theorem State.answerWord_cells (s : State) (owner : Option (Slot × BitVec 16)) (status detail : Byte)
    (failBits : Word32) (n : Byte) :
    (s.answerWord owner status detail failBits n).cells = s.cells := by
  unfold State.answerWord
  repeat' split
  all_goals simp

@[simp] theorem State.programWord_cells (s : State) (j : FuseJob) (failBits : BitVec 39) :
    (s.programWord j failBits).cells = s.cells := by simp [State.programWord]

@[simp] theorem State.wordAfterTrip_cells (s : State) (j : FuseJob) :
    (s.wordAfterTrip j).cells = s.cells := by simp [State.wordAfterTrip]

@[simp] theorem State.imageActivated_cells (s : State) (k : Slot) (c : Cmd) :
    (s.imageActivated k c).cells = s.cells := by simp [State.imageActivated]

@[simp] theorem State.programDone_cells (s before : State) (k : Slot) (c : Cmd) (cont : NvCont) :
    (s.programDone before k c cont).cells = s.cells := by
  unfold State.programDone
  split <;> simp

@[simp] theorem State.programFailed_cells (s : State) (k : Slot) (c : Cmd) :
    (s.programFailed k c).cells = s.cells := by simp [State.programFailed]

@[simp] theorem State.answerOp_cells (s before : State) (o : NvOp) (ok : Bool) :
    (s.answerOp before o ok).cells = s.cells := by
  unfold State.answerOp
  repeat' split
  all_goals simp

@[simp] theorem State.wornSector_cells (s : State) (o : NvOp) (ok : Bool) (pulses : Nat) (margin : Margin) :
    (s.wornSector o ok pulses margin).cells = s.cells := by
  unfold State.wornSector
  split <;> simp

@[simp] theorem State.nextOp_cells (s : State) (o : NvOp) (ok : Bool) : (s.nextOp o ok).cells = s.cells := by
  unfold State.nextOp
  split <;> simp

@[simp] theorem State.recordOwed_cells (s : State) : (s.recordOwed).cells = s.cells := by simp [State.recordOwed]

@[simp] theorem State.restage_cells (s : State) : (s.restage).cells = s.cells := by simp [State.restage]

@[simp] theorem State.release_cells (s : State) (t : Transport) : (s.release t).cells = s.cells := by
  unfold State.release
  dsimp only
  repeat' split
  all_goals simp

@[simp] theorem State.ring_cells (s : State) (t : Transport) (w : Word32) : (s.ring t w).cells = s.cells := by
  unfold State.ring
  split <;> simp

@[simp] theorem State.writeRequest_cells (s : State) (t : Transport) (i : Fin 256) (w : Word32) :
    (s.writeRequest t i w).cells = s.cells := by simp [State.writeRequest]

@[simp] theorem State.clearSyncIgn_cells (s : State) (t : Transport) (w : Word32) :
    (s.clearSyncIgn t w).cells = s.cells := by simp [State.clearSyncIgn]

@[simp] theorem State.windowWrite_cells (s : State) (t : Transport) (offset : BitVec 16) (w : Word32) :
    (s.windowWrite t offset w).cells = s.cells := by
  unfold State.windowWrite
  dsimp only
  repeat' split
  all_goals simp

@[simp] theorem State.i2cWord_cells (s : State) (w : Word32) : (s.i2cWord w).cells = s.cells := by simp [State.i2cWord]

@[simp] theorem State.i2cWords_cells (s : State) (l : List Byte) : (s.i2cWords l).cells = s.cells := by
  fun_induction State.i2cWords s l <;> simp_all

@[simp] theorem State.i2cWindow_cells (s : State) (bytes : List Byte) :
    (s.i2cWindow bytes).cells = s.cells := by simp [State.i2cWindow]

@[simp] theorem State.i2cSend_cells (s : State) : (s.i2cSend).cells = s.cells := by
  unfold State.i2cSend
  dsimp only
  repeat' split
  all_goals simp

@[simp] theorem State.i2cSends_cells (n : Nat) (s : State) : (State.i2cSends n s).cells = s.cells := by
  induction n generalizing s with
  | zero => rfl
  | succ n ih => simp [State.i2cSends, ih]

@[simp] theorem State.i2cRelease_cells (s : State) (y0 : Held) : (s.i2cRelease y0).cells = s.cells := by
  unfold State.i2cRelease
  split <;> simp

@[simp] theorem State.recordSwap_cells (s : State) : (s.recordSwap).cells = s.cells := by simp [State.recordSwap]

@[simp] theorem State.loadWir_cells (s : State) (code : Byte) : (s.loadWir code).cells = s.cells := by simp [State.loadWir]

@[simp] theorem State.refuseWir_cells (s : State) : (s.refuseWir).cells = s.cells := by simp [State.refuseWir]

@[simp] theorem State.setCapture_cells (s : State) (v : BitVec 64) :
    (s.setCapture v).cells = s.cells := by simp [State.setCapture]

@[simp] theorem State.mbxRead_cells (s : State) (offset : BitVec 16) :
    (s.mbxRead offset).cells = s.cells := by simp [State.mbxRead]

@[simp] theorem State.selectTap_cells (s : State) (ir : BitVec 4) (capture : Word32) :
    (s.selectTap ir capture).cells = s.cells := by simp [State.selectTap]

@[simp] theorem State.holdPins_cells (s : State) : (s.holdPins).cells = s.cells := by simp [State.holdPins]

@[simp] theorem State.sampleCells_cells (s : State) : (s.sampleCells).2.cells = s.cells := by simp [State.sampleCells]

theorem sameCells_of_cells {q r : PseudoChannel} (h : r.cells = q.cells) : SameCells q r := by
  simp only [PseudoChannel.cells, Cells.mk.injEq] at h
  exact ⟨h.1, h.2.1, h.2.2.1, h.2.2.2⟩

theorem State.cells_at {s t : State} (h : t.cells = s.cells) (c : Fin 32) (p : Fin 2) :
    t.chans[c].pcs[p].cells = s.chans[c].pcs[p].cells := by
  have hc := congrArg (fun v : Bool × Vector (Vector Cells 2) 32 => v.2[c][p]) h
  have e : ∀ u : State, u.cells.2[c][p] = u.chans[c].pcs[p].cells := fun u => by
    simp only [State.cells, Channel.cells, Vector.getElem_map, Fin.getElem_fin]
  exact (e t).symm.trans (hc.trans (e s))

/-- Cells that stand read as before in every channel. -/
theorem memKept_of_cells {s t : State} (h : t.cells = s.cells) : Safety.memKept s t :=
  memKept_of_sameCells (congrArg Prod.fst h) fun c p => sameCells_of_cells (State.cells_at h c p)

end Sys2Proof.Machine


/-! # The queue and the reset state -/

namespace Sys2Proof.Machine

open Sys2Proof.Safety

theorem step_of_queue (i : Instr) (rest : List Instr) (s : State) :
    step { s with pending := i :: rest } = exec i { s with pending := rest } := rfl

theorem step_of_empty {s : State} (h : s.pending = []) : step s = .next (idle s) := by
  unfold step
  split
  · rfl
  · next hq => simp [h] at hq

/-- Settles O1: by what is in the queue. -/
theorem stepRunsFrontCommand : Obligations.StepRunsFrontCommand :=
  ⟨step_of_queue, fun _ => step_of_empty⟩

/-- Every channel of the reset state is as new. -/
theorem reset_chans (c : Ch) : State.reset.chans[c] = (chansAt 0)[c] := rfl

/-- Settles O3: the reset state is written out, and its channels, pseudo-channels, banks and sessions are replicas. -/
theorem resetLeavesMachine : Obligations.ResetLeavesMachine := by
  have hchan (c : Ch) : State.reset.chans[c].regs.postLim = 8 ∧ State.reset.chans[c].regs.causes = 0
      ∧ State.reset.chans[c].regs.seqCnt = 0 ∧ State.reset.chans[c].ready = false := by
    simp [State.reset, chansAt]
  have hbank (c : Ch) (p : Pc) (i : Fin 64) : State.reset.chans[c].pcs[p].banks[i].phase = .closed
      ∧ State.reset.chans[c].pcs[p].banks[i].debt = 0 := by
    simp [State.reset, chansAt]
  have hlive (k : Slot) : State.reset.sessions[k].live = false := by
    simp [State.reset]
  exact ⟨rfl, rfl, rfl, hchan, hbank, rfl, rfl, hlive, rfl, rfl, rfl, rfl, by simp [sectorsWhole, State.reset, shippedSectors]⟩

end Sys2Proof.Machine


namespace Sys2Proof.Machine

open Sys2Proof.Safety

/-! # What goes on record beside a command -/

/-- Of the channels only the causes of ALERT may differ. -/
structure Noted (s t : State) : Prop where
  dens : t.dens = s.dens
  chan : ∀ c : Fin 32, ∃ x, t.chans[c] = { s.chans[c] with regs := { s.chans[c].regs with causes := x } }

theorem Noted.of_chans {s t : State} (hd : t.dens = s.dens) (hc : t.chans = s.chans) : Noted s t :=
  ⟨hd, fun c => ⟨s.chans[c].regs.causes, by rw [hc]⟩⟩

theorem Noted.trans {s t u : State} (h : Noted s t) (h' : Noted t u) : Noted s u := by
  refine ⟨h'.dens.trans h.dens, fun c => ?_⟩
  obtain ⟨x, hx⟩ := h.chan c
  obtain ⟨y, hy⟩ := h'.chan c
  exact ⟨y, by rw [hy, hx]⟩

theorem Noted.pcs {s t : State} (h : Noted s t) (c : Fin 32) : t.chans[c].pcs = s.chans[c].pcs := by
  obtain ⟨x, hx⟩ := h.chan c
  rw [hx]

theorem Noted.seqCnt {s t : State} (h : Noted s t) (c : Fin 32) : t.chans[c].regs.seqCnt = s.chans[c].regs.seqCnt := by
  obtain ⟨x, hx⟩ := h.chan c
  rw [hx]

theorem Noted.memKept {s t : State} (h : Noted s t) : memKept s t :=
  memKept_of_sameCells h.dens fun c p => by rw [h.pcs]; exact .refl _

section
variable (s : State)

theorem noted_updMgmt (f : Mgmt → Mgmt) : Noted s (s.updMgmt f) := .of_chans rfl rfl

theorem noted_event (typ : Nat) (u c p : Byte) (d : Word32) (q : Nat) : Noted s (s.event typ u c p d q) :=
  .of_chans rfl rfl

theorem noted_ledger (typ : Byte) (body : List Byte) : Noted s (s.ledger typ body) :=
  .of_chans (by simp) (by simp)

theorem noted_ledgerEvent (rec : Byte) (body : List Byte) (typ : Nat) (u c p : Byte) (d : Word32) :
    Noted s (s.ledgerEvent rec body typ u c p d) :=
  (noted_ledger ..).trans (noted_event ..)

theorem noted_setCauseAll (n : Nat) : Noted s (s.setCauseAll n) := by
  refine ⟨rfl, fun c => ?_⟩
  by_cases hg : s.isGated c
  · exact ⟨s.chans[c].regs.causes, by simp [State.setCauseAll, hg]⟩
  · exact ⟨_, by simp [State.setCauseAll, hg, Channel.setCause, Channel.updRegs]; rfl⟩

theorem noted_evalHealth : Noted s s.evalHealth := by
  unfold State.evalHealth State.signalHealth
  split
  · dsimp only
    split
    · exact .of_chans rfl rfl
    · split
      · exact .of_chans (by simp) (by simp)
      · exact ((noted_updMgmt s _).trans (noted_setCauseAll _ causeHealth)).trans ((noted_event ..).trans (noted_ledger ..))
  · exact .of_chans rfl rfl

end

/-! # A command that is taken in -/

/-- The channel that has sampled a command and taken it in. -/
def Channel.taking (h : Channel) (now : Nat) (k : HostCmd) (ok : Sampled) : Channel :=
  ((h.sampled ok k.bus).sawCommand k.bus).accept now k

theorem onlyChannel_updCh (s : State) (c : Ch) (f : Channel → Channel) : onlyChannel s (s.updCh c f) c := by
  unfold onlyChannel
  rw [State.updCh_self]
  rfl

section
variable (h : Channel) (now : Nat) (k : HostCmd) (ok : Sampled)

theorem Channel.hostThread_regs : (h.hostThread k).regs = h.regs := by
  unfold Channel.hostThread
  repeat' split
  all_goals rfl

theorem Channel.hostThread_pcs : (h.hostThread k).pcs = h.pcs := by
  unfold Channel.hostThread
  repeat' split
  all_goals rfl

theorem Channel.stageBreak_intake (pcs : BitVec 2) : (h.stageBreak now pcs).intake = h.intake := by
  unfold Channel.stageBreak Channel.stageEnd
  split <;> rfl

theorem Channel.stageBreak_taper (pcs : BitVec 2) : (h.stageBreak now pcs).taper = h.taper := by
  unfold Channel.stageBreak Channel.stageEnd
  split <;> rfl

@[simp] theorem Channel.hostThread_tsv : (h.hostThread k).tsv = h.tsv := by
  unfold Channel.hostThread
  repeat' split
  all_goals rfl

@[simp] theorem Channel.stageBreak_tsv (pcs : BitVec 2) : (h.stageBreak now pcs).tsv = h.tsv := by
  unfold Channel.stageBreak Channel.stageEnd
  split <;> rfl

@[simp] theorem Taper.start_active (t : Taper) (halt : Bool) (n : Nat) (addr : ThreadAddr) (lease : Option Lease)
    (owed : List OwedRow) (data : HostData) : (t.start halt n addr lease owed data).active = t.active := by
  unfold Taper.start
  split <;> rfl

@[simp] theorem Channel.taking_tsv : (h.taking now k ok).tsv = h.tsv := by
  obtain ⟨-, -, -, -, -, e1, -⟩ := h.sampled_frame ok k.bus
  obtain ⟨-, -, -, -, -, e2⟩ := (h.sampled ok k.bus).sawCommand_frame k.bus
  unfold Channel.taking Channel.accept
  rw [Channel.stageBreak_tsv, Channel.hostThread_tsv, ← e1, ← e2]
  rfl

/-- The Taper with the thread of a command that has been numbered: the threads of the Baltil table are whole in their commands. -/
def Taper.hosts (t : Taper) (k : HostCmd) : Taper :=
  if t.active.baltil then t else t.start false k.entry k.addr none [] k.data

@[simp] theorem Taper.hosts_active (t : Taper) (k : HostCmd) : (t.hosts k).active = t.active := by
  unfold Taper.hosts
  split
  · rfl
  · exact t.start_active ..

theorem Channel.hostThread_taper : (h.hostThread k).taper = h.taper.hosts k := by
  unfold Channel.hostThread Taper.hosts
  repeat' split
  all_goals rfl

@[simp] theorem Channel.taking_taper : (h.taking now k ok).taper = h.taper.hosts k := by
  obtain ⟨-, -, e1, -⟩ := h.sampled_frame ok k.bus
  obtain ⟨-, -, e2, -⟩ := (h.sampled ok k.bus).sawCommand_frame k.bus
  unfold Channel.taking Channel.accept
  rw [Channel.stageBreak_taper, Channel.hostThread_taper, ← e1, ← e2]
  rfl

@[simp] theorem Channel.taking_regs :
    (h.taking now k ok).regs = { h.regs with seqCnt := h.regs.seqCnt + 1 } := by
  obtain ⟨-, e1, -⟩ := h.sampled_frame ok k.bus
  obtain ⟨-, e2, -⟩ := (h.sampled ok k.bus).sawCommand_frame k.bus
  unfold Channel.taking Channel.accept
  rw [Channel.stageBreak_regs, Channel.hostThread_regs, ← e1, ← e2]
  rfl

/-- Of a pseudo-channel at most its gaps and what the MX32 drives change. -/
theorem Channel.taking_pc (p : Nat) (hp : p < 2) : ∃ g w r d, (h.taking now k ok).pcs[p]
    = { h.pcs[p] with idleGap := g, refWindow := w, inRefab := r, drive := d } := by
  obtain ⟨e1, -⟩ := h.sampled_frame ok k.bus
  obtain ⟨e2, -⟩ := (h.sampled ok k.bus).sawCommand_frame k.bus
  obtain ⟨d, hd⟩ := ((h.sampled ok k.bus).sawCommand k.bus).accept_pcs now k ⟨p, hp⟩
  have hpcs : ((h.sampled ok k.bus).sawCommand k.bus).pcs[p] = h.pcs[p] := by rw [e2, e1]
  change ∃ g w r d, ((h.sampled ok k.bus).sawCommand k.bus |>.accept now k).pcs[(⟨p, hp⟩ : Fin 2)] = _
  rw [hd]
  simp only [Fin.getElem_fin, hpcs]
  split
  · exact ⟨_, _, _, d, rfl⟩
  · exact ⟨_, _, _, d, rfl⟩

end

/-- A command that is taken has its own effect on the channel that took it in. -/
theorem next_body {s : State} {c : Ch} {k : HostCmd} {ok : Sampled} {body : State → State} {r : Result}
    (hr : r = .next (s.intake c k ok body)) (h : takes s c ok k.entry k.pcs = true) (he : k.error = false) :
    r = .next (body (s.updCh c (fun h => h.taking s.timeUs k ok))) := by
  rw [hr, State.intake_taken h he]
  rfl

/-- The channel with the command taken in, for a command whose effect stays in its channel. -/
theorem next_intake {s : State} {c : Ch} {k : HostCmd} {ok : Sampled} {f : Channel → Channel} {r : Result}
    (hr : r = .next (s.intake c k ok (·.updCh c f))) (h : takes s c ok k.entry k.pcs = true) (he : k.error = false) :
    r = .next (s.updCh c (fun h => f (h.taking s.timeUs k ok))) := by
  rw [next_body hr h he, State.updCh_updCh]

/-! # ACT, PRE and PREA -/

section
variable {s : State} {c : Ch} {k : HostCmd} {ok : Sampled}

@[simp] theorem Channel.taking_cells (h : Channel) (now : Nat) : (h.taking now k ok).cells = h.cells := by
  simp [Channel.taking]

section
variable (h : Channel) (now p : Nat) (hp : p < 2)

/-- What of a pseudo-channel neither its gaps nor its drive are part of, taking a command in leaves. -/
theorem Channel.taking_field {β : Type} (f : PseudoChannel → β)
    (hf : ∀ q g w r d, f { q with idleGap := g, refWindow := w, inRefab := r, drive := d } = f q) :
    f (h.taking now k ok).pcs[p] = f h.pcs[p] := by
  obtain ⟨g, w, r, d, e⟩ := h.taking_pc now k ok p hp
  rw [e, hf]

@[simp] theorem Channel.taking_banks : (h.taking now k ok).pcs[p].banks = h.pcs[p].banks :=
  h.taking_field now p hp PseudoChannel.banks fun _ _ _ _ _ => rfl

@[simp] theorem Channel.taking_allClosed : (h.taking now k ok).pcs[p].allClosed = h.pcs[p].allClosed :=
  h.taking_field now p hp PseudoChannel.allClosed fun _ _ _ _ _ => rfl

@[simp] theorem Channel.taking_powerDown : (h.taking now k ok).pcs[p].powerDown = h.pcs[p].powerDown :=
  h.taking_field now p hp PseudoChannel.powerDown fun _ _ _ _ _ => rfl

@[simp] theorem Channel.taking_failed : (h.taking now k ok).pcs[p].failed = h.pcs[p].failed :=
  h.taking_field now p hp PseudoChannel.failed fun _ _ _ _ _ => rfl

@[simp] theorem Channel.taking_quiesce : (h.taking now k ok).pcs[p].quiesce = h.pcs[p].quiesce :=
  h.taking_field now p hp PseudoChannel.quiesce fun _ _ _ _ _ => rfl

@[simp] theorem Channel.taking_qact : (h.taking now k ok).pcs[p].qact = h.pcs[p].qact :=
  h.taking_field now p hp PseudoChannel.qact fun _ _ _ _ _ => rfl

@[simp] theorem Channel.taking_op : (h.taking now k ok).pcs[p].op = h.pcs[p].op :=
  h.taking_field now p hp PseudoChannel.op fun _ _ _ _ _ => rfl

@[simp] theorem Channel.taking_managed : (h.taking now k ok).pcs[p].managed = h.pcs[p].managed :=
  h.taking_field now p hp PseudoChannel.managed fun _ _ _ _ _ => rfl

@[simp] theorem Channel.taking_calendar : (h.taking now k ok).pcs[p].calendar = h.pcs[p].calendar :=
  h.taking_field now p hp PseudoChannel.calendar fun _ _ _ _ _ => rfl

@[simp] theorem Channel.taking_sparesDue : (h.taking now k ok).pcs[p].sparesDue = h.pcs[p].sparesDue :=
  h.taking_field now p hp PseudoChannel.sparesDue fun _ _ _ _ _ => rfl

end

end

theorem Bank.precharge_phase (b : Bank) : b.precharge.phase = match b.phase with
    | .opened _ _ => .closed
    | .closed => .closed
    | .closing r v => .closing r v := by
  unfold Bank.precharge
  cases h : b.phase <;> simp [h]

@[simp] theorem Channel.sendHost_pcs (h : Channel) (f : BitVec 48) : (h.sendHost f).pcs = h.pcs := by
  unfold Channel.sendHost
  split <;> rfl

@[simp] theorem Channel.sendHost_regs (h : Channel) (f : BitVec 48) : (h.sendHost f).regs = h.regs := by
  unfold Channel.sendHost
  split <;> rfl

/-- What a command that stays in its channel leaves where its effect does: it is numbered and changes nothing outside. -/
theorem numbered_updCh {s : State} {c : Ch} {f : Channel → Channel} (h : (f s.chans[c]).regs.seqCnt = s.chans[c].regs.seqCnt + 1) :
    numbered s (s.updCh c f) c := by
  unfold numbered
  rw [State.updCh_self, h]

theorem memKept_updCh_cells {s : State} {c : Ch} {f : Channel → Channel} (h : (f s.chans[c]).cells = s.chans[c].cells) :
    memKept s (s.updCh c f) :=
  memKept_of_cells (State.updCh_cells h)

/-- Settles O8: the banks named are precharged, the others stand. -/
theorem prechargeClosesBanks : Obligations.PrechargeClosesBanks := by
  refine ⟨fun c p sid bg ba ok s ht hpd => ?_, fun c p sid all ok s ht hpd => ?_⟩
  · refine ⟨_, next_intake rfl ht hpd, numbered_updCh (by simp), onlyChannel_updCh _ _ _,
      memKept_updCh_cells (by simp), fun i => ?_⟩
    by_cases hi : i = bankIx sid bg ba
    · subst hi
      cases h : s.chans[c].pcs[p].banks[bankIx sid bg ba].phase <;> simp_all [Bank.precharge_phase, PseudoChannel.updBank]
    · have hv : (bankIx sid bg ba).val ≠ i.val := fun e => hi (Fin.ext e.symm)
      cases h : s.chans[c].pcs[p].banks[i].phase <;>
        simp_all [PseudoChannel.updBank]
  · refine ⟨_, next_intake rfl ht hpd, numbered_updCh (by simp), onlyChannel_updCh _ _ _,
      memKept_updCh_cells (by simp), fun i => ?_⟩
    cases all <;> by_cases hi : bankSid i = sid <;> cases h : s.chans[c].pcs[p].banks[i].phase <;>
      simp_all [PseudoChannel.updSid, PseudoChannel.updBanks, Bank.precharge_phase]

/-! ## ACT -/

@[simp] theorem PseudoChannel.cancelWhere_banks (q : PseudoChannel) (rows : Nat) (host : Option Nat) (f : ProfileGroup → Bool) :
    (q.cancelWhere rows host f).banks = q.banks := by
  unfold PseudoChannel.cancelWhere
  split
  · rfl
  · dsimp only
    split <;> rfl

@[simp] theorem PseudoChannel.cancelRow_banks (q : PseudoChannel) (rows : Nat) (i : Fin 64) (row : Nat) (host : Bool) :
    (q.cancelRow rows i row host).banks = q.banks := q.cancelWhere_banks ..

theorem Bank.postRfm_phase (b : Bank) (th stamp : Nat) : (b.postRfm th stamp).1.phase = b.phase := by
  unfold Bank.postRfm
  repeat' split
  all_goals rfl

/-- A posted request touches its bank alone, and of that bank the request. -/
theorem Channel.postRequest_bank (h : Channel) (p : Pc) (i : Fin 64) (q : Pc) (j : Fin 64) :
    (h.postRequest p i).pcs[q].banks[j]
      = if q = p ∧ j = i then (h.pcs[p].banks[i].postRfm h.th h.stamp).1 else h.pcs[q].banks[j] := by
  have hpcs : (h.postRequest p i).pcs = (h.updPc p (fun q => q.updBank i (fun _ => (h.pcs[p].banks[i].postRfm h.th h.stamp).1))).pcs := by
    unfold Channel.postRequest
    dsimp only
    split <;> rfl
  rw [hpcs, Channel.updPc_at]
  by_cases hq : q = p
  · subst hq
    by_cases hj : j = i
    · subst hj
      rw [if_pos rfl, PseudoChannel.updBank_self, if_pos ⟨rfl, rfl⟩]
    · rw [if_pos rfl, PseudoChannel.updBank_other _ _ hj, if_neg (fun e => hj e.2)]
  · rw [if_neg hq, if_neg (fun e => hq e.1)]

@[simp] theorem Channel.postRequest_seqCnt (h : Channel) (p : Pc) (i : Fin 64) :
    (h.postRequest p i).regs.seqCnt = h.regs.seqCnt := by
  unfold Channel.postRequest
  dsimp only
  split <;> rfl

/-- Tracking an activation touches its bank alone, and leaves the bank's state. -/
theorem Channel.track_bank (h : Channel) (x : RefCtx) (p : Pc) (i : Fin 64) (row : Row) (q : Pc) (j : Fin 64) :
    (h.track x p i row).1.pcs[q].banks[j].phase = h.pcs[q].banks[j].phase
      ∧ (q ≠ p ∨ j ≠ i → (h.track x p i row).1.pcs[q].banks[j] = h.pcs[q].banks[j]) := by
  unfold Channel.track
  dsimp only
  simp only [Channel.postRequest_bank]
  by_cases hq : q = p
  · subst hq
    by_cases hj : j = i
    · subst hj
      refine ⟨?_, fun e => by simp at e⟩
      rw [if_pos ⟨rfl, rfl⟩, Bank.postRfm_phase, Channel.updPc_self, PseudoChannel.cancelRow_banks,
        PseudoChannel.updBank_self]
      split <;> rfl
    · rw [if_neg (fun e => hj e.2), Channel.updPc_self, PseudoChannel.cancelRow_banks,
        PseudoChannel.updBank_other _ _ hj]
      exact ⟨rfl, fun _ => rfl⟩
  · rw [if_neg (fun e => hq e.1), Channel.updPc_other _ _ hq]
    exact ⟨rfl, fun _ => rfl⟩

@[simp] theorem Channel.track_seqCnt (h : Channel) (x : RefCtx) (p : Pc) (i : Fin 64) (row : Row) :
    (h.track x p i row).1.regs.seqCnt = h.regs.seqCnt := by
  simp [Channel.track]

/-- The bank opens the row. -/
def Channel.opens (h : Channel) (p : Pc) (i : Fin 64) (row : Row) (v : Bool) : Channel :=
  h.updPc p (fun q => q.updBank i (fun b => { b with phase := .opened row v }))

theorem Channel.opens_bank (h : Channel) (p : Pc) (i : Fin 64) (row : Row) (v : Bool) (q : Pc) (j : Fin 64) :
    (h.opens p i row v).pcs[q].banks[j]
      = if q = p ∧ j = i then { h.pcs[p].banks[i] with phase := .opened row v } else h.pcs[q].banks[j] := by
  unfold Channel.opens
  rw [Channel.updPc_at]
  by_cases hq : q = p
  · subst hq
    by_cases hj : j = i
    · subst hj
      rw [if_pos rfl, PseudoChannel.updBank_self, if_pos ⟨rfl, rfl⟩]
    · rw [if_pos rfl, PseudoChannel.updBank_other _ _ hj, if_neg (fun e => hj e.2)]
  · rw [if_neg hq, if_neg (fun e => hq e.1)]

theorem State.openRow_unservable {s : State} {c : Ch} {sid : Sid} {row : Row} (h : s.unservable s.chans[c] sid row = true)
    (p : Pc) (bg : Bg) (ba : Ba) : s.openRow c p sid bg ba row
      = s.updCh c (fun h => (h.opens p (bankIx sid bg ba) row false).setCause causeRsvRow) := by
  unfold State.openRow
  dsimp only
  rw [if_pos h, h, State.updPc, State.updCh_updCh]
  rfl

/-- A row that is served is open and tracked, and beside that something goes on record. -/
theorem State.openRow_served {s : State} {c : Ch} {sid : Sid} {row : Row} (h : s.unservable s.chans[c] sid row = false)
    (p : Pc) (bg : Bg) (ba : Ba) : Noted (s.updCh c (fun h => (((h.opens p (bankIx sid bg ba) row true).track (s.refCtx c p sid) p
      (bankIx sid bg ba) row).1).sendHost (frameOf (rowSlot 2 p sid bg ba row) 0 0))) (s.openRow c p sid bg ba row) := by
  unfold State.openRow
  dsimp only
  rw [if_neg (by rw [h]; decide), h, State.updPc, State.updCh_updCh, State.updCh_self]
  split
  · exact (noted_ledgerEvent ..).trans (noted_evalHealth _)
  · exact .of_chans rfl rfl

theorem taking_unservable (s : State) (c : Ch) (k : HostCmd) (ok : Sampled) (sid : Sid) (row : Row) :
    (s.updCh c (fun h => h.taking s.timeUs k ok)).unservable (s.updCh c (fun h => h.taking s.timeUs k ok)).chans[c] sid row
      = s.unservable s.chans[c] sid row := by
  rw [State.updCh_self]
  simp only [State.unservable, State.reservedRow, Channel.taking_regs]
  rfl

theorem Channel.opens_cells (h : Channel) (p : Pc) (i : Fin 64) (row : Row) (v : Bool) : (h.opens p i row v).cells = h.cells :=
  Channel.updPc_cells rfl

/-- Settles O7: an unservable row by the state that ACT answers, a served one by what goes on record beside the row that opens. -/
theorem actOpensRow : Obligations.ActOpensRow := by
  intro c p sid bg ba row ok s ht hpd hcl
  refine ⟨_, next_body rfl ht ?_, ?_⟩
  · simp only [hpd, hcl]
    rfl
  generalize hk : HostCmd.mk .. = k
  have hu := taking_unservable s c k ok sid row
  have hold (q : Pc) (i : Fin 64) : (s.chans[c].taking s.timeUs k ok).pcs[q].banks[i] = s.chans[c].pcs[q].banks[i] := by
    simp
  cases hbad : s.unservable s.chans[c] sid row
  · have hn := State.openRow_served (hu.trans hbad) p bg ba
    rw [State.updCh_updCh] at hn
    have hpcs := hn.pcs c
    rw [State.updCh_self, Channel.sendHost_pcs] at hpcs
    have hbank (q : Pc) (i : Fin 64) := Channel.track_bank ((s.chans[c].taking s.timeUs k ok).opens p (bankIx sid bg ba) row true)
      (State.refCtx (s.updCh c (fun h => h.taking s.timeUs k ok)) c p sid) p (bankIx sid bg ba) row q i
    refine ⟨?_, ?_, fun h => by simp at h, fun q i hqi => ?_, ?_⟩
    · rw [numbered, hn.seqCnt, State.updCh_self]
      simp [Channel.opens]
    · rw [hpcs, (hbank p _).1, Channel.opens_bank, if_pos ⟨rfl, rfl⟩]
      rfl
    · rw [hpcs, (hbank q i).2 hqi, Channel.opens_bank, if_neg (by grind), hold]
    · exact memKept_trans (memKept_updCh_cells (by simp [Channel.opens_cells])) hn.memKept
  · rw [State.openRow_unservable (hu.trans hbad), State.updCh_updCh]
    refine ⟨numbered_updCh (by simp [Channel.opens, Channel.setCause]), ?_, fun _ => ⟨?_, onlyChannel_updCh _ _ _⟩, fun q i hqi => ?_,
      memKept_updCh_cells (by simp [Channel.opens_cells])⟩
    · rw [State.updCh_self]
      exact congrArg Bank.phase ((Channel.opens_bank _ p _ row false p _).trans (if_pos ⟨rfl, rfl⟩))
    · rw [State.updCh_self]
      simp [Channel.setCause, causeRsvRow]
    · rw [State.updCh_self]
      exact (Channel.opens_bank _ p _ row false q i).trans ((if_neg (by grind)).trans (hold q i))

/-! # Power-down and self-refresh -/

theorem Taper.start_owed {t : Taper} (h : ∀ x ∈ t.threads, x.owed = []) (halt : Bool) (n : Nat) (addr : ThreadAddr)
    (lease : Option Lease) (data : HostData) : ∀ x ∈ (t.start halt n addr lease [] data).threads, x.owed = [] := by
  unfold Taper.start
  split
  · intro x hx
    rcases List.mem_append.mp hx with hx | hx
    · exact h x hx
    · rw [List.mem_singleton.mp hx]
      simp [Taper.newThread]
  · exact h

theorem Taper.hosts_owed {t : Taper} (h : ∀ x ∈ t.threads, x.owed = []) (k : HostCmd) : ∀ x ∈ (t.hosts k).threads, x.owed = [] := by
  unfold Taper.hosts
  split
  · exact h
  · exact Taper.start_owed h _ _ _ _ _

@[simp] theorem PseudoChannel.cancelWhere_powerDown (q : PseudoChannel) (rows : Nat) (host : Option Nat) (f : ProfileGroup → Bool) :
    (q.cancelWhere rows host f).powerDown = q.powerDown := by
  unfold PseudoChannel.cancelWhere
  split
  · rfl
  · dsimp only
    split <;> rfl

@[simp] theorem PseudoChannel.restartObligation_debt (q : PseudoChannel) (i : Nat) (hi : i < 64) :
    q.restartObligation.banks[i].debt = 0 := by
  simp [PseudoChannel.restartObligation, PseudoChannel.updBanks]

theorem Channel.enterSr_pcs (h : Channel) (rows sids : Nat) (managed : Bool) : (h.enterSr rows sids managed).pcs
    = h.pcs.map (fun p => if managed then (p.cancelBatch rows).restartObligation else (p.cancelBatch rows).spillTracker) := by
  unfold Channel.enterSr
  dsimp only
  split <;> rfl

theorem Channel.enterSr_regs (h : Channel) (rows sids : Nat) (managed : Bool) :
    (h.enterSr rows sids managed).regs = { h.regs with srAct := true, srManaged := managed } := by
  unfold Channel.enterSr
  dsimp only
  split <;> rfl

theorem Channel.enterSr_clocks (h : Channel) (rows sids : Nat) (managed : Bool) :
    (h.enterSr rows sids managed).tsv.clocks = managed := by
  unfold Channel.enterSr
  dsimp only
  split <;> rfl

theorem Channel.enterSr_coreSr (h : Channel) (rows sids : Nat) (managed : Bool) : (h.enterSr rows sids managed).tsv.coreSr
    = if managed || !h.taper.active.baltil then h.tsv.coreSr else h.tsv.coreSr ||| srefMask sids true 0 := by
  unfold Channel.enterSr
  dsimp only
  by_cases hm : (managed || !h.taper.active.baltil) = true
  · rw [if_pos hm, if_pos (by exact hm)]
    rfl
  · rw [if_neg hm, if_neg (by exact hm)]
    rfl

theorem noted_foldHistograms (s : State) : Noted s s.foldHistograms := by
  unfold State.foldHistograms
  split
  · exact .of_chans rfl rfl
  · refine .trans ?_ (noted_evalHealth _)
    refine .trans ?_ (noted_ledger ..)
    exact .of_chans rfl rfl

theorem noted_settleGates (s : State) (c : Ch) : Noted s (s.settleGates c) := .of_chans rfl rfl

/-- Beside the channel that enters self-refresh at most the gates, the histograms and the ledger change. -/
theorem noted_enterSelfRefresh (s : State) (c : Ch) (managed : Bool) :
    Noted (s.updCh c (·.enterSr s.rows s.sids managed)) (s.enterSelfRefresh c managed) := by
  unfold State.enterSelfRefresh
  dsimp only
  split
  · exact (noted_settleGates _ c).trans (noted_foldHistograms _)
  · exact noted_settleGates _ c

/-- A SRX that is admitted in self-refresh has its effect on the channel that took it in. -/
theorem next_srx {s : State} {c : Ch} {ok : Sampled} (ha : admits s c ok = true) (hsr : s.chans[c].regs.srAct = true)
    (hw : s.wick.state ≠ .linkhold) (hst : starts s c 11 = true) :
    exec (.srx c ok) s = .next ((s.updCh c (fun h => h.taking s.timeUs
      { bus := .row, entry := 11, pcs := 0, trains := 3, addr := pcAddr 0, error := !s.chans[c].regs.srAct, srx := true }
          ok)).leaveSelfRefresh c) := by
  change execSrx c ok s = _
  simp only [admits, starts, Bool.and_eq_true, Bool.not_eq_true', Bool.or_eq_true, Option.isNone_iff_eq_none] at ha hst
  obtain ⟨⟨⟨⟨⟨⟨⟨hd, hg⟩, hi⟩, hh⟩, hl⟩, hc⟩, hp⟩, hn⟩ := ha
  have hslip : ok ≠ .slipped := by
    rintro rfl
    simp [Channel.captureSlips] at hc
  obtain ⟨f1, f2, f3, -⟩ := (s.chans[c]).sampled_frame ok .row
  have f4 := (s.chans[c]).sampled_intake .row hslip
  have hin : ((s.updCh c (·.sampled ok .row)).chans[c]) = (s.chans[c]).sampled ok .row := State.updCh_self ..
  unfold execSrx State.intake
  dsimp only
  rw [if_neg (by rw [hd]; decide), if_neg (by rw [hg]; decide), if_neg (by simp [hw]), if_neg (by rw [hd, hg]; decide), hin, f4,
    f2, f3, if_neg (by rw [hi, hh]; decide),
    if_neg (by simp only [Channel.captureSlips, f4]; simpa [Channel.captureSlips] using hc),
    if_neg (by
      change ¬(_ || (s.mgmt.lab && _)) = true
      rw [hn]
      rcases hp with hp | hp
      · rw [hp, Bool.and_false]; decide
      · rw [hp, Bool.false_and]; decide),
    if_neg (by unfold Channel.commonError; rw [f4, f2, f3, hl, hst.1, hsr]; simp), if_neg (by rw [hst.2]; decide),
    if_neg (by simp [Channel.allFailed]), State.updCh_updCh]
  rfl

/-- What SRX makes of a pseudo-channel, in native self-refresh with a lap before it (R94). -/
def PseudoChannel.wakes (q : PseudoChannel) (rows : Nat) (native : Bool) : PseudoChannel :=
  let p1 := { q.restartObligation with powerDown := false }
  if native then (p1.blindLap rows).loadTracker else p1

theorem foldl_trackers_debt (l : List (Fin 64 × List TrackEntry)) (q : PseudoChannel) (i : Nat) (hi : i < 64) :
    (l.foldl (fun (q : PseudoChannel) x => q.updBank x.1 (fun b => { b with tracker := x.2 })) q).banks[i].debt
      = q.banks[i].debt :=
  List.foldlRecOn (motive := fun r : PseudoChannel => r.banks[i].debt = q.banks[i].debt) l _ rfl fun r hr x _ => by
    rw [← hr]
    by_cases e : x.1.val = i
    · subst e
      simp [PseudoChannel.updBank]
    · simp [PseudoChannel.updBank, e]

theorem foldl_trackers_powerDown (l : List (Fin 64 × List TrackEntry)) (q : PseudoChannel) :
    (l.foldl (fun (q : PseudoChannel) x => q.updBank x.1 (fun b => { b with tracker := x.2 })) q).powerDown = q.powerDown :=
  List.foldlRecOn (motive := fun r : PseudoChannel => r.powerDown = q.powerDown) l _ rfl fun _ hr _ _ => hr

@[simp] theorem PseudoChannel.wakes_debt (q : PseudoChannel) (rows : Nat) (native : Bool) (i : Nat) (hi : i < 64) :
    (q.wakes rows native).banks[i].debt = 0 := by
  cases native
  · exact q.restartObligation_debt i hi
  · simp only [PseudoChannel.wakes, PseudoChannel.loadTracker, if_true]
    rw [foldl_trackers_debt]
    simp [PseudoChannel.blindLap, PseudoChannel.updBanks]

@[simp] theorem PseudoChannel.wakes_powerDown (q : PseudoChannel) (rows : Nat) (native : Bool) :
    (q.wakes rows native).powerDown = false := by
  cases native
  · rfl
  · simp only [PseudoChannel.wakes, PseudoChannel.loadTracker, if_true]
    rw [foldl_trackers_powerDown]
    rfl

@[simp] theorem PseudoChannel.wakes_sparesDue (q : PseudoChannel) (rows : Nat) (native : Bool) :
    (q.wakes rows native).sparesDue = q.sparesDue := by
  cases native
  · rfl
  · exact List.foldlRecOn (motive := fun r : PseudoChannel => r.sparesDue = q.sparesDue) _ _ rfl fun _ hr _ _ => hr

@[simp] theorem PseudoChannel.wakes_cells (q : PseudoChannel) (rows : Nat) (native : Bool) : (q.wakes rows native).cells = q.cells := by
  cases native <;> simp [PseudoChannel.wakes]

/-- Work that is carried over changes the banks alone. -/
theorem PseudoChannel.carry_frame (q : PseudoChannel) (l : List OwedRow) : ∃ b, q.carry l = { q with banks := b } :=
  List.foldlRecOn (motive := fun r : PseudoChannel => ∃ b, r = { q with banks := b }) l _ ⟨q.banks, rfl⟩ fun r hr x _ => by
    obtain ⟨b, rfl⟩ := hr
    exact ⟨_, rfl⟩

/-- Revoking leases changes of the pseudo-channels the banks alone, and nothing where no thread owes a row. -/
theorem Channel.revoke_pcs (h : Channel) (pcs : BitVec 2) (p : Nat) (hp : p < 2) :
    ∃ b, (h.revoke pcs).pcs[p] = { h.pcs[p] with banks := b }
      ∧ ((∀ x ∈ h.taper.threads, x.owed = []) → b = h.pcs[p].banks) := by
  refine List.foldlRecOn (motive := fun k : Channel => ∃ b, k.pcs[p] = { h.pcs[p] with banks := b }
      ∧ ((∀ x ∈ h.taper.threads, x.owed = []) → b = h.pcs[p].banks))
    (h.taper.threads.filter (·.dependsOn pcs)) _ ⟨h.pcs[p].banks, rfl, fun _ => rfl⟩ fun k hk x hx => ?_
  obtain ⟨b, e, hb⟩ := hk
  by_cases hpx : x.addr.pc.val = p
  · subst hpx
    obtain ⟨b', e'⟩ := k.pcs[x.addr.pc].carry_frame x.owed
    refine ⟨b', by simp_all [Channel.updPc], fun ho => ?_⟩
    have hnil := ho x (List.mem_of_mem_filter hx)
    rw [hnil] at e'
    have : b' = k.pcs[x.addr.pc].banks := (congrArg PseudoChannel.banks e').symm
    rw [this, ← hb ho]
    exact congrArg PseudoChannel.banks e
  · exact ⟨b, by simp_all [Channel.updPc], hb⟩

theorem Channel.revoke_frame (h : Channel) (pcs : BitVec 2) :
    (h.revoke pcs).regs = h.regs ∧ (h.revoke pcs).tsv = h.tsv ∧ (h.revoke pcs).intake = h.intake := by
  refine List.foldlRecOn (motive := fun k : Channel => k.regs = h.regs ∧ k.tsv = h.tsv ∧ k.intake = h.intake)
    (h.taper.threads.filter (·.dependsOn pcs)) _ ⟨rfl, rfl, rfl⟩ fun k hk x _ => ?_
  exact hk

/-- Remapped cells change of the pseudo-channel its memory and its spares alone. -/
theorem PseudoChannel.remapCells_frame (q : PseudoChannel) (rows : Nat) (set : Bool) (m : SpareMap) :
    ∃ d sp, q.remapCells rows set m = { q with dram := d, spares := sp } := by
  unfold PseudoChannel.remapCells
  dsimp only
  repeat' split
  all_goals exact ⟨_, _, rfl⟩

/-- Soft repairs that waited change of a pseudo-channel its memory and its spares alone, and nothing where none waited. -/
theorem Channel.srefExit_pcs (h : Channel) (rows : Nat) (mask : BitVec 4) (p : Nat) (hp : p < 2) :
    ∃ d sp due, (h.srefExit rows mask).pcs[p] = { h.pcs[p] with dram := d, spares := sp, sparesDue := due }
      ∧ (h.pcs[p].sparesDue = [] → d = h.pcs[p].dram) := by
  have hfold (l : List (Bool × SpareMap)) : ∃ d sp, l.foldl (fun (q : PseudoChannel) x => q.remapCells rows x.1 x.2) h.pcs[p]
      = { h.pcs[p] with dram := d, spares := sp } := by
    refine List.foldlRecOn (motive := fun r : PseudoChannel => ∃ d sp, r = { h.pcs[p] with dram := d, spares := sp }) l _
      ⟨_, _, rfl⟩ fun r hr x _ => ?_
    obtain ⟨d, sp, rfl⟩ := hr
    obtain ⟨d', sp', e⟩ := PseudoChannel.remapCells_frame { h.pcs[p] with dram := d, spares := sp } rows x.1 x.2
    exact ⟨d', sp', e⟩
  by_cases hd : h.pcs[p].sparesDue = []
  · exact ⟨h.pcs[p].dram, h.pcs[p].spares, [], by simp [Channel.srefExit, Channel.updPcs, hd], fun _ => rfl⟩
  · obtain ⟨d, sp, e⟩ := hfold (h.pcs[p].sparesDue.filter
      (fun x => (h.tsv.coreSr &&& mask).getLsbD (bankSid x.2.bank).val))
    exact ⟨d, sp, _, by simp only [Channel.srefExit, Channel.updPcs, Vector.getElem_map, e]; rfl, fun h' => absurd h' hd⟩

/-- The channel's leaving of self-refresh was from native self-refresh, or from a core-die self-refresh of the MX32's own. -/
def Channel.wakesNative (h : Channel) : Bool := !h.regs.srManaged || h.tsv.switched

/-- The channel after SRX, before its core dies are told. -/
def Channel.wakes (h : Channel) (rows : Nat) (gated : Bool) : Channel :=
  let h1 := ((h.updRegs (fun r => { r with srAct := false })).updPcs (·.wakes rows h.wakesNative)).revoke 3
  { h1 with tsv := { h1.tsv with clocks := true, switched := false }
            intake := { h1.intake with discard := h1.intake.discard && !gated } }

theorem Channel.wakes_regs (h : Channel) (rows : Nat) (gated : Bool) : (h.wakes rows gated).regs = { h.regs with srAct := false } :=
  (Channel.revoke_frame ..).1

theorem Channel.wakes_tsv (h : Channel) (rows : Nat) (gated : Bool) :
    (h.wakes rows gated).tsv = { h.tsv with clocks := true, switched := false } := by
  unfold Channel.wakes
  dsimp only
  rw [(Channel.revoke_frame ..).2.1]
  rfl

theorem Channel.wakes_pcs (h : Channel) (rows : Nat) (gated : Bool) (p : Nat) (hp : p < 2) :
    ∃ b, (h.wakes rows gated).pcs[p] = { h.pcs[p].wakes rows h.wakesNative with banks := b }
      ∧ ((∀ x ∈ h.taper.threads, x.owed = []) → b = (h.pcs[p].wakes rows h.wakesNative).banks) := by
  have h1 := ((h.updRegs (fun r => { r with srAct := false })).updPcs (·.wakes rows h.wakesNative)).revoke_pcs 3 p hp
  simp only [Channel.updPcs, Vector.getElem_map] at h1
  exact h1

/-- The core dies of the channel are told to leave self-refresh by SRX itself: with the Baltil table, or in the MX32's own. -/
def Channel.toldByCommand (h : Channel) : Bool := h.wakesNative && (h.taper.active.baltil || h.tsv.switched)

theorem Channel.srefExit_tsv (h : Channel) (rows : Nat) (mask : BitVec 4) :
    (h.srefExit rows mask).tsv = { h.tsv with coreSr := h.tsv.coreSr &&& ~~~mask } := rfl

theorem Channel.send_tsv (h : Channel) (f : BitVec 48) : (h.send f).tsv = { h.tsv with frame := f } := rfl

theorem State.leaveSelfRefresh_chan (s : State) (c : Ch) : (s.leaveSelfRefresh c).chans[c]
    = if s.chans[c].toldByCommand then ((s.chans[c].wakes s.rows (s.isGated c)).srefExit s.rows (srefMask s.sids true 0)).send
        (shortFrame 4 false ((srefMask s.sids true 0).setWidth 7))
      else s.chans[c].wakes s.rows (s.isGated c) := by
  unfold State.leaveSelfRefresh
  dsimp only
  rw [State.updCh_self]
  rfl

theorem State.leaveSelfRefresh_other (s : State) {c d : Ch} (h : d ≠ c) : (s.leaveSelfRefresh c).chans[d] = s.chans[d] := by
  unfold State.leaveSelfRefresh
  dsimp only
  rw [State.updCh_other s _ h]

theorem State.leaveSelfRefresh_dens (s : State) (c : Ch) : (s.leaveSelfRefresh c).dens = s.dens := rfl

theorem State.leaveSelfRefresh_regs (s : State) (c : Ch) :
    (s.leaveSelfRefresh c).chans[c].regs = { s.chans[c].regs with srAct := false } := by
  rw [State.leaveSelfRefresh_chan]
  split <;> exact Channel.wakes_regs _ s.rows (s.isGated c)

theorem State.leaveSelfRefresh_clocks (s : State) (c : Ch) : (s.leaveSelfRefresh c).chans[c].tsv.clocks = true := by
  rw [State.leaveSelfRefresh_chan]
  split
  · rw [Channel.send_tsv, Channel.srefExit_tsv, Channel.wakes_tsv]
  · rw [Channel.wakes_tsv]

theorem State.leaveSelfRefresh_coreSr (s : State) (c : Ch) (h : s.chans[c].toldByCommand = true) :
    (s.leaveSelfRefresh c).chans[c].tsv.coreSr = s.chans[c].tsv.coreSr &&& ~~~(srefMask s.sids true 0) := by
  rw [State.leaveSelfRefresh_chan, if_pos h]
  rw [Channel.send_tsv, Channel.srefExit_tsv, Channel.wakes_tsv]

theorem State.leaveSelfRefresh_pcs (s : State) (c : Ch) (p : Pc) : ∃ b d sp due, (s.leaveSelfRefresh c).chans[c].pcs[p]
      = { s.chans[c].pcs[p].wakes s.rows s.chans[c].wakesNative with banks := b, dram := d, spares := sp, sparesDue := due }
    ∧ (nothingOwed s c → b = (s.chans[c].pcs[p].wakes s.rows s.chans[c].wakesNative).banks)
    ∧ (s.chans[c].pcs[p].sparesDue = [] → d = (s.chans[c].pcs[p].wakes s.rows s.chans[c].wakesNative).dram) := by
  obtain ⟨b, e, hb⟩ := s.chans[c].wakes_pcs s.rows (s.isGated c) p p.isLt
  rw [State.leaveSelfRefresh_chan]
  split
  · obtain ⟨d, sp, due, e', hd⟩ := (s.chans[c].wakes s.rows (s.isGated c)).srefExit_pcs s.rows (srefMask s.sids true 0) p p.isLt
    rw [e] at e' hd
    exact ⟨b, d, sp, due, e', hb, fun h => hd (by simpa using h)⟩
  · exact ⟨b, _, _, _, e, hb, fun _ => rfl⟩

/-- The named pseudo-channels that are not failed are changed, and no other. -/
theorem Channel.updNamed_pc (h : Channel) (pcs : BitVec 2) (f : PseudoChannel → PseudoChannel) (p : Fin 2) :
    (h.updNamed pcs f).pcs[p] = if pcs.getLsbD p && !h.pcs[p].failed then f h.pcs[p] else h.pcs[p] := by
  simp [Channel.updNamed]

theorem PseudoChannel.settleQact_powerDown (q : PseudoChannel) : q.settleQact.powerDown = q.powerDown := by
  unfold PseudoChannel.settleQact
  split <;> rfl

/-- QACT follows QUIESCE in power-down with every bank closed (R71). -/
theorem PseudoChannel.settleQact_qact (q : PseudoChannel) :
    q.settleQact.qact = (q.qact || (q.quiesce && q.powerDown && q.allClosed)) := by
  unfold PseudoChannel.settleQact
  split <;> simp_all

/-- Settles O10: PDE and PDX name pseudo-channels, SRE enters and SRX leaves as the lemmas above say. -/
theorem powerDownAndSelfRefresh : Obligations.PowerDownAndSelfRefresh := by
  refine ⟨fun c pcs ok s ht hne hpd => ?_, fun c pcs ok s ht hne hall => ?_, fun c managed ok s ht hall => ?_,
    fun c ok s ha hsr hw hst => ?_⟩
  · refine ⟨_, next_intake rfl ht (by simpa using ⟨hne, hpd⟩), numbered_updCh (by simp [Channel.updNamed]), onlyChannel_updCh _ _ _,
      memKept_updCh_cells (by simp), fun p => ?_, fun p hp hf hq hc => ?_⟩
    · rw [State.updCh_self, Channel.updNamed_pc]
      split <;> simp_all [PseudoChannel.settleQact_powerDown]
    · rw [State.updCh_self, Channel.updNamed_pc]
      simp_all [PseudoChannel.settleQact_qact, PseudoChannel.allClosed]
  · have h0 := hall 0
    have h1 := hall 1
    refine ⟨_, next_intake rfl ht (by simp; grind), numbered_updCh (by simp [Channel.updNamed]), onlyChannel_updCh _ _ _,
      memKept_updCh_cells (by simp), fun p => ?_⟩
    rw [State.updCh_self, Channel.updNamed_pc]
    cases hp : pcs.getLsbD p <;> cases hf : s.chans[c].pcs[p].failed <;> simp_all
  · have h0 := hall 0
    have h1 := hall 1
    refine ⟨_, next_body rfl ht (by simp_all), ?_⟩
    generalize HostCmd.mk .. = k
    have hn := noted_enterSelfRefresh (s.updCh c (fun h => h.taking s.timeUs k ok)) c managed
    rw [State.updCh_updCh] at hn
    obtain ⟨x, hx⟩ := hn.chan c
    rw [State.updCh_self] at hx
    rw [numbered, hx]
    refine ⟨by simp [Channel.enterSr_regs], memKept_trans (memKept_updCh_cells (by simp)) hn.memKept,
      by simp [Channel.enterSr_regs], by simp [Channel.enterSr_regs], by simp [Channel.enterSr_clocks], fun hm => ⟨?_, fun p i => ?_⟩,
      fun hm hb => ?_⟩
    · simp [Channel.enterSr_coreSr, hm]
    · simp [Channel.enterSr_pcs, hm]
    · have hb' : s.chans[c].taper.active.baltil = true := hb
      simp only [Fin.getElem_fin] at hb'
      simp [Channel.enterSr_coreSr, hm, hb', State.sids]
  · refine ⟨_, next_srx ha hsr hw hst, ?_⟩
    generalize HostCmd.mk .. = k
    generalize hs1 : s.updCh c (fun h => h.taking s.timeUs k ok) = s1
    have hchan : s1.chans[c] = s.chans[c].taking s.timeUs k ok := by rw [← hs1, State.updCh_self]
    have hsids : s1.sids = s.sids := by rw [← hs1]; rfl
    have hmem : s1.cells = s.cells := by rw [← hs1]; exact State.updCh_cells (by simp)
    refine ⟨?_, fun hnone => ?_, ?_, s1.leaveSelfRefresh_clocks c, fun hm hb => ?_, fun p => ?_, fun ho p i => ?_⟩
    · rw [numbered, State.leaveSelfRefresh_regs, hchan, Channel.taking_regs]
    · refine memKept_trans (memKept_of_cells hmem) (memKept_of_sameCells (s1.leaveSelfRefresh_dens c) fun d p => ?_)
      by_cases hd : d = c
      · subst hd
        obtain ⟨b, m, sp, due, e, -, hm⟩ := s1.leaveSelfRefresh_pcs d p
        refine sameCells_of_cells ?_
        rw [e, hm (by rw [hchan]; simpa using hnone p)]
        exact PseudoChannel.wakes_cells ..
      · rw [State.leaveSelfRefresh_other _ hd]
        exact .refl _
    · rw [State.leaveSelfRefresh_regs]
    · rw [State.leaveSelfRefresh_coreSr, hchan, Channel.taking_tsv, hsids]
      have hb' : s.chans[c].taper.active.baltil = true := hb
      rw [hchan]
      simp_all [Channel.toldByCommand, Channel.wakesNative]
    · obtain ⟨b, m, sp, due, e, -⟩ := s1.leaveSelfRefresh_pcs c p
      rw [e]
      exact PseudoChannel.wakes_powerDown ..
    · obtain ⟨b, m, sp, due, e, hb, -⟩ := s1.leaveSelfRefresh_pcs c p
      rw [e, hb]
      · simp
      · rw [nothingOwed, hchan, Channel.taking_taper]
        exact Taper.hosts_owed ho k

end Sys2Proof.Machine


namespace Sys2Proof.Machine

open Sys2Proof.Safety

/-! # NOP, RESYNC and the discards -/

section
variable (h : Channel) (halt : Bool) (n : Nat) (addr : ThreadAddr) (lease : Option Lease) (owed : List OwedRow)

/-- An event's thread leaves of its channel everything but the Taper and a counter. -/
theorem Channel.eventThread_frame : (h.eventThread halt n addr lease owed).regs = h.regs
    ∧ (h.eventThread halt n addr lease owed).intake = h.intake ∧ (h.eventThread halt n addr lease owed).tsv = h.tsv
    ∧ (h.eventThread halt n addr lease owed).trn = h.trn := by
  rcases h.eventThread_cases halt n addr lease owed with e | ⟨cnt, e⟩ <;> rw [e] <;> exact ⟨rfl, rfl, rfl, rfl⟩

theorem Channel.eventThread_cnt : ∃ x, (h.eventThread halt n addr lease owed).cnt = { h.cnt with tableCe := x } := by
  unfold Channel.eventThread
  extract_lets free
  split
  · exact ⟨_, rfl⟩
  · exact ⟨_, rfl⟩

theorem Channel.eventThread_baltil (hb : h.taper.active.baltil = true) : h.eventThread halt n addr lease owed = h := by
  unfold Channel.eventThread
  extract_lets free
  rw [hb]
  rfl

end

theorem Bank.precharge_not_opened (b : Bank) (r : Row) (v : Bool) : b.precharge.phase ≠ .opened r v := by
  rw [Bank.precharge_phase]
  split <;> simp

theorem PseudoChannel.settleQact_phase (q : PseudoChannel) (i : Nat) (hi : i < 64) :
    q.settleQact.banks[i].phase = q.banks[i].phase := by
  unfold PseudoChannel.settleQact PseudoChannel.restartObligation PseudoChannel.updBanks
  split <;> simp

/-- RESYNC leaves no bank open and every crossing restored. -/
theorem Channel.resynced_pc (h : Channel) (rows : Nat) (p : Nat) (hp : p < 2) :
    ((h.resynced rows).pcs[p].writeOutside = false ∧ (h.resynced rows).pcs[p].readOutside = false)
      ∧ ∀ (i : Nat) (hi : i < 64) (r : Row) (v : Bool), (h.resynced rows).pcs[p].banks[i].phase ≠ .opened r v := by
  have hphase (q : PseudoChannel) (i : Nat) (hi : i < 64) (r : Row) (v : Bool) :
      (q.updBanks (·.precharge)).settleQact.banks[i].phase ≠ .opened r v := by
    rw [PseudoChannel.settleQact_phase]
    simpa [PseudoChannel.updBanks] using Bank.precharge_not_opened _ r v
  unfold Channel.resynced
  dsimp only
  split
  · refine ⟨?_, fun i hi r v => ?_⟩
    · simp [Channel.updPcs, PseudoChannel.blindLap, PseudoChannel.restartObligation, PseudoChannel.updBanks]
    · simpa [Channel.updPcs, PseudoChannel.blindLap, PseudoChannel.restartObligation, PseudoChannel.updBanks] using hphase _ i hi r v
  · refine ⟨?_, fun i hi r v => ?_⟩
    · simp [Channel.updPcs]
    · simpa [Channel.updPcs] using hphase _ i hi r v

theorem Channel.resynced_frame (h : Channel) (rows : Nat) : (h.resynced rows).regs = { h.regs with seqCnt := 0 }
    ∧ (h.resynced rows).intake = { h.intake with discard := false, held := false, outside := false, colNops := 0 }
    ∧ (h.resynced rows).tsv = { h.tsv with frame := alignFrame } := by
  unfold Channel.resynced
  dsimp only
  split <;> exact ⟨rfl, rfl, rfl⟩

theorem exec_resync {s : State} {c : Ch} (hd : s.lviDead = false) (hg : s.isGated c = false)
    (hn : 8 ≤ s.chans[c].intake.colNops) (hl : s.chans[c].intake.lmw = none)
    (hv : entryValid (s.chans[c].taper.active.entryWord 24) = true) (hs : s.chans[c].regs.srAct = false)
    (hc : s.chans[c].regs.nextCaErr = false) (hh : ¬(s.chans[c].intake.held = true ∧ s.wick.state = .linkhold)) :
    exec (.resync c .good) s = .next (s.updCh c (fun k =>
      ((k.resynced s.rows).eventThread false 24 (pcAddr 0) none []).stageBreak s.timeUs 3)) := by
  change execResync c .good s = _
  unfold execResync
  dsimp only
  rw [if_neg (by rw [hd, hg]; decide), if_neg (by simpa using hh),
    if_pos (by rw [hl, hv, hs, hc]; simpa [Sampled.fails] using hn)]

/-- A NOP that passes changes of its channel the run of column NOPs, beside what its sampling changes. -/
theorem exec_nop {s : State} {c : Ch} {bus : Bus} {ok : Sampled} (ha : admits s c ok = true) :
    exec (.nop c bus 15 ok) s = .next (s.updCh c (fun h => { h.sampled ok bus with intake := { h.intake with
      colNops := match bus with
        | .row => h.intake.colNops
        | .col => min (h.intake.colNops + 1) 8 } })) := by
  simp only [admits, Bool.and_eq_true, Bool.not_eq_true', Bool.or_eq_true, Option.isNone_iff_eq_none] at ha
  obtain ⟨⟨⟨⟨⟨⟨⟨hd, hg⟩, hi⟩, hh⟩, hl⟩, hc⟩, hp⟩, hn⟩ := ha
  have hslip : ok ≠ .slipped := by
    rintro rfl
    simp [Channel.captureSlips] at hc
  change execNop c bus 15 ok s = _
  unfold execNop
  dsimp only
  rw [if_neg (by rw [hd, hg]; decide), if_neg (by rw [hi, hh]; decide), if_neg (by rw [hc]; decide),
    if_neg (by rcases hp with hp | hp <;> simp_all), if_neg (by simp), if_pos (by decide)]
  refine congrArg (Host.Outcome.next ∘ s.updCh c) (funext fun h => ?_)
  rw [← h.sampled_intake bus hslip]
  cases bus <;> rfl

/-- Settles O11: NOP and RESYNC by the states they answer. -/
theorem nopAndResync : Obligations.NopAndResync := by
  refine ⟨fun c bus ok s ha => ⟨_, exec_nop ha, onlyChannel_updCh .., State.updCh_self ..⟩,
    fun c s hd hg hn hl hv hs hc hh => ⟨_, exec_resync hd hg hn hl hv hs hc hh, onlyChannel_updCh .., ?_, ?_⟩⟩
  · exact memKept_updCh_cells (by simp)
  · rw [State.updCh_self]
    have hpc := s.chans[c].resynced_pc s.rows
    obtain ⟨h1, h2, h3⟩ := s.chans[c].resynced_frame s.rows
    generalize s.chans[c].resynced s.rows = k at h1 h2 h3 hpc
    obtain ⟨e1, e2, e3, -⟩ := k.eventThread_frame false 24 (pcAddr 0) none []
    have hpcs (p : Fin 2) : ∃ d, ((k.eventThread false 24 (pcAddr 0) none []).stageBreak s.timeUs 3).pcs[p]
        = { k.pcs[p] with drive := d } := by
      simpa only [Channel.eventThread_pcs] using (k.eventThread false 24 (pcAddr 0) none []).stageBreak_pcs s.timeUs 3 p
    rw [Channel.stageBreak_intake, Channel.stageBreak_regs, Channel.stageBreak_tsv, e1, e2, e3, h1, h2, h3]
    refine ⟨rfl, rfl, rfl, rfl, rfl, rfl, fun p => ?_, fun p i r v => ?_⟩
    · obtain ⟨d, e⟩ := hpcs p
      rw [e]
      exact (hpc p p.isLt).1
    · obtain ⟨d, e⟩ := hpcs p
      rw [e]
      exact (hpc p p.isLt).2 i i.isLt r v

/-- Every numbered command is taken in by its channel. -/
theorem exec_lviCommand {i : Instr} {c : Ch} {ok : Sampled} (h : lviCommand i = some (c, ok)) (s : State) :
    ∃ k body, exec i s = .next (s.intake c k ok body) := by
  cases i <;> simp only [lviCommand, Option.some.injEq, Prod.mk.injEq, reduceCtorEq] at h <;>
    obtain ⟨rfl, rfl⟩ := h <;> exact ⟨_, _, rfl⟩

theorem State.intake_deaf {s : State} {c : Ch} (h : s.lviDead = true ∨ s.isGated c = true) (k : HostCmd) (ok : Sampled)
    (body : State → State) : s.intake c k ok body = s := by
  unfold State.intake
  rw [if_pos (by simpa using h)]

theorem State.intake_discarding {s : State} {c : Ch} (h : s.chans[c].intake.discard = true) (k : HostCmd) (ok : Sampled)
    (body : State → State) :
    s.intake c k ok body = s ∨ s.intake c k ok body = s.updCh c (fun h => (h.sampled ok k.bus).discarded k) := by
  unfold State.intake
  dsimp only
  split
  · exact .inl rfl
  · right
    have hd : (s.chans[c].sampled ok k.bus).intake.discard = true := by
      unfold Channel.sampled
      cases ok <;> cases k.bus <;> dsimp only <;> (try split) <;> exact h
    rw [State.updCh_self, if_pos (by rw [hd]; rfl), State.updCh_updCh]

theorem Channel.beginDiscard_frame (h : Channel) : h.beginDiscard.regs
      = { h.regs with causes := h.regs.causes ||| 1, errIdx := h.regs.seqCnt }
    ∧ h.beginDiscard.intake = { h.intake with discard := true } ∧ h.beginDiscard.pcs = h.pcs ∧ h.beginDiscard.trn = h.trn
    ∧ (∃ x, h.beginDiscard.cnt = { h.cnt with tableCe := x })
    ∧ (h.taper.active.baltil = true → h.beginDiscard.taper = h.taper) := by
  obtain ⟨e1, e2, -, e4⟩ := h.startDiscard.eventThread_frame false 25 (pcAddr 0) none []
  obtain ⟨x, e5⟩ := h.startDiscard.eventThread_cnt false 25 (pcAddr 0) none []
  have e6 := h.startDiscard.eventThread_baltil false 25 (pcAddr 0) none []
  unfold Channel.beginDiscard
  rw [e1, e2, e4, e5, Channel.eventThread_pcs]
  exact ⟨rfl, rfl, rfl, rfl, ⟨x, rfl⟩, fun hb => by rw [e6 hb]; rfl⟩

/-- What a failed capture leaves of its channel (R72, R78, R98, R100). -/
structure FailsCapture (h k : Channel) : Prop where
  causes : k.regs.causes = h.regs.causes ||| 1
  errIdx : k.regs.errIdx = h.regs.seqCnt
  seqCnt : k.regs.seqCnt = h.regs.seqCnt
  discard : k.intake.discard = true
  outside : k.intake.outside = h.intake.outside
  pcs : k.pcs = h.pcs
  trn : k.trn = h.trn
  taper : h.taper.active.baltil = true → k.taper = h.taper

theorem Channel.beginDiscard_failsCapture (h : Channel) : FailsCapture h h.beginDiscard := by
  obtain ⟨e1, e2, e3, e4, -, e6⟩ := h.beginDiscard_frame
  exact ⟨by rw [e1], by rw [e1], by rw [e1], by rw [e2], by rw [e2], e3, e4, e6⟩

theorem FailsCapture.of_sawCommand {h k : Channel} {bus : Bus} (f : FailsCapture (h.sawCommand bus) k) : FailsCapture h k := by
  obtain ⟨e1, e2, e3, e4, -⟩ := h.sawCommand_frame bus
  have e5 : (h.sawCommand bus).intake.outside = h.intake.outside := by cases bus <;> rfl
  exact ⟨by rw [f.causes, e2], by rw [f.errIdx, e2], by rw [f.seqCnt, e2], f.discard, by rw [f.outside, e5], by rw [f.pcs, e1],
    by rw [f.trn, e4], fun hb => by rw [f.taper (by rw [e3]; exact hb), e3]⟩

theorem Channel.sawCommand_cnt (h : Channel) (bus : Bus) : (h.sawCommand bus).cnt = h.cnt := by cases bus <;> rfl

theorem Channel.failCapture_parity (h : Channel) (bus : Bus) :
    FailsCapture h (h.failCapture bus true) ∧ (h.failCapture bus true).cnt.parityErr = bump h.cnt.parityErr := by
  have f := (h.sawCommand bus).beginDiscard_failsCapture
  obtain ⟨-, -, -, -, ⟨x, e⟩, -⟩ := (h.sawCommand bus).beginDiscard_frame
  refine ⟨.of_sawCommand ⟨f.causes, f.errIdx, f.seqCnt, f.discard, f.outside, f.pcs, f.trn, f.taper⟩, ?_⟩
  change bump (h.sawCommand bus).beginDiscard.cnt.parityErr = _
  rw [e, Channel.sawCommand_cnt]

theorem Channel.failCapture_slipped {h : Channel} (hd : h.intake.discard = false) (bus : Bus) :
    FailsCapture h (h.failCapture bus false) ∧ (h.failCapture bus false).cnt.slips = bump h.cnt.slips := by
  have f := (h.sawCommand bus).beginDiscard_failsCapture
  obtain ⟨-, -, -, -, ⟨x, e⟩, -⟩ := (h.sawCommand bus).beginDiscard_frame
  have hd' : (h.sawCommand bus).intake.discard = false := by cases bus <;> exact hd
  have hs : h.failCapture bus false = (h.sawCommand bus).beginDiscard.updCnt (fun c => { c with slips := bump c.slips }) := by
    unfold Channel.failCapture Channel.slipped
    rw [hd']
    rfl
  rw [hs]
  refine ⟨.of_sawCommand ⟨f.causes, f.errIdx, f.seqCnt, f.discard, f.outside, f.pcs, f.trn, f.taper⟩, ?_⟩
  change bump (h.sawCommand bus).beginDiscard.cnt.slips = _
  rw [e, Channel.sawCommand_cnt]

/-- A command that slips, or whose parity fails, fails its capture. -/
theorem State.intake_failing {s : State} {c : Ch} {ok : Sampled} (hd : s.lviDead = false) (hg : s.isGated c = false)
    (hi : s.chans[c].intake.discard = false) (hh : s.chans[c].intake.held = false) (k : HostCmd) (body : State → State) :
    (ok = .slipped → s.intake c k ok body
        = s.updCh c (fun h => { h with intake := { h.intake with outside := true } }.failCapture k.bus false))
      ∧ (ok = .badParity → s.chans[c].intake.outside = false → s.chans[c].regs.caparEn = true →
        s.intake c k ok body = s.updCh c (fun h => h.failCapture k.bus true)) := by
  unfold State.intake
  dsimp only
  refine ⟨?_, ?_⟩
  · rintro rfl
    have e : s.chans[c].sampled .slipped k.bus = { s.chans[c] with intake := { s.chans[c].intake with outside := true } } := rfl
    rw [if_neg (by rw [hd, hg]; decide), State.updCh_self, e, if_neg (by rw [hi, hh]; decide),
      if_pos (by rw [Channel.captureSlips]; rfl), State.updCh_updCh]
    rfl
  · rintro rfl ho hp
    have e : s.chans[c].sampled .badParity k.bus = s.chans[c] := rfl
    rw [if_neg (by rw [hd, hg]; decide), State.updCh_self, e, if_neg (by rw [hi, hh]; decide),
      if_neg (by rw [Channel.captureSlips, ho]; decide), if_pos (by rw [hp]; rfl), State.updCh_updCh]
    rfl

/-- What a discarded command leaves: at most the run of column NOPs is broken, and a staged table's thread starts. -/
theorem Channel.discarded_frame (h : Channel) (k : HostCmd) : (h.discarded k).regs = h.regs ∧ (h.discarded k).pcs = h.pcs
    ∧ (h.taper.active.baltil = true → ∃ n, h.discarded k = { h with intake := { h.intake with colNops := n } }) := by
  obtain ⟨e1, e2, e3, -⟩ := h.sawCommand_frame k.bus
  have hsaw : ∃ n, h.sawCommand k.bus = { h with intake := { h.intake with colNops := n } } := by
    cases k.bus <;> exact ⟨_, rfl⟩
  unfold Channel.discarded
  split
  · obtain ⟨f1, -⟩ := (h.sawCommand k.bus).eventThread_frame false 18 k.addr none []
    refine ⟨f1.trans e2, (Channel.eventThread_pcs ..).trans e1, fun hb => ?_⟩
    rw [Channel.eventThread_baltil _ _ _ _ _ _ (by rw [e3]; exact hb)]
    exact hsaw
  · exact ⟨e2, e1, fun _ => hsaw⟩

theorem Channel.sampled_changes (h : Channel) (ok : Sampled) (bus : Bus) : ∃ m b, h.sampled ok bus
    = { h with intake := { h.intake with outside := b }, cnt := { h.cnt with laneMism := m } } := by
  unfold Channel.sampled
  cases ok with
  | good => exact ⟨_, _, rfl⟩
  | badParity => exact ⟨_, _, rfl⟩
  | slipped => exact ⟨_, _, rfl⟩
  | spareMismatch n => cases bus <;> dsimp only <;> split <;> exact ⟨_, _, rfl⟩

/-- Settles O12: a failing capture, a discard and a deaf channel each by what intake then answers. -/
theorem parityDiscardAndDeafness : Obligations.ParityDiscardAndDeafness := by
  refine ⟨fun i c ok s hi hd hg hdis hheld hcase => ?_, fun i c ok s t hi hdis ht => ?_, fun i c ok s hi hdead => ?_⟩
  · obtain ⟨k, body, he⟩ := exec_lviCommand hi s
    obtain ⟨hslip, hpar⟩ := State.intake_failing (ok := ok) hd hg hdis hheld k body
    rcases hcase with ⟨rfl, ho, hp⟩ | rfl
    · obtain ⟨f, hcnt⟩ := s.chans[c].failCapture_parity k.bus
      refine ⟨_, he.trans (congrArg _ (hpar rfl ho hp)), onlyChannel_updCh .., ?_⟩
      rw [State.updCh_self]
      exact ⟨f.discard, f.causes, f.errIdx, f.seqCnt, f.pcs, f.trn, f.taper, fun _ => ⟨hcnt, f.outside.trans ho⟩, nofun⟩
    · obtain ⟨f, hcnt⟩ := Channel.failCapture_slipped
        (h := { s.chans[c] with intake := { s.chans[c].intake with outside := true } }) hdis k.bus
      refine ⟨_, he.trans (congrArg _ (hslip rfl)), onlyChannel_updCh .., ?_⟩
      rw [State.updCh_self]
      exact ⟨f.discard, f.causes, f.errIdx, f.seqCnt, f.pcs, f.trn, f.taper, nofun, fun _ => ⟨hcnt, f.outside⟩⟩
  · obtain ⟨k, body, he⟩ := exec_lviCommand hi s
    rw [he, Host.Outcome.next.injEq] at ht
    subst ht
    rcases State.intake_discarding hdis k ok body with e | e <;> rw [e]
    · exact ⟨by simp [onlyChannel], rfl, rfl, fun _ => ⟨_, _, _, rfl⟩⟩
    · rw [State.updCh_self]
      obtain ⟨d1, d2, d3⟩ := (s.chans[c].sampled ok k.bus).discarded_frame k
      obtain ⟨f1, f2, f3, -⟩ := s.chans[c].sampled_frame ok k.bus
      refine ⟨onlyChannel_updCh .., d1.trans f2, d2.trans f1, fun hb => ?_⟩
      obtain ⟨n, e⟩ := d3 (by rw [f3]; exact hb)
      obtain ⟨m, b, e'⟩ := s.chans[c].sampled_changes ok k.bus
      rw [e, e']
      exact ⟨n, m, b, rfl⟩
  · obtain ⟨k, body, he⟩ := exec_lviCommand hi s
    rw [he, State.intake_deaf hdead]

end Sys2Proof.Machine


namespace Sys2Proof.Machine

open Sys2Proof.Safety

/-! # Column commands -/

theorem openRowOf_opened {b : Bank} {r : Row} {v : Bool} (h : b.phase = .opened r v) : openRowOf b = some (r, v) := by
  unfold openRowOf
  rw [h]

section
variable (h : Channel) (p : Pc) (a : Posted)

@[simp] theorem Channel.postHost_regs : (h.postHost p a).regs = h.regs := by
  unfold Channel.postHost
  split <;> rfl

theorem Channel.postHost_banks (q : Pc) : (h.postHost p a).pcs[q].banks = h.pcs[q].banks := by
  unfold Channel.postHost
  split
  · rw [Channel.updPc_at]
    split
    · next e => rw [e]; rfl
    · rfl
  · rfl

theorem Channel.postHost_calendar :
    (h.postHost p a).pcs[p].calendar = h.pcs[p].calendar ++ (if h.taper.active.baltil then [a] else []) := by
  unfold Channel.postHost
  split
  · rw [Channel.updPc_self]
    rfl
  · rw [List.append_nil]

/-- The bank is closed by the command after its chain. -/
def Channel.autoCloses (h : Channel) (p : Pc) (i : Fin 64) (whole : Bool) : Channel :=
  h.updPc p (fun q => q.updBank i (·.autoCloseBy whole))

@[simp] theorem Channel.autoCloses_regs (i : Fin 64) (w : Bool) : (h.autoCloses p i w).regs = h.regs := rfl

theorem Channel.autoCloses_cells (i : Fin 64) (w : Bool) : (h.autoCloses p i w).cells = h.cells := Channel.updPc_cells rfl

theorem Channel.autoCloses_bank (i : Fin 64) (w : Bool) :
    (h.autoCloses p i w).pcs[p].banks[i] = h.pcs[p].banks[i].autoCloseBy w := by
  unfold Channel.autoCloses
  rw [Channel.updPc_self, PseudoChannel.updBank_self]

theorem Channel.autoCloses_calendar (i : Fin 64) (w : Bool) : (h.autoCloses p i w).pcs[p].calendar = h.pcs[p].calendar := by
  unfold Channel.autoCloses
  rw [Channel.updPc_self]
  rfl

end

section
variable {h : Channel} {p : Pc} {sid : Sid} {bg : Bg} {ba : Ba} {row : Row} {v : Bool}

theorem Channel.served_opened (hp : h.pcs[p].banks[bankIx sid bg ba].phase = .opened row v) : h.served p sid bg ba = v := by
  unfold Channel.served
  rw [openRowOf_opened hp]

theorem Channel.accessError_opened (hp : h.pcs[p].banks[bankIx sid bg ba].phase = .opened row v)
    (hd : h.pcs[p].powerDown = false) : h.accessError p sid bg ba = false := by
  unfold Channel.accessError
  rw [openRowOf_opened hp, hd]
  rfl

theorem Channel.updPc_congr (h : Channel) (p : Pc) {f g : PseudoChannel → PseudoChannel} (e : f h.pcs[p] = g h.pcs[p]) :
    h.updPc p f = h.updPc p g := by
  unfold Channel.updPc
  rw [e]

theorem Channel.readCmd_opened (hp : h.pcs[p].banks[bankIx sid bg ba].phase = .opened row v) (col : Col) (close : Bool) :
    h.readCmd p sid bg ba col close
      = let k := h.postHost p (if v then .read sid (bankNo bg ba) row col none else .unservable)
        if close then k.autoCloses p (bankIx sid bg ba) (h.taper.active.baltil && v) else k := by
  have hr : h.updPc p (fun q => q.read sid bg ba col)
      = h.updPc p (·.post (if v then .read sid (bankNo bg ba) row col none else .unservable)) := by
    refine h.updPc_congr p ?_
    unfold PseudoChannel.read
    rw [openRowOf_opened hp]
    cases v <;> rfl
  unfold Channel.readCmd Channel.postHost
  rw [hr, Channel.served_opened hp]
  rfl

theorem Channel.writeCmd_opened (hp : h.pcs[p].banks[bankIx sid bg ba].phase = .opened row v) (col : Col) (b : Burst)
    (close : Bool) : h.writeCmd p sid bg ba col b close
      = let k := h.postHost p (.write sid (bankNo bg ba) row col b v none)
        if close then k.autoCloses p (bankIx sid bg ba) (h.taper.active.baltil && v) else k := by
  have hr : h.updPc p (fun q => q.write sid bg ba col b)
      = h.updPc p (·.post (.write sid (bankNo bg ba) row col b v none)) := by
    refine h.updPc_congr p ?_
    unfold PseudoChannel.write
    rw [openRowOf_opened hp]
  unfold Channel.writeCmd Channel.postHost
  rw [hr, Channel.served_opened hp]
  rfl

end

/-- What a command that posts a chain leaves. -/
structure Posts (s t : State) (c : Ch) (p : Pc) (a : Posted) : Prop where
  numbered : numbered s t c
  onlyChannel : onlyChannel s t c
  memKept : memKept s t
  phasesKept : phasesKept s t c
  chained : chained s t c p a

theorem posts_postHost (s : State) (c : Ch) (p : Pc) (a : Posted) (k : HostCmd) (ok : Sampled) :
    Posts s (s.updCh c (fun h => (h.taking s.timeUs k ok).postHost p a)) c p a := by
  refine ⟨numbered_updCh (by simp), onlyChannel_updCh .., memKept_updCh_cells (by simp), fun q i => ?_, ?_⟩
  · rw [State.updCh_self, Channel.postHost_banks]
    simp
  · unfold chained
    rw [State.updCh_self, Channel.postHost_calendar, Channel.taking_taper, Taper.hosts_active]
    simp

/-- What a command that posts a chain and then closes its bank leaves. -/
structure PostsAndCloses (s t : State) (c : Ch) (p : Pc) (i : Fin 64) (row : Row) (v : Bool) (a : Posted) : Prop where
  numbered : numbered s t c
  onlyChannel : onlyChannel s t c
  memKept : memKept s t
  closing : t.chans[c].pcs[p].banks[i].phase = .closing row v
  postedPre : v = true → baltil s c → t.chans[c].pcs[p].banks[i].postedPre = true
  chained : chained s t c p a

theorem Bank.autoCloseBy_phase {b : Bank} {r : Row} {v : Bool} (h : b.phase = .opened r v) (w : Bool) :
    (b.autoCloseBy w).phase = .closing r v := by
  unfold Bank.autoCloseBy Bank.autoClose
  rw [h]

theorem postsAndCloses_postHost {s : State} {c : Ch} {p : Pc} {i : Fin 64} {row : Row} {v : Bool}
    (hp : s.chans[c].pcs[p].banks[i].phase = .opened row v) (a : Posted) (k : HostCmd) (ok : Sampled) :
    PostsAndCloses s (s.updCh c (fun h =>
      ((h.taking s.timeUs k ok).postHost p a).autoCloses p i (s.chans[c].taper.active.baltil && v))) c p i row v a := by
  have hbank : ((s.chans[c].taking s.timeUs k ok).postHost p a).pcs[p].banks[i] = s.chans[c].pcs[p].banks[i] := by
    rw [Channel.postHost_banks]
    simp
  refine ⟨numbered_updCh (by simp), onlyChannel_updCh .., memKept_updCh_cells (by simp [Channel.autoCloses_cells]), ?_, ?_, ?_⟩
  · rw [State.updCh_self, Channel.autoCloses_bank, hbank, Bank.autoCloseBy_phase hp]
  · intro hv hb
    have hb' : s.chans[c].taper.active.baltil = true := hb
    rw [State.updCh_self, Channel.autoCloses_bank, hv, hb']
    rfl
  · unfold chained
    rw [State.updCh_self, Channel.autoCloses_calendar, Channel.postHost_calendar, Channel.taking_taper, Taper.hosts_active]
    simp

/-- RD, RDA, WR and WRA are taken where their entry for the row the bank holds open is. -/
theorem accessCmd_opened {h : Channel} {p : Pc} {sid : Sid} {bg : Bg} {ba : Ba} {row : Row} {v : Bool}
    (hp : h.pcs[p].banks[bankIx sid bg ba].phase = .opened row v) (hd : h.pcs[p].powerDown = false) (col : Col) (n m : Nat) :
    (accessCmd h p sid bg ba col n m).entry = (if v then n else m) ∧ (accessCmd h p sid bg ba col n m).pcs = pcMask p
      ∧ (accessCmd h p sid bg ba col n m).error = false :=
  ⟨by rw [accessCmd, Channel.served_opened hp], rfl, Channel.accessError_opened hp hd⟩

theorem writeRecord_opened {h : Channel} {p : Pc} {sid : Sid} {bg : Bg} {ba : Ba} {row : Row} {v : Bool}
    (hp : h.pcs[p].banks[bankIx sid bg ba].phase = .opened row v) (hd : h.pcs[p].powerDown = false) (col : Col) (b : Burst)
    (n : Nat) : (writeRecord h p sid bg ba col b n).entry = (if v then n else 17)
      ∧ (writeRecord h p sid bg ba col b n).pcs = pcMask p ∧ (writeRecord h p sid bg ba col b n).error = false :=
  accessCmd_opened hp hd col n 17

theorem drivePattern_at (h : Channel) (len : BitVec 2) (p : Pc) (hd : h.pcs[p].powerDown = false) :
    (h.drivePattern len).pcs[p].drive = .pattern (lmwLength len) := by
  simp_all [Channel.drivePattern, Channel.updPcs]

/-- A command that posts a chain without closing its bank. -/
theorem posts_of_intake {s : State} {c : Ch} {p : Pc} {a : Posted} {k : HostCmd} {ok : Sampled} {f : Channel → Channel} {r : Result}
    (hr : r = .next (s.intake c k ok (·.updCh c f))) (ht : takes s c ok k.entry k.pcs = true) (he : k.error = false)
    (hf : f (s.chans[c].taking s.timeUs k ok) = (s.chans[c].taking s.timeUs k ok).postHost p a) :
    ∃ t, r = .next t ∧ Posts s t c p a := by
  refine ⟨_, next_intake hr ht he, ?_⟩
  rw [State.updCh_congr (g := fun h => (h.taking s.timeUs k ok).postHost p a) hf]
  exact posts_postHost s c p a k ok

/-- A command that posts a chain and closes its bank. -/
theorem postsAndCloses_of_intake {s : State} {c : Ch} {p : Pc} {i : Fin 64} {row : Row} {v : Bool} {a : Posted} {k : HostCmd}
    {ok : Sampled} {f : Channel → Channel} {r : Result} (hp : s.chans[c].pcs[p].banks[i].phase = .opened row v)
    (hr : r = .next (s.intake c k ok (·.updCh c f))) (ht : takes s c ok k.entry k.pcs = true) (he : k.error = false)
    (hf : f (s.chans[c].taking s.timeUs k ok)
      = ((s.chans[c].taking s.timeUs k ok).postHost p a).autoCloses p i (s.chans[c].taper.active.baltil && v)) :
    ∃ t, r = .next t ∧ PostsAndCloses s t c p i row v a := by
  refine ⟨_, next_intake hr ht he, ?_⟩
  rw [State.updCh_congr (g := fun h =>
    ((h.taking s.timeUs k ok).postHost p a).autoCloses p i (s.chans[c].taper.active.baltil && v)) hf]
  exact postsAndCloses_postHost hp a k ok

/-- Settles O13: each column command by what it posts, LMW by the window it opens. -/
theorem columnCommandsPostChains : Obligations.ColumnCommandsPostChains := by
  refine ⟨fun c p sid bg ba col b row v ok s hd hp => ?_, fun c p tb bits ma len ok s hd => ⟨fun ht => ?_, fun ht => ?_,
    fun ht => ?_, fun ht => ?_⟩⟩
  · have hopen (k : HostCmd) : (s.chans[c].taking s.timeUs k ok).pcs[p].banks[bankIx sid bg ba].phase = .opened row v := by
      simpa using hp
    have hactive (k : HostCmd) : (s.chans[c].taking s.timeUs k ok).taper.active = s.chans[c].taper.active := by simp
    have hcmd := accessCmd_opened hp hd col
    refine ⟨fun ht => ?_, fun ht => ?_, fun ht => ?_, fun ht => ?_⟩
    · obtain ⟨e1, e2, e3⟩ := hcmd 12 14
      obtain ⟨t, e, h⟩ := posts_of_intake (r := exec (.rd c p sid bg ba col ok) s) rfl (by rw [e1, e2]; exact ht) e3
        (by exact Channel.readCmd_opened (hopen _) col false)
      exact ⟨t, e, h.numbered, h.onlyChannel, h.memKept, h.phasesKept, h.chained⟩
    · obtain ⟨e1, e2, e3⟩ := hcmd 13 14
      obtain ⟨t, e, h⟩ := postsAndCloses_of_intake (r := exec (.rda c p sid bg ba col ok) s) hp rfl (by rw [e1, e2]; exact ht) e3
        (by rw [← hactive (accessCmd s.chans[c] p sid bg ba col 13 14)]; exact Channel.readCmd_opened (hopen _) col true)
      exact ⟨t, e, h.numbered, h.onlyChannel, h.memKept, h.closing, h.postedPre, h.chained⟩
    · obtain ⟨e1, e2, e3⟩ := writeRecord_opened hp hd col b 15
      obtain ⟨t, e, h⟩ := posts_of_intake (r := exec (.wr c p sid bg ba col b ok) s) rfl
        (by rw [e1, e2]; exact ht) e3
        (by exact Channel.writeCmd_opened (hopen _) col b false)
      exact ⟨t, e, h.numbered, h.onlyChannel, h.memKept, h.phasesKept, h.chained⟩
    · obtain ⟨e1, e2, e3⟩ := writeRecord_opened hp hd col b 16
      obtain ⟨t, e, h⟩ := postsAndCloses_of_intake (r := exec (.wra c p sid bg ba col b ok) s) hp rfl
        (by rw [e1, e2]; exact ht) e3
        (by rw [← hactive (writeRecord s.chans[c] p sid bg ba col b 16)]; exact Channel.writeCmd_opened (hopen _) col b true)
      exact ⟨t, e, h.numbered, h.onlyChannel, h.memKept, h.closing, h.postedPre, h.chained⟩
  · have h := posts_postHost s c p (.bufRead tb)
    exact ⟨_, next_intake rfl ht hd, (h _ ok).numbered, (h _ ok).onlyChannel, (h _ ok).memKept, (h _ ok).phasesKept, (h _ ok).chained⟩
  · have h := posts_postHost s c p (.bufWrite tb bits)
    exact ⟨_, next_intake rfl ht hd, (h _ ok).numbered, (h _ ok).onlyChannel, (h _ ok).memKept, (h _ ok).phasesKept, (h _ ok).chained⟩
  · have h := posts_postHost s c p (.modeRead (s.mrRead c ma) (s.chans[c].mrExt ma))
    exact ⟨_, next_intake rfl ht hd, (h _ ok).numbered, (h _ ok).onlyChannel, (h _ ok).memKept, (h _ ok).phasesKept, (h _ ok).chained⟩
  · refine ⟨_, next_intake rfl ht rfl, numbered_updCh ?_, onlyChannel_updCh .., memKept_updCh_cells (by simp), fun q i => ?_, ?_, ?_⟩
    · rw [(Channel.eventThread_frame ..).1]
      simp [Channel.drivePattern]
    · rw [State.updCh_self, Channel.eventThread_pcs]
      simp [Channel.drivePattern, Channel.updPcs]
      split <;> simp
    · rw [State.updCh_self, (Channel.eventThread_frame ..).2.1]
      rfl
    · rw [State.updCh_self, Channel.eventThread_pcs, drivePattern_at]
      simpa using hd

end Sys2Proof.Machine


namespace Sys2Proof.Machine

open Sys2Proof.Safety

/-! # Writes of the mode registers -/

/-- The record of an MRW. -/
def mrwRecord : HostCmd := { bus := .col, entry := 22, pcs := 0, addr := pcAddr 0, error := false }

theorem mrwCommand_taken {s : State} {c : Ch} {ok : Sampled} (h : takes s c ok 22 0 = true) (ma : Fin 32) (v : BitVec 16) :
    s.mrwCommand c ma v ok = (s.updCh c (fun h => h.taking s.timeUs mrwRecord ok)).mrWrite c ma v :=
  State.intake_taken (k := mrwRecord) h rfl _

/-- MRW names no pseudo-channel and counts to none under R188. -/
@[simp] theorem Channel.taking_mrw_pcs (h : Channel) (now : Nat) (ok : Sampled) : (h.taking now mrwRecord ok).pcs = h.pcs := by
  obtain ⟨e1, -⟩ := h.sampled_frame ok .col
  obtain ⟨e2, -⟩ := (h.sampled ok .col).sawCommand_frame .col
  have hb (k : Channel) : k.stageBreak now 0 = k := by
    unfold Channel.stageBreak
    rw [if_neg (by simp)]
  unfold Channel.taking Channel.accept
  change ((((h.sampled ok .col).sawCommand .col).number mrwRecord).hostThread mrwRecord |>.stageBreak now 0).pcs = _
  rw [hb, Channel.hostThread_pcs, ← e1, ← e2]
  ext i : 1
  simp [Channel.number, mrwRecord]

theorem Channel.sampled_mrwIgnored (h : Channel) (ok : Sampled) (bus : Bus) : (h.sampled ok bus).cnt.mrwIgnored = h.cnt.mrwIgnored := by
  obtain ⟨m, b, e⟩ := h.sampled_changes ok bus
  rw [e]

theorem Channel.taking_mrwIgnored (h : Channel) (now : Nat) (k : HostCmd) (ok : Sampled) :
    (h.taking now k ok).cnt.mrwIgnored = h.cnt.mrwIgnored := by
  have hstage (x : Channel) : (x.stageBreak now k.trains).cnt = x.cnt := by
    unfold Channel.stageBreak Channel.stageEnd
    split <;> rfl
  have hhost (x : Channel) : (x.hostThread k).cnt.mrwIgnored = x.cnt.mrwIgnored := by
    unfold Channel.hostThread
    repeat' split
    all_goals rfl
  unfold Channel.taking Channel.accept
  rw [hstage, hhost]
  change ((h.sampled ok k.bus).sawCommand k.bus).cnt.mrwIgnored = _
  rw [Channel.sawCommand_cnt, Channel.sampled_mrwIgnored]

/-! ## What each register's write does (Tables 3-6 to 3-15) -/

section
variable {s : State} {c : Ch} {ma : Fin 32} {v : BitVec 16}

theorem State.mrWrite_1 (h : ma.val = 1) : s.mrWrite c ma v = s.updCh c (·.updRegs (fun r => { r with binReq := v.extractLsb' 0 2 })) := by
  simp only [State.mrWrite, h]

theorem State.mrWrite_2 (h : ma.val = 2) : s.mrWrite c ma v = s.updCh c (fun h =>
    (h.writeMr02 (s.haltMaint c) (v.extractLsb' 8 4) (v.extractLsb' 6 2) (v.extractLsb' 0 2)).lapsAfter h s.timeUs) := by
  simp only [State.mrWrite, h]

theorem State.mrWrite_3 (h : ma.val = 3) : s.mrWrite c ma v = s.updCh c (·.updRegs (fun r => { r with mr03 := v.extractLsb' 0 13 })) := by
  simp only [State.mrWrite, h]

theorem State.mrWrite_4 (h : ma.val = 4) :
    s.mrWrite c ma v = (s.updCh c (·.writeMr04 s.rows (v.extractLsb' 2 4) (v.getLsbD 0))).raiseUrgent s c := by
  simp only [State.mrWrite, h]

theorem State.mrWrite_5 (h : ma.val = 5) : s.mrWrite c ma v = s.updCh c (·.clearCauses (v.extractLsb' 0 10)) := by
  simp only [State.mrWrite, h]

theorem State.mrWrite_7 (h : ma.val = 7) : s.mrWrite c ma v = s.updCh c (·.updRegs (fun r => { r with policy := v.extractLsb' 0 2 })) := by
  simp only [State.mrWrite, h]

theorem State.mrWrite_8 (h : ma.val = 8) : s.mrWrite c ma v = s.updCh c (·.writeMr08 (v.extractLsb' 0 2)) := by
  simp only [State.mrWrite, h]

theorem State.mrWrite_readOnly (h : ma.val ∈ [0, 6, 9, 16]) : s.mrWrite c ma v = s := by
  simp only [List.mem_cons, List.not_mem_nil, or_false] at h
  rcases h with h | h | h | h <;> simp only [State.mrWrite, h]

theorem State.mrWrite_unused (h : 17 ≤ ma.val) : s.mrWrite c ma v = s.updCh c (·.ignoreMrw) := by
  obtain ⟨n, hn⟩ := Nat.exists_eq_add_of_le' h
  simp only [State.mrWrite, hn]

end

/-! ## The index of the command stands -/

theorem Channel.revoke_regs (h : Channel) (pcs : BitVec 2) : (h.revoke pcs).regs = h.regs := (h.revoke_frame pcs).1

theorem Channel.releaseQuiesce_regs (h : Channel) (p : Pc) : (h.releaseQuiesce p).regs = h.regs := by
  unfold Channel.releaseQuiesce Channel.releaseQact
  dsimp only
  repeat' split
  · rfl
  · exact Channel.revoke_regs ..
  · exact Channel.revoke_regs ..

theorem Channel.writeMr08_regs (h : Channel) (bits : BitVec 2) : (h.writeMr08 bits).regs = h.regs := by
  unfold Channel.writeMr08
  dsimp only
  repeat' split
  all_goals simp only [Channel.releaseQuiesce_regs, Channel.askQuiesce, Channel.updPc_regs]

theorem Channel.fillGo_regs (h : Channel) (halt : Bool) (p : Pc) (pat : BitVec 4) : (h.fillGo halt p pat).regs = h.regs := by
  unfold Channel.fillGo
  dsimp only
  repeat' split
  · rfl
  · rfl
  · exact (Channel.eventThread_frame ..).1

theorem Channel.writeMr02_regs (h : Channel) (halt : Bool) (pat : BitVec 4) (go modes : BitVec 2) :
    (h.writeMr02 halt pat go modes).regs = { h.regs with fillPat := pat } := by
  unfold Channel.writeMr02
  dsimp only
  repeat' split
  all_goals simp only [Channel.fillGo_regs, Channel.updRegs]

theorem Channel.lapsAfter_regs (h old : Channel) (now : Nat) : (h.lapsAfter old now).regs = h.regs := rfl

theorem Channel.writeMr04_regs (h : Channel) (rows : Nat) (lim : BitVec 4) (en : Bool) :
    (h.writeMr04 rows lim en).regs = { h.regs with postLim := lim, adaptEn := en } := by
  unfold Channel.writeMr04
  dsimp only
  split <;> rfl

theorem noted_raiseUrgent (s old : State) (c : Ch) : Noted s (s.raiseUrgent old c) := by
  unfold State.raiseUrgent
  split
  · unfold State.setCause
    split
    · exact .of_chans rfl rfl
    · refine ⟨rfl, fun d => ?_⟩
      by_cases hd : d = c
      · subst hd
        exact ⟨_, State.updCh_self ..⟩
      · exact ⟨s.chans[d].regs.causes, State.updCh_other s _ hd⟩
  · exact .of_chans rfl rfl

theorem Channel.linkHold_regs (h : Channel) (sids : Nat) : (h.linkHold sids).regs = h.regs := by
  unfold Channel.linkHold Channel.switchNative Channel.coreSleep
  repeat' split
  all_goals rfl

theorem State.enterLinkHold_seqCnt (s : State) (c : Fin 32) : s.enterLinkHold.chans[c].regs.seqCnt = s.chans[c].regs.seqCnt := by
  unfold State.enterLinkHold
  split
  · rfl
  · change ((s.updAll _).chans[c]).regs.seqCnt = _
    rw [State.updAll_at]
    split
    · rfl
    · rw [Channel.linkHold_regs]

theorem State.freeze_seqCnt (s : State) (c : Fin 32) : s.freeze.chans[c].regs.seqCnt = s.chans[c].regs.seqCnt := by
  have hn := noted_setCauseAll s causeHoldover
  unfold State.freeze
  dsimp only
  split
  · exact hn.seqCnt c
  · split
    · rw [State.enterLinkHold_seqCnt]
      exact hn.seqCnt c
    · exact hn.seqCnt c

theorem State.loseLock_seqCnt (s : State) (c : Fin 32) : s.loseLock.chans[c].regs.seqCnt = s.chans[c].regs.seqCnt := by
  unfold State.loseLock
  split
  · exact s.freeze_seqCnt c
  · split
    · exact s.freeze_seqCnt c
    · rfl
  · split
    · exact s.freeze_seqCnt c
    · rfl
  all_goals rfl

/-- The index of the channel's next command is as it was. -/
def SeqKept (s t : State) (c : Ch) : Prop := t.chans[c].regs.seqCnt = s.chans[c].regs.seqCnt

theorem seqKept_updCh {s : State} {c : Ch} {f : Channel → Channel} (hf : (f s.chans[c]).regs.seqCnt = s.chans[c].regs.seqCnt) :
    SeqKept s (s.updCh c f) c := by
  rw [SeqKept, State.updCh_self, hf]

theorem seqKept_writeMr15 (s : State) (c : Ch) (v : BitVec 16) : SeqKept s (s.writeMr15 c v) c := by
  have h1 : SeqKept s (s.updCh c (fun h => h.updRegs (fun r => { r with mr15 := v &&& 3 }))) c := seqKept_updCh rfl
  unfold State.writeMr15
  dsimp only
  repeat' split
  · exact (State.loseLock_seqCnt ..).trans h1
  · exact h1
  · exact h1

theorem seqKept_mrWrite (s : State) (c : Ch) (ma : Fin 32) (v : BitVec 16) : SeqKept s (s.mrWrite c ma v) c := by
  by_cases h2 : ma.val = 2
  · rw [State.mrWrite_2 h2]
    exact seqKept_updCh (by rw [Channel.lapsAfter_regs, Channel.writeMr02_regs])
  by_cases h4 : ma.val = 4
  · rw [State.mrWrite_4 h4]
    exact ((noted_raiseUrgent ..).seqCnt c).trans (seqKept_updCh (by rw [Channel.writeMr04_regs]))
  by_cases h8 : ma.val = 8
  · rw [State.mrWrite_8 h8]
    exact seqKept_updCh (by rw [Channel.writeMr08_regs])
  have h15 := seqKept_writeMr15 s c v
  have hupd (f : ModeRegs → ModeRegs) (hf : ∀ r, (f r).seqCnt = r.seqCnt) : SeqKept s (s.updCh c (·.updRegs f)) c :=
    seqKept_updCh (hf _)
  have hign : SeqKept s (s.updCh c (·.ignoreMrw)) c := seqKept_updCh rfl
  have hself : SeqKept s s c := rfl
  cases hl : s.mgmt.lab <;> simp only [State.mrWrite, hl, Bool.false_eq_true, if_false, if_true] <;>
    split <;> simp_all [Channel.writeMr12, Channel.clearCauses]

/-! ## The fields of MR02 (R68, R114) -/

@[simp] theorem PseudoChannel.lapAfter_frame (q old : PseudoChannel) (now : Nat) : (q.lapAfter old now).managed = q.managed
    ∧ (q.lapAfter old now).op = q.op ∧ (q.lapAfter old now).fillBusy = q.fillBusy ∧ (q.lapAfter old now).fillPat = q.fillPat := by
  unfold PseudoChannel.lapAfter
  split <;> exact ⟨rfl, rfl, rfl, rfl⟩

theorem PseudoChannel.setMode_frame (q : PseudoChannel) (m : Bool) : (q.setMode m).managed = (if q.qact then m else q.managed)
    ∧ (q.setMode m).qact = q.qact ∧ (q.setMode m).op = q.op := by
  unfold PseudoChannel.setMode
  cases hq : q.qact <;> cases hm : q.managed <;> cases m <;> simp [hq, hm]

/-- The pseudo-channel with a fill under way. -/
def PseudoChannel.fills (q : PseudoChannel) (pat : BitVec 4) : PseudoChannel :=
  { q with op := some .fill, fillBusy := true, fillPat := pat }

/-- A fill that may start starts; any other FILL_GO leaves the pseudo-channel. -/
def PseudoChannel.fillGo (q : PseudoChannel) (pat : BitVec 4) : PseudoChannel :=
  if q.qact && fillLegal pat q.managed && q.op.isNone then q.fills pat else q

theorem PseudoChannel.fillGo_starts {q : PseudoChannel} {pat : BitVec 4} (hq : q.qact = true) (hop : q.op = none)
    (hl : fillLegal pat q.managed = true) : q.fillGo pat = q.fills pat := by
  unfold PseudoChannel.fillGo
  rw [hq, hop, hl]
  rfl

theorem PseudoChannel.fillGo_ignored {q : PseudoChannel} {pat : BitVec 4}
    (h : q.qact = false ∨ fillLegal pat q.managed = false ∨ q.op.isSome = true) : q.fillGo pat = q := by
  unfold PseudoChannel.fillGo
  rw [if_neg (by rcases h with h | h | h <;> simp_all [Option.isSome_iff_ne_none])]

theorem Channel.updPc_of_eq (h : Channel) (p : Pc) {f : PseudoChannel → PseudoChannel} (e : f h.pcs[p] = h.pcs[p]) :
    h.updPc p f = h := by
  simp only [Channel.updPc, e]
  simp

theorem Channel.fillGo_pcs (h : Channel) (halt : Bool) (p : Pc) (pat : BitVec 4) (q : Fin 2) :
    (h.fillGo halt p pat).pcs[q] = if q = p then h.pcs[q].fillGo pat else h.pcs[q] := by
  have hself : (h.fillGo halt p pat).pcs = (h.updPc p (·.fillGo pat)).pcs := by
    unfold Channel.fillGo
    dsimp only
    split
    · next hq => rw [h.updPc_of_eq p (f := (·.fillGo pat)) (PseudoChannel.fillGo_ignored (.inl (by simpa using hq)))]
    · split
      · next hq hl => rw [h.updPc_of_eq p (f := (·.fillGo pat)) (PseudoChannel.fillGo_ignored (.inr (by simpa using hl)))]; rfl
      · next hq hl =>
        simp only [Bool.not_eq_true', Bool.not_eq_false, Bool.or_eq_true, not_or, Option.isSome_iff_ne_none, ne_eq, not_not] at hq hl
        rw [Channel.eventThread_pcs, h.updPc_congr p (g := (·.fillGo pat))]
        exact (PseudoChannel.fillGo_starts hq hl.2 hl.1).symm
  rw [hself, Channel.updPc_at]

theorem Channel.writeMr02_pc (h : Channel) (halt : Bool) (pat : BitVec 4) (go modes : BitVec 2) (p : Fin 2) :
    (h.writeMr02 halt pat go modes).pcs[p]
      = if go.getLsbD p then (h.pcs[p].setMode (modes.getLsbD p)).fillGo pat else h.pcs[p].setMode (modes.getLsbD p) := by
  have hmode (k : Channel) (e : k.pcs = h.pcs.mapFinIdx (fun i q _ => q.setMode (modes.getLsbD i))) (q : Fin 2) :
      k.pcs[q] = h.pcs[q].setMode (modes.getLsbD q) := by
    rw [e]
    simp
  have hfill (k : Channel) (b : Bool) (r : Pc) : (if b then k.fillGo halt r pat else k).pcs[p]
      = if b && decide (p = r) then k.pcs[p].fillGo pat else k.pcs[p] := by
    cases b
    · rfl
    · simp only [if_true, Channel.fillGo_pcs, Bool.true_and, decide_eq_true_eq]
  unfold Channel.writeMr02
  dsimp only
  rw [hfill, hfill, hmode _ rfl]
  match p with
  | 0 => simp
  | 1 => simp

theorem Channel.lapsAfter_pc (h old : Channel) (now : Nat) (p : Fin 2) :
    (h.lapsAfter old now).pcs[p] = h.pcs[p].lapAfter old.pcs[p] now := by
  simp [Channel.lapsAfter]

theorem mrRead_2 (s : State) (c : Ch) : s.mrRead c 2 = BitVec.ofNat 16 (s.chans[c].regs.fillPat.toNat * 256
      + bitsToNat [s.chans[c].pcs[1].filled, s.chans[c].pcs[0].filled, s.chans[c].pcs[1].fillBusy, s.chans[c].pcs[0].fillBusy,
        s.chans[c].pcs[1].managed, s.chans[c].pcs[0].managed]) := rfl

theorem testBit_lowest (a n : Nat) (m0 m1 : Bool) : (a * 256 + (2 * (2 * n + m1.toNat) + m0.toNat)).testBit 0 = m0
    ∧ (a * 256 + (2 * (2 * n + m1.toNat) + m0.toNat)).testBit 1 = m1 := by
  simp only [Nat.testBit_eq_decide_div_mod_eq]
  cases m0 <;> cases m1 <;> simp <;> omega

theorem State.mr02Kept_fields (s : State) (c : Ch) : (∀ p : Fin 2, (s.mr02Kept c).getLsbD p = s.chans[c].pcs[p].managed)
    ∧ ∀ i, 2 ≤ i → i < 8 → (s.mr02Kept c).getLsbD i = false := by
  have hmask (i : Nat) (hi : i < 8) : (s.mr02Kept c).getLsbD i = ((s.mrRead c 2).getLsbD i && decide (i < 2)) := by
    unfold State.mr02Kept
    rw [BitVec.getLsbD_and]
    congr 1
    interval_cases i <;> rfl
  refine ⟨fun p => ?_, fun i h2 h8 => ?_⟩
  · rw [hmask p (by omega), mrRead_2, BitVec.getLsbD_ofNat, decide_eq_true (by omega), decide_eq_true (by omega),
      Bool.true_and, Bool.and_true]
    match p with
    | 0 => exact (testBit_lowest ..).1
    | 1 => exact (testBit_lowest ..).2
  · rw [hmask i h8, decide_eq_false (by omega), Bool.and_false]

/-- The word that MODE_PC_WRITE writes: the modes, no FILL_GO. -/
theorem modeWord_fields (k : BitVec 16) (modes : BitVec 2) :
    (((k &&& 0x0F00) ||| modes.setWidth 16).extractLsb' 0 2 = modes)
      ∧ ((k &&& 0x0F00) ||| modes.setWidth 16).extractLsb' 6 2 = 0 := by
  refine ⟨?_, ?_⟩ <;> ext i hi <;> interval_cases i <;> simp

/-- The word that FILL_GO writes: FILL_GO and the pattern, and the modes as they were kept. -/
theorem fillWord_fields (k : BitVec 16) (go : BitVec 2) (pat : BitVec 4) :
    (((k &&& 3) ||| (go.setWidth 16 <<< 6) ||| (pat.setWidth 16 <<< 8)).extractLsb' 0 2 = k.extractLsb' 0 2)
      ∧ ((k &&& 3) ||| (go.setWidth 16 <<< 6) ||| (pat.setWidth 16 <<< 8)).extractLsb' 6 2 = go
      ∧ ((k &&& 3) ||| (go.setWidth 16 <<< 6) ||| (pat.setWidth 16 <<< 8)).extractLsb' 8 4 = pat := by
  refine ⟨?_, ?_, ?_⟩ <;> ext i hi <;> interval_cases i <;> simp

/-- The word that ADAPT_EN_WRITE writes: ADAPT_EN, and POST_LIM as it stood. -/
theorem adaptWord_fields (lim : BitVec 4) (en : Bool) :
    (BitVec.ofNat 16 (lim.toNat * 4 + en.toNat)).extractLsb' 2 4 = lim
      ∧ (BitVec.ofNat 16 (lim.toNat * 4 + en.toNat)).getLsbD 0 = en := by
  have hl := lim.isLt
  have he := en.toNat_le
  refine ⟨BitVec.eq_of_toNat_eq ?_, ?_⟩
  · simp only [BitVec.extractLsb'_toNat, BitVec.toNat_ofNat, Nat.shiftRight_eq_div_pow]
    omega
  · rw [BitVec.getLsbD_ofNat, Nat.testBit_eq_decide_div_mod_eq]
    cases en <;> simp <;> omega

/-- What every MRW that is taken leaves. -/
theorem mrwCommand_leaves {s : State} {c : Ch} {ok : Sampled} (h : takes s c ok 22 0 = true) (ma : Fin 32) (v : BitVec 16) :
    numbered s (s.mrwCommand c ma v ok) c ∧ memKept s (s.mrwCommand c ma v ok) := by
  rw [mrwCommand_taken h]
  refine ⟨?_, memKept_of_cells ?_⟩
  · refine (seqKept_mrWrite ..).trans ?_
    rw [State.updCh_self, Channel.taking_regs]
  · rw [State.mrWrite_cells]
    exact State.updCh_cells (by simp)

/-- The machine whose channel has taken an MRW in. -/
def State.takenMrw (s : State) (c : Ch) (ok : Sampled) : State := s.updCh c (fun h => h.taking s.timeUs mrwRecord ok)

/-- An MRW whose effect stays in its channel. -/
theorem mrwCommand_updCh {s : State} {c : Ch} {ok : Sampled} {ma : Fin 32} {v : BitVec 16} {f : State → Channel → Channel}
    (h : takes s c ok 22 0 = true) (hw : ∀ u : State, u.mrWrite c ma v = u.updCh c (f u)) :
    s.mrwCommand c ma v ok = s.updCh c (fun h => f (s.takenMrw c ok) (h.taking s.timeUs mrwRecord ok)) := by
  rw [mrwCommand_taken h, hw, State.updCh_updCh]
  rfl

/-- MR04 takes POST_LIM and ADAPT_EN; beside them REF_URGENT may be set. -/
theorem mrwCommand_mr04 {s : State} {c : Ch} {ok : Sampled} {ma : Fin 32} (h : takes s c ok 22 0 = true) (h4 : ma.val = 4)
    (v : BitVec 16) : ∃ x, (s.mrwCommand c ma v ok).chans[c].regs = { s.chans[c].regs with
      seqCnt := s.chans[c].regs.seqCnt + 1, postLim := v.extractLsb' 2 4, adaptEn := v.getLsbD 0, causes := x } := by
  rw [mrwCommand_taken h, State.mrWrite_4 h4]
  generalize hu : s.updCh c (fun h => h.taking s.timeUs mrwRecord ok) = u
  have hchan : u.chans[c] = s.chans[c].taking s.timeUs mrwRecord ok := by rw [← hu, State.updCh_self]
  obtain ⟨x, hx⟩ := (noted_raiseUrgent (u.updCh c (·.writeMr04 u.rows (v.extractLsb' 2 4) (v.getLsbD 0))) u c).chan c
  refine ⟨x, ?_⟩
  rw [hx, State.updCh_self, hchan, Channel.writeMr04_regs, Channel.taking_regs]

/-- Settles O14: each register by what its write does, on the channel that took the MRW in. -/
theorem modeRegisterWrites : Obligations.ModeRegisterWrites := by
  refine ⟨fun c ma v ok s ht => ?_, fun c ok s ht => ⟨fun bin => ?_, fun modes => ?_, fun go pat => ?_, fun en => ?_, fun mask => ?_⟩⟩
  · obtain ⟨hnum, hmem⟩ := mrwCommand_leaves ht ma v
    refine ⟨_, rfl, hnum, hmem, fun h1 => ?_, fun h3 => ?_, fun h4 => ?_, fun h5 => ?_, fun h7 => ?_, fun hro => ?_, fun h17 => ?_⟩
    · rw [mrwCommand_updCh ht fun _ => State.mrWrite_1 h1, State.updCh_self]
      rfl
    · rw [mrwCommand_updCh ht fun _ => State.mrWrite_3 h3, State.updCh_self]
      rfl
    · obtain ⟨x, hx⟩ := mrwCommand_mr04 ht h4 v
      rw [hx]
      exact ⟨rfl, rfl⟩
    · rw [mrwCommand_updCh ht fun _ => State.mrWrite_5 h5, State.updCh_self]
      simp [Channel.clearCauses]
    · rw [mrwCommand_updCh ht fun _ => State.mrWrite_7 h7, State.updCh_self]
      rfl
    · rw [mrwCommand_taken ht, State.mrWrite_readOnly hro]
      refine ⟨onlyChannel_updCh .., ?_, ?_⟩ <;> rw [State.updCh_self]
      · exact Channel.taking_mrw_pcs ..
      · exact Channel.taking_regs ..
    · rw [mrwCommand_updCh ht fun _ => State.mrWrite_unused h17]
      refine ⟨onlyChannel_updCh .., ?_, ?_⟩ <;> rw [State.updCh_self]
      · exact congrArg bump (Channel.taking_mrwIgnored ..)
      · exact Channel.taking_regs ..
  · obtain ⟨hnum, hmem⟩ := mrwCommand_leaves ht 1 (bin.setWidth 16)
    have e := mrwCommand_updCh (ma := 1) (v := bin.setWidth 16) ht fun _ => State.mrWrite_1 rfl
    refine ⟨_, rfl, hnum, e ▸ onlyChannel_updCh .., hmem, ?_⟩
    rw [e, State.updCh_self]
    refine ⟨?_, Channel.taking_mrw_pcs ..⟩
    change (bin.setWidth 16).extractLsb' 0 2 = bin
    ext i hi
    interval_cases i <;> simp
  · obtain ⟨hnum, hmem⟩ := mrwCommand_leaves ht 2 ((s.mr02Kept c &&& 0x0F00) ||| modes.setWidth 16)
    obtain ⟨e1, e2⟩ := modeWord_fields (s.mr02Kept c) modes
    have e := mrwCommand_updCh (ma := 2) (v := (s.mr02Kept c &&& 0x0F00) ||| modes.setWidth 16) ht fun _ => State.mrWrite_2 rfl
    refine ⟨_, rfl, hnum, e ▸ onlyChannel_updCh .., hmem, fun p => ?_⟩
    rw [e, State.updCh_self, Channel.lapsAfter_pc, (PseudoChannel.lapAfter_frame ..).1, Channel.writeMr02_pc, e1, e2,
      if_neg (by simp), (PseudoChannel.setMode_frame ..).1, Channel.taking_mrw_pcs]
  · obtain ⟨hnum, hmem⟩ := mrwCommand_leaves ht 2 ((s.mr02Kept c &&& 3) ||| (go.setWidth 16 <<< 6) ||| (pat.setWidth 16 <<< 8))
    obtain ⟨e1, e2, e3⟩ := fillWord_fields (s.mr02Kept c) go pat
    have e := mrwCommand_updCh (ma := 2) (v := (s.mr02Kept c &&& 3) ||| (go.setWidth 16 <<< 6) ||| (pat.setWidth 16 <<< 8)) ht
      fun _ => State.mrWrite_2 rfl
    have hmode (p : Fin 2) : ((s.mr02Kept c).extractLsb' 0 2).getLsbD p = s.chans[c].pcs[p].managed := by
      rw [BitVec.getLsbD_extractLsb', decide_eq_true p.isLt, Bool.true_and, Nat.zero_add, (s.mr02Kept_fields c).1]
    refine ⟨_, rfl, hnum, e ▸ onlyChannel_updCh .., hmem, ?_, fun p hgo hq hop hl => ?_⟩
    · rw [e, State.updCh_self, Channel.lapsAfter_regs, Channel.writeMr02_regs, e3]
    · obtain ⟨-, l2, l3, l4⟩ := PseudoChannel.lapAfter_frame
        (s.chans[c].pcs[p].fills pat) s.chans[c].pcs[p] s.timeUs
      have hset : s.chans[c].pcs[p].setMode s.chans[c].pcs[p].managed = s.chans[c].pcs[p] := by
        simp [PseudoChannel.setMode]
      have hpc : (s.mrwCommand c 2 ((s.mr02Kept c &&& 3) ||| (go.setWidth 16 <<< 6) ||| (pat.setWidth 16 <<< 8)) ok).chans[c].pcs[p]
          = (s.chans[c].pcs[p].fills pat).lapAfter s.chans[c].pcs[p] s.timeUs := by
        rw [e, State.updCh_self, Channel.lapsAfter_pc, Channel.writeMr02_pc, e1, e2, e3, if_pos hgo, hmode, Channel.taking_mrw_pcs,
          hset, PseudoChannel.fillGo_starts hq hop hl]
        rfl
      rw [hpc]
      exact ⟨l2, l3, l4⟩
  · obtain ⟨hnum, hmem⟩ := mrwCommand_leaves ht 4 (BitVec.ofNat 16 (s.chans[c].regs.postLim.toNat * 4 + en.toNat))
    obtain ⟨e1, e2⟩ := adaptWord_fields s.chans[c].regs.postLim en
    obtain ⟨x, hx⟩ := mrwCommand_mr04 ht (ma := 4) rfl (BitVec.ofNat 16 (s.chans[c].regs.postLim.toNat * 4 + en.toNat))
    refine ⟨_, rfl, hnum, hmem, ?_⟩
    rw [hx, e1, e2]
    exact ⟨rfl, rfl, rfl⟩
  · obtain ⟨hnum, hmem⟩ := mrwCommand_leaves ht 5 (mask.setWidth 16)
    have e := mrwCommand_updCh (ma := 5) (v := mask.setWidth 16) ht fun _ => State.mrWrite_5 rfl
    have hm : (mask.setWidth 16).extractLsb' 0 10 = mask := by
      ext i hi
      interval_cases i <;> simp
    refine ⟨_, rfl, hnum, e ▸ onlyChannel_updCh .., hmem, ?_⟩
    rw [e, State.updCh_self, hm]
    exact ⟨by simp [Channel.clearCauses], Channel.taking_mrw_pcs ..⟩

end Sys2Proof.Machine


namespace Sys2Proof.Machine

open Sys2Proof.Safety

/-! # QUIESCE (R71, R115) -/

theorem PseudoChannel.carry_phase (q : PseudoChannel) (l : List OwedRow) (i : Nat) (hi : i < 64) :
    (q.carry l).banks[i].phase = q.banks[i].phase :=
  List.foldlRecOn (motive := fun r : PseudoChannel => r.banks[i].phase = q.banks[i].phase) l _ rfl fun r hr x _ => by
    rw [← hr]
    by_cases e : x.bank.val = i
    · subst e
      simp [PseudoChannel.updBank]
    · simp [PseudoChannel.updBank, e]

theorem Channel.revoke_phase (h : Channel) (pcs : BitVec 2) (p : Nat) (hp : p < 2) (i : Nat) (hi : i < 64) :
    (h.revoke pcs).pcs[p].banks[i].phase = h.pcs[p].banks[i].phase := by
  refine List.foldlRecOn (motive := fun k : Channel => k.pcs[p].banks[i].phase = h.pcs[p].banks[i].phase)
    (h.taper.threads.filter (·.dependsOn pcs)) _ rfl fun k hk x _ => ?_
  rw [← hk]
  by_cases e : x.addr.pc.val = p
  · subst e
    simp [Channel.updPc, PseudoChannel.carry_phase]
  · simp [Channel.updPc, e]

theorem PseudoChannel.allClosed_congr {q r : PseudoChannel} (h : ∀ (i : Nat) (hi : i < 64), r.banks[i].phase = q.banks[i].phase) :
    r.allClosed = q.allClosed := by
  have hiff (q : PseudoChannel) : q.allClosed = true ↔ ∀ (i : Nat) (hi : i < 64), q.banks[i].phase = .closed := by
    simp [PseudoChannel.allClosed, Vector.all_eq_true]
  rw [Bool.eq_iff_iff, hiff, hiff]
  simp only [h]

/-- No thread of the channel owes a row. -/
def Channel.owesNothing (h : Channel) : Prop := ∀ x ∈ h.taper.threads, x.owed = []

theorem Taper.revoke_owed {t : Taper} (h : ∀ x ∈ t.threads, x.owed = []) (pcs : BitVec 2) :
    ∀ x ∈ (t.revoke pcs).threads, x.owed = [] := by
  intro x hx
  obtain ⟨y, hy, hxy⟩ := List.mem_filterMap.mp hx
  have hown := h y hy
  split at hxy
  · split at hxy
    · simp at hxy
    · rw [← Option.some.inj hxy]
  · rw [← Option.some.inj hxy, hown]

theorem Channel.revoke_taper (h : Channel) (pcs : BitVec 2) : (h.revoke pcs).taper = h.taper.revoke pcs := by
  have hfold := List.foldlRecOn (motive := fun k : Channel => k.taper = h.taper) (h.taper.threads.filter (·.dependsOn pcs))
    (fun (k : Channel) x => k.updPc x.addr.pc (fun q => q.carry x.owed)) rfl fun k hk x _ => hk
  exact congrArg (·.revoke pcs) hfold

/-- Only the work carried over by a bank, and its debt, may differ; and nothing where no thread owes a row. -/
def CarriedOnly (q r : PseudoChannel) (owesNothing : Prop) : Prop :=
  ∃ b, r = { q with banks := b } ∧ (∀ (i : Nat) (hi : i < 64), b[i].phase = q.banks[i].phase) ∧ (owesNothing → b = q.banks)

theorem CarriedOnly.refl (q : PseudoChannel) (w : Prop) : CarriedOnly q q w := ⟨q.banks, rfl, fun _ _ => rfl, fun _ => rfl⟩

theorem carriedOnly_revoke (h : Channel) (pcs : BitVec 2) (p : Fin 2) :
    CarriedOnly h.pcs[p] (h.revoke pcs).pcs[p] h.owesNothing := by
  obtain ⟨b, e, hb⟩ := h.revoke_pcs pcs p p.isLt
  refine ⟨b, e, fun i hi => ?_, hb⟩
  have hphase := h.revoke_phase pcs p p.isLt i hi
  rw [e] at hphase
  exact hphase

/-- What a write of one bit of QUIESCE makes of its pseudo-channel. -/
structure QuiesceWritten (q r : PseudoChannel) (bit : Bool) (owesNothing : Prop) : Prop where
  quiesce : r.quiesce = bit
  op : r.op = q.op
  asked : bit = true → r.qact = (q.qact || (q.powerDown && q.allClosed))
  released : bit = false → q.op = none → r.qact = false ∧ (q.qact = true → owesNothing → ∀ i : Fin 64, r.banks[i].debt = 0)
  held : bit = false → q.op.isSome = true → q.qact = true → r.qact = true ∧ r.releaseHeld = true

theorem QuiesceWritten.carried {q r r' : PseudoChannel} {bit : Bool} {w : Prop} (h : QuiesceWritten q r bit w)
    (c : CarriedOnly r r' w) : QuiesceWritten q r' bit w := by
  obtain ⟨b, rfl, -, hb⟩ := c
  refine ⟨h.quiesce, h.op, h.asked, fun hf ho => ⟨(h.released hf ho).1, fun hq hw i => ?_⟩, h.held⟩
  rw [hb hw]
  exact (h.released hf ho).2 hq hw i

theorem CarriedOnly.written {q q' r : PseudoChannel} {bit : Bool} {w : Prop} (c : CarriedOnly q q' w)
    (h : QuiesceWritten q' r bit w) : QuiesceWritten q r bit w := by
  obtain ⟨b, rfl, hphase, -⟩ := c
  have hcl := PseudoChannel.allClosed_congr (q := q) (r := { q with banks := b }) hphase
  exact ⟨h.quiesce, h.op, fun hb => by rw [h.asked hb, hcl], h.released, h.held⟩

/-- A write of one bit of QUIESCE. -/
def Channel.writeQuiesce (h : Channel) (bits : BitVec 2) (p : Pc) : Channel :=
  if bits.getLsbD p.val then h.askQuiesce p else h.releaseQuiesce p

theorem Channel.writeMr08_eq (h : Channel) (bits : BitVec 2) : h.writeMr08 bits = (h.writeQuiesce bits 0).writeQuiesce bits 1 := rfl

theorem PseudoChannel.settleQact_frame (q : PseudoChannel) : q.settleQact.quiesce = q.quiesce ∧ q.settleQact.op = q.op := by
  unfold PseudoChannel.settleQact
  split <;> exact ⟨rfl, rfl⟩

theorem quiesceWritten_ask (h : Channel) (p : Pc) (w : Prop) :
    QuiesceWritten h.pcs[p] (h.askQuiesce p).pcs[p] true w := by
  unfold Channel.askQuiesce
  rw [Channel.updPc_self]
  obtain ⟨e1, e2⟩ := PseudoChannel.settleQact_frame { h.pcs[p] with quiesce := true }
  refine ⟨e1, e2, fun _ => ?_, nofun, nofun⟩
  rw [PseudoChannel.settleQact_qact]
  rfl

theorem quiesceWritten_release (h : Channel) (p : Pc) :
    QuiesceWritten h.pcs[p] (h.releaseQuiesce p).pcs[p] false h.owesNothing := by
  unfold Channel.releaseQuiesce
  dsimp only
  split
  · next hq =>
    rw [Channel.updPc_self]
    simp only [Bool.not_eq_true'] at hq
    exact ⟨rfl, rfl, nofun, fun _ _ => ⟨hq, fun h => absurd (hq.symm.trans h) (by decide)⟩,
      fun _ _ h => absurd (hq.symm.trans h) (by decide)⟩
  · next hq =>
    simp only [Bool.not_eq_true', Bool.not_eq_false] at hq
    split
    · next hop =>
      refine QuiesceWritten.carried ?_ (carriedOnly_revoke _ _ p)
      rw [Channel.updPc_self, Channel.updPc_self]
      exact ⟨rfl, rfl, nofun, fun _ h => absurd (h ▸ hop) (by decide), fun _ _ _ => ⟨hq, rfl⟩⟩
    · next hop =>
      unfold Channel.releaseQact
      refine QuiesceWritten.carried ?_ (carriedOnly_revoke _ _ p)
      rw [Channel.updPc_self, Channel.updPc_self]
      have hset : ({ ({ h.pcs[p] with quiesce := false } : PseudoChannel).restartObligation with qact := false, releaseHeld :=
          false } : PseudoChannel).settleQact
          = { ({ h.pcs[p] with quiesce := false } : PseudoChannel).restartObligation with qact := false, releaseHeld := false } := by
        unfold PseudoChannel.settleQact
        rfl
      rw [hset]
      exact ⟨rfl, rfl, nofun, fun _ _ => ⟨rfl, fun _ _ i => PseudoChannel.restartObligation_debt _ i i.isLt⟩, fun _ h => absurd h hop⟩

theorem carriedOnly_releaseQuiesce (h : Channel) {p r : Fin 2} (hr : r ≠ p) :
    CarriedOnly h.pcs[r] (h.releaseQuiesce p).pcs[r] h.owesNothing := by
  unfold Channel.releaseQuiesce Channel.releaseQact
  dsimp only
  split
  · rw [Channel.updPc_other _ _ hr]
    exact .refl ..
  · split
    · have hc := carriedOnly_revoke ((h.updPc p (fun q => { q with quiesce := false })).updPc p (fun q => { q with releaseHeld := true }))
        (pcMask p) r
      rwa [Channel.updPc_other _ _ hr, Channel.updPc_other _ _ hr] at hc
    · have hc := carriedOnly_revoke ((h.updPc p (fun q => { q with quiesce := false })).updPc p
        (fun q => { q.restartObligation with qact := false, releaseHeld := false }.settleQact)) (pcMask p) r
      rwa [Channel.updPc_other _ _ hr, Channel.updPc_other _ _ hr] at hc

theorem Channel.writeQuiesce_owes {h : Channel} (ho : h.owesNothing) (bits : BitVec 2) (p : Pc) :
    (h.writeQuiesce bits p).owesNothing := by
  unfold Channel.writeQuiesce Channel.askQuiesce Channel.releaseQuiesce Channel.releaseQact
  dsimp only
  repeat' split
  · exact ho
  · exact ho
  · rw [Channel.owesNothing, Channel.revoke_taper]
    exact Taper.revoke_owed ho _
  · rw [Channel.owesNothing, Channel.revoke_taper]
    exact Taper.revoke_owed ho _

theorem quiesceWritten_writeQuiesce (h : Channel) (bits : BitVec 2) (p : Fin 2) :
    QuiesceWritten h.pcs[p] (h.writeQuiesce bits p).pcs[p] (bits.getLsbD p) h.owesNothing := by
  unfold Channel.writeQuiesce
  cases hb : bits.getLsbD p
  · exact quiesceWritten_release h p
  · exact quiesceWritten_ask h p _

theorem carriedOnly_writeQuiesce (h : Channel) (bits : BitVec 2) {p r : Fin 2} (hr : r ≠ p) :
    CarriedOnly h.pcs[r] (h.writeQuiesce bits p).pcs[r] h.owesNothing := by
  unfold Channel.writeQuiesce
  split
  · rw [Channel.askQuiesce, Channel.updPc_other _ _ hr]
    exact .refl ..
  · exact carriedOnly_releaseQuiesce h hr

theorem CarriedOnly.mono {q r : PseudoChannel} {w w' : Prop} (c : CarriedOnly q r w) (h : w' → w) : CarriedOnly q r w' := by
  obtain ⟨b, e, hphase, hb⟩ := c
  exact ⟨b, e, hphase, fun hw => hb (h hw)⟩

theorem QuiesceWritten.mono {q r : PseudoChannel} {bit : Bool} {w w' : Prop} (c : QuiesceWritten q r bit w) (h : w' → w) :
    QuiesceWritten q r bit w' :=
  ⟨c.quiesce, c.op, c.asked, fun hf ho => ⟨(c.released hf ho).1, fun hq hw => (c.released hf ho).2 hq (h hw)⟩, c.held⟩

theorem quiesceWritten_writeMr08 (h : Channel) (bits : BitVec 2) (p : Fin 2) :
    QuiesceWritten h.pcs[p] (h.writeMr08 bits).pcs[p] (bits.getLsbD p) h.owesNothing := by
  rw [Channel.writeMr08_eq]
  have howes (hw : h.owesNothing) : (h.writeQuiesce bits 0).owesNothing := Channel.writeQuiesce_owes hw bits 0
  match p with
  | 0 => exact (quiesceWritten_writeQuiesce h bits 0).carried ((carriedOnly_writeQuiesce _ bits (by decide)).mono howes)
  | 1 => exact (carriedOnly_writeQuiesce h bits (by decide)).written ((quiesceWritten_writeQuiesce _ bits 1).mono howes)

end Sys2Proof.Machine


namespace Sys2Proof.Machine
open Sys2Proof.Safety

/-! # A change of ADAPT_EN (R69, R117, R229) -/

/-- Of one pseudo-channel nothing but what it holds of its map differs. -/
def MapAlone (q r : PseudoChannel) : Prop :=
  r = { q with mapState := r.mapState, bins := r.bins, weak := r.weak, lostMap := r.lostMap }

theorem MapAlone.refl (q : PseudoChannel) : MapAlone q q := rfl

theorem MapAlone.trans {q r t : PseudoChannel} (h : MapAlone q r) (h' : MapAlone r t) : MapAlone q t := by
  rw [MapAlone, h', h]

/-- Of a channel nothing but the maps of its pseudo-channels and its Taper differs. -/
structure MapsAlone (h k : Channel) : Prop where
  chan : k = { h with pcs := k.pcs, taper := k.taper }
  pcs : ∀ p : Fin 2, MapAlone h.pcs[p] k.pcs[p]

theorem MapsAlone.refl (h : Channel) : MapsAlone h h := ⟨rfl, fun _ => .refl _⟩

theorem MapsAlone.trans {h k m : Channel} (e : MapsAlone h k) (e' : MapsAlone k m) : MapsAlone h m :=
  ⟨by rw [e'.chan, e.chan], fun p => (e.pcs p).trans (e'.pcs p)⟩

theorem mapsAlone_updPc (h : Channel) (p : Pc) {f : PseudoChannel → PseudoChannel} (hf : MapAlone h.pcs[p] (f h.pcs[p])) :
    MapsAlone h (h.updPc p f) := by
  refine ⟨rfl, fun q => ?_⟩
  rw [Channel.updPc_at]
  split
  · next e => subst e; exact hf
  · exact .refl _

/-- A machine of which at most the maps of one channel differ. -/
structure MapChange (s t : State) (c : Ch) : Prop where
  dens : t.dens = s.dens
  chan : MapsAlone s.chans[c] t.chans[c]
  other : ∀ d : Ch, d ≠ c → t.chans[d] = s.chans[d]

theorem MapChange.trans {s t u : State} {c : Ch} (h : MapChange s t c) (h' : MapChange t u c) : MapChange s u c :=
  ⟨h'.dens.trans h.dens, h.chan.trans h'.chan, fun d hd => (h'.other d hd).trans (h.other d hd)⟩

theorem MapChange.of_chans {s t : State} {c : Ch} (hd : t.dens = s.dens) (hc : t.chans = s.chans) : MapChange s t c :=
  ⟨hd, by rw [hc]; exact .refl _, fun d _ => by rw [hc]⟩

theorem mapChange_updCh {s : State} {c : Ch} {f : Channel → Channel} (hf : MapsAlone s.chans[c] (f s.chans[c])) :
    MapChange s (s.updCh c f) c :=
  ⟨rfl, by rw [State.updCh_self]; exact hf, fun d hd => State.updCh_other s f hd⟩

theorem mapChange_postImage (s : State) (c : Ch) (x : Transfer) : MapChange s (s.postImage c x) c :=
  mapChange_updCh ⟨rfl, fun _ => .refl _⟩

theorem mapChange_reportMapState (s : State) (c : Ch) (p : Pc) (old new : MapState) :
    MapChange s (s.reportMapState c p old new) c := by
  unfold State.reportMapState
  split
  · exact .of_chans rfl rfl
  · exact .of_chans (by simp [State.ledgerEvent]) (by simp [State.ledgerEvent])

theorem mapChange_takeMapState (s : State) (c : Ch) (p : Pc) (m : MapState) : MapChange s (s.takeMapState c p m) c := by
  have hpc : MapChange s (s.updPc c p (fun q => { q with mapState := m })) c := mapChange_updCh (mapsAlone_updPc _ p rfl)
  unfold State.takeMapState
  split
  · exact hpc.trans (.of_chans rfl rfl)
  · exact hpc.trans (.of_chans rfl rfl)
  · exact hpc.trans (.of_chans rfl rfl)
  · exact hpc

theorem mapChange_setMapState (s : State) (c : Ch) (p : Pc) (m : MapState) : MapChange s (s.setMapState c p m) c := by
  unfold State.setMapState
  dsimp only
  split
  · exact .of_chans rfl rfl
  · exact (mapChange_takeMapState ..).trans (mapChange_reportMapState ..)

theorem mapChange_startMapLoad (s : State) (c : Ch) (p : Pc) (m : MapImage) (old : Option MapState) :
    MapChange s (s.startMapLoad c p m old) c := by
  have hfirst : MapChange s (s.updPc c p (fun q => { q with mapState := .fallback, bins := [], weak := [], lostMap := [] })) c :=
    mapChange_updCh (mapsAlone_updPc _ p rfl)
  have hrows := List.foldlRecOn (motive := fun t => MapChange s t c) (List.range 128)
    (fun (t : State) row => t.postImage c (.map p row (m.rowBytes row))) hfirst
    fun t ht row _ => ht.trans (mapChange_postImage ..)
  exact hrows.trans (mapChange_postImage ..)

theorem mapChange_takeUpMap (s : State) (c : Ch) (p : Pc) (old : Option MapState) : MapChange s (s.takeUpMap c p old) c := by
  have hpc : MapChange s (s.updPc c p (fun q => { q with bins := [], weak := [], lostMap := [] })) c :=
    mapChange_updCh (mapsAlone_updPc _ p rfl)
  unfold State.takeUpMap
  split
  · exact mapChange_startMapLoad ..
  · dsimp only
    split
    · exact (hpc.trans (mapChange_takeMapState ..)).trans (mapChange_reportMapState ..)
    · exact hpc.trans (mapChange_takeMapState ..)

theorem State.takeMapState_chans (s : State) (c : Ch) (p : Pc) (m : MapState) :
    (s.takeMapState c p m).chans = (s.updPc c p (fun q => { q with mapState := m })).chans := by
  unfold State.takeMapState
  split <;> rfl

theorem State.reportMapState_chans (s : State) (c : Ch) (p : Pc) (old new : MapState) :
    (s.reportMapState c p old new).chans = s.chans := by
  unfold State.reportMapState
  split
  · rfl
  · simp [State.ledgerEvent]

theorem State.setMapState_chan (s : State) (c : Ch) (p : Pc) (m : MapState) :
    (s.setMapState c p m).chans[c] = s.chans[c].updPc p (fun q => { q with mapState := m }) := by
  unfold State.setMapState
  dsimp only
  split
  · next h => exact (s.chans[c].updPc_of_eq p (f := fun q => { q with mapState := m }) (by rw [← h])).symm
  · simp only [State.reportMapState_chans, State.takeMapState_chans]
    exact State.updCh_self ..

/-! ## The reserved rows are cleared -/

theorem memFind_filter (m : List Host.Cell) (f : Nat → Bool) (a : Nat) :
    memFind (m.filter (fun e => f e.1)) a = if f a then memFind m a else none := by
  have hfind (l : List Host.Cell) : (l.filter (fun e => f e.1)).find? (fun e => e.1 == a)
      = if f a then l.find? (fun e => e.1 == a) else none := by
    induction l with
    | nil => simp
    | cons e l ih =>
      by_cases he : e.1 = a
      · subst he
        cases hf : f e.1
        · rw [List.filter_cons_of_neg (by simp [hf]), ih, hf]
          rfl
        · simp [hf]
      · cases hf : f e.1
        · rw [List.filter_cons_of_neg (by simp [hf]), ih, List.find?_cons_of_neg (by simp [he])]
        · rw [List.filter_cons_of_pos (by exact hf), List.find?_cons_of_neg (by simp [he]), ih, List.find?_cons_of_neg (by simp [he])]
  unfold memFind
  rw [hfind]
  cases f a <;> rfl

/-- An access is reserved where its background is that of the reserved rows. -/
theorem PseudoChannel.background_eq (q : PseudoChannel) (rows n : Nat) : q.background rows n
    = if accessSpare n then q.backSpare else if accessReserved rows n then q.backRsv else q.back[(accessOf n).1] := by
  unfold PseudoChannel.background accessReserved
  cases accessSpare n <;> simp

theorem accessByte_zero (managed : Bool) (n k : Nat) : accessByte (patternData 0 n) (patternCheck 0 managed n) k = 0 := by
  have hd : patternData 0 n = 0 := rfl
  have hc : patternCheck 0 managed n = 0 := by cases managed <;> rfl
  rw [hd, hc]
  unfold accessByte
  split <;> simp

theorem accessSpare_of_reserved {rows n : Nat} (h : accessReserved rows n = true) : accessSpare n = false := by
  unfold accessReserved at h
  simp_all

theorem PseudoChannel.fillReserved_readByte (q : PseudoChannel) (rows a : Nat) (managed : Bool) :
    (q.fillReserved rows (.pattern 0 managed)).readByte rows a
      = if accessReserved rows (a / 72) then 0 else q.readByte rows a := by
  unfold PseudoChannel.readByte
  rw [PseudoChannel.background_eq, PseudoChannel.background_eq]
  unfold PseudoChannel.fillReserved
  dsimp only
  rw [memFind_filter q.dram (fun n => !accessReserved rows (n / 72)) a]
  cases hr : accessReserved rows (a / 72)
  · simp
  · simpa [accessSpare_of_reserved hr] using accessByte_zero managed _ _

/-- A change of ADAPT_EN that may take effect is to 1 or to 0. -/
theorem execAdaptChangeApply_eq {s : State} {c : Ch} (hne : s.chans[c].regs.adaptEn ≠ s.chans[c].regs.adaptAct)
    (hfree : ∀ p : Pc, s.chans[c].pcs[p].qact = true ∧ s.chans[c].pcs[p].op = none) :
    exec (.adaptChangeApply c) s = if s.chans[c].regs.adaptEn then
        .next (((s.updCh c (fun k => (k.updRegs (fun r => { r with adaptAct := true })).updPcs (fun q =>
          (q.cancelBatch s.rows).blindLap s.rows))).takeUpMap c 0 (some s.chans[c].pcs[0].mapState)).takeUpMap c 1
          (some s.chans[c].pcs[1].mapState))
      else .next (s.updCh c (fun k =>
        let k1 := (k.updRegs (fun r => { r with clearing := 3 })).updPcs (fun q =>
          { q.cancelBatch s.rows with op := some .clearing, restores := [] })
        (k1.eventThread (s.haltMaint c) 50 (pcAddr 0) (some (pcLease 0)) []).eventThread (s.haltMaint c) 50 (pcAddr 1)
          (some (pcLease 1)) [])) := by
  have h0 := hfree 0
  have h1 := hfree 1
  change execAdaptChangeApply c s = _
  unfold execAdaptChangeApply
  dsimp only
  rw [if_neg]
  simp_all

theorem MapAlone.banks {q r : PseudoChannel} (h : MapAlone q r) : r.banks = q.banks := by rw [h]

theorem MapAlone.op {q r : PseudoChannel} (h : MapAlone q r) : r.op = q.op := by rw [h]

theorem MapAlone.filled {q r : PseudoChannel} (h : MapAlone q r) : r.filled = q.filled := by rw [h]

theorem MapAlone.sameCells {q r : PseudoChannel} (h : MapAlone q r) : SameCells q r := by
  rw [h]
  exact ⟨rfl, rfl, rfl, rfl⟩

theorem MapsAlone.regs {h k : Channel} (e : MapsAlone h k) : k.regs = h.regs := by rw [e.chan]

theorem QuiesceAlone.filled {q r : PseudoChannel} (h : QuiesceAlone q r) : r.filled = q.filled := by rw [h]

/-- The operations of both pseudo-channels end. -/
theorem quiesceAlone_opEnds_both (h : Channel) (p : Fin 2) :
    QuiesceAlone { h.pcs[p] with op := none } ((h.opEnds 0).opEnds 1).pcs[p] := by
  obtain ⟨-, e0⟩ := releaseAlone_opEnds h 0
  obtain ⟨-, e1⟩ := releaseAlone_opEnds (h.opEnds 0) 1
  match p with
  | 0 =>
    have h0 := e0 0
    have h1 := e1 0
    rw [Channel.updPc_self] at h0
    rw [Channel.updPc_other _ _ (by decide)] at h1
    exact h0.trans h1
  | 1 =>
    have h0 := e0 1
    have h1 := e1 1
    rw [Channel.updPc_other _ _ (by decide)] at h0
    rw [Channel.updPc_self] at h1
    refine QuiesceAlone.trans ?_ h1
    rw [QuiesceAlone, h0]

theorem opEnds_both_regs (h : Channel) : ((h.opEnds 0).opEnds 1).regs = h.regs := by
  rw [(releaseAlone_opEnds (h.opEnds 0) 1).1, (releaseAlone_opEnds h 0).1]
  rfl

/-- The channel whose reserved rows have been cleared. -/
def Channel.reservedCleared (h : Channel) (rows : Nat) : Channel :=
  let h1 := (h.updRegs (fun r => { r with clearing := 0, adaptAct := false })).updPcs (fun p =>
    { p.fillReserved rows (.pattern 0 p.managed) with bins := [], weak := [], lostMap := [] })
  ((h1.updTaper (fun t => (t.endEntry 50 0).endEntry 50 1)).opEnds 0).opEnds 1

theorem Channel.reservedCleared_regs (h : Channel) (rows : Nat) :
    (h.reservedCleared rows).regs = { h.regs with clearing := 0, adaptAct := false } := opEnds_both_regs _

theorem Channel.reservedCleared_pc (h : Channel) (rows : Nat) (p : Fin 2) : QuiesceAlone
    { h.pcs[p].fillReserved rows (.pattern 0 h.pcs[p].managed) with bins := [], weak := [], lostMap := [], op := none }
    (h.reservedCleared rows).pcs[p] := by
  have hq := quiesceAlone_opEnds_both (((h.updRegs (fun r => { r with clearing := 0, adaptAct := false })).updPcs (fun p =>
    { p.fillReserved rows (.pattern 0 p.managed) with bins := [], weak := [], lostMap := [] })).updTaper
      (fun t => (t.endEntry 50 0).endEntry 50 1)) p
  simp only [Channel.updTaper, Channel.updPcs, Fin.getElem_fin, Vector.getElem_map] at hq
  exact hq

theorem execReservedRowClearDone_eq {s : State} {c : Ch} (h : s.chans[c].regs.clearing ≠ 0) : exec (.reservedRowClearDone c) s
    = .next (((s.updCh c (·.reservedCleared s.rows)).setMapState c 0 .disabled).setMapState c 1 .disabled) := by
  change execReservedRowClearDone c s = _
  unfold execReservedRowClearDone
  rw [if_neg h]
  rfl

/-- Settles O15: a write of QUIESCE bit by bit; a change of ADAPT_EN, and the end of the clearing, by the states they answer. -/
theorem quiesceAndAdaptiveRefresh : Obligations.QuiesceAndAdaptiveRefresh := by
  refine ⟨fun c bits ok s ht => ?_, fun c s hne hfree => ?_, fun c s hcl => ?_⟩
  · obtain ⟨hnum, hmem⟩ := mrwCommand_leaves ht 8 (bits.setWidth 16)
    have e := mrwCommand_updCh (ma := 8) (v := bits.setWidth 16) ht fun _ => State.mrWrite_8 rfl
    have hb : (bits.setWidth 16).extractLsb' 0 2 = bits := by
      ext i hi
      interval_cases i <;> simp
    refine ⟨_, rfl, hnum, e ▸ onlyChannel_updCh .., hmem, fun p => ?_⟩
    rw [e, State.updCh_self, hb]
    have hw := quiesceWritten_writeMr08 (s.chans[c].taking s.timeUs mrwRecord ok) bits p
    rw [Channel.taking_mrw_pcs] at hw
    have howes (h : nothingOwed s c) : (s.chans[c].taking s.timeUs mrwRecord ok).owesNothing := by
      rw [Channel.owesNothing, Channel.taking_taper]
      exact Taper.hosts_owed h _
    exact ⟨hw.quiesce, hw.op, hw.asked, fun h ho => ⟨(hw.released h ho).1, fun hq hn => (hw.released h ho).2 hq (howes hn)⟩, hw.held⟩
  · rw [execAdaptChangeApply_eq hne hfree]
    cases hen : s.chans[c].regs.adaptEn
    · refine ⟨_, rfl, memKept_updCh_cells (by simp), nofun, fun _ => ⟨onlyChannel_updCh .., ?_, ?_, fun p => ?_⟩⟩
      · rw [State.updCh_self, (Channel.eventThread_frame ..).1, (Channel.eventThread_frame ..).1]
        rfl
      · rw [State.updCh_self, (Channel.eventThread_frame ..).1, (Channel.eventThread_frame ..).1]
        exact Bool.eq_true_of_not_eq_false fun h => hne (hen.trans h.symm)
      · rw [State.updCh_self, Channel.eventThread_pcs, Channel.eventThread_pcs]
        simp [Channel.updPcs]
    · refine ⟨_, rfl, memKept_of_cells (by simp), fun _ => ?_, nofun⟩
      have hm := (mapChange_takeUpMap (s.updCh c (fun k => (k.updRegs (fun r => { r with adaptAct := true })).updPcs (fun q =>
          (q.cancelBatch s.rows).blindLap s.rows))) c 0 (some s.chans[c].pcs[0].mapState)).trans
        (mapChange_takeUpMap _ c 1 (some s.chans[c].pcs[1].mapState))
      refine ⟨?_, fun p i => ?_⟩
      · rw [hm.chan.regs, State.updCh_self]
        rfl
      · rw [(hm.chan.pcs p).banks, State.updCh_self]
        simp [Channel.updPcs, PseudoChannel.blindLap, PseudoChannel.updBanks]
  · refine ⟨_, execReservedRowClearDone_eq hcl, ?_⟩
    generalize hu : s.updCh c (·.reservedCleared s.rows) = u
    have hchan : u.chans[c] = s.chans[c].reservedCleared s.rows := by rw [← hu, State.updCh_self]
    have hm := (mapChange_setMapState u c 0 .disabled).trans (mapChange_setMapState _ c 1 .disabled)
    have hstate (p : Fin 2) : ((u.setMapState c 0 .disabled).setMapState c 1 .disabled).chans[c].pcs[p].mapState = .disabled := by
      rw [State.setMapState_chan, State.setMapState_chan]
      match p with
      | 0 => rw [Channel.updPc_other _ _ (by decide), Channel.updPc_self]
      | 1 => rw [Channel.updPc_self]
    have hdens : u.dens = s.dens := by rw [← hu]; rfl
    have hother (d : Ch) (hd : d ≠ c) : u.chans[d] = s.chans[d] := by rw [← hu, State.updCh_other s _ hd]
    generalize (u.setMapState c 0 .disabled).setMapState c 1 .disabled = t at hm hstate
    have hregs := hm.chan.regs
    rw [hchan, Channel.reservedCleared_regs] at hregs
    refine ⟨fun d hd => ?_, by rw [hregs], by rw [hregs], fun p => ?_⟩
    · rw [hm.other d hd, hother d hd]
    · have hpc := hm.chan.pcs p
      have hq := s.chans[c].reservedCleared_pc s.rows p
      rw [hchan] at hpc
      refine ⟨hstate p, by rw [hpc.op, hq.op_eq], by rw [hpc.filled, hq.filled]; rfl, fun a => ?_⟩
      have hrows : t.rows = s.rows := by simp only [State.rows, hm.dens, hdens]
      rw [hrows, (hq.sameCells.trans hpc.sameCells).readByte, ← PseudoChannel.fillReserved_readByte _ _ _ s.chans[c].pcs[p].managed]
      rfl

end Sys2Proof.Machine


namespace Sys2Proof.Machine

open Sys2Proof.Safety

/-! # Events of a channel: timers and fills -/

theorem Channel.applyTargets_frame (h : Channel) (run : Bool) (pcs : BitVec 2) :
    (h.applyTargets run pcs).pcs = h.pcs ∧ (h.applyTargets run pcs).intake = h.intake := by
  unfold Channel.applyTargets
  split <;> exact ⟨rfl, rfl⟩

theorem Channel.dropLane_frame (h : Channel) (u : Fin 6) (n : Nat) :
    (h.dropLane u n).pcs = h.pcs ∧ (h.dropLane u n).intake = h.intake := by
  unfold Channel.dropLane
  split <;> exact ⟨rfl, rfl⟩

theorem Channel.applyMap_frame (h : Channel) (reg : Fin 5) (w : Word32) :
    (h.applyMap reg w).pcs = h.pcs ∧ (h.applyMap reg w).intake = h.intake := by
  unfold Channel.applyMap
  dsimp only
  repeat' split
  all_goals simp only [Channel.dropLane_frame, and_self]

theorem Channel.applyArmed_frame (h : Channel) : h.applyArmed.pcs = h.pcs ∧ h.applyArmed.intake = h.intake := by
  refine List.foldlRecOn (motive := fun k : Channel => k.pcs = h.pcs ∧ k.intake = h.intake) (List.finRange 5) _ ⟨rfl, rfl⟩
    fun k hk reg _ => ?_
  split
  · next w _ =>
    obtain ⟨e1, e2⟩ := Channel.applyMap_frame { k with map := k.map.disarm reg } reg w
    exact ⟨e1.trans hk.1, e2.trans hk.2⟩
  · exact hk

/-- The precharge timer of a closing bank. -/
theorem exec_prechargeTimerExpiry {s : State} {c : Ch} {p : Pc} {sid : Sid} {bg : Bg} {ba : Ba} {r : Row} {v : Bool}
    (hp : s.chans[c].pcs[p].banks[bankIx sid bg ba].phase = .closing r v) :
    exec (.prechargeTimerExpiry c p sid bg ba) s = .next (s.updCh c (fun h =>
      let h1 := h.updPc p (fun q =>
        (q.updBank (bankIx sid bg ba) (fun b => { b with phase := .closed, postedPre := false })).settleQact)
      if s.chans[c].pcs[p].banks[bankIx sid bg ba].postedPre then h1.send (preFrame p sid bg ba true) else h1)) := by
  change execPrechargeTimerExpiry c p sid bg ba s = _
  unfold execPrechargeTimerExpiry
  rw [hp]
  exact congrArg Host.Outcome.next (State.updCh_congr rfl)

theorem PseudoChannel.updBank_phase (q : PseudoChannel) (i j : Fin 64) (f : Bank → Bank) :
    (q.updBank i f).banks[j].phase = if j = i then (f q.banks[i]).phase else q.banks[j].phase := by
  by_cases h : j = i
  · subst h
    rw [if_pos rfl, PseudoChannel.updBank_self]
  · rw [if_neg h, PseudoChannel.updBank_other _ _ h]

/-- A fill that completes. -/
theorem exec_fillComplete {s : State} {c : Ch} {p : Pc} (h : s.chans[c].pcs[p].op = some .fill) : exec (.fillComplete c p) s
    = .next (s.updCh c (fun h => (((h.updPc p (fun q => { s.filledWith h q q.fillPat with fillBusy := false, filled := true })).lapsAfter h
        s.timeUs).updTaper (·.endEntry 44 p)).opEnds p)) := by
  change execFillComplete c p s = _
  unfold execFillComplete
  rw [if_neg (by rw [h]; decide)]

theorem State.sidMask_present (s : State) (sid : Sid) : s.sidMask.getLsbD sid.val = s.sidPresent sid := by
  have hs : s.sids = 1 ∨ s.sids = 2 ∨ s.sids = 3 ∨ s.sids = 4 := by
    have := s.layers.isLt
    unfold State.sids
    omega
  unfold State.sidMask State.sidPresent
  rcases hs with h | h | h | h <;> rw [h] <;> revert sid <;> decide

/-- What an access that a fill writes then reads as (R112, Table 4-7). -/
theorem State.filledWith_readByte (s : State) (h : Channel) (q : PseudoChannel) (pat : BitVec 4) (a : Nat)
    (hsid : s.sidPresent (accessOf (a / 72)).1 = true) (hsp : accessSpare (a / 72) = false)
    (hr : ¬(h.regs.adaptAct = true ∧ accessReserved s.rows (a / 72) = true)) :
    (s.filledWith h q pat).readByte s.rows a
      = accessByte (patternData pat (a / 72)) (patternCheck pat q.managed (a / 72)) (a % 72) := by
  have hmask := (s.sidMask_present (accessOf (a / 72)).1).trans hsid
  have hfind : memFind (s.filledWith h q pat).dram a = none := by
    refine (memFind_filter q.dram (fun n => !(s.sidMask.getLsbD (accessOf (n / 72)).1.val)
      || (h.regs.adaptAct && accessReserved s.rows (n / 72)) || accessSpare (n / 72)) a).trans ?_
    rw [hmask, hsp]
    cases had : h.regs.adaptAct <;> cases hres : accessReserved s.rows (a / 72) <;> simp_all
  have hback : (s.filledWith h q pat).background s.rows (a / 72) = .pattern pat q.managed := by
    rw [PseudoChannel.background_eq, hsp]
    unfold State.filledWith PseudoChannel.fillAll
    dsimp only
    cases hres : accessReserved s.rows (a / 72)
    · simp [hmask]
    · have h0 : (accessOf (a / 72)).1 = 0 := by
        unfold accessReserved at hres
        simp_all
      have hm : s.sidMask.getLsbD 0 = true := by
        rw [h0] at hmask
        exact hmask
      simp_all
  unfold PseudoChannel.readByte
  rw [hfind, hback]

/-- Settling QACT leaves of every bank its state and its posted precharge. -/
theorem PseudoChannel.settleQact_bank (q : PseudoChannel) (i : Fin 64) :
    q.settleQact.banks[i].phase = q.banks[i].phase ∧ q.settleQact.banks[i].postedPre = q.banks[i].postedPre := by
  unfold PseudoChannel.settleQact PseudoChannel.restartObligation PseudoChannel.updBanks
  split <;> simp

/-- The end of an LMW window of LEN CK (R87, R201, R316). -/
def Channel.endWindow (h : Channel) (run ready : Bool) (len : BitVec 2) : Channel :=
  let h1 : Channel := { (h.updPcs (fun p => { p with drive := .idle })) with
    intake := { h.intake with
      lmw := none, gathered := h.intake.gathered + (if run && ready then lmwLength len / 2 - 2 else 0) }
    taper := h.taper.endEntry 47 0 }
  (if run then h1.applyArmed else h1).applyTargets run 3

theorem Channel.endWindow_frame (h : Channel) (run ready : Bool) (len : BitVec 2) :
    (h.endWindow run ready len).pcs = h.pcs.map (fun p => { p with drive := .idle })
      ∧ (h.endWindow run ready len).intake = { h.intake with
        lmw := none, gathered := h.intake.gathered + (if run && ready then lmwLength len / 2 - 2 else 0) } := by
  unfold Channel.endWindow
  dsimp only
  rw [(Channel.applyTargets_frame ..).1, (Channel.applyTargets_frame ..).2]
  split
  · rw [(Channel.applyArmed_frame _).1, (Channel.applyArmed_frame _).2]
    exact ⟨rfl, rfl⟩
  · exact ⟨rfl, rfl⟩

theorem Channel.endWindow_intake (h : Channel) (run ready : Bool) (len : BitVec 2) :
    (h.endWindow run ready len).intake = { h.intake with
      lmw := none, gathered := h.intake.gathered + (if run && ready then lmwLength len / 2 - 2 else 0) } :=
  (h.endWindow_frame run ready len).2

theorem Channel.endWindow_pc (h : Channel) (run ready : Bool) (len : BitVec 2) (p : Fin 2) :
    (h.endWindow run ready len).pcs[p] = { h.pcs[p] with drive := .idle } := by
  rw [(h.endWindow_frame run ready len).1]
  simp

theorem PseudoChannel.lapAfter_fills (q old : PseudoChannel) (now : Nat) : SameCells q (q.lapAfter old now)
    ∧ (q.lapAfter old now).filled = q.filled ∧ (q.lapAfter old now).fillBusy = q.fillBusy := by
  unfold PseudoChannel.lapAfter
  split <;> exact ⟨⟨rfl, rfl, rfl, rfl⟩, rfl, rfl⟩

theorem QuiesceAlone.fillBusy {q r : PseudoChannel} (h : QuiesceAlone q r) : r.fillBusy = q.fillBusy := by rw [h]

/-- Settles O17: each timer and the fill by the state it answers. -/
theorem fillsAndChannelTimers : Obligations.FillsAndChannelTimers := by
  refine ⟨fun c p s => ⟨fun sid bg ba r v hp => ?_, fun len hlen => ?_, fun hpol => ?_, ?_⟩, fun c p s hop => ?_⟩
  · refine ⟨_, exec_prechargeTimerExpiry hp, onlyChannel_updCh .., memKept_updCh_cells (by split <;> simp), ?_⟩
    rw [State.updCh_self]
    dsimp only
    have hpc (h : Channel) : (if s.chans[c].pcs[p].banks[bankIx sid bg ba].postedPre then h.send (preFrame p sid bg ba true)
        else h).pcs = h.pcs := by
      split <;> rfl
    rw [hpc, Channel.updPc_self]
    refine ⟨?_, ?_, fun hpost => ?_, fun i hi => ?_⟩
    · rw [(PseudoChannel.settleQact_bank ..).1, PseudoChannel.updBank_phase, if_pos rfl]
    · rw [(PseudoChannel.settleQact_bank ..).2, PseudoChannel.updBank_self]
    · rw [if_pos hpost]
      rfl
    · rw [(PseudoChannel.settleQact_bank ..).1, PseudoChannel.updBank_phase, if_neg hi]
  · have e : exec (.lmwWindowEnd c) s = .next (s.updCh c (·.endWindow (s.wick.state == .run) s.mgmt.ready len)) :=
      congrArg Host.Outcome.next (State.updCh_congr (by rw [hlen]; rfl))
    have hpcs (p : Fin 2) := s.chans[c].endWindow_pc (s.wick.state == .run) s.mgmt.ready len p
    refine ⟨_, e, onlyChannel_updCh .., memKept_of_sameCells rfl fun d q => ?_, ?_, ?_, ?_, fun q i => ?_⟩
    · by_cases hd : d = c
      · subst hd
        rw [State.updCh_self, hpcs]
        exact ⟨rfl, rfl, rfl, rfl⟩
      · rw [State.updCh_other s _ hd]
        exact .refl _
    · rw [State.updCh_self, Channel.endWindow_intake]
    · rw [State.updCh_self, Channel.endWindow_intake]
    · rw [State.updCh_self, hpcs]
    · rw [State.updCh_self, hpcs]
  · have e : exec (.idleGap c p) s = .next (s.updCh c (fun h =>
        ((h.updPc p (fun q => { q with idleGap := true })).applyTargets (s.wick.state == .run) (pcMask p)).eventThread
          (s.haltMaint c) 46 (pcAddr p) none [])) :=
      congrArg Host.Outcome.next (State.updCh_congr (by rw [if_pos hpol]))
    refine ⟨_, e, onlyChannel_updCh .., memKept_updCh_cells (by simp), ?_, fun q i => ?_⟩
    · rw [State.updCh_self, Channel.eventThread_pcs, (Channel.applyTargets_frame ..).1, Channel.updPc_self]
    · rw [State.updCh_self, Channel.eventThread_pcs, (Channel.applyTargets_frame ..).1, Channel.updPc_at]
      split <;> rfl
  · refine ⟨_, rfl, onlyChannel_updCh .., memKept_of_cells (by simp), ?_, ?_, fun q i => ?_⟩
    · rw [State.updPc_at]
    · rw [State.updPc_at]
    · rw [State.updPc, State.updCh_self, Channel.updPc_at]
      split <;> rfl
  · refine ⟨_, exec_fillComplete hop, onlyChannel_updCh .., ?_⟩
    have hrows (f : Channel → Channel) : (s.updCh c f).rows = s.rows := rfl
    rw [State.updCh_self, hrows]
    generalize hk : (((s.chans[c].updPc p (fun q => { s.filledWith s.chans[c] q q.fillPat with fillBusy := false, filled :=
        true })).lapsAfter
      s.chans[c] s.timeUs).updTaper (·.endEntry 44 p)) = k
    have hq := (releaseAlone_opEnds k p).2 p
    have hkp : k.pcs[p] = ({ s.filledWith s.chans[c] s.chans[c].pcs[p] s.chans[c].pcs[p].fillPat with
        fillBusy := false, filled := true } : PseudoChannel).lapAfter s.chans[c].pcs[p] s.timeUs := by
      rw [← hk]
      refine (Channel.lapsAfter_pc _ _ _ p).trans ?_
      rw [Channel.updPc_self]
    rw [Channel.updPc_self, hkp] at hq
    generalize hf : ({ s.filledWith s.chans[c] s.chans[c].pcs[p] s.chans[c].pcs[p].fillPat with
        fillBusy := false, filled := true } : PseudoChannel) = f at hq
    obtain ⟨hlap, hfilled, hbusy⟩ := f.lapAfter_fills s.chans[c].pcs[p] s.timeUs
    generalize f.lapAfter s.chans[c].pcs[p] s.timeUs = l at hq hlap hfilled hbusy
    have hcells : SameCells f (k.opEnds p).pcs[p] :=
      (hlap.trans (r := l) (t := { l with op := none }) ⟨rfl, rfl, rfl, rfl⟩).trans hq.sameCells
    refine ⟨by rw [hq.filled]; exact hfilled.trans (by rw [← hf]), by rw [hq.fillBusy]; exact hbusy.trans (by rw [← hf]),
      hq.op_eq, fun a hsid hsp hr => ?_⟩
    rw [hcells.readByte s.rows a, ← s.filledWith_readByte s.chans[c] s.chans[c].pcs[p] _ a hsid hsp hr, ← hf]
    rfl

end Sys2Proof.Machine


namespace Sys2Proof.Machine

open Sys2Proof.Safety

/-! # The data path: writes -/

/-! ## The bytes of an access -/

theorem PseudoChannel.readByte_of_or {q : PseudoChannel} {rows a : Nat} {x : Byte}
    (h : (memFind q.dram a).or (q.unlisted rows a) = some x) : q.readByte rows a = x := by
  unfold PseudoChannel.unlisted Background.byte at h
  unfold PseudoChannel.readByte
  cases hm : memFind q.dram a with
  | some b => simpa [hm] using h
  | none =>
    rw [hm, Option.none_or] at h
    cases hb : q.background rows (a / 72) with
    | unwritten e => simp [hb] at h
    | pattern pat managed => simpa [hb] using h

/-- A write of an access stores its 72 bytes and no other. -/
theorem PseudoChannel.writeAccess_readByte (q : PseudoChannel) (rows n : Nat) (data : BitVec 512) (check : BitVec 64) (a : Nat) :
    (q.writeAccess rows n data check).readByte rows a
      = if a / 72 = n then accessByte data check (a % 72) else q.readByte rows a := by
  have hlen : ((List.range 72).map (accessByte data check)).length = 72 := by simp
  split
  · next h =>
    refine PseudoChannel.readByte_of_or ?_
    have hat := memPutAll_at (u := q.unlisted rows) (m := q.dram) (a := byteAddr n 0) ((List.range 72).map (accessByte data check))
      (a % 72) (by rw [hlen]; omega)
    rw [show byteAddr n 0 + a % 72 = a by unfold byteAddr; omega] at hat
    refine hat.trans ?_
    simp
  · next h =>
    have hother := memPutAll_other (u := q.unlisted rows) (m := q.dram) (a := byteAddr n 0) (b := a)
      ((List.range 72).map (accessByte data check)) (by rw [hlen]; unfold byteAddr; omega)
    unfold PseudoChannel.readByte
    rw [show (q.writeAccess rows n data check).dram
      = memPutAll (q.unlisted rows) q.dram (byteAddr n 0) ((List.range 72).map (accessByte data check)) from rfl, hother]
    rfl

theorem PseudoChannel.storeAccess_readByte (q : PseudoChannel) (rows n : Nat) (data : BitVec 512) (check : BitVec 64) (a : Nat) :
    (q.storeAccess rows n data check).readByte rows a
      = if a / 72 = n then accessByte data check (a % 72) else q.readByte rows a :=
  q.writeAccess_readByte rows n data check a

/-- The SID, bank, row and column of an access. -/
theorem accessOf_accessNo (sid : Sid) (bank : Fin 16) (row : Row) (col : Col) :
    accessOf (accessNo sid bank row col) = (sid, bank, row, col) := by
  have h1 := sid.isLt
  have h2 := bank.isLt
  have h3 := row.isLt
  have h4 := col.isLt
  unfold accessOf accessNo
  refine Prod.ext (Fin.ext ?_) (Prod.ext (Fin.ext ?_) (Prod.ext (BitVec.eq_of_toNat_eq ?_) (BitVec.eq_of_toNat_eq ?_)))
  · dsimp only
    omega
  · dsimp only
    omega
  · rw [BitVec.toNat_ofNat]
    dsimp only
    omega
  · rw [BitVec.toNat_ofNat]
    dsimp only
    omega

/-! ## Slips, failed writes and write staging -/

section
variable {s : State} {c : Ch} (hg : s.isGated c = false)
include hg

theorem State.setCause_eq (n : Nat) : s.setCause c n = s.updCh c (·.setCause n) := by
  unfold State.setCause
  rw [if_neg (by rw [hg]; decide)]

theorem State.slip_eq : s.slip c = s.updCh c (·.slipped) := by
  unfold State.slip
  rw [hg]
  rfl

end

/-- A write that failed its verdict. -/
def Channel.failWrite (h : Channel) (p : Pc) (slips : Bool) : Channel :=
  let h1 := (h.setCause causeDparWrite).updCnt (fun k => { k with dparFail := bump k.dparFail })
  if slips then (h1.updPc p (fun q => { q with writeOutside := true })).slipped else h1

theorem State.failWrite_eq {s : State} {c : Ch} (hg : s.isGated c = false) (p : Pc) (slips : Bool) :
    s.failWrite c p slips = s.updCh c (·.failWrite p slips) := by
  unfold State.failWrite
  dsimp only
  rw [State.setCause_eq hg, State.updCh_updCh]
  cases slips
  · rfl
  · rw [if_pos rfl, State.updPc, State.updCh_updCh, State.slip_eq (by exact hg), State.updCh_updCh]
    rfl

/-- A staged access is entered. -/
def Channel.stage (h : Channel) (p : Pc) (x : Staged) : Channel :=
  if 4 ≤ h.pcs[p].staging.length then
    (h.updPc p (fun q => { q with staging := q.staging.drop 1 ++ [x] })).failWrite p true
  else h.updPc p (fun q => { q with staging := q.staging ++ [x] })

theorem State.stage_eq {s : State} {c : Ch} (hg : s.isGated c = false) (p : Pc) (x : Staged) :
    s.stage c p x = s.updCh c (·.stage p x) := by
  unfold State.stage
  dsimp only
  by_cases hf : 4 ≤ s.chans[c].pcs[p].staging.length
  · rw [decide_eq_true hf, if_pos rfl, State.failWrite_eq (by exact hg), State.updPc, State.updCh_updCh]
    refine State.updCh_congr ?_
    unfold Channel.stage
    rw [if_pos hf]
    rfl
  · rw [decide_eq_false hf, if_neg (by decide), State.updPc]
    refine State.updCh_congr ?_
    unfold Channel.stage
    rw [if_neg hf]
    rfl

/-- The channel with the oldest burst taken from the write FIFOs. -/
def Channel.unloaded (h : Channel) (p : Pc) (env : LineEnv) (w : WriteEntry) (rest : List WriteEntry) (fails : Bool) : Channel :=
  (((h.countSpares env.spareMism).updRegs (fun r => { r with nextDparErr := false })).updPc p (fun q =>
    { q with writeFifo := rest })).updTaper (·.verdict w.owner (!fails))

/-- The verdict of the oldest burst in the write FIFOs, outside the echo modes. -/
def Channel.unload (h : Channel) (p : Pc) (env : LineEnv) (w : WriteEntry) (rest : List WriteEntry) (fails slips : Bool)
    (x : Staged) : Channel :=
  let h1 := h.unloaded p env w rest fails
  let h2 := if fails then h1.failWrite p slips else h1
  if !w.served then h2
  else if w.owner.isSome then h2.stage p x
  else if fails then h2
  else (h2.stage p x).updPc p (·.follow x.commit)

theorem State.fireUnload_eq {s : State} {c : Ch} {p : Pc} {w : WriteEntry} {rest : List WriteEntry} (hg : s.isGated c = false)
    (hl : s.mgmt.lab = false) (hw : s.chans[c].pcs[p].writeFifo = w :: rest) (env : LineEnv) :
    s.fireUnload c p env = s.updCh c (·.unload p env w rest (s.writeFails c p w.burst env) (s.writeSlips c p env)
      (s.chans[c].pcs[p].encoded w (!s.writeFails c p w.burst env))) := by
  have hlb : s.lbMode c p = 0 := by
    unfold State.lbMode
    rw [hl]
    rfl
  unfold State.fireUnload
  rw [hw, hlb]
  dsimp only
  have hgu (f : Channel → Channel) : (s.updCh c f).isGated c = false := hg
  cases hf : s.writeFails c p w.burst env <;> cases hs : w.served <;> cases ho : w.owner <;>
    simp [Channel.unload, Channel.unloaded, hs, ho, State.failWrite_eq (hgu _), State.stage_eq (hgu _), State.updCh_updCh, State.updPc]

theorem Channel.slipped_frame (h : Channel) : h.slipped.pcs = h.pcs ∧ h.slipped.intake.discard = true
    ∧ h.slipped.cnt.slips = bump h.cnt.slips ∧ h.slipped.cnt.dparFail = h.cnt.dparFail
    ∧ ∀ n, h.regs.causes.getLsbD n = true → h.slipped.regs.causes.getLsbD n = true := by
  obtain ⟨e1, e2, e3, -, ⟨x, e5⟩, -⟩ := h.beginDiscard_frame
  unfold Channel.slipped
  cases hd : h.intake.discard
  · refine ⟨e3, congrArg (·.discard) e2, ?_, ?_, fun n hn => ?_⟩
    · change bump h.beginDiscard.cnt.slips = _
      rw [e5]
    · change h.beginDiscard.cnt.dparFail = _
      rw [e5]
    · change h.beginDiscard.regs.causes.getLsbD n = true
      rw [e1, BitVec.getLsbD_or, hn]
      rfl
  · exact ⟨rfl, hd, rfl, rfl, fun _ => id⟩

/-- Of the pseudo-channels a failed write changes at most whether the write crossing stands outside its window. -/
theorem Channel.failWrite_frame (h : Channel) (p : Pc) (slips : Bool) :
    (∃ o, (h.failWrite p slips).pcs[p] = { h.pcs[p] with writeOutside := o })
    ∧ (h.failWrite p slips).regs.causes.getLsbD causeDparWrite = true
    ∧ (h.failWrite p slips).cnt.dparFail = bump h.cnt.dparFail
    ∧ (slips = true → (h.failWrite p slips).intake.discard = true ∧ (h.failWrite p slips).cnt.slips = bump h.cnt.slips)
    ∧ ∀ n, h.regs.causes.getLsbD n = true → (h.failWrite p slips).regs.causes.getLsbD n = true := by
  have hcause : (h.setCause causeDparWrite).regs.causes.getLsbD causeDparWrite = true := by
    simp [Channel.setCause, causeDparWrite]
  have hgrow (n : Nat) (hn : h.regs.causes.getLsbD n = true) : (h.setCause causeDparWrite).regs.causes.getLsbD n = true := by
    simp [Channel.setCause, hn]
  unfold Channel.failWrite
  cases slips
  · exact ⟨⟨_, rfl⟩, hcause, rfl, nofun, hgrow⟩
  · obtain ⟨e1, e2, e3, e4, e5⟩ := (((h.setCause causeDparWrite).updCnt (fun k => { k with dparFail := bump k.dparFail })).updPc p
      (fun q => { q with writeOutside := true })).slipped_frame
    dsimp only
    rw [if_pos rfl]
    refine ⟨⟨true, ?_⟩, e5 _ hcause, e4, fun _ => ⟨e2, e3⟩, fun n hn => e5 n (hgrow n hn)⟩
    rw [e1, Channel.updPc_self]
    rfl

/-- What staging an access leaves of its channel. -/
theorem Channel.stage_frame (h : Channel) (p : Pc) (x : Staged) :
    (∃ o st, (h.stage p x).pcs[p] = { h.pcs[p] with writeOutside := o, staging := st }
      ∧ (h.pcs[p].staging.length < 4 → st = h.pcs[p].staging ++ [x])
      ∧ (4 ≤ h.pcs[p].staging.length → st = h.pcs[p].staging.tail ++ [x]))
    ∧ (h.pcs[p].staging.length < 4 → (h.stage p x).taper = h.taper)
    ∧ (4 ≤ h.pcs[p].staging.length → (h.stage p x).intake.discard = true ∧ (h.stage p x).cnt.slips = bump h.cnt.slips)
    ∧ ∀ n, h.regs.causes.getLsbD n = true → (h.stage p x).regs.causes.getLsbD n = true := by
  unfold Channel.stage
  by_cases hf : 4 ≤ h.pcs[p].staging.length
  · obtain ⟨⟨o, e1⟩, -, -, e4, e5⟩ := (h.updPc p (fun q => { q with staging := q.staging.drop 1 ++ [x] })).failWrite_frame p true
    rw [if_pos hf]
    rw [Channel.updPc_self] at e1
    exact ⟨⟨o, _, e1, fun hl => absurd hl (by omega), fun _ => by rw [List.drop_one]⟩, fun hl => absurd hl (by omega),
      fun _ => e4 rfl, e5⟩
  · rw [if_neg hf]
    exact ⟨⟨_, _, Channel.updPc_self .., fun _ => rfl, fun hl => absurd hl hf⟩, fun _ => rfl, fun hl => absurd hl hf, fun _ => id⟩

theorem Channel.unloaded_frame (h : Channel) (p : Pc) (env : LineEnv) (w : WriteEntry) (rest : List WriteEntry) (fails : Bool) :
    (h.unloaded p env w rest fails).pcs[p] = { h.pcs[p] with writeFifo := rest }
      ∧ (h.unloaded p env w rest fails).taper = h.taper.verdict w.owner (!fails)
      ∧ (h.unloaded p env w rest fails).cnt.dparFail = h.cnt.dparFail ∧ (h.unloaded p env w rest fails).cnt.slips = h.cnt.slips := by
  refine ⟨?_, rfl, rfl, rfl⟩
  have e : (h.unloaded p env w rest fails).pcs = (((h.countSpares env.spareMism).updRegs (fun r => { r with nextDparErr := false })).updPc p
    (fun q => { q with writeFifo := rest })).pcs := rfl
  rw [e, Channel.updPc_self]
  rfl

theorem Channel.failWrite_cells (h : Channel) (p : Pc) (slips : Bool) : (h.failWrite p slips).cells = h.cells := by
  have hs (k : Channel) : k.slipped.cells = k.cells := congrArg (Vector.map PseudoChannel.cells) k.slipped_frame.1
  unfold Channel.failWrite
  cases slips
  · rfl
  · exact (hs _).trans (Channel.updPc_cells rfl)

theorem Channel.stage_cells (h : Channel) (p : Pc) (x : Staged) : (h.stage p x).cells = h.cells := by
  unfold Channel.stage
  split
  · rw [Channel.failWrite_cells, Channel.updPc_cells rfl]
  · exact Channel.updPc_cells rfl

theorem Channel.unload_cells (h : Channel) (p : Pc) (env : LineEnv) (w : WriteEntry) (rest : List WriteEntry) (fails slips : Bool)
    (x : Staged) : (h.unload p env w rest fails slips x).cells = h.cells := by
  have h1 : (h.unloaded p env w rest fails).cells = h.cells := by
    unfold Channel.unloaded
    rw [Channel.updTaper_cells, Channel.updPc_cells rfl]
    simp
  unfold Channel.unload
  dsimp only
  repeat' split
  all_goals simp [Channel.failWrite_cells, Channel.stage_cells, h1]

/-- What the verdict leaves of the pseudo-channel and its channel, for a write that fails and for one that passes. -/
theorem Channel.unload_fails (h : Channel) (p : Pc) (env : LineEnv) (w : WriteEntry) (rest : List WriteEntry) (slips : Bool)
    (x : Staged) : (h.unload p env w rest true slips x).regs.causes.getLsbD causeDparWrite = true
      ∧ (h.unload p env w rest true slips x).pcs[p].writeFifo = rest
      ∧ (w.owner = none → (h.unload p env w rest true slips x).cnt.dparFail = bump h.cnt.dparFail
        ∧ (h.unload p env w rest true slips x).pcs[p].staging = h.pcs[p].staging
        ∧ (h.unload p env w rest true slips x).pcs[p].calendar = h.pcs[p].calendar) := by
  obtain ⟨u1, u2, u3, u4⟩ := h.unloaded_frame p env w rest true
  obtain ⟨⟨o, f1⟩, f2, f3, -, -⟩ := (h.unloaded p env w rest true).failWrite_frame p slips
  obtain ⟨⟨o', st, g1, -, -⟩, -, -, g4⟩ := ((h.unloaded p env w rest true).failWrite p slips).stage_frame p x
  rw [u1] at f1
  rw [f1] at g1
  rw [u3] at f3
  unfold Channel.unload
  dsimp only
  rw [if_pos rfl]
  split
  · rw [f1]
    exact ⟨f2, rfl, fun _ => ⟨f3, rfl, rfl⟩⟩
  · split
    · next ho =>
      rw [g1]
      exact ⟨g4 _ f2, rfl, fun hn => by simp [hn] at ho⟩
    · rw [if_pos rfl, f1]
      exact ⟨f2, rfl, fun _ => ⟨f3, rfl, rfl⟩⟩

theorem Channel.unload_dropped {w : WriteEntry} (hs : w.served = false) (h : Channel) (p : Pc) (env : LineEnv) (rest : List WriteEntry)
    (slips : Bool) (x : Staged) :
    (h.unload p env w rest false slips x).pcs[p] = { h.pcs[p] with writeFifo := rest } := by
  unfold Channel.unload
  rw [hs]
  exact (h.unloaded_frame p env w rest false).1

theorem Channel.unload_passes {w : WriteEntry} (hs : w.served = true) (h : Channel) (p : Pc) (env : LineEnv) (rest : List WriteEntry)
    (slips : Bool) (x : Staged) : ∃ o st, (h.unload p env w rest false slips x).pcs[p]
      = { h.pcs[p] with writeFifo := rest, writeOutside := o, staging := st
                        calendar := if w.owner.isSome then h.pcs[p].calendar else x.commit :: h.pcs[p].calendar }
    ∧ (h.pcs[p].staging.length < 4 → st = h.pcs[p].staging ++ [x]
        ∧ (h.unload p env w rest false slips x).taper = h.taper.verdict w.owner true)
    ∧ (4 ≤ h.pcs[p].staging.length → st = h.pcs[p].staging.tail ++ [x]
        ∧ (h.unload p env w rest false slips x).intake.discard = true
        ∧ (h.unload p env w rest false slips x).cnt.slips = bump h.cnt.slips) := by
  obtain ⟨u1, u2, u3, u4⟩ := h.unloaded_frame p env w rest false
  obtain ⟨⟨o, st, g1, g2, g3⟩, g4, g5, -⟩ := (h.unloaded p env w rest false).stage_frame p x
  rw [u1] at g1 g2 g3 g4 g5
  rw [u2] at g4
  rw [u4] at g5
  refine ⟨o, st, ?_, fun hl => ⟨g2 hl, ?_⟩, fun hl => ⟨g3 hl, ?_⟩⟩
  all_goals
    unfold Channel.unload
    rw [hs]
    cases ho : w.owner
  · refine (Channel.updPc_self (h := (h.unloaded p env w rest false).stage p x) p (·.follow x.commit)).trans ?_
    rw [g1]
    rfl
  · exact g1
  · exact (g4 hl).trans (by rw [ho]; rfl)
  · exact (g4 hl).trans (by rw [ho]; rfl)
  · exact g5 hl
  · exact g5 hl

/-! ## The commit -/

/-- The TSV WR of a staged access, on its channel. -/
def Channel.commits (h : Channel) (p : Pc) (rows n : Nat) (data : BitVec 512) (check : BitVec 64) (env : LineEnv) : Channel :=
  let (sid, bank, _, col) := accessOf n
  (h.updPc p (fun q =>
    let q1 := { q.storeAccess rows n (data ^^^ env.flips.extractLsb' 0 512) (check ^^^ env.flips.extractLsb' 512 64) with
      staging := unstage n q.staging }
    match q.injection true n with
    | some i => { q1 with inject := none, injected := (n, i.counted) :: q1.injected }
    | none => q1)).sendHost (columnFrame p (columnSlot col ⟨bank.val % 4, by omega⟩ ⟨bank.val / 4, by omega⟩ sid 2))

theorem Channel.commits_pcs (h : Channel) (p : Pc) (rows n : Nat) (data : BitVec 512) (check : BitVec 64) (env : LineEnv) :
    (∃ j k, (h.commits p rows n data check env).pcs[p] = { h.pcs[p].storeAccess rows n (data ^^^ env.flips.extractLsb' 0 512)
        (check ^^^ env.flips.extractLsb' 512 64) with staging := unstage n h.pcs[p].staging, inject := j, injected := k })
      ∧ ∀ q : Pc, q ≠ p → (h.commits p rows n data check env).pcs[q] = h.pcs[q] := by
  unfold Channel.commits
  refine ⟨?_, fun q hq => ?_⟩
  · dsimp only
    rw [Channel.sendHost_pcs, Channel.updPc_self]
    split <;> exact ⟨_, _, rfl⟩
  · dsimp only
    rw [Channel.sendHost_pcs, Channel.updPc_other _ _ hq]

/-- TSVs marked marginal leave every pseudo-channel. -/
theorem State.tsvMarginal_frame (s : State) (c : Ch) (g : Fin 16) (pos : Fin 19) : (s.tsvMarginal c g pos).dens = s.dens
    ∧ ∀ d : Ch, (s.tsvMarginal c g pos).chans[d].pcs = s.chans[d].pcs := by
  unfold State.tsvMarginal
  split
  · exact ⟨rfl, fun _ => rfl⟩
  · have hn (u : State) (body : List Byte) (a b d : Byte) : Noted u (u.ledgerEvent 0x06 body 5 a b d).evalHealth :=
      (noted_ledgerEvent ..).trans (noted_evalHealth _)
    have h1 := hn (s.updCh c (fun h => { h with tsv := { h.tsv with marginal := h.tsv.marginal ++ [(g, pos)] } }))
      [byteOf c.val, byteOf (128 + g.val), byteOf pos.val, 0, 0, 0, 0, 0, 0, 0] (byteOf g.val) (byteOf c.val) (byteOf (g.val / 8))
    refine ⟨h1.dens, fun d => (h1.pcs d).trans ?_⟩
    by_cases hd : d = c
    · subst hd
      rw [State.updCh_self]
    · rw [State.updCh_other s _ hd]

theorem State.tsvMarginals_frame (c : Ch) : ∀ (l : List (Fin 16 × Fin 18)) (s : State),
    (l.foldl (fun t x => t.tsvMarginal c x.1 x.2.castSucc) s).dens = s.dens
      ∧ ∀ d : Ch, (l.foldl (fun t x => t.tsvMarginal c x.1 x.2.castSucc) s).chans[d].pcs = s.chans[d].pcs
  | [], _ => ⟨rfl, fun _ => rfl⟩
  | x :: l, s => by
    obtain ⟨h1, h2⟩ := s.tsvMarginal_frame c x.1 x.2.castSucc
    obtain ⟨h3, h4⟩ := State.tsvMarginals_frame c l (s.tsvMarginal c x.1 x.2.castSucc)
    exact ⟨h3.trans h1, fun d => (h4 d).trans (h2 d)⟩

/-- The oldest posted action of a pseudo-channel leaves its calendar. -/
def Channel.takesAction (h : Channel) (p : Pc) (rest : List Posted) : Channel := h.updPc p (fun q => { q with calendar := rest })

theorem Channel.takesAction_pc (h : Channel) (p : Pc) (rest : List Posted) :
    (h.takesAction p rest).pcs[p] = { h.pcs[p] with calendar := rest } := Channel.updPc_self ..

theorem Channel.takesAction_cells (h : Channel) (p : Pc) (rest : List Posted) : (h.takesAction p rest).cells = h.cells :=
  Channel.updPc_cells rfl

section
variable {s : State} {c : Ch} {p : Pc} {env : LineEnv} {rest : List Posted}

theorem exec_write {sid : Sid} {bank : Fin 16} {row : Row} {col : Col} {b : Burst} {v : Bool} {o : Option Nat}
    (h : s.chans[c].pcs[p].calendar = .write sid bank row col b v o :: rest) : exec (.calendarAction c p env) s
      = .next (s.updCh c (fun k => (k.takesAction p rest).updPc p (·.arm (accessNo sid bank row col) b v o))) := by
  change execCalendarAction c p env s = _
  unfold execCalendarAction
  rw [h]
  exact congrArg Host.Outcome.next (State.updCh_updCh ..)

theorem writeFails_takesAction (b : Burst) : (s.updCh c (·.takesAction p rest)).writeFails c p b env = s.writeFails c p b env
    ∧ (s.updCh c (·.takesAction p rest)).writeSlips c p env = s.writeSlips c p env := by
  simp only [State.writeFails, State.writeSlips, State.updCh_self, Channel.takesAction_pc]
  trivial

theorem exec_unload {w : WriteEntry} {fifo : List WriteEntry} (hg : s.isGated c = false)
    (h : s.chans[c].pcs[p].calendar = .unload :: rest) (hf : s.chans[c].pcs[p].writeFifo = w :: fifo) (hl : s.mgmt.lab = false) :
    exec (.calendarAction c p env) s = .next (s.updCh c (fun k => (k.takesAction p rest).unload p env w fifo
      (s.writeFails c p w.burst env) (s.writeSlips c p env) (s.chans[c].pcs[p].encoded w (!s.writeFails c p w.burst env)))) := by
  change execCalendarAction c p env s = _
  unfold execCalendarAction
  rw [h]
  obtain ⟨e1, e2⟩ := writeFails_takesAction (s := s) (c := c) (p := p) (env := env) (rest := rest) w.burst
  have e3 (v : Bool) : (s.updCh c (·.takesAction p rest)).chans[c].pcs[p].encoded w v = s.chans[c].pcs[p].encoded w v := by
    rw [State.updCh_self, Channel.takesAction_pc]
    rfl
  refine congrArg Host.Outcome.next ((State.fireUnload_eq (w := w) (rest := fifo) (s := s.updCh c (·.takesAction p rest)) hg
      hl ?_ env).trans ?_)
  · rw [State.updCh_self, Channel.takesAction_pc]
    exact hf
  · rw [e1, e2, e3, State.updCh_updCh]

theorem exec_commit {sid : Sid} {bank : Fin 16} {row : Row} {col : Col} {data : BitVec 512} {check : BitVec 64}
    (h : s.chans[c].pcs[p].calendar = .commit sid bank row col data check :: rest) : exec (.calendarAction c p env) s
      = .next (env.tsvLimited.foldl (fun t x => t.tsvMarginal c x.1 x.2.castSucc) (s.updCh c (fun k =>
          (k.takesAction p rest).commits p s.rows (accessNo sid bank row col) data check env))) := by
  change execCalendarAction c p env s = _
  unfold execCalendarAction
  rw [h]
  refine congrArg Host.Outcome.next ?_
  dsimp only [State.fireCommit]
  rw [State.updPc, State.updCh_updCh]
  rfl

end

theorem State.rows_of_dens {s t : State} (h : t.dens = s.dens) : t.rows = s.rows := by
  unfold State.rows
  rw [h]

/-- What the commit of a staged access leaves: its bytes as they arrive at the core die, and no other byte. -/
theorem writeChainCommits_commit {s : State} {c : Ch} {p : Pc} {env : LineEnv} {rest : List Posted} {sid : Sid} {bank : Fin 16}
    {row : Row} {col : Col} {data : BitVec 512} {check : BitVec 64}
    (h : s.chans[c].pcs[p].calendar = .commit sid bank row col data check :: rest) :
    ∃ t, exec (.calendarAction c p env) s = .next t ∧ (env.tsvLimited = [] → onlyChannel s t c)
      ∧ t.chans[c].pcs[p].calendar = rest
      ∧ t.chans[c].pcs[p].staging = unstage (accessNo sid bank row col) s.chans[c].pcs[p].staging
      ∧ (∀ k : Nat, k < 72 → t.chans[c].pcs[p].readByte t.rows (byteAddr (accessNo sid bank row col) k)
          = accessByte (data ^^^ env.flips.extractLsb' 0 512) (check ^^^ env.flips.extractLsb' 512 64) k)
      ∧ (∀ a : Nat, a / 72 ≠ accessNo sid bank row col →
          t.chans[c].pcs[p].readByte t.rows a = s.chans[c].pcs[p].readByte s.rows a)
      ∧ ∀ q : Pc, q ≠ p → t.chans[c].pcs[q] = s.chans[c].pcs[q] := by
  obtain ⟨⟨j, k, e1⟩, e2⟩ := (s.chans[c].takesAction p rest).commits_pcs p s.rows (accessNo sid bank row col) data check env
  obtain ⟨f1, f2⟩ := State.tsvMarginals_frame c env.tsvLimited
    (s.updCh c (fun k => (k.takesAction p rest).commits p s.rows (accessNo sid bank row col) data check env))
  have hpcs := (f2 c).trans (congrArg Channel.pcs (State.updCh_self ..))
  rw [Channel.takesAction_pc] at e1
  have hpc := (congrArg (·[p]) hpcs).trans e1
  have hrows := State.rows_of_dens f1
  have hread (a : Nat) := congrArg₂ (fun (q : PseudoChannel) r => q.readByte r a) hpc hrows
  refine ⟨_, exec_commit h, fun hl => ?_, ?_, ?_, fun k hk => ?_, fun a ha => ?_, fun q hq => ?_⟩
  · rw [hl]
    exact onlyChannel_updCh ..
  · exact congrArg (·.calendar) hpc
  · exact congrArg (·.staging) hpc
  · refine (hread _).trans ?_
    refine (PseudoChannel.storeAccess_readByte _ s.rows _ _ _ _).trans ?_
    unfold byteAddr
    rw [if_pos (by omega), show (accessNo sid bank row col * 72 + k) % 72 = k by omega]
  · refine (hread _).trans ?_
    refine (PseudoChannel.storeAccess_readByte _ s.rows _ _ _ _).trans ?_
    rw [if_neg ha]
    rfl
  · refine (congrArg (·[q]) hpcs).trans ((e2 q hq).trans ?_)
    exact Channel.updPc_other _ _ hq

theorem encoded_plain {q : PseudoChannel} {w : WriteEntry} {v : Bool} (h : q.inject = none) : q.encoded w v
    = { owner := w.owner, access := w.access, data := w.burst.data, check := writeCheck q.managed w.burst.data w.burst.ecc,
        verdict := v } := by
  have hinj : q.injection true w.access = none := by
    unfold PseudoChannel.injection
    rw [h]
  unfold PseudoChannel.encoded
  rw [hinj]
  simp [injectData, injectCheck]

/-- Settles O18: the host's burst, its verdict and the commit of what is staged, each by the state it answers. -/
theorem writeChainCommits : Obligations.WriteChainCommits := by
  refine fun c p env rest s hg => ⟨fun sid bank row col b v o hcal => ?_, fun w fifo hcal hfifo hl hinj => ?_,
    fun sid bank row col data check hcal => ?_⟩
  · refine ⟨_, exec_write hcal, onlyChannel_updCh .., memKept_updCh_cells ?_, ?_, ?_⟩
    · rw [Channel.updPc_cells rfl, Channel.takesAction_cells]
    · rw [State.updCh_self, Channel.updPc_self, Channel.takesAction_pc]
      rfl
    · rw [State.updCh_self, Channel.updPc_self, Channel.takesAction_pc]
      rfl
  · have hk := s.chans[c].takesAction_pc p rest
    have hx := encoded_plain (w := w) (v := true) hinj
    refine ⟨_, exec_unload hg hcal hfifo hl, onlyChannel_updCh .., memKept_updCh_cells ?_, ?_⟩
    · rw [Channel.unload_cells, Channel.takesAction_cells]
    · rw [State.updCh_self]
      cases hf : s.writeFails c p w.burst env
      · cases hs : w.served
        · have hpc := Channel.unload_dropped hs (s.chans[c].takesAction p rest) p env fifo (s.writeSlips c p env)
            (s.chans[c].pcs[p].encoded w true)
          rw [hk] at hpc
          rw [Bool.not_false, hpc]
          exact ⟨rfl, nofun, nofun, fun _ _ => ⟨rfl, rfl⟩, nofun⟩
        · obtain ⟨o, st, hpc, hnot, hfull⟩ := Channel.unload_passes hs (s.chans[c].takesAction p rest) p env fifo (s.writeSlips c p env)
            (s.chans[c].pcs[p].encoded w true)
          rw [hk] at hpc hnot hfull
          rw [Bool.not_false, hpc]
          refine ⟨rfl, nofun, nofun, nofun, fun _ _ => ⟨_, by rw [hx], by rw [hx], by rw [hx], by rw [hx], by rw [hx],
            hnot, hfull, fun ho => ?_, fun ho => ?_⟩⟩
          · simp [ho]
          · simp [ho]
      · obtain ⟨e1, e2, e3⟩ := (s.chans[c].takesAction p rest).unload_fails p env w fifo (s.writeSlips c p env)
          (s.chans[c].pcs[p].encoded w false)
        rw [hk] at e3
        exact ⟨e2, fun _ => e1, fun _ ho => e3 ho, nofun, nofun⟩
  · exact writeChainCommits_commit hcal

end Sys2Proof.Machine


namespace Sys2Proof.Machine

open Sys2Proof.Safety

/-! # The data path: reads -/

/-- What the actions of a read chain hand to each other, the mode of the pseudo-channel and the scrubber's own figures. -/
def PseudoChannel.path (q : PseudoChannel) : List Posted × List TsvRead × List OutBurst × Option OutBurst × Bool × Scrub :=
  (q.calendar, q.tsvCapture, q.returns, q.lanes, q.managed, q.scrub)

/-- No pseudo-channel's read path and no channel's mode registers but the causes have changed. -/
structure PathKept (s t : State) : Prop where
  pc : ∀ (c : Ch) (p : Pc), t.chans[c].pcs[p].path = s.chans[c].pcs[p].path

theorem PathKept.refl (s : State) : PathKept s s := ⟨fun _ _ => rfl⟩

section
variable {s t : State} {c : Ch} (h : PathKept s t)
include h

theorem PathKept.noted {u : State} (h' : Noted t u) : PathKept s u := ⟨fun c p => by rw [h'.pcs c]; exact h.pc c p⟩

theorem PathKept.updCh {f : Channel → Channel} (hf : ∀ p : Pc, (f t.chans[c]).pcs[p].path = t.chans[c].pcs[p].path := by intro; rfl) :
    PathKept s (t.updCh c f) := by
  refine ⟨fun d p => ?_⟩
  by_cases hd : d = c
  · subst hd
    rw [State.updCh_self, hf]
    exact h.pc d p
  · rw [State.updCh_other t _ hd]
    exact h.pc d p

theorem PathKept.updPc {p : Pc} {f : PseudoChannel → PseudoChannel} (hf : ∀ q, (f q).path = q.path := by intro; rfl) :
    PathKept s (t.updPc c p f) := by
  refine h.updCh fun r => ?_
  by_cases hr : r = p
  · subst hr
    rw [Channel.updPc_self, hf]
  · rw [Channel.updPc_other _ _ hr]

theorem PathKept.setCause (n : Nat) : PathKept s (t.setCause c n) := by
  unfold State.setCause
  split
  · exact h
  · exact h.updCh

theorem PathKept.ledgerEvent {rec : Byte} {body : List Byte} {typ : Nat} {u c p : Byte} {d : Word32} :
    PathKept s (t.ledgerEvent rec body typ u c p d) := h.noted (noted_ledgerEvent ..)

theorem PathKept.ledger {typ : Byte} {body : List Byte} : PathKept s (t.ledger typ body) := h.noted (noted_ledger ..)

theorem PathKept.free {n : Nat} : PathKept s (t.free n).2 := ⟨h.pc⟩

theorem PathKept.updNv {f : NonVolatile → NonVolatile} : PathKept s (t.updNv f) := ⟨h.pc⟩

theorem PathKept.evalHealth : PathKept s t.evalHealth := h.noted (noted_evalHealth _)

theorem PathKept.bucketAdd (p : Pc) (n sym : Nat) : PathKept s (t.bucketAdd c p n sym) := by
  unfold State.bucketAdd
  dsimp only
  split
  · exact h
  · split
    · unfold State.bucketOverflow
      exact .ledgerEvent (.setCause (.updPc (.updPc h)) _)
    · exact .updPc h

theorem PathKept.journalRemap (p : Pc) (e : Fin 8) (w : BitVec 32) (action : RemapAction) :
    PathKept s (t.journalRemap c p e w action) := by
  unfold State.journalRemap
  exact .evalHealth (.ledgerEvent (.updNv (.updPc h)))

theorem PathKept.candidate (p : Pc) (bank : Fin 64) (row : Row) (src : BitVec 2) :
    PathKept s (t.candidate c p bank row src).1 := by
  unfold State.candidate
  dsimp only
  split
  · exact h
  · split
    · exact h.journalRemap ..
    · refine .ledger (.free ?_)
      split
      · exact .updPc h
      · exact h

theorem PathKept.noteCorrected (p : Pc) (n : Nat) : PathKept s (t.noteCorrected c p n) := by
  unfold State.noteCorrected State.foundCandidate
  dsimp only
  split
  · split
    · exact .candidate (.updPc h) ..
    · exact .updPc h
  · exact .updPc h

theorem PathKept.tsvMarginal (g : Fin 16) (pos : Fin 19) : PathKept s (t.tsvMarginal c g pos) :=
  ⟨fun d p => by rw [(t.tsvMarginal_frame c g pos).2 d]; exact h.pc d p⟩

theorem PathKept.noteSymbol (p : Pc) (n sym : Nat) : PathKept s (t.noteSymbol c p n sym) := by
  unfold State.noteSymbol
  dsimp only
  split
  · exact .tsvMarginal (.tsvMarginal (.updPc h) ..) ..
  · exact .updPc h

theorem PathKept.tallyUe (p : Pc) (n : Nat) (scrub : Bool) : PathKept s (t.tallyUe c p n scrub) := by
  unfold State.tallyUe
  dsimp only
  split
  · exact h
  · refine .evalHealth ?_
    split
    · exact .ledger (.updPc h)
    · exact .updPc h

theorem PathKept.countRead (p : Pc) (n : Nat) (v : ReadEvents) (inj : Option Bool) (scrub : Bool) :
    PathKept s (t.countRead c p n v inj scrub) := by
  have hi {b : Bool} {u w : State} (hu : PathKept s u) (hw : PathKept s w) : PathKept s (if b then w else u) := by
    cases b
    · exact hu
    · exact hw
  have h1 : PathKept s (t.updPc c p fun q => { q with errs := q.errs.add v (inj != some false) inj.isSome }) := h.updPc
  have h2 (b : Bool) (m : Nat) := hi (b := b) h1 ((h1.bucketAdd (c := c) p n m).noteCorrected (c := c) p n)
  have h3 (b b' : Bool) (m m' : Nat) := hi (b := b) (h2 b' m) ((h2 b' m).noteSymbol (c := c) p n m')
  exact hi (h3 ..) ((h3 ..).tallyUe (c := c) p n scrub)

theorem PathKept.driverLimits (p : Pc) (env : LineEnv) : PathKept s (t.driverLimits c p env) := by
  unfold State.driverLimits
  induction env.limited generalizing t with
  | nil => exact h
  | cons l ls ih =>
    refine ih ?_
    dsimp only
    split
    · exact h
    · unfold State.laneMarginal
      exact .evalHealth (.ledgerEvent (.setCause (.updCh (.updCh h)) _))

end

/-! ## Slips of a read -/

/-- A read slips, in a channel that its group's power gate holds or not. -/
def Channel.readSlip (h : Channel) (gated : Bool) (p : Pc) (env : LineEnv) : Channel :=
  let h1 := (h.updRegs (fun r => { r with nextSlip := false })).updPc p (fun q =>
    { q with readOutside := q.readOutside || env.slip, errs := { q.errs with slip := bump q.errs.slip } })
  if gated then h1.updCnt (fun n => { n with slips := bump n.slips }) else h1.slipped

theorem State.readSlip_eq (s : State) (c : Ch) (p : Pc) (env : LineEnv) :
    s.readSlip c p env = s.updCh c (·.readSlip (s.isGated c) p env) := by
  unfold State.readSlip State.slip
  rw [State.updCh_updCh]
  rfl

theorem Channel.slipped_dparEn (h : Channel) : h.slipped.regs.dparEn = h.regs.dparEn := by
  have e := h.beginDiscard_frame.1
  unfold Channel.slipped
  split
  · rfl
  · change h.beginDiscard.regs.dparEn = _
    rw [e]
    rfl

theorem Channel.readSlip_frame (h : Channel) (g : Bool) (p : Pc) (env : LineEnv) :
    (∀ r : Pc, (h.readSlip g p env).pcs[r].path = h.pcs[r].path)
      ∧ (h.readSlip g p env).pcs[p].errs.rsvRd = h.pcs[p].errs.rsvRd
      ∧ (h.readSlip g p env).regs.dparEn = h.regs.dparEn ∧ (h.readSlip g p env).cnt.slips = bump h.cnt.slips
      ∧ (g = false → (h.readSlip g p env).intake.discard = true) := by
  have hpcs (r : Pc) : ((h.updRegs (fun r => { r with nextSlip := false })).updPc p (fun q =>
      { q with readOutside := q.readOutside || env.slip, errs := { q.errs with slip := bump q.errs.slip } })).pcs[r].path
        = h.pcs[r].path := by
    by_cases hr : r = p
    · subst hr
      rw [Channel.updPc_self]
      rfl
    · rw [Channel.updPc_other _ _ hr]
      rfl
  unfold Channel.readSlip
  dsimp only
  cases g
  · obtain ⟨e1, e2, e3, -⟩ := ((h.updRegs (fun r => { r with nextSlip := false })).updPc p (fun q =>
      { q with readOutside := q.readOutside || env.slip, errs := { q.errs with slip := bump q.errs.slip } })).slipped_frame
    rw [if_neg (by decide), e1]
    refine ⟨hpcs, by rw [Channel.updPc_self]; rfl, ?_, e3, fun _ => e2⟩
    exact Channel.slipped_dparEn _
  · refine ⟨hpcs, ?_, rfl, rfl, nofun⟩
    rw [if_pos rfl]
    exact (congrArg (·.errs.rsvRd) (Channel.updPc_self (h.updRegs (fun r => { r with nextSlip := false })) p (fun q =>
      { q with readOutside := q.readOutside || env.slip, errs := { q.errs with slip := bump q.errs.slip } })))

theorem PseudoChannel.consumeRead_path (q : PseudoChannel) (n : Nat) : (q.consumeRead n).path = q.path := by
  unfold PseudoChannel.consumeRead
  split <;> rfl

/-! ## The load of the return FIFO -/

/-- A read that slips loads the content of Table 4-6. -/
theorem State.loadRead_slips {s : State} {c : Ch} {p : Pc} {env : LineEnv} (h : s.readSlips c p env = true) (b : OutBurst) :
    s.loadRead c p env b = s.updCh c (fun k => (k.readSlip (s.isGated c) p env).updPc p (fun q =>
      q.toReturn (unservableBurst q.managed (k.readSlip (s.isGated c) p env).regs.dparEn))) := by
  unfold State.loadRead
  rw [if_pos h, State.readSlip_eq, State.updCh_updCh]

theorem State.loadRead_passes {s : State} {c : Ch} {p : Pc} {env : LineEnv} (h : s.readSlips c p env = false) (b : OutBurst) :
    s.loadRead c p env b = s.updCh c (·.updPc p (·.toReturn b)) := by
  unfold State.loadRead
  rw [if_neg (by rw [h]; decide), State.updPc]

theorem PseudoChannel.path_toReturn {q q' : PseudoChannel} (h : q'.path = q.path) (b : OutBurst) :
    (q'.toReturn b).returns = q.returns ++ [b] ∧ (q'.toReturn b).calendar = .launch :: q.calendar
      ∧ (q'.toReturn b).tsvCapture = q.tsvCapture := by
  simp only [PseudoChannel.path, Prod.mk.injEq] at h
  obtain ⟨h1, h2, h3, -, -⟩ := h
  simp [PseudoChannel.toReturn, PseudoChannel.follow, h1, h2, h3]

/-- What a read that slips leaves of its channel. -/
theorem State.loadRead_slipped {s : State} {c : Ch} {p : Pc} {env : LineEnv} (h : s.readSlips c p env = true) (b : OutBurst) :
    (s.loadRead c p env b).chans[c].pcs[p].returns = s.chans[c].pcs[p].returns
        ++ [unservableBurst s.chans[c].pcs[p].managed s.chans[c].regs.dparEn]
      ∧ (s.loadRead c p env b).chans[c].pcs[p].calendar = .launch :: s.chans[c].pcs[p].calendar
      ∧ (s.loadRead c p env b).chans[c].pcs[p].tsvCapture = s.chans[c].pcs[p].tsvCapture
      ∧ (s.loadRead c p env b).chans[c].pcs[p].errs.rsvRd = s.chans[c].pcs[p].errs.rsvRd
      ∧ (s.loadRead c p env b).chans[c].cnt.slips = bump s.chans[c].cnt.slips
      ∧ (s.isGated c = false → (s.loadRead c p env b).chans[c].intake.discard = true) := by
  obtain ⟨e1, e2, e3, e4, e5⟩ := s.chans[c].readSlip_frame (s.isGated c) p env
  have em : (s.chans[c].readSlip (s.isGated c) p env).pcs[p].managed = s.chans[c].pcs[p].managed := congrArg (·.2.2.2.2.1) (e1 p)
  rw [State.loadRead_slips h, State.updCh_self, Channel.updPc_self, em, e3]
  obtain ⟨f1, f2, f3⟩ := PseudoChannel.path_toReturn (e1 p) (unservableBurst s.chans[c].pcs[p].managed s.chans[c].regs.dparEn)
  exact ⟨f1, f2, f3, e2, e4, e5⟩

/-- What a read of a row served under R60 leaves, where it slips and where it does not. -/
theorem State.loadRead_unservable {s : State} {c : Ch} {p : Pc} {env : LineEnv} :
    (s.loadRead c p env (unservableBurst s.chans[c].pcs[p].managed s.chans[c].regs.dparEn)).chans[c].pcs[p].returns
        = s.chans[c].pcs[p].returns ++ [unservableBurst s.chans[c].pcs[p].managed s.chans[c].regs.dparEn]
      ∧ (s.loadRead c p env (unservableBurst s.chans[c].pcs[p].managed s.chans[c].regs.dparEn)).chans[c].pcs[p].errs.rsvRd
        = s.chans[c].pcs[p].errs.rsvRd := by
  cases hs : s.readSlips c p env
  · rw [State.loadRead_passes hs, State.updCh_self, Channel.updPc_self]
    exact ⟨rfl, rfl⟩
  · obtain ⟨f1, -, -, f4, -⟩ := State.loadRead_slipped hs (unservableBurst s.chans[c].pcs[p].managed s.chans[c].regs.dparEn)
    exact ⟨f1, f4⟩

theorem State.loadRead_updCh (s : State) (c : Ch) (p : Pc) (env : LineEnv) (b : OutBurst) :
    ∃ f, s.loadRead c p env b = s.updCh c f := by
  cases hs : s.readSlips c p env
  · exact ⟨_, State.loadRead_passes hs b⟩
  · exact ⟨_, State.loadRead_slips hs b⟩

/-! ## The actions of a read chain -/

section
variable {s : State} {c : Ch} {p : Pc} {env : LineEnv} {rest : List Posted}

theorem State.takesAction_cells : (s.updCh c (·.takesAction p rest)).cells = s.cells :=
  State.updCh_cells (Channel.takesAction_cells ..)

theorem State.takesAction_pc : (s.updCh c (·.takesAction p rest)).chans[c].pcs[p] = { s.chans[c].pcs[p] with calendar := rest } := by
  rw [State.updCh_self, Channel.takesAction_pc]

theorem exec_read {sid : Sid} {bank : Fin 16} {row : Row} {col : Col} {o : Option Nat}
    (h : s.chans[c].pcs[p].calendar = .read sid bank row col o :: rest) : exec (.calendarAction c p env) s
      = .next ((s.updCh c (·.takesAction p rest)).fireRead c p (accessNo sid bank row col) o env) := by
  simp only [exec, execCalendarAction, h]
  rfl

theorem exec_decode (h : s.chans[c].pcs[p].calendar = .decode :: rest) : exec (.calendarAction c p env) s
      = .next ((s.updCh c (·.takesAction p rest)).fireDecode c p env) := by
  simp only [exec, execCalendarAction, h]
  rfl

theorem exec_launch (h : s.chans[c].pcs[p].calendar = .launch :: rest) : exec (.calendarAction c p env) s
      = .next ((s.updCh c (·.takesAction p rest)).fireLaunch c p env) := by
  simp only [exec, execCalendarAction, h]
  rfl

theorem exec_modeRead {v : BitVec 16} {ext : List (BitVec 16)} (h : s.chans[c].pcs[p].calendar = .modeRead v ext :: rest) :
    exec (.calendarAction c p env) s = .next ((s.updCh c (·.takesAction p rest)).loadRead c p env
      (mrrBurst s.chans[c].pcs[p].managed s.chans[c].regs.dparEn v ext)) := by
  simp only [exec, execCalendarAction, h]
  rfl

theorem exec_unservable (h : s.chans[c].pcs[p].calendar = .unservable :: rest) : exec (.calendarAction c p env) s
      = .next ((s.updCh c (·.takesAction p rest)).fireUnservable c p env) := by
  simp only [exec, execCalendarAction, h]
  rfl

theorem exec_bufRead {tb : Fin 16} (h : s.chans[c].pcs[p].calendar = .bufRead tb :: rest) : exec (.calendarAction c p env) s
      = .next ((s.updCh c (·.takesAction p rest)).fireBufRead c p tb env) := by
  simp only [exec, execCalendarAction, h]
  rfl

theorem exec_bufWrite {tb : Fin 16} {bits : BitVec 624} (h : s.chans[c].pcs[p].calendar = .bufWrite tb bits :: rest) :
    exec (.calendarAction c p env) s = .next ((s.updCh c (·.takesAction p rest)).fireBufWrite c p tb bits env) := by
  simp only [exec, execCalendarAction, h]
  rfl

/-- What a core die returns: the stored bits as they arrive, once its timing is set. -/
theorem State.dieRead_frame (s : State) (c : Ch) (p : Pc) (n : Nat) (env : LineEnv) (o : Option Nat) :
    (s.dieRead c p n env o).2.chans = s.chans ∧ (s.dieRead c p n env o).1.access = n ∧ (s.dieRead c p n env o).1.owner = o
      ∧ (s.dies[layerOf c (accessOf n).1].coreRl ≠ 0 → env.cells = 0 →
          (s.dieRead c p n env o).1.data = s.chans[c].pcs[p].readData s.rows n ^^^ env.flips.extractLsb' 0 512
            ∧ (s.dieRead c p n env o).1.check = s.chans[c].pcs[p].readCheck s.rows n ^^^ env.flips.extractLsb' 512 64) := by
  unfold State.dieRead
  dsimp only
  split
  · next h => exact ⟨rfl, rfl, rfl, fun h' => absurd h h'⟩
  · refine ⟨rfl, rfl, rfl, fun _ hc => ?_⟩
    have h0 : dieErrors 0 = 0 := by decide +kernel
    rw [hc, h0]
    simp

theorem State.fireRead_pc (n : Nat) (o : Option Nat) : (s.fireRead c p n o env).chans[c].pcs[p]
    = { (s.dieRead c p n env o).2.chans[c].pcs[p] with
        tsvCapture := (s.dieRead c p n env o).2.chans[c].pcs[p].tsvCapture ++ [(s.dieRead c p n env o).1]
        calendar := .decode :: (s.dieRead c p n env o).2.chans[c].pcs[p].calendar } := by
  unfold State.fireRead
  dsimp only
  rw [State.updCh_self, Channel.updPc_self]
  have h1 (h : Channel) (f : BitVec 48) : ((h.sendHost f).countTsv p env).pcs = h.pcs := Channel.sendHost_pcs ..
  rw [h1]
  rfl

theorem State.fireDecode_passes {r : TsvRead} {cap : List TsvRead} (hc : s.chans[c].pcs[p].tsvCapture = r :: cap)
    (hs : s.readSlips c p env = false) : ∃ b, (s.fireDecode c p env).chans[c].pcs[p].returns = s.chans[c].pcs[p].returns ++ [b]
      ∧ (s.fireDecode c p env).chans[c].pcs[p].calendar = .launch :: s.chans[c].pcs[p].calendar
      ∧ (s.fireDecode c p env).chans[c].pcs[p].tsvCapture = cap
      ∧ (s.chans[c].pcs[p].echo = none → b = readBurst s.chans[c].pcs[p].managed s.chans[c].regs.dparEn
          (s.chans[c].pcs[p].decoderInput r).1 (s.chans[c].pcs[p].decoderInput r).2) := by
  unfold State.fireDecode
  rw [hc]
  dsimp only
  rw [if_neg (by rw [hs]; decide)]
  cases he : s.chans[c].pcs[p].echo with
  | some e =>
    dsimp only
    rw [State.updPc_at, State.updPc_at]
    exact ⟨_, rfl, rfl, rfl, nofun⟩
  | none =>
    have hk := ((PathKept.refl (s.updPc c p fun q => { q with tsvCapture := cap })).countRead (c := c) p r.access
      (readEvents s.chans[c].pcs[p].managed (decodeManaged (s.chans[c].pcs[p].decoderInput r).1
        (s.chans[c].pcs[p].decoderInput r).2) r.ods) (s.chans[c].pcs[p].injCause r.access) false).pc c p
    rw [State.updPc_at] at hk
    dsimp only
    generalize (s.updPc c p fun q => { q with tsvCapture := cap }).countRead .. = u at hk ⊢
    have hm : u.chans[c].pcs[p].managed = s.chans[c].pcs[p].managed := congrArg (·.2.2.2.2.1) hk
    rw [State.updCh_self, Channel.updTaper_pcs, Channel.updPc_self]
    obtain ⟨f1, f2, f3⟩ := PseudoChannel.path_toReturn ((PseudoChannel.consumeRead_path _ r.access).trans hk)
      (readBurst s.chans[c].pcs[p].managed s.chans[c].regs.dparEn
        (s.chans[c].pcs[p].decoderInput r).1 (s.chans[c].pcs[p].decoderInput r).2)
    rw [hm]
    exact ⟨_, f1, f2, f3, fun _ => rfl⟩

theorem State.fireDecode_slips {r : TsvRead} {cap : List TsvRead} (hc : s.chans[c].pcs[p].tsvCapture = r :: cap)
    (hs : s.readSlips c p env = true) :
    s.fireDecode c p env = (s.updPc c p (fun q => { q with tsvCapture := cap })).loadRead c p env
      (unservableBurst s.chans[c].pcs[p].managed s.chans[c].regs.dparEn) := by
  unfold State.fireDecode
  rw [hc]
  dsimp only
  rw [if_pos hs]

theorem State.fireLaunch_plain {b : OutBurst} {fifo : List OutBurst} (hr : s.chans[c].pcs[p].returns = b :: fifo)
    (hl : s.mgmt.lab = false) (hs : env.slip = false) :
    (s.fireLaunch c p env).chans[c].pcs[p].lanes = some (b.withSpares s.chans[c].map p)
      ∧ (s.fireLaunch c p env).chans[c].pcs[p].returns = fifo
      ∧ (s.fireLaunch c p env).chans[c].pcs[p].calendar = s.chans[c].pcs[p].calendar := by
  have he : s.fireLaunch c p env = ((s.updPc c p (fun q => { q with returns := fifo })).updPc c p
      (fun q => { q with lanes := some (b.withSpares s.chans[c].map p) })).driverLimits c p env := by
    unfold State.fireLaunch
    rw [hr, hl, hs]
    rfl
  have hk := ((PathKept.refl ((s.updPc c p (fun q => { q with returns := fifo })).updPc c p
      (fun q => { q with lanes := some (b.withSpares s.chans[c].map p) }))).driverLimits (c := c) p env).pc c p
  rw [← he, State.updPc_at, State.updPc_at] at hk
  simp only [PseudoChannel.path, Prod.mk.injEq] at hk
  obtain ⟨h1, -, h2, h3, -⟩ := hk
  exact ⟨h3, h2, h1⟩

theorem State.fireBufRead_plain {tb : Fin 16} (hs : env.slip = false) (ho : s.chans[c].pcs[p].readOutside = false) :
    (s.fireBufRead c p tb env).chans[c].pcs[p].lanes = some (bufferBurst (s.chans[c].pcs[p].buffer tb))
      ∧ (s.fireBufRead c p tb env).chans[c].pcs[p].calendar = s.chans[c].pcs[p].calendar := by
  have hk : ∃ u, PathKept (s.updPc c p (fun q => { q with lanes := some (bufferBurst (s.chans[c].pcs[p].buffer tb)) })) u
      ∧ s.fireBufRead c p tb env = u := by
    refine ⟨_, ?_, rfl⟩
    unfold State.fireBufRead
    dsimp only
    refine .driverLimits ?_ ..
    rw [hs, ho, Bool.or_false, if_neg (c := false = true) (by decide), if_neg (c := false = true) (by decide)]
    split
    · refine .updCh (.refl _) ?_
      exact fun _ => by rw [Channel.updCnt_pcs]
    · exact .refl _
  obtain ⟨u, hk, rfl⟩ := hk
  have hk := hk.pc c p
  rw [State.updPc_at] at hk
  simp only [PseudoChannel.path, Prod.mk.injEq] at hk
  obtain ⟨h1, -, -, h3, -⟩ := hk
  exact ⟨h3, h1⟩

end

/-- Settles O19: each action of a read chain, by what it hands to the next. -/
theorem readChainsReturn : Obligations.ReadChainsReturn := by
  refine fun c p env rest s => ⟨fun sid bank row col o h => ?_, fun r cap h hc => ?_, fun b fifo h hr hl hs => ?_,
    fun v ext h hs => ?_, fun h => ?_, fun tb h hs ho => ?_, fun tb bits h hs => ?_⟩
  · obtain ⟨e1, e2, e3, e4⟩ := (s.updCh c (·.takesAction p rest)).dieRead_frame c p (accessNo sid bank row col) env o
    refine ⟨_, _, exec_read h, memKept_of_cells ((State.fireRead_cells ..).trans State.takesAction_cells), ?_, ?_, e2, e3, ?_⟩
    · rw [State.fireRead_pc, e1, State.takesAction_pc]
    · rw [State.fireRead_pc, e1, State.takesAction_pc]
    · intro hd hc
      obtain ⟨f1, f2⟩ := e4 hd hc
      rw [e2, f1, f2, State.takesAction_pc]
      exact ⟨rfl, rfl⟩
  · have hc' : (s.updCh c (·.takesAction p rest)).chans[c].pcs[p].tsvCapture = r :: cap := by
      rw [State.takesAction_pc]
      exact hc
    refine ⟨_, exec_decode h, memKept_of_cells ((State.fireDecode_cells ..).trans State.takesAction_cells), ?_⟩
    have hm : (s.updCh c (·.takesAction p rest)).readSlips c p env = s.readSlips c p env := by
      unfold State.readSlips
      rw [State.takesAction_pc, State.updCh_self]
      rfl
    cases hs : s.readSlips c p env
    · obtain ⟨b, f1, f2, f3, f4⟩ := State.fireDecode_passes hc' (hm.trans hs)
      rw [f1, f2, f3]
      rw [State.takesAction_pc, State.updCh_self] at f4
      rw [State.takesAction_pc]
      exact ⟨rfl, rfl, fun _ he => by rw [f4 he]; rfl, nofun⟩
    · generalize hu : (s.updCh c (·.takesAction p rest)).updPc c p (fun q => { q with tsvCapture := cap }) = u
      have hpc : u.chans[c].pcs[p] = { s.chans[c].pcs[p] with calendar := rest, tsvCapture := cap } := by
        rw [← hu, State.updPc_at, State.takesAction_pc]
      have hch : u.chans[c].regs = s.chans[c].regs ∧ u.chans[c].cnt = s.chans[c].cnt := by
        rw [← hu, State.updPc, State.updCh_self, State.updCh_self]
        exact ⟨rfl, rfl⟩
      have hus : u.readSlips c p env = true := by
        rw [← hs]
        unfold State.readSlips
        rw [hpc, hch.1, ← hu]
        rfl
      rw [State.fireDecode_slips hc' (hm.trans hs), hu]
      obtain ⟨f1, f2, f3, -, f5, f6⟩ := State.loadRead_slipped hus
        (unservableBurst (s.updCh c (·.takesAction p rest)).chans[c].pcs[p].managed
          (s.updCh c (·.takesAction p rest)).chans[c].regs.dparEn)
      rw [f1, f2, f3, f5, hpc, hch.1, hch.2]
      exact ⟨rfl, rfl, nofun, fun _ => ⟨rfl, rfl, fun hg => f6 (by rw [← hu]; exact hg)⟩⟩
  · obtain ⟨e1, e2, e3⟩ := State.fireLaunch_plain (s := s.updCh c (·.takesAction p rest)) (c := c) (p := p) (b := b) (fifo := fifo)
      (by rw [State.takesAction_pc]; exact hr) hl hs
    refine ⟨_, exec_launch h, memKept_of_cells ((State.fireLaunch_cells ..).trans State.takesAction_cells), ?_, e2, ?_⟩
    · rw [e1, State.updCh_self]
      rfl
    · rw [e3, State.takesAction_pc]
  · have hm : (s.updCh c (·.takesAction p rest)).readSlips c p env = false := by
      unfold State.readSlips
      rw [State.takesAction_pc, State.updCh_self]
      exact hs
    refine ⟨_, (exec_modeRead h).trans (by rw [State.loadRead_passes hm, State.updCh_updCh]), onlyChannel_updCh ..,
      memKept_updCh_cells ?_, ?_⟩
    · rw [Channel.updPc_cells (PseudoChannel.toReturn_cells ..), Channel.takesAction_cells]
    · rw [State.updCh_self, Channel.updPc_self, Channel.takesAction_pc]
      exact ⟨rfl, rfl, rfl⟩
  · generalize hu : (s.updCh c (·.takesAction p rest)).updPc c p (fun q =>
        { q with errs := { q.errs with rsvRd := bump q.errs.rsvRd } }) = u
    have hpc : u.chans[c].pcs[p] = { s.chans[c].pcs[p] with
        calendar := rest, errs := { s.chans[c].pcs[p].errs with rsvRd := bump s.chans[c].pcs[p].errs.rsvRd } } := by
      rw [← hu, State.updPc_at, State.takesAction_pc]
    have hch : u.chans[c].regs = s.chans[c].regs := by
      rw [← hu, State.updPc, State.updCh_self, State.updCh_self]
      rfl
    have he : (s.updCh c (·.takesAction p rest)).fireUnservable c p env
        = u.loadRead c p env (unservableBurst u.chans[c].pcs[p].managed u.chans[c].regs.dparEn) := by
      unfold State.fireUnservable
      rw [hu, hpc, hch, State.takesAction_pc, State.updCh_self]
      rfl
    obtain ⟨f, hf⟩ := u.loadRead_updCh c p env (unservableBurst u.chans[c].pcs[p].managed u.chans[c].regs.dparEn)
    obtain ⟨f1, f2⟩ := State.loadRead_unservable (s := u) (c := c) (p := p) (env := env)
    refine ⟨_, exec_unservable h, ?_, memKept_of_cells ((State.fireUnservable_cells ..).trans State.takesAction_cells), ?_, ?_⟩
    · rw [he, hf, ← hu, State.updPc, State.updCh_updCh, State.updCh_updCh]
      exact onlyChannel_updCh ..
    · rw [he, f1, hpc, hch]
    · rw [he, f2, hpc]
  · obtain ⟨e1, e2⟩ := State.fireBufRead_plain (s := s.updCh c (·.takesAction p rest)) (c := c) (p := p) (tb := tb) hs
      (by rw [State.takesAction_pc]; exact ho)
    refine ⟨_, exec_bufRead h, memKept_of_cells ((State.fireBufRead_cells ..).trans State.takesAction_cells), ?_, ?_⟩
    · rw [e1, State.takesAction_pc]
      rfl
    · rw [e2, State.takesAction_pc]
  · have hw : (s.updCh c (·.takesAction p rest)).fireBufWrite c p tb bits env = s.updCh c (fun k =>
        (k.takesAction p rest).updPc p (fun q => { q with buffers := q.buffers.set tb (some bits) })) := by
      unfold State.fireBufWrite
      rw [(writeFails_takesAction { data := 0, ecc := 0, dpar := 0 }).2.trans hs, if_neg (by decide), State.updPc, State.updCh_updCh]
    refine ⟨_, (exec_bufWrite h).trans (congrArg _ hw), onlyChannel_updCh .., memKept_updCh_cells ?_, ?_⟩
    · rw [Channel.updPc_cells rfl, Channel.takesAction_cells]
    · rw [State.updCh_self, Channel.updPc_self, Channel.takesAction_pc]

end Sys2Proof.Machine


namespace Sys2Proof.Machine

open Sys2Proof.Safety

/-! # The I2C target -/

section
variable {s : State}

theorem exec_i2cAddress (hw : s.i2cWorks = true) (a : BitVec 7) (read : Bool) : exec (.i2cAddress a read) s
    = .next { s with i2c :=
        if s.i2c.asleep && !s.i2c.active then
          (if s.i2cMatch s.i2c.begin.cfgLive s.i2c.begin.altLive a
            then { s.i2c.begin with
              trace := s.i2c.begin.trace ++ [byteOf (2 * a.toNat + read.toNat)], phase := .ignore, ack := false
              asleep := false, stat := s.i2c.begin.stat ||| 0x40 }
            else { s.i2c.begin with
              trace := s.i2c.begin.trace ++ [byteOf (2 * a.toNat + read.toNat)], phase := .ignore, ack := false })
        else if s.i2cMatch s.i2c.begin.cfgLive s.i2c.begin.altLive a
          then ({ s.i2c.begin with trace := s.i2c.begin.trace ++ [byteOf (2 * a.toNat + read.toNat)] } : I2c).addressed read
          else { s.i2c.begin with
            trace := s.i2c.begin.trace ++ [byteOf (2 * a.toNat + read.toNat)], phase := .ignore, ack := false } } := by
  change execI2cAddress a read s = _
  unfold execI2cAddress
  rw [hw]
  rfl

theorem I2c.begin_active (x : I2c) : x.begin.active = true := by
  unfold I2c.begin
  split
  · assumption
  · rfl

theorem I2c.begin_idle {x : I2c} (h : x.active = false) : x.begin.cfgLive = x.cfg ∧ x.begin.altLive = x.alt ∧ x.begin.stat = x.stat := by
  unfold I2c.begin
  rw [if_neg (by rw [h]; decide)]
  exact ⟨rfl, rfl, rfl⟩

/-- A unit that the target captures has at least one byte. -/
theorem I2c.withPec_ne_nil (x : I2c) (sent bytes : List Byte) (p : BitVec 7) (o : BitVec 16) : x.withPec sent bytes p o ≠ [] := by
  simp [I2c.withPec]

theorem State.i2cCapture_ne_nil {s : State} (h : s.i2c.phase = .reading) : s.i2cCapture ≠ [] := by
  unfold State.i2cCapture
  dsimp only
  rw [h]
  dsimp only
  split
  · exact s.i2c.withPec_ne_nil _ _ _ _
  · split
    · exact List.append_ne_nil_of_left_ne_nil (s.i2c.withPec_ne_nil _ _ _ _) _
    · exact s.i2c.withPec_ne_nil _ _ _ _

theorem State.i2cSend_alone (s : State) (h : s.i2c.phase = .reading) :
    ∃ x : I2c, s.i2cSend = { s with i2c := x } ∧ x.phase = .reading ∧ x.out.length = s.i2c.out.length + 1 := by
  unfold State.i2cSend
  dsimp only
  have hne : (if s.i2c.sending.isEmpty then s.i2cCapture else s.i2c.sending) ≠ [] := by
    split
    · exact State.i2cCapture_ne_nil h
    · next he => exact fun h0 => he (by rw [h0]; rfl)
  rw [h]
  split
  · next h0 => exact absurd h0 hne
  · exact ⟨_, rfl, rfl, List.length_append⟩

theorem State.i2cSends_alone : ∀ (n : Nat) (s : State), s.i2c.phase = .reading →
    ∃ x : I2c, State.i2cSends n s = { s with i2c := x } ∧ x.out.length = s.i2c.out.length + n
  | 0, _, _ => ⟨_, rfl, rfl⟩
  | n + 1, s, h => by
    obtain ⟨x, e1, e2, e3⟩ := s.i2cSend_alone h
    obtain ⟨y, f1, f2⟩ := State.i2cSends_alone n { s with i2c := x } e2
    refine ⟨y, by rw [State.i2cSends, e1, f1], ?_⟩
    rw [f2, e3]
    omega

/-- Without PEC a byte of a register takes effect at once, and the pointer moves on (R493). -/
theorem exec_i2cByteWrite_register (hb : s.i2c.phase = .bytes) (hp : s.i2c.cfgLive.getLsbD 0 = false) (b : Byte) :
    exec (.i2cByteWrite b) s
      = .next { s with i2c := ({ s.i2c.took [b] with pointer := s.i2c.pointer + 1 } : I2c).writeReg s.i2c.pointer b } := by
  change execI2cByteWrite b s = _
  unfold execI2cByteWrite
  rw [hb]
  have hpec : s.i2c.pec = false := hp
  dsimp only [State.updI2c]
  rw [if_neg (by rw [hpec]; decide)]

/-- Without PEC a window word of the request area takes effect at once, and the offset moves on (R493). -/
theorem exec_windowData_word (hr : s.inReset = false) (hp : s.i2c.phase = .window) (hpec : s.i2c.cfgLive.getLsbD 0 = false)
    (hpart : s.i2c.part = []) (ho : s.i2c.offset = 0x0100) (a b c d : Byte) : exec (.windowData false [a, b, c, d]) s
      = .next { s with
          manager := { s.manager with req := s.manager.req.set 0 (BitVec.ofNat 32 (bytesToNat [a, b, c, d])) }
          i2c := { s.i2c.took [a, b, c, d] with offset := s.i2c.offset + 4, part := [] } } := by
  have hw (u : State) (hu : u.inReset = false) (w : Word32) : u.windowWrite .manager 0x0100 w = u.writeRequest .manager 0 w := by
    unfold State.windowWrite
    simp [hu]
  change execWindowData false [a, b, c, d] s = _
  unfold execWindowData
  rw [if_neg (by decide), hp]
  have hword (u : State) (hu : u.inReset = false) (ho : u.i2c.offset = 0x0100) (hpec : u.i2c.pec = false) (w : Word32) :
      u.i2cWord w = (u.updI2c (fun x => { x with offset := x.offset + 4 })).writeRequest .manager 0 w := by
    unfold State.i2cWord
    dsimp only
    rw [ho, if_neg (by decide), hpec, if_neg (by decide)]
    exact hw (u.updI2c fun x => { x with offset := x.offset + 4 }) hu w
  have hrest (u : State) : u.i2cWords [] = u.updI2c (fun x => { x with part := [] }) := by
    unfold State.i2cWords
    rfl
  refine congrArg Host.Outcome.next ?_
  have hbytes : (s.updI2c (·.took [a, b, c, d])).i2c.part ++ [a, b, c, d] = [a, b, c, d] := by
    rw [show (s.updI2c (·.took [a, b, c, d])).i2c.part = [] from hpart]
    rfl
  unfold State.i2cWindow
  rw [hbytes, State.i2cWords, hword (s.updI2c (·.took [a, b, c, d])) hr ho hpec, hrest]
  rfl

end

/-- Settles O45: what the target answers to its addresses and to command, register and window bytes. -/
theorem i2cTransfers : Obligations.I2cTransfers := by
  refine ⟨fun a s hw => ⟨fun ha hm => ?_, fun ha hm read => ?_, fun ha hi hm read => ?_⟩,
    fun s hc => ⟨fun b => ?_, fun o => ?_, fun b hb hf => ?_, ?_, fun b hb => ?_⟩, fun b s hb hp => ?_,
    fun a b c d s hr hp hpec hpart ho => ?_, fun bytes s hp => ?_⟩
  · refine ⟨_, exec_i2cAddress hw a false, ?_⟩
    rw [ha, hm]
    exact ⟨rfl, rfl, s.i2c.begin_active, rfl⟩
  · refine ⟨_, exec_i2cAddress hw a read, ?_⟩
    rw [ha, hm]
    exact ⟨rfl, rfl, rfl⟩
  · obtain ⟨e1, e2, e3⟩ := I2c.begin_idle hi
    refine ⟨_, exec_i2cAddress hw a read, ?_⟩
    rw [ha, hi, e1, e2, hm, e3]
    exact ⟨rfl, rfl, rfl, rfl⟩
  · refine ⟨_, congrArg Host.Outcome.next (if_pos hc), rfl, rfl, rfl, rfl⟩
  · refine ⟨_, congrArg Host.Outcome.next (if_pos hc), rfl, rfl, rfl, rfl⟩
  · refine ⟨_, congrArg Host.Outcome.next ((if_neg (by simp [hc])).trans (if_neg hb)), ?_⟩
    rw [hf]
    have hg : (s.manager.grant s.timeUs).claim.isSome = true := by
      unfold Window.grant
      split
      · assumption
      · rfl
    obtain ⟨g, hg⟩ := Option.isSome_iff_exists.1 hg
    refine ⟨?_, ?_, rfl, rfl⟩
    · exact congrArg Option.isSome hg
    · change some (((s.manager.grant s.timeUs).claim.getD 0).setWidth 32) = (s.manager.grant s.timeUs).claim.map _
      rw [hg]
      rfl
  · refine ⟨_, congrArg Host.Outcome.next ((if_neg (by simp [hc])).trans (if_pos rfl)), rfl, rfl⟩
  · refine ⟨_, congrArg Host.Outcome.next (if_pos ⟨hc, hb⟩), rfl, rfl, rfl⟩
  · refine ⟨_, exec_i2cByteWrite_register hb hp b, ?_⟩
    have hq (v : I2c) : (v.writeReg s.i2c.pointer b).pointer = v.pointer ∧ (v.writeReg s.i2c.pointer b).ack = v.ack := by
      unfold I2c.writeReg
      split <;> exact ⟨rfl, rfl⟩
    refine ⟨(hq _).1, (hq _).2, rfl, fun h => ?_, fun h => ?_⟩
    · rw [h]
      rfl
    · rw [h]
      rfl
  · refine ⟨_, exec_windowData_word hr hp hpec hpart ho a b c d, ?_, ?_, rfl, rfl⟩
    · dsimp only
      rw [ho]
      decide
    · exact Vector.getElem_set_self ..
  · refine ⟨_, congrArg Host.Outcome.next (if_pos (by rw [hp]; rfl)), ?_⟩
    obtain ⟨x, e1, e2⟩ := State.i2cSends_alone bytes.length (s.updI2c (fun x => { x with out := [] })) hp
    rw [e1]
    exact ⟨e2.trans (Nat.zero_add _), rfl⟩

section
variable {s : State}

/-- A declared swap is made, and recorded (R503). -/
theorem exec_i2cSwap (hw : s.i2cWorks = true) (he : s.swapEn = true) (hd : s.i2c.swapDue = true) (ha : s.i2c.swapAt = none) :
    exec .i2cSwap s = .next
      (s.updI2c (fun x => { x with swapped := !x.swapped, swapDue := false, swapAt := some s.timeUs })).recordSwap := by
  change execI2cSwap s = _
  unfold execI2cSwap
  rw [hw, he, hd, ha]
  rfl

theorem State.recordSwap_i2c (u : State) : u.recordSwap.i2c = u.i2c ∧ u.recordSwap.chans = u.chans := by
  unfold State.recordSwap
  exact ⟨State.ledger_i2c .., State.ledger_chans ..⟩

end

/-- Settles O46: the end of a transaction, and what each fault of the bus leaves of the target. -/
theorem i2cEndsAndFaults : Obligations.I2cEndsAndFaults := by
  refine fun s hw => ⟨fun ha hh hp => ⟨_, ?_, rfl⟩, fun ha => ⟨?_, ?_⟩, fun sda => ?_, fun hf => ?_, ?_, fun h1 h2 h3 => ?_⟩
  · change execI2cStop none s = _
    unfold execI2cStop
    have hpec : s.i2c.pec = false := hp
    dsimp only
    rw [hw, ha, if_neg (by decide), hpec, Bool.false_and, if_neg Bool.false_ne_true, hh]
    rfl
  · exact ⟨_, congrArg Host.Outcome.next (if_pos (by rw [hw, ha]; rfl)), rfl, rfl, rfl, rfl⟩
  · exact ⟨_, congrArg Host.Outcome.next (if_pos (by rw [hw, ha]; rfl)), rfl, rfl, rfl⟩
  · exact ⟨_, congrArg Host.Outcome.next (if_pos hw), rfl, rfl, rfl⟩
  · exact ⟨_, congrArg Host.Outcome.next (if_pos (by rw [hw, hf]; rfl)), rfl, rfl⟩
  · refine ⟨_, congrArg Host.Outcome.next (if_pos hw), rfl, fun h => ?_, fun h => ?_⟩
    · simp [State.updI2c, h]
    · simp [State.updI2c, h]
  · refine ⟨_, exec_i2cSwap hw h1 h2 h3, ?_⟩
    obtain ⟨e1, e2⟩ := (s.updI2c (fun x => { x with swapped := !x.swapped, swapDue := false, swapAt := some s.timeUs })).recordSwap_i2c
    rw [e1, e2]
    exact ⟨rfl, rfl, rfl, rfl⟩

/-! # Writes of registers -/

/-- A write of TRN_CTL without GO, ABORT and FINISH sets its fields alone. -/
theorem State.trnWrite_fields {w : Word32} (h31 : w.getLsbD 31 = false) (h30 : w.getLsbD 30 = false) (h29 : w.getLsbD 29 = false)
    (s : State) (c : Ch) : s.trnWrite c w = s.updCh c (fun h =>
      (h.setTrnFields w).setTxeq (s.chans[c].pcs.map (·.ready)) w) := by
  unfold State.trnWrite
  rw [h31, h30, h29]
  exact State.updCh_updCh s c (·.setTrnFields w) (·.setTxeq (s.chans[c].pcs.map (·.ready)) w)

theorem State.clearSyncIgn_alone (s : State) (t : Transport) (w : Word32) :
    s.clearSyncIgn t w = { s with wick := { s.wick with syncIgn := (s.clearSyncIgn t w).wick.syncIgn } } := by
  unfold State.clearSyncIgn
  split <;> rfl

/-- Settles O42: each write by the type of the field it names. -/
theorem registerWritesByFieldType : Obligations.RegisterWritesByFieldType := by
  intro s hr
  have hx (target : RegTarget) {t : State} (h : execRegisterWrite target s = .next (if s.inReset then s else t)) :
      exec (.registerWrite target) s = .next t := h.trans (by rw [hr]; rfl)
  refine ⟨fun c w h31 h30 h29 => ?_, fun b => ⟨_, hx _ rfl, rfl⟩, fun b => ⟨_, hx _ rfl, rfl⟩, fun b => ⟨_, hx _ rfl, rfl⟩,
    fun b => ⟨_, hx _ rfl, rfl⟩, fun tr i w => ⟨_, hx _ rfl, ?_⟩, fun tr w =>
        ⟨_, hx (t := s.clearSyncIgn tr w) _ rfl, State.clearSyncIgn_alone .., ?_, ?_⟩⟩
  · refine ⟨_, (hx (t := s.trnWrite c w) _ rfl).trans (by rw [State.trnWrite_fields h31 h30 h29]), onlyChannel_updCh .., ?_⟩
    rw [State.updCh_self]
    exact ⟨rfl, rfl, rfl, rfl, rfl⟩
  · cases tr
    · exact ⟨Vector.getElem_set_self .., fun j hj => Vector.getElem_set_ne i.isLt j.isLt (fun e => hj (Fin.ext e.symm)), rfl, rfl, rfl⟩
    · exact ⟨Vector.getElem_set_self .., fun j hj => Vector.getElem_set_ne i.isLt j.isLt (fun e => hj (Fin.ext e.symm)), rfl, rfl, rfl⟩
  · intro h
    unfold State.clearSyncIgn
    rw [h]
    rfl
  · intro h ht
    subst ht
    unfold State.clearSyncIgn
    rw [h]
    exact ⟨Vector.getElem_set_self .., Vector.getElem_set_ne (by decide) (by decide) (by decide)⟩

end Sys2Proof.Machine

/-! # What lies around the channels and the stores -/

namespace Sys2Proof.Machine

open Sys2Proof.Safety

/-- Wick, Lantern C's sensors and the wrapper, which most operations of the model leave alone. -/
structure Around where
  wick : Wick
  thermal : Thermal
  wrapper : Wrapper

def State.around (s : State) : Around := { wick := s.wick, thermal := s.thermal, wrapper := s.wrapper }

@[simp] theorem State.around_mk (x0 x1 x2 x3 x4 x5 x6 x7 x8 x9 x10 x11 x12 x13 x14 x15 x16 x17 x18 x19 x20 x21 x22) :
    State.around (State.mk x0 x1 x2 x3 x4 x5 x6 x7 x8 x9 x10 x11 x12 x13 x14 x15 x16 x17 x18 x19 x20 x21 x22) = ⟨x9, x10, x21⟩ := (rfl)
@[simp] theorem State.around_eta (s : State) : Around.mk s.wick s.thermal s.wrapper = s.around := (rfl)
@[simp] theorem State.around_wick (s : State) : s.around.wick = s.wick := (rfl)
@[simp] theorem State.around_thermal (s : State) : s.around.thermal = s.thermal := (rfl)
@[simp] theorem State.around_wrapper (s : State) : s.around.wrapper = s.wrapper := (rfl)

@[simp] theorem foldl_around {α : Type} {f : State → α → State} (hf : ∀ m x, (f m x).around = m.around) (l : List α) (n : State) :
    (l.foldl f n).around = n.around :=
  List.foldlRecOn (motive := fun m : State => m.around = n.around) l f rfl (fun m hm x _ => (hf m x).trans hm)

@[simp] theorem ite_around {c : Prop} [Decidable c] (a b : State) :
    (if c then a else b).around = if c then a.around else b.around := apply_ite _ _ _ _

@[simp] theorem State.updCh_around (s : State) (c : Ch) (f : Channel → Channel) :
    (State.updCh s c f).around = s.around := (rfl)

@[simp] theorem State.updAll_around (s : State) (f : Channel → Channel) :
    (State.updAll s f).around = s.around := (rfl)

@[simp] theorem State.updPc_around (s : State) (c : Ch) (p : Pc) (f : PseudoChannel → PseudoChannel) :
    (State.updPc s c p f).around = s.around := (rfl)

@[simp] theorem State.updSession_around (s : State) (k : Slot) (f : Session → Session) :
    (State.updSession s k f).around = s.around := (rfl)

@[simp] theorem State.updWindow_around (s : State) (t : Transport) (f : Window → Window) :
    (State.updWindow s t f).around = s.around := by
  unfold State.updWindow
  split <;> simp

@[simp] theorem State.updMgmt_around (s : State) (f : Mgmt → Mgmt) :
    (State.updMgmt s f).around = s.around := (rfl)

@[simp] theorem State.updNv_around (s : State) (f : NonVolatile → NonVolatile) :
    (State.updNv s f).around = s.around := (rfl)

@[simp] theorem State.setCause_around (s : State) (c : Ch) (n : Nat) :
    (State.setCause s c n).around = s.around := by simp [State.setCause]

@[simp] theorem State.setCauseAll_around (s : State) (n : Nat) :
    (State.setCauseAll s n).around = s.around := (rfl)

@[simp] theorem State.free_around (s : State) (w : Nat) :
    (State.free s w).2.around = s.around := (rfl)

@[simp] theorem State.record_around (s : State) (typ : Byte) (body : List Byte) :
    (State.record s typ body).around = s.around := by simp [State.record]

@[simp] theorem State.ledger_around (s : State) (typ : Byte) (body : List Byte) :
    (State.ledger s typ body).around = s.around := by simp [State.ledger]

@[simp] theorem State.event_around (s : State) (typ : Nat) (unit ch pc : Byte) (data : Word32) (seq : Nat) :
    (State.event s typ unit ch pc data seq).around = s.around := (rfl)

@[simp] theorem State.ledgerEvent_around (s : State) (rec : Byte) (body : List Byte) (typ : Nat) (unit ch pc : Byte) (data : Word32) :
    (State.ledgerEvent s rec body typ unit ch pc data).around = s.around := by simp [State.ledgerEvent]

@[simp] theorem State.postImage_around (s : State) (c : Ch) (x : Transfer) :
    (State.postImage s c x).around = s.around := (rfl)

@[simp] theorem State.reportMapState_around (s : State) (c : Ch) (p : Pc) (old new : MapState) :
    (State.reportMapState s c p old new).around = s.around := by simp [State.reportMapState]

@[simp] theorem State.takeMapState_around (s : State) (c : Ch) (p : Pc) (m : MapState) :
    (State.takeMapState s c p m).around = s.around := by
  unfold State.takeMapState
  split <;> simp

@[simp] theorem State.startMapLoad_around (s : State) (c : Ch) (p : Pc) (m : MapImage) (old : Option MapState) :
    (State.startMapLoad s c p m old).around = s.around := by simp [State.startMapLoad]

@[simp] theorem State.takeUpMap_around (s : State) (c : Ch) (p : Pc) (old : Option MapState) :
    (State.takeUpMap s c p old).around = s.around := by
  unfold State.takeUpMap
  split <;> simp

@[simp] theorem State.signalHealth_around (s : State) (t : BitVec 32) :
    (State.signalHealth s t).around = s.around := by simp [State.signalHealth]

@[simp] theorem State.evalHealth_around (s : State) :
    (State.evalHealth s).around = s.around := by simp [State.evalHealth]

@[simp] theorem State.journalRemap_around (s : State) (c : Ch) (p : Pc) (e : Fin 8) (w : BitVec 32) (action : RemapAction) :
    (State.journalRemap s c p e w action).around = s.around := by simp [State.journalRemap]

@[simp] theorem State.candidate_around (s : State) (c : Ch) (p : Pc) (bank : Fin 64) (row : Row) (src : BitVec 2) :
    (State.candidate s c p bank row src).1.around = s.around := by
  unfold State.candidate
  dsimp only
  repeat' split
  all_goals simp

@[simp] theorem State.promote_around (s : State) (c : Ch) (p : Pc) :
    (State.promote s c p).around = s.around := by
  unfold State.promote
  dsimp only
  repeat' split
  all_goals simp

@[simp] theorem State.bucketOverflow_around (s : State) (c : Ch) (p : Pc) :
    (State.bucketOverflow s c p).around = s.around := by simp [State.bucketOverflow]

@[simp] theorem State.wakeQuince_around (s : State) :
    (State.wakeQuince s).around = s.around := by simp [State.wakeQuince]

@[simp] theorem State.withQuince_around (s body : State) :
    (s.withQuince body).around = if s.nvFree then body.around else s.around := by
  simp [State.withQuince]

@[simp] theorem State.startNv_around (s : State) (kind : NvKind) (sector : Option (Fin 255)) (page : Option (Fin 264))
    (cont : NvCont) (owner : Option (Slot × BitVec 16)) :
    (State.startNv s kind sector page cont owner).around = s.around := by simp [State.startNv]

@[simp] theorem State.keepErased_around (s : State) :
    (State.keepErased s).around = s.around := by
  unfold State.keepErased
  repeat' split
  all_goals simp

@[simp] theorem State.setThreshold_around (s : State) (c : Ch) (th : Nat) :
    (State.setThreshold s c th).around = s.around := (rfl)

@[simp] theorem State.copyBack_around (s : State) (c : Ch) (p : Pc) :
    (State.copyBack s c p).around = s.around := (rfl)

@[simp] theorem State.remapActive_around (s : State) (c : Ch) (p : Pc) (e : Fin 8) :
    (State.remapActive s c p e).around = s.around := by simp [State.remapActive]

@[simp] theorem State.driveBaselines_around (s : State) :
    (State.driveBaselines s).around = s.around := by
  unfold State.driveBaselines
  repeat' split
  all_goals simp

@[simp] theorem State.service_around (s : State) (x : SvcCmd) :
    (State.service s x).around = s.around := (rfl)

@[simp] theorem State.updDie_around (s : State) (l : Fin 16) (f : CoreDie → CoreDie) :
    (State.updDie s l f).around = s.around := (rfl)

@[simp] theorem State.softChange_around (s : State) (x : SvcCmd) (set : Bool) :
    (State.softChange s x set).around = s.around := (rfl)

@[simp] theorem State.layerServes_around (s : State) (x : SvcCmd) (programs : Bool) :
    (State.layerServes s x programs).2.2.around = s.around := by
  unfold State.layerServes
  dsimp only
  repeat' split
  all_goals simp

@[simp] theorem State.sendTo_around (s : State) (x : SvcCmd) (programs : Bool) :
    (State.sendTo s x programs).2.2.around = s.around := by simp [State.sendTo]

@[simp] theorem State.sendAndPoll_around (s : State) (x : SvcCmd) (programs : Bool) :
    (s.sendAndPoll x programs).2.2.around = s.around := by
  have h := s.sendTo_around x programs
  unfold State.sendAndPoll
  generalize s.sendTo x programs = r at h ⊢
  split <;> simp_all

@[simp] theorem State.exchange_around (s : State) (x : SvcCmd) (programs : Bool) :
    (s.exchange x programs).2.2.around = s.around := by
  have h := s.sendTo_around x programs
  unfold State.exchange
  generalize s.sendTo x programs = r at h ⊢
  split <;> simp_all

@[simp] theorem State.fuseRd_around (s : State) (l : Fin 16) (w : Nat) :
    (State.fuseRd s l w).2.around = s.around := by simp [State.fuseRd]

@[simp] theorem State.fusePgm_around (s : State) (l : Fin 16) (w bit : Nat) (programs : Bool) :
    (State.fusePgm s l w bit programs).around = s.around := by simp [State.fusePgm]

@[simp] theorem State.programBits_around (s : State) (l : Fin 16) (w : Nat) (want failBits : Word32) :
    (s.programBits l w want failBits).around = s.around := by
  refine foldl_around (fun t b => ?_) _ _
  split <;> simp

@[simp] theorem State.resumeLoads_around (s : State) : s.resumeLoads.around = s.around := by
  refine (foldl_around (fun t x => ?_) _ _).trans (State.updMgmt_around _ _)
  split <;> simp

@[simp] theorem State.markSpareBad_around (s : State) (c : Ch) (p : Pc) (e : Fin 8) :
    (State.markSpareBad s c p e).around = s.around := by simp [State.markSpareBad]

@[simp] theorem State.moveEntry_around (s : State) (c : Ch) (p : Pc) (e : Fin 8) :
    (State.moveEntry s c p e).around = s.around := by
  unfold State.moveEntry
  dsimp only
  repeat' split
  all_goals simp

@[simp] theorem State.recordCopyUe_around (s : State) (c : Ch) (p : Pc) (bank : Fin 64) (row : Row) :
    (s.recordCopyUe c p bank row).around = s.around := by
  refine foldl_around (fun t k => ?_) _ _
  dsimp only
  split <;> simp

@[simp] theorem State.fillCopy_around (s : State) (c : Ch) (p : Pc) (e : Fin 8) :
    (State.fillCopy s c p e).around = s.around := by simp [State.fillCopy]

@[simp] theorem State.undoMove_around (s : State) (c : Ch) (lid : Fin 16) :
    (State.undoMove s c lid).around = s.around := by
  unfold State.undoMove
  repeat' split
  all_goals simp

@[simp] theorem State.moveDone_around (s : State) (c : Ch) (lid : Fin 16) :
    (State.moveDone s c lid).around = s.around := by
  unfold State.moveDone
  dsimp only
  repeat' split
  all_goals simp

@[simp] theorem State.moveStep_around (s : State) (c : Ch) (lid : Fin 16) (ok : Bool) :
    (State.moveStep s c lid ok).around = s.around := by
  unfold State.moveStep
  split <;> simp

@[simp] theorem State.serviceEnd_around (s : State) (x : SvcCmd) (ok fail : Bool) :
    (State.serviceEnd s x ok fail).around = s.around := by
  unfold State.serviceEnd
  split <;> simp

@[simp] theorem State.updBus_around (s : State) (i : Fin 2) (f : SvcBus → SvcBus) :
    (State.updBus s i f).around = s.around := (rfl)

@[simp] theorem State.complete_around (s : State) (i : Fin 2) (x : SvcCmd) (ok fail : Bool) :
    (State.complete s i x ok fail).around = s.around := by simp [State.complete]

@[simp] theorem State.copyRelease_around (s : State) (c : Ch) (p : Pc) :
    (State.copyRelease s c p).around = s.around := by
  unfold State.copyRelease
  split <;> simp

@[simp] theorem State.takeImage_around (s : State) (c : Ch) (x : Transfer) :
    (State.takeImage s c x).around = s.around := by
  unfold State.takeImage
  repeat' split
  all_goals simp

@[simp] theorem State.replayHard_around (s : State) (c : Ch) (p : Pc) (e : Fin 8) :
    (State.replayHard s c p e).around = s.around := by simp [State.replayHard]

@[simp] theorem State.replayEntry_around (s : State) (key : Nat) (w : BitVec 32) :
    (State.replayEntry s key w).around = s.around := by simp [State.replayEntry]

@[simp] theorem State.loseRepairs_around (s : State) (seq : Word32) :
    (State.loseRepairs s seq).around = s.around := by simp [State.loseRepairs]

@[simp] theorem State.recordPrivileged_around (s : State) (k : Slot) (op : BitVec 16) (r : Response) :
    (State.recordPrivileged s k op r).around = s.around := by simp [State.recordPrivileged]

@[simp] theorem State.respond_around (s : State) (k : Slot) (seq : BitVec 16) (r : Response) :
    (State.respond s k seq r).around = s.around := by
  unfold State.respond
  split <;> simp

@[simp] theorem State.markCmd_around (s : State) (k : Slot) (seq : BitVec 16) (st : CmdState) :
    (State.markCmd s k seq st).around = s.around := (rfl)

@[simp] theorem State.abandon_around (s : State) (k : Slot) :
    (State.abandon s k).around = s.around := by
  unfold State.abandon
  split <;> simp

@[simp] theorem State.endCalRuns_around (s : State) (k : Slot) (seq : Option (BitVec 16)) :
    (State.endCalRuns s k seq).around = s.around := (rfl)

@[simp] theorem State.cancel_around (s : State) (k : Slot) (seq : BitVec 16) : (s.cancel k seq).around = s.around := by
  unfold State.cancel
  refine (State.endCalRuns_around _ _ _).trans ?_
  cases s.quince.op with
  | none => simp
  | some o => dsimp only; split <;> simp

@[simp] theorem State.abandonBy_around (s : State) (k : Slot) (op : BitVec 16) :
    (State.abandonBy s k op).around = s.around := by
  unfold State.abandonBy
  split <;> simp

@[simp] theorem State.disown_around (s : State) (k : Slot) :
    (State.disown s k).around = s.around := (rfl)

@[simp] theorem State.freeSlot_around (s : State) (k : Slot) :
    (State.freeSlot s k).around = s.around := by simp [State.freeSlot]

@[simp] theorem State.releaseResponse_around (s : State) (k : Slot) (seq : BitVec 16) :
    (State.releaseResponse s k seq).around = s.around := by
  unfold State.releaseResponse
  split <;> simp

@[simp] theorem State.retire_around (s : State) (i reason : Nat) : (s.retire i reason).around = s.around := by
  unfold State.retire
  dsimp only
  repeat' split
  all_goals simp

@[simp] theorem State.importLive_around (s : State) (x : MapSection) :
    (State.importLive s x).around = s.around := by simp [State.importLive]

@[simp] theorem State.recordMark_around (s : State) (tag : Word32) (text : List Byte) (manager : Bool) (session : Byte) :
    (State.recordMark s tag text manager session).around = s.around := (rfl)

@[simp] theorem State.commitNv_around (s : State) (k : NvCont) (pulses : Nat) :
    (s.commitNv k pulses).around = (s.updNv (·.commit pulses k)).around := by
  unfold State.commitNv
  cases k <;> simp

@[simp] theorem State.pulses_around (s : State) (nothing failed : Bool) :
    (State.pulses s nothing failed).2.around = s.around := by
  unfold State.pulses
  dsimp only
  repeat' split
  all_goals simp

@[simp] theorem State.queueFuse_around (s : State) (w : Nat) (bits : Word32) (owner : Option (Slot × BitVec 16)) :
    (State.queueFuse s w bits owner).around = s.around := (rfl)

@[simp] theorem State.loopTest_around (s : State) (c : Ch) :
    (State.loopTest s c).around = s.around := by simp [State.loopTest]

@[simp] theorem State.mgmtReset_around (s : State) (cause : BitVec 3) (extra : List (Byte × List Byte)) :
    (State.mgmtReset s cause extra).around = s.around := by simp [State.mgmtReset]

@[simp] theorem State.rebuildSnap_around (s : State) :
    (State.rebuildSnap s).around = s.around := (rfl)

@[simp] theorem State.takeTurn_around (s : State) (k : Slot) :
    (State.takeTurn s k).around = s.around := (rfl)

@[simp] theorem State.answer_around (s : State) (k : Slot) (c : Cmd) (r : Response) :
    (State.answer s k c r).around = s.around := by simp [State.answer]

@[simp] theorem State.fails_around (s : State) (k : Slot) (c : Cmd) (status : Byte) (detail : Byte) :
    (State.fails s k c status detail).around = s.around := by simp [State.fails]

@[simp] theorem State.ok_around (s : State) (k : Slot) (c : Cmd) (payload : List Byte) :
    (State.ok s k c payload).around = s.around := by simp [State.ok]

@[simp] theorem State.putUpload_around (s : State) (k : Slot) (u : Option Upload) :
    (State.putUpload s k u).around = s.around := (rfl)

@[simp] theorem State.optionAnswer_around (s : State) (k : Slot) (c : Cmd) :
    (State.optionAnswer s k c).around = s.around := by simp [State.optionAnswer]

@[simp] theorem State.drainImages_around (s : State) (c : Ch) : (s.drainImages c).around = s.around := by
  refine foldl_around (fun t _ => ?_) _ _
  split <;> simp

@[simp] theorem State.dropUpload_around (s : State) (k : Slot) (o : OwnedObject) :
    (State.dropUpload s k o).around = s.around := (rfl)

@[simp] theorem State.march_around (s : State) (c : Ch) (p : Pc) (sids : BitVec 4) :
    (State.march s c p sids).around = s.around := (rfl)

@[simp] theorem State.startTest_around (s : State) (c : Ch) (p : Pc) (kind : BitVec 2) (sids : BitVec 4) :
    (State.startTest s c p kind sids).around = s.around := by simp [State.startTest]

@[simp] theorem State.repairCopy_around (s : State) (c : Ch) (p : Pc) (w : BitVec 32) :
    (State.repairCopy s c p w).around = s.around := by simp [State.repairCopy]

@[simp] theorem State.programRecord_around (s : State) (l : Fin 16) (a : Nat) (row : Row) (failBits : Word32) :
    (State.programRecord s l a row failBits).around = s.around := by simp [State.programRecord]

@[simp] theorem State.verifyRecord_around (s : State) (l : Fin 16) (a : Nat) (row : Row) :
    (State.verifyRecord s l a row).2.around = s.around := by
  unfold State.verifyRecord
  split <;> simp

@[simp] theorem State.handImage_around (s : State) (c : Ch) (x : Transfer) :
    (State.handImage s c x).around = s.around := by simp [State.handImage]

@[simp] theorem State.hardRepair_around (s : State) (k : Slot) (c : Cmd) (ch : Ch) (p : Pc) (e : Fin 8) (failBits : Word32) :
    (State.hardRepair s k c ch p e failBits).around = s.around := by simp [State.hardRepair]

@[simp] theorem State.activated_around (s : State) (k : Slot) (seq : BitVec 16) (status : Byte) :
    (State.activated s k seq status).around = s.around := by simp [State.activated]

@[simp] theorem State.imageActivated_around (s : State) (k : Slot) (c : Cmd) :
    (State.imageActivated s k c).around = s.around := by simp [State.imageActivated]

@[simp] theorem State.programDone_around (s before : State) (k : Slot) (c : Cmd) (cont : NvCont) :
    (State.programDone s before k c cont).around = s.around := by
  unfold State.programDone
  split <;> simp

@[simp] theorem State.programFailed_around (s : State) (k : Slot) (c : Cmd) :
    (State.programFailed s k c).around = s.around := by simp [State.programFailed]

@[simp] theorem State.answerOp_around (s before : State) (o : NvOp) (ok : Bool) :
    (State.answerOp s before o ok).around = s.around := by
  unfold State.answerOp
  repeat' split
  all_goals simp

@[simp] theorem State.wornSector_around (s : State) (o : NvOp) (ok : Bool) (pulses : Nat) (margin : Margin) :
    (State.wornSector s o ok pulses margin).around = s.around := by
  unfold State.wornSector
  split <;> simp

@[simp] theorem State.nextOp_around (s : State) (o : NvOp) (ok : Bool) :
    (State.nextOp s o ok).around = s.around := by
  unfold State.nextOp
  split <;> simp

@[simp] theorem State.recordOwed_around (s : State) :
    (State.recordOwed s).around = s.around := by simp [State.recordOwed]

@[simp] theorem State.restage_around (s : State) :
    (State.restage s).around = s.around := by simp [State.restage]

@[simp] theorem State.release_around (s : State) (t : Transport) :
    (State.release s t).around = s.around := by
  unfold State.release
  dsimp only
  repeat' split
  all_goals simp

end Sys2Proof.Machine


namespace Sys2Proof.Machine

open Sys2Proof.Safety

/-! # The IEEE 1500 wrapper -/

/-- Nothing but the wrapper and the results of training has changed. -/
structure Rewired (s t : State) : Prop where
  rest : t = { s with chans := t.chans, wrapper := t.wrapper }
  chan : ∀ c : Ch, ∃ tr, t.chans[c] = { s.chans[c] with trn := tr }

theorem rewired_leaveExtest (s : State) : Rewired s s.leaveExtest := by
  unfold State.leaveExtest
  split
  · refine ⟨rfl, fun c => ⟨_, State.updAll_at ..⟩⟩
  · exact ⟨rfl, fun _ => ⟨_, rfl⟩⟩

theorem rewired_loadWir (s : State) (code : Byte) : Rewired s (s.loadWir code) := by
  unfold State.loadWir
  dsimp only
  split
  · have h := rewired_leaveExtest s
    exact ⟨by rw [h.rest], h.chan⟩
  · exact ⟨rfl, fun _ => ⟨_, rfl⟩⟩

section
variable {s t : State} (h : Rewired s t)
include h

theorem Rewired.memKept : memKept s t :=
  memKept_of_sameCells (by rw [h.rest]) fun c p => by
    obtain ⟨tr, e⟩ := h.chan c
    rw [e]
    exact .refl _

theorem Rewired.nv : t.nv = s.nv := by rw [h.rest]

theorem Rewired.thermal : t.thermal = s.thermal := by rw [h.rest]

theorem Rewired.windows : t.host = s.host ∧ t.manager = s.manager ∧ t.sessions = s.sessions ∧ t.inReset = s.inReset := by
  rw [h.rest]
  exact ⟨rfl, rfl, rfl, rfl⟩

theorem Rewired.map (c : Ch) : t.chans[c].map = s.chans[c].map := by
  obtain ⟨tr, e⟩ := h.chan c
  rw [e]

theorem Rewired.askTest (c : Ch) (p : Pc) (kind : BitVec 2) (sids : BitVec 4) : t.askTest c p kind sids = s.askTest c p kind sids := by
  obtain ⟨tr, e⟩ := h.chan c
  have hsids : t.testSids sids = s.testSids sids := by
    rw [h.rest]
    rfl
  unfold State.askTest
  rw [hsids, e]

end

theorem exec_wrapperRow {s t : State} {r : Result} (hr : s.inReset = false) (h : r = s.wrapperRow t) : r = .next t := by
  rw [h]
  unfold State.wrapperRow
  rw [hr]
  rfl

theorem rewired_refuseWir (s : State) : Rewired s s.refuseWir := by
  have h := rewired_loadWir s 0
  exact ⟨by rw [State.refuseWir, h.rest], h.chan⟩

/-- EXTEST acts, with the boundary cells it leaves (R508). -/
def State.extests (s : State) (code : Byte) (cells : BitVec 3808) : State :=
  { s.loadWir code with wrapper := { (s.loadWir code).wrapper with extest := true, wbr := cells } }

theorem State.extests_wrapper (s : State) (code : Byte) (cells : BitVec 3808) : (s.extests code cells).wrapper.wir = code
    ∧ (s.extests code cells).wrapper.extest = true ∧ (s.extests code cells).wrapper.wbr = cells := ⟨rfl, rfl, rfl⟩

theorem memKept_extests (s : State) (code : Byte) (cells : BitVec 3808) : memKept s (s.extests code cells) :=
  (rewired_loadWir s code).memKept

/-- A word of a request window at its offset (Table 13-1). -/
theorem State.windowWrite_request {s : State} (hr : s.inReset = false) (tr : Transport) {o : BitVec 16} {i : Fin 256}
    (ho : o.toNat / 4 = 64 + i.val) (w : Word32) : s.windowWrite tr o w = s.writeRequest tr i w := by
  have hi := i.isLt
  unfold State.windowWrite
  dsimp only
  rw [hr, if_neg Bool.false_ne_true, if_neg (by omega), if_neg (by omega), if_neg (by omega), dif_pos (by omega)]
  exact congrArg (State.writeRequest _ _ · w) (Fin.ext (by dsimp only; omega))

theorem Rewired.setCapture {s t : State} (h : Rewired s t) (v : BitVec 64) : Rewired s (t.setCapture v) :=
  ⟨by rw [State.setCapture, h.rest], h.chan⟩

theorem State.setCapture_capture (s : State) (v : BitVec 64) : (s.setCapture v).wrapper.capture = v := rfl

theorem State.setCapture_wir (s : State) (code : Byte) (v : BitVec 64) : ((s.loadWir code).setCapture v).wrapper.wir = code := rfl

/-- LANE_REPAIR selected with its channel and unit (R506). -/
def State.selectsLane (s : State) (c : Ch) (u : Fin 8) : State :=
  { s.loadWir 5 with wrapper := { (s.loadWir 5).wrapper with selCh := c, selUnit := u } }

theorem rewired_selectsLane (s : State) (c : Ch) (u : Fin 8) : Rewired s (s.selectsLane c u) := by
  have h := rewired_loadWir s 5
  exact ⟨by rw [State.selectsLane, h.rest], h.chan⟩

theorem State.selectsLane_wrapper (s : State) (c : Ch) (u : Fin 8) (v : BitVec 64) :
    ((s.selectsLane c u).setCapture v).wrapper.wir = 5 ∧ ((s.selectsLane c u).setCapture v).wrapper.selCh = c
      ∧ ((s.selectsLane c u).setCapture v).wrapper.selUnit = u := ⟨rfl, rfl, rfl⟩

/-- MBIST selected with what its register takes (R509). -/
def State.selectsTest (s : State) (w : Word32) : State :=
  { s.loadWir 7 with wrapper := { (s.loadWir 7).wrapper with mbistSel := w.extractLsb' 16 13 &&& 0x1FF8 } }

theorem rewired_selectsTest (s : State) (w : Word32) : Rewired s (s.selectsTest w) := by
  have h := rewired_loadWir s 7
  exact ⟨by rw [State.selectsTest, h.rest], h.chan⟩

/-- A test that MBIST has started. -/
def State.mbistRuns (u : State) : State :=
  { u with wrapper := { u.wrapper with mbistState := 1, mbistHandle := u.mgmt.lastHandle } }

theorem State.mbistRuns_wrapper (u : State) (v : BitVec 64) : (u.mbistRuns.setCapture v).wrapper.wir = u.wrapper.wir
    ∧ (u.mbistRuns.setCapture v).wrapper.mbistState = 1
    ∧ (u.mbistRuns.setCapture v).wrapper.mbistHandle = (u.mbistRuns.setCapture v).mgmt.lastHandle := ⟨rfl, rfl, rfl⟩

theorem State.mbistGo_starts {s : State} {c : Ch} {p : Pc} {kind : BitVec 2} {sids : BitVec 4} (ht : s.thermal.trip = false)
    (ha : s.askTest c p kind sids = .starts) : s.mbistGo c p kind sids = (s.startTest c p kind sids).mbistRuns := by
  unfold State.mbistGo
  dsimp only
  rw [ht, ha]
  rfl

section
variable {s : State} (hr : s.inReset = false)
include hr

theorem exec_deviceId : exec .deviceId s = .next ((s.loadWir 1).setCapture (BitVec.ofNat 64 s.deviceIdWord)) :=
  exec_wrapperRow hr rfl

theorem exec_tempRead : exec .tempRead s = .next ((s.loadWir 6).setCapture (BitVec.ofNat 64 (s.thermal.temp.toNat * 2 ^ 45
    + s.thermal.trip.toNat * 2 ^ 44 + s.hotStack.toNat * 2 ^ 16 + s.hotBase.toNat))) :=
  exec_wrapperRow hr rfl

theorem exec_extest (he : s.extestAllowed = true) (v : BitVec 3808) :
    exec (.extestRx v) s = .next (s.extests 2 (clearCells v bumpOutput))
      ∧ exec (.extestTx v) s = .next (s.extests 3 (clearCells v bumpInput)) := by
  have h {a b : State} : (if !s.extestAllowed then a else b) = b := by rw [he]; rfl
  exact ⟨exec_wrapperRow hr (congrArg s.wrapperRow h), exec_wrapperRow hr (congrArg s.wrapperRow h)⟩

theorem exec_extest_refused (he : s.extestAllowed = false) (v : BitVec 3808) :
    exec (.extestRx v) s = .next s.refuseWir ∧ exec (.extestTx v) s = .next s.refuseWir := by
  have h {a b : State} : (if !s.extestAllowed then a else b) = a := by rw [he]; rfl
  exact ⟨exec_wrapperRow hr (congrArg s.wrapperRow h), exec_wrapperRow hr (congrArg s.wrapperRow h)⟩

theorem exec_mbxAccess_unaligned {o : BitVec 16} (ho : o.toNat % 4 ≠ 0) (wr : Bool) (w : Word32) :
    exec (.mbxAccess wr o w) s = .next ((s.loadWir 4).setCapture (mbxCapture true o 0)) :=
  exec_wrapperRow hr (congrArg s.wrapperRow (if_pos ho).symm).symm

/-- A word of the host's request area (R505). -/
theorem exec_mbxAccess_request (i : Fin 256) (w : Word32) : exec (.mbxAccess true (BitVec.ofNat 16 (256 + 4 * i.val)) w) s
    = .next (((s.loadWir 4).writeRequest .host i w).setCapture (mbxCapture false (BitVec.ofNat 16 (256 + 4 * i.val)) 0)) := by
  have hi := i.isLt
  have hn : (BitVec.ofNat 16 (256 + 4 * i.val)).toNat = 256 + 4 * i.val := by
    rw [BitVec.toNat_ofNat]
    omega
  have hw : (s.loadWir 4).windowWrite .host (BitVec.ofNat 16 (256 + 4 * i.val)) w = (s.loadWir 4).writeRequest .host i w := by
    refine State.windowWrite_request ((rewired_loadWir s 4).windows.2.2.2.trans hr) _ ?_ w
    rw [hn]
    omega
  refine exec_wrapperRow hr (congrArg s.wrapperRow ?_)
  rw [hn, if_neg (by omega), hw]
  rfl

/-- A read of a lane map selects it and captures it (R506). -/
theorem exec_laneRepair_read (c : Ch) (u : Fin 8) (w : Word32) : exec (.laneRepair false c u w) s
    = .next ((s.selectsLane c u).setCapture (s.chans[c].laneCapture c u)) := by
  have hc : (s.loadWir 5).chans[c].laneCapture c u = s.chans[c].laneCapture c u := by
    unfold Channel.laneCapture
    rw [(rewired_loadWir s 5).map c]
  refine exec_wrapperRow hr (congrArg s.wrapperRow ?_)
  rw [← hc]
  split <;> rfl

/-- GO of MBIST where the test may start (R509). -/
theorem exec_mbist_starts {w : Word32} {p : Pc} (hp : p = ⟨(w.getLsbD 23).toNat, by cases w.getLsbD 23 <;> decide⟩)
    (hw : w.getLsbD 31 = true) (ht : s.thermal.trip = false)
    (ha : s.askTest (w.extractLsb' 24 5).toFin p (w.extractLsb' 29 2) (w.extractLsb' 19 4) = .starts) :
    exec (.mbist w) s = .next (((s.selectsTest w).startTest (w.extractLsb' 24 5).toFin p (w.extractLsb' 29 2)
        (w.extractLsb' 19 4)).mbistRuns.setCapture ((s.selectsTest w).startTest (w.extractLsb' 24 5).toFin p (w.extractLsb' 29 2)
        (w.extractLsb' 19 4)).mbistRuns.mbistCapture) := by
  subst hp
  have h2 := rewired_selectsTest s w
  have hgo := State.mbistGo_starts (s := s.selectsTest w) (by rw [h2.thermal]; exact ht) ((h2.askTest ..).trans ha)
  refine exec_wrapperRow hr (congrArg s.wrapperRow ?_)
  rw [hw, if_pos rfl, ← hgo]
  rfl

/-- Raw access to the fuses, while FACTORY_CLOSE is not blown (R510). -/
theorem exec_factory_program (hf : s.factoryClosed = false) (ht : s.thermal.trip = false) (w : Fin 512) (bits : BitVec 39) :
    exec (.factory (.program w bits)) s = .next (((s.loadWir 8).blow w.val bits 0).setCapture 0) := by
  refine exec_wrapperRow hr (congrArg s.wrapperRow ?_)
  dsimp only
  rw [hf, ht]
  rfl

theorem exec_factory_readFuse (hf : s.factoryClosed = false) (w : Fin 512) :
    exec (.factory (.readFuse w)) s = .next ((s.loadWir 8).setCapture ((s.rawFuse w.val).setWidth 64)) := by
  refine exec_wrapperRow hr (congrArg s.wrapperRow ?_)
  dsimp only
  rw [hf]
  rfl

theorem exec_factory_closed (hf : s.factoryClosed = true) (w : Fin 512) (bits : BitVec 39) :
    exec (.factory (.program w bits)) s = .next s.refuseWir := by
  refine exec_wrapperRow hr (congrArg s.wrapperRow ?_)
  dsimp only
  rw [hf]
  rfl

end

/-- Settles O47: what each instruction of the wrapper selects, captures and starts. -/
theorem wrapperInstructions : Obligations.WrapperInstructions := by
  intro s hr
  refine ⟨⟨_, exec_wrapperRow hr rfl, rfl, rfl, ((rewired_loadWir s 0).setCapture _).memKept, ((rewired_loadWir s 0).setCapture _).nv⟩,
    ⟨_, exec_deviceId hr, State.setCapture_wir .., State.setCapture_capture .., ((rewired_loadWir s 1).setCapture _).memKept,
        ((rewired_loadWir s 1).setCapture _).nv⟩,
    fun v => ⟨fun he => ?_, fun he => ?_⟩, fun wr o w ho => ?_, fun i w => ?_, fun c u w => ?_, ?_, fun w hw ht ha => ?_, fun
        w bits hf ht => ?_,
    fun hf w bits => ?_⟩
  · obtain ⟨e1, e2⟩ := exec_extest hr he v
    obtain ⟨f1, f2, f3⟩ := s.extests_wrapper 2 (clearCells v bumpOutput)
    obtain ⟨g1, g2, g3⟩ := s.extests_wrapper 3 (clearCells v bumpInput)
    exact ⟨⟨_, e1, f1, f2, f3, memKept_extests _ _ _⟩, ⟨_, e2, g1, g2, g3, memKept_extests _ _ _⟩⟩
  · obtain ⟨e1, e2⟩ := exec_extest_refused hr he v
    exact ⟨_, e1, e2, rfl, rfl, (rewired_refuseWir s).memKept⟩
  · obtain ⟨e1, -, e3, -⟩ := (rewired_loadWir s 4).windows
    exact ⟨_, exec_mbxAccess_unaligned hr ho wr w, State.setCapture_wir .., State.setCapture_capture .., e1, e3⟩
  · obtain ⟨e1, e2, e3, -⟩ := (rewired_loadWir s 4).windows
    exact ⟨_, exec_mbxAccess_request hr i w, rfl, Vector.getElem_set_self .., e2, e3⟩
  · obtain ⟨e1, e2, e3⟩ := s.selectsLane_wrapper c u (s.chans[c].laneCapture c u)
    exact ⟨_, exec_laneRepair_read hr c u w, e1, e2, e3, State.setCapture_capture ..,
      ((rewired_selectsLane s c u).setCapture _).memKept⟩
  · exact ⟨_, exec_tempRead hr, State.setCapture_wir .., ((rewired_loadWir s 6).setCapture _).memKept,
      ((rewired_loadWir s 6).setCapture _).nv, State.setCapture_capture ..⟩
  · obtain ⟨e1, e2, e3⟩ := State.mbistRuns_wrapper ((s.selectsTest w).startTest (w.extractLsb' 24 5).toFin
      ⟨(w.getLsbD 23).toNat, by cases w.getLsbD 23 <;> decide⟩ (w.extractLsb' 29 2) (w.extractLsb' 19 4)) (State.mbistCapture _)
    exact ⟨_, exec_mbist_starts hr rfl hw ht ha,
      e1.trans (congrArg (fun x => x.wrapper.wir) (State.startTest_around ..)), e2, e3⟩
  · have hn := (rewired_loadWir s 8).nv
    have hraw : (s.loadWir 8).rawFuse w.val = s.rawFuse w.val := by
      unfold State.rawFuse
      rw [hn]
    refine ⟨⟨_, exec_factory_program hr hf ht w bits, rfl, ?_, ?_, memKept_of_cells (by simp)⟩,
      ⟨_, exec_factory_readFuse hr hf w, State.setCapture_capture .., hn⟩⟩
    · refine (sparseGet_set_self ..).trans ?_
      rw [show sparseGet (s.loadWir 8).nv.efuse w.val = s.rawFuse w.val from hraw]
      exact congrArg (s.rawFuse w.val ||| ·) BitVec.and_allOnes
    · exact congrArg (fun n => n.user) hn
  · exact ⟨_, exec_factory_closed hr hf w bits, rfl, rfl, (rewired_refuseWir s).nv⟩

end Sys2Proof.Machine


namespace Sys2Proof.Machine

open Sys2Proof.Safety

/-! # Windows and sessions -/

section
variable (s : State) (k : Slot)

/-- No operation that frees a slot changes GEN (R357). -/
theorem State.abandon_gen : (s.abandon k).sessions[k].gen = s.sessions[k].gen := by
  have h1 : (s.updSession k (fun x => { x with upload := none })).sessions[k].gen = s.sessions[k].gen := by
    rw [State.updSession_self]
  unfold State.abandon
  split
  · rfl
  · dsimp only
    repeat' split
    all_goals exact h1

theorem State.cancel_sessions (seq : BitVec 16) : (s.cancel k seq).sessions = s.sessions := rfl

theorem State.disown_sessions : (s.disown k).sessions = s.sessions := rfl

theorem State.freeSlot_self : (s.freeSlot k).sessions[k] = { gen := s.sessions[k].gen } := by
  have hc (l : List Cmd) : (l.foldl (fun (t : State) c => t.cancel k c.seq) s).sessions = s.sessions :=
    List.foldlRecOn (motive := fun t : State => t.sessions = s.sessions) l _ rfl fun _ ht _ _ => ht
  unfold State.freeSlot
  dsimp only
  rw [State.updSession_self, State.disown_sessions, Session.freed, State.abandon_gen, hc]

theorem State.updWindow_self (t : Transport) (f : Window → Window) : (s.updWindow t f).window t = f (s.window t) := by
  cases t <;> rfl

theorem State.updWindow_other {t u : Transport} (h : u ≠ t) (f : Window → Window) : (s.updWindow t f).window u = s.window u := by
  cases t <;> cases u
  · exact absurd rfl h
  · rfl
  · rfl
  · exact absurd rfl h

end

/-- A grant gives the tag after the last one, never 0 (R350). -/
theorem Window.grant_free {w : Window} (h : w.claim = none) (now : Nat) : (w.grant now).claim = some (w.grant now).lastTag
    ∧ (w.grant now).lastTag = (if w.lastTag = 0xFFFF then 1 else w.lastTag + 1) ∧ (w.grant now).respValid = false := by
  unfold Window.grant
  rw [h]
  exact ⟨rfl, rfl, rfl⟩

theorem State.updWindow_grant_claimed {s : State} {tr : Transport} (h : (s.window tr).claim ≠ none) :
    s.updWindow tr (·.grant s.timeUs) = s := by
  have hg : (s.window tr).grant s.timeUs = s.window tr := if_pos (Option.isSome_iff_ne_none.2 h)
  cases tr
  · exact congrArg (fun w => { s with host := w }) hg
  · exact congrArg (fun w => { s with manager := w }) hg

theorem nextTag_ne_zero (n : BitVec 16) : (if n = 0xFFFF then 1 else n + 1) ≠ 0 := by
  split
  · decide
  · next h =>
    intro h0
    exact h (by bv_omega)

/-- Settles O39: claims end and sessions' timers run out, each in its window or slot. -/
theorem windowClaimsAndSessionTimers : Obligations.WindowClaimsAndSessionTimers := by
  refine ⟨fun tr other s ho => ⟨fun hr hc => ?_, fun hc => ?_, ?_, fun hr => ?_⟩, fun k s => ⟨fun hl hs => ?_, ?_, ?_, ?_⟩⟩
  · obtain ⟨e1, e2, e3⟩ := Window.grant_free hc s.timeUs
    refine ⟨_, congrArg Host.Outcome.next (if_neg (by rw [hr]; decide)), ?_⟩
    rw [State.updWindow_self, State.updWindow_other s ho]
    refine ⟨e1, e2, ?_, e3, rfl, ?_, ?_⟩
    · rw [e2]
      exact nextTag_ne_zero _
    · cases tr <;> rfl
    · cases tr <;> rfl
  · refine congrArg Host.Outcome.next ?_
    split
    · rfl
    · exact State.updWindow_grant_claimed hc
  · refine ⟨_, rfl, ?_⟩
    rw [State.updWindow_self, State.updWindow_other s ho]
    exact ⟨rfl, rfl, rfl, by cases tr <;> rfl, by cases tr <;> rfl⟩
  · refine ⟨_, congrArg Host.Outcome.next (if_neg (by rw [hr]; decide)), ?_⟩
    rw [State.updWindow_self, State.updWindow_other s ho]
    exact ⟨rfl, rfl, by cases tr <;> rfl, by cases tr <;> rfl⟩
  · refine ⟨_, congrArg Host.Outcome.next (if_pos (by rw [hl, hs]; rfl)), ?_, ?_, ?_, ?_⟩
    · rw [State.ledger_sessions, State.freeSlot_self]
    · exact memKept_of_cells ((State.ledger_cells ..).trans (State.freeSlot_cells ..))
    · exact congrArg (fun x => x.store.1) ((State.ledger_kept ..).trans (State.freeSlot_kept ..))
    · exact congrArg Around.wick ((State.ledger_around ..).trans (State.freeSlot_around ..))
  · exact ⟨_, rfl, State.updSession_self .., rfl, fun j hj => State.updSession_other _ _ hj⟩
  · exact ⟨_, rfl, State.updSession_self .., rfl, fun j hj => State.updSession_other _ _ hj⟩
  · refine ⟨_, rfl, rfl, rfl, ?_⟩
    rw [State.updSession_self]
    exact ⟨rfl, rfl⟩

/-! # Acceptance -/

theorem State.restartLease_live (s : State) (t : Transport) (id : Byte) (k : Slot) :
    (s.restartLease t id).sessions[k].live = s.sessions[k].live := by
  unfold State.restartLease
  split
  · next j _ =>
    by_cases h : k = j
    · subst h
      rw [State.updSession_self]
      split <;> rfl
    · rw [State.updSession_other _ _ h]
  · rfl

theorem nextGen_ne_zero : ∀ g : BitVec 4, nextGen g ≠ 0 := by decide

/-- An OPEN takes the lowest free slot (R357). -/
theorem State.acceptOpen_free {s : State} {f : Frame} (hf : f.session = 0) (hk : ∃ k : Slot, s.sessions[k].live = false)
    (t : Transport) : ∃ k : Slot, (s.acceptOpen t f).2.1 = stOk ∧ s.sessions[k].live = false
      ∧ (∀ j : Slot, j.val < k.val → s.sessions[j].live = true)
      ∧ (s.acceptOpen t f).1.sessions[k].live = true ∧ (s.acceptOpen t f).1.sessions[k].gen ≠ 0
      ∧ (s.acceptOpen t f).1.sessions[k].transport = t := by
  unfold State.acceptOpen
  rw [if_neg (not_not.2 hf)]
  cases hfind : (List.finRange 16).find? (fun k => !s.sessions[k].live) with
  | none =>
    obtain ⟨k, hk⟩ := hk
    have := List.find?_eq_none.1 hfind k (List.mem_finRange k)
    rw [hk] at this
    exact absurd rfl this
  | some k =>
    obtain ⟨hk, i, hi, he, hlow⟩ := List.find?_eq_some_iff_getElem.1 hfind
    rw [List.getElem_finRange] at he
    refine ⟨k, rfl, by simpa using hk, fun j hj => ?_, ?_⟩
    · have hji : j.val < i := by rw [← he] at hj; exact hj
      have := hlow j.val hji
      rw [List.getElem_finRange] at this
      simpa using this
    · have hs (x : Session) : (s.sessions.set k x)[k] = x := Vector.getElem_set_self ..
      dsimp only
      rw [hs]
      exact ⟨rfl, nextGen_ne_zero _, rfl⟩

/-- Settles O41: the first checks in their order, and an OPEN that finds a slot. -/
theorem acceptanceOrder : Obligations.AcceptanceOrder := by
  refine fun tr f s => ⟨fun h => ?_, fun h1 h2 h3 => ?_, fun h1 h2 h3 h4 => ?_, fun h1 h2 h3 h4 h5 h6 h7 hk => ?_⟩
  · unfold State.accept
    rw [if_pos (by rcases h with h | h <;> simp [h])]
    exact ⟨rfl, rfl⟩
  all_goals
    unfold State.accept
    rw [if_neg (by simp [h2]; omega)]
  · rw [h3]
    exact ⟨rfl, rfl⟩
  · rw [h3, h4]
    rfl
  · have hlive := s.restartLease_live tr f.session
    rw [h3, h4, h5, h6]
    obtain ⟨k, e1, e2, e3, e4⟩ := State.acceptOpen_free (s := s.restartLease tr f.session) h7
      (hk.imp fun k h => (hlive k).trans h) tr
    exact ⟨k, e1, (hlive k).symm.trans e2, fun j hj => (hlive j).symm.trans (e3 j hj), e4⟩

end Sys2Proof.Machine


namespace Sys2Proof.Machine

open Sys2Proof.Safety

/-! # The load of the fuse shadow -/

/-- What the shadow resolved, and the bits of the fuses, stand. -/
structure ShadowKept (s t : State) : Prop where
  loaded : t.fuse.loaded = s.fuse.loaded
  words : t.fuse.words = s.fuse.words
  invalid : t.fuse.invalid = s.fuse.invalid
  efuse : t.nv.efuse = s.nv.efuse

theorem ShadowKept.trans {s t u : State} (h : ShadowKept s t) (h' : ShadowKept t u) : ShadowKept s u :=
  ⟨h'.loaded.trans h.loaded, h'.words.trans h.words, h'.invalid.trans h.invalid, h'.efuse.trans h.efuse⟩

theorem ShadowKept.refl (s : State) : ShadowKept s s := ⟨rfl, rfl, rfl, rfl⟩

theorem ShadowKept.foldl {α : Type} {f : State → α → State} (hf : ∀ t x, ShadowKept t (f t x)) (l : List α) (s : State) :
    ShadowKept s (l.foldl f s) :=
  List.foldlRecOn (motive := ShadowKept s) l f (.refl s) fun _ ht x _ => ht.trans (hf _ x)

theorem shadowKept_loadLane (s : State) (w : Word32) : ShadowKept s (s.loadLane w) := by
  unfold State.loadLane
  dsimp only
  repeat' split
  all_goals exact ⟨rfl, rfl, rfl, rfl⟩

theorem shadowKept_loadTsv (s : State) (w : Word32) : ShadowKept s (s.loadTsv w) := by
  unfold State.loadTsv
  dsimp only
  repeat' split
  all_goals exact ⟨rfl, rfl, rfl, rfl⟩

theorem shadowKept_ledger (s : State) (typ : Byte) (body : List Byte) : ShadowKept s (s.ledger typ body) := by
  refine ⟨?_, ?_, ?_, ?_⟩ <;> simp

theorem shadowKept_recordLoad (s : State) (f : Sensed) : ShadowKept s (s.recordLoad f) := by
  unfold State.recordLoad
  refine (ShadowKept.foldl (fun t w => shadowKept_ledger ..) _ s).trans (.foldl (fun t r => ?_) _ _)
  split
  · exact shadowKept_ledger ..
  · exact .refl t

theorem shadowKept_fuseLoad (s : State) (f : Sensed) : ShadowKept { s with fuse := loadShadow f } (s.fuseLoad f) := by
  unfold State.fuseLoad
  exact (ShadowKept.foldl (fun t k => shadowKept_loadLane t _) _ _).trans
    ((ShadowKept.foldl (fun t k => shadowKept_loadTsv t _) _ _).trans (shadowKept_recordLoad _ f))

/-- Settles O44: the shadow is loaded once, and programming only adds bits. -/
theorem fusesLoadAndProgram : Obligations.FusesLoadAndProgram := by
  refine ⟨fun senses s hr hl => ?_, fun senses s hl => ?_, fun w bits failed s => sparseGet_set_self⟩
  · have h := shadowKept_fuseLoad s (s.sensedWith senses)
    exact ⟨_, congrArg Host.Outcome.next (if_neg (by rw [hr, hl]; decide)), h.loaded, h.efuse, h.words, h.invalid,
      memKept_of_cells (State.fuseLoad_cells ..)⟩
  · exact congrArg Host.Outcome.next (if_pos (by rw [hl, Bool.or_true]))

end Sys2Proof.Machine


namespace Sys2Proof.Machine

open Sys2Proof.Safety

/-! # Rails, resets and domains -/

theorem mem_recordMaps_hard {words : List (Nat × Word32)} {rows : Nat} {sid : Sid} {c : Ch} {p : Pc} {m : SpareMap}
    (h : m ∈ recordMaps words rows sid c p) : m.hard = true := by
  obtain ⟨w, -, hw⟩ := List.mem_filterMap.1 h
  dsimp only at hw
  split at hw
  · rw [← Option.some.inj hw]
  · cases hw

theorem State.mem_recordSpares_hard {s : State} {c : Ch} {p : Pc} {m : SpareMap} (h : m ∈ s.recordSpares c p) : m.hard = true := by
  obtain ⟨sid, -, hm⟩ := List.mem_flatMap.1 h
  exact mem_recordMaps_hard hm

/-- The core dies lose their registers and soft mappings and keep their anti-fuses (R141). -/
theorem State.diesPowerUp_dies (s : State) (l : Fin 16) : (s.diesPowerUp.dies[l]).coreRl = 0 ∧ (s.diesPowerUp.dies[l]).tsvRep = []
    ∧ (s.diesPowerUp.dies[l]).pend = none ∧ (s.diesPowerUp.dies[l]).antifuse = (s.dies[l]).antifuse := by
  simp [State.diesPowerUp, CoreDie.powerUp]

theorem State.diesPowerUp_spares (s : State) (c : Ch) (p : Pc) : (s.diesPowerUp.chans[c].pcs[p]).sparesDue = []
    ∧ (s.diesPowerUp.chans[c].pcs[p]).spares = s.recordSpares c p := by
  simp [State.diesPowerUp]

/-- The state that the loss of a rail leaves (R329). -/
def State.railFalls (s : State) (r : Rail) : State :=
  s.stackReset { s.power.held with rails := s.power.rails.set (railIx r) false, por := true }

/-- The core dies power up again where they lost their rail. -/
def State.railDies (u : State) (r : Rail) : State := if r == .vdd2 || r == .vpp then u.diesPowerUp else u

theorem exec_railLost (r : Rail) (s : State) : exec (.railLost r) s
    = .next { (s.railFalls r).railDies r with tap := if tapRail r then {} else (s.railFalls r).tap } := rfl

theorem State.railDies_frame (u : State) (r : Rail) : (u.railDies r).power = u.power ∧ (u.railDies r).timeUs = u.timeUs
    ∧ (u.railDies r).wick = u.wick ∧ (u.railDies r).thermal = u.thermal ∧ (u.railDies r).nv = u.nv ∧ (u.railDies r).mgmt = u.mgmt
    ∧ ∀ l : Fin 16, ((u.railDies r).dies[l]).antifuse = (u.dies[l]).antifuse := by
  unfold State.railDies
  split
  · exact ⟨rfl, rfl, rfl, rfl, rfl, rfl, fun l => (u.diesPowerUp_dies l).2.2.2⟩
  · exact ⟨rfl, rfl, rfl, rfl, rfl, rfl, fun _ => rfl⟩

theorem State.railDies_core {r : Rail} (h : r = .vdd2 ∨ r = .vpp) (u : State) : u.railDies r = u.diesPowerUp := by
  rcases h with rfl | rfl <;> rfl

theorem gated_wake (x : BitVec 8) (g h : Fin 8) : (x &&& ~~~(1#8 <<< g.val)).getLsbD h.val = (x.getLsbD h.val && decide (h ≠ g)) := by
  have hlt := h.isLt
  rw [BitVec.getLsbD_and, BitVec.getLsbD_not, BitVec.getLsbD_shiftLeft]
  by_cases e : h = g
  · subst e
    simp
  · have hv : h.val ≠ g.val := fun x => e (Fin.ext x)
    rcases Nat.lt_or_gt_of_ne hv with hlt' | hgt
    · simp [hlt', e]
    · simp [e, show ¬(h.val < g.val) by omega, show h.val - g.val ≠ 0 by omega]

/-- Settles O27: rails, the resets of the stack, of the wrapper and of the TAP, and the wake of a domain. -/
theorem railsResetsAndDomains : Obligations.RailsResetsAndDomains := by
  refine ⟨⟨fun r s => ⟨_, rfl, rfl, rfl⟩, fun s hr => ⟨_, ?_, rfl⟩, fun r s => ?_, fun a s hr =>
      ⟨_, congrArg Host.Outcome.next (if_pos hr), rfl⟩⟩,
    fun s hr => ?_, fun s ht => ⟨_, congrArg Host.Outcome.next (if_pos ht), rfl⟩, fun g s hr hg => ?_⟩
  · refine congrArg Host.Outcome.next (if_pos ?_)
    rw [hr]
    rfl
  · obtain ⟨e1, e2, e3, e4, e5, e6, e7⟩ := (s.railFalls r).railDies_frame r
    refine ⟨_, exec_railLost r s, congrArg Power.por e1, congrArg Power.rails e1, e2, congrArg Wick.state e3, congrArg Thermal.trip e4,
      fun hq _ => (congrArg NonVolatile.efuse e5).trans (s.stackReset_efuse_of_queue_nil _ hq), congrArg Mgmt.ready e6, e7, fun hc => ?_⟩
    dsimp only
    rw [State.railDies_core hc]
    refine ⟨fun l => ?_, fun c p => ?_⟩
    · obtain ⟨f1, f2, f3, -⟩ := (s.railFalls r).diesPowerUp_dies l
      exact ⟨f1, f2, f3⟩
    · obtain ⟨f1, f2⟩ := (s.railFalls r).diesPowerUp_spares c p
      rw [f1, f2]
      exact ⟨rfl, fun m hm => State.mem_recordSpares_hard hm⟩
  · refine ⟨_, congrArg Host.Outcome.next (if_neg (by rw [hr]; decide)), rfl, rfl, ?_, ?_, ?_, ?_⟩
    · unfold State.leaveExtest
      split
      · rfl
      · next h => exact Bool.eq_false_iff.2 h
    · exact (rewired_leaveExtest s).memKept
    · exact (rewired_leaveExtest s).nv
    · exact congrArg (fun u => u.tap) (rewired_leaveExtest s).rest
  · refine ⟨_, congrArg Host.Outcome.next (if_neg (by rw [hr, hg]; decide)), ?_, rfl, fun h hh => ?_⟩
    · exact (gated_wake ..).trans (by simp)
    · exact (gated_wake ..).trans (by simp [hh])

end Sys2Proof.Machine


namespace Sys2Proof.Machine

open Sys2Proof.Safety

/-! # The power-up sequence -/

section
variable {s : State} (hr : s.inReset = false)
include hr

theorem exec_optionShadowLoad (hl : s.fuse.loaded = true) (ho : s.power.optionLoaded = false) :
    exec .optionShadowLoad s = .next s.loadOptions :=
  congrArg Host.Outcome.next (if_neg (by rw [hr, hl, ho]; decide))

theorem exec_sramFill (hl : s.fuse.loaded = true) : exec .sramFill s
    = .next { s with power := { s.power with sramFilled := true }, mgmt := { s.mgmt with sramBad := [] } } :=
  congrArg Host.Outcome.next (if_neg (by rw [hr, hl]; decide))

/-- The active image starts where it verifies (R343). -/
theorem exec_bootVerify (okB : Bool) (h1 : s.power.sramFilled = true) (h2 : s.power.optionLoaded = true)
    (h3 : s.power.booted = false) (h4 : s.mgmt.recovery = false) (h5 : s.nv.activeB = false) (h6 : s.mgmt.otherImage = false)
    (h7 : s.nv.imageA.status ≠ 2) : exec (.bootVerify true okB) s = .next (s.bootScan.startImage false) := by
  have hf : s.firstImage = false := by
    unfold State.firstImage
    rw [h5, h6]
    rfl
  have hok : ((s.nv.image false).status != 2) = true := bne_iff_ne.2 h7
  change execBootVerify true okB s = _
  unfold execBootVerify
  dsimp only
  rw [hr, h1, h2, h3, h4, hf, if_neg (by decide)]
  exact if_pos hok

end

theorem State.fetchLine_frame (s : State) (a : Nat) (b : Bool) :
    (s.fetchLine a b).power = s.power ∧ (s.fetchLine a b).mgmt = s.mgmt ∧ (s.fetchLine a b).chans = s.chans := by
  unfold State.fetchLine
  split
  · exact ⟨rfl, rfl, rfl⟩
  · exact ⟨rfl, rfl, rfl⟩

theorem State.bootScan_chans (s : State) : s.bootScan.chans = s.chans := by
  unfold State.bootScan
  dsimp only
  split
  · rfl
  · rfl

theorem State.startImage_frame (s : State) (b : Bool) : (s.startImage b).power.booted = true ∧ (s.startImage b).mgmt.runsB = b
    ∧ (s.startImage b).chans = s.chans := by
  unfold State.startImage
  obtain ⟨e1, e2, e3⟩ := State.fetchLine_frame _ (Config.entryPoint (s.nv.image b).ver) true
  rw [e1, e2, e3]
  exact ⟨rfl, rfl, rfl⟩

/-! ## Layer discovery -/

/-- The dies that are present are those that were, and the channels stand. -/
structure Asked (s t : State) : Prop where
  alone : LayersAlone s t
  present : ∀ l : Fin 16, (t.dies[l]).present = (s.dies[l]).present

theorem Asked.refl (s : State) : Asked s s := ⟨rfl, fun _ => rfl⟩

theorem Asked.trans {s t u : State} (h : Asked s t) (h' : Asked t u) : Asked s u :=
  ⟨h.alone.trans h'.alone, fun l => (h'.present l).trans (h.present l)⟩

theorem asked_updDie (s : State) (l : Fin 16) {f : CoreDie → CoreDie} (hf : ∀ d, (f d).present = d.present) : Asked s (s.updDie l f) := by
  refine ⟨rfl, fun j => ?_⟩
  by_cases hj : j = l
  · subst hj
    rw [State.updDie_self, hf]
  · rw [(layerAlone_updDie s l f).2 j hj]

theorem CoreDie.setReg_present (d : CoreDie) (a : Nat) (v : BitVec 16) : (d.setReg a v).present = d.present := by
  unfold CoreDie.setReg
  repeat' split
  all_goals rfl

theorem asked_layerServes (s : State) {x : SvcCmd} (hx : x.keepsRows) (programs : Bool) : Asked s (s.layerServes x programs).2.2 := by
  obtain ⟨h5, h6⟩ := hx
  unfold State.layerServes
  dsimp only
  split
  case h_9 h _ => exact absurd (BitVec.eq_of_toNat_eq h) h5
  case h_10 h _ => exact absurd (BitVec.eq_of_toNat_eq h) h6
  case h_5 =>
    split
    · exact .refl s
    · exact .refl s
  case h_4 => exact asked_updDie s x.lid fun d => d.setReg_present _ _
  case h_1 | h_7 | h_8 | h_11 =>
    dsimp only
    refine asked_updDie s x.lid ?_
    exact fun _ => rfl
  case h_2 | h_3 | h_6 | h_12 => exact .refl s

theorem asked_sendTo (s : State) {x : SvcCmd} (hx : x.keepsRows) (programs : Bool) : Asked s (s.sendTo x programs).2.2 :=
  Asked.trans (t := s.sent x) ⟨rfl, fun _ => rfl⟩ (asked_layerServes (s.sent x) hx programs)

theorem asked_sendAndPoll (s : State) {x : SvcCmd} (hx : x.keepsRows) (programs : Bool) : Asked s (s.sendAndPoll x programs).2.2 := by
  have hsend := asked_sendTo s hx programs
  unfold State.sendAndPoll
  split
  · next h =>
    rw [h] at hsend
    exact hsend.trans (asked_sendTo _ x.poll_keepsRows programs)
  · exact hsend

theorem asked_exchange (s : State) {x : SvcCmd} (hx : x.keepsRows) (programs : Bool) : Asked s (s.exchange x programs).2.2 := by
  have hsend := asked_sendTo s hx programs
  unfold State.exchange
  split
  · next h =>
    rw [h] at hsend
    exact hsend.trans (asked_sendTo _ x.poll_keepsRows programs)
  · next h =>
    rw [h] at hsend
    exact (hsend.trans (asked_sendTo _ x.poll_keepsRows programs)).trans (asked_sendAndPoll _ hx programs)
  · exact hsend

theorem asked_askLayers (s : State) : Asked s s.askLayers := by
  unfold State.askLayers
  refine List.foldlRecOn _ _ (motive := Asked s) (.refl s) fun t ht l _ => ht.trans ?_
  dsimp only
  split
  · exact asked_exchange t (by simp [SvcCmd.keepsRows, svcCmd]) true
  · exact ⟨rfl, fun _ => rfl⟩

/-- The stack that discovery has found (R3, R125, R134, R229). -/
def State.nowFound (s : State) : State :=
  State.stackFound { s.askLayers with
    layers := BitVec.ofNat 2 (s.found.length / 4 - 1), dens := s.dies[0].dens
    power := { s.power with discovered := true } }

theorem exec_layerDiscovery {s : State} (hr : s.inReset = false) (ht : s.thermal.trip = false) (h1 : s.power.discovered = false)
    (h2 : s.power.tables = true) (h3 : ∀ c : Ch, s.chans[c].taper.active.verified = true) (h4 : s.discovered = true) :
    exec .layerDiscovery s = .next s.nowFound := by
  have hv : s.chans.toList.all (fun h => h.taper.active.verified) = true := by
    refine List.all_eq_true.2 fun h hm => ?_
    obtain ⟨i, hi, rfl⟩ := List.mem_iff_getElem.1 hm
    rw [Vector.getElem_toList]
    exact h3 ⟨i, by simpa using hi⟩
  change execLayerDiscovery s = _
  unfold execLayerDiscovery
  refine .trans (if_neg (by rw [hr, ht, h1, h2, hv]; decide)) (.trans (if_pos h4) ?_)
  unfold State.nowFound
  generalize s.askLayers = u
  rfl

theorem State.stackFound_frame (u : State) : u.stackFound.dens = u.dens
    ∧ (∀ l : Fin 16, (u.dies[l]).present = true → (u.stackFound.dies[l]).coreRl = BitVec.ofNat 6 (coreRlOf u.wick.binAct))
    ∧ ∀ (c : Ch) (p : Pc), u.stackFound.chans[c].pcs[p] = u.chans[c].pcs[p].blindLap u.rows := by
  refine ⟨rfl, fun l hl => ?_, fun c p => ?_⟩
  · simp only [Fin.getElem_fin] at hl
    simp [State.stackFound, State.setCoreRl, hl]
  · unfold State.stackFound
    rw [State.updAll_at]
    exact Vector.getElem_map ..

theorem State.nowFound_frame (s : State) : s.nowFound.dens = s.dies[0].dens
    ∧ (∀ l : Fin 16, (s.dies[l]).present = true → (s.nowFound.dies[l]).coreRl = BitVec.ofNat 6 (coreRlOf s.wick.binAct))
    ∧ ∀ (c : Ch) (p : Pc), s.nowFound.chans[c].pcs[p] = s.chans[c].pcs[p].blindLap s.nowFound.rows := by
  have h := asked_askLayers s
  unfold State.nowFound
  generalize s.askLayers = u at h ⊢
  obtain ⟨e1, e2, e3⟩ := State.stackFound_frame { u with
    layers := BitVec.ofNat 2 (s.found.length / 4 - 1), dens := s.dies[0].dens, power := { s.power with discovered := true } }
  have hw : u.wick = s.wick := by rw [h.alone]
  have hc : u.chans = s.chans := by rw [h.alone]
  refine ⟨e1, fun l hl => ?_, fun c p => ?_⟩
  · rw [← hw]
    exact e2 l ((h.present l).trans hl)
  · rw [← hc]
    exact e3 c p

/-! ## The TSV test -/

/-- No trim is moved and no TSV is marked marginal. -/
def TsvClean (s : State) : Prop := ∀ c : Ch, s.chans[c].tsv.marginal = [] ∧ s.chans[c].tsv.trims = []

theorem TsvClean.updCh {s : State} {c : Ch} {f : Channel → Channel} (h : TsvClean s)
    (hf : (f s.chans[c]).tsv.marginal = s.chans[c].tsv.marginal ∧ (f s.chans[c]).tsv.trims = s.chans[c].tsv.trims) :
    TsvClean (s.updCh c f) := fun d => by
  by_cases hd : d = c
  · subst hd
    rw [State.updCh_self, hf.1, hf.2]
    exact h d
  · rw [State.updCh_other s _ hd]
    exact h d

theorem Channel.columnFault_tsv (h : Channel) (g : Fin 16) (pos : Fin 18) :
    (h.columnFault g pos).tsv.marginal = h.tsv.marginal ∧ (h.columnFault g pos).tsv.trims = h.tsv.trims := by
  unfold Channel.columnFault
  repeat' split
  all_goals exact ⟨rfl, rfl⟩

theorem TsvClean.tsvFault {s : State} (h : TsvClean s) (x : TsvFault) : TsvClean (s.tsvFault x) := by
  unfold State.tsvFault
  cases x with
  | column c g pos width =>
    dsimp only
    split
    · exact h.updCh (Channel.columnFault_tsv ..)
    · exact h
  | echo c differs =>
    dsimp only
    split
    · exact h
    · exact h.updCh ⟨rfl, rfl⟩
  | shared c => exact h.updCh ⟨rfl, rfl⟩

theorem LayersAlone.memKept {s t : State} (h : LayersAlone s t) : memKept s t := by
  rw [h]
  exact fun _ _ _ => rfl

theorem LayersAlone.tsvClean {s t : State} (h : LayersAlone s t) (hs : TsvClean s) : TsvClean t := by
  rw [h]
  exact hs

theorem layersAlone_foldl {α : Type} {f : State → α → State} (hf : ∀ t x, LayersAlone t (f t x)) (l : List α) (s : State) :
    LayersAlone s (l.foldl f s) :=
  List.foldlRecOn (motive := LayersAlone s) l f rfl fun _ ht x _ => ht.trans (hf _ x)

theorem layersAlone_writeTsvRep (s : State) (c : Ch) : LayersAlone s (s.writeTsvRep c) := by
  unfold State.writeTsvRep
  refine layersAlone_foldl (fun t sid => layersAlone_foldl (fun u g => ?_) _ t) _ s
  dsimp only
  split
  · rfl
  · exact layersAlone_exchange u (svcCmd_cfgWr_keepsRows _ _ _) _

/-- What the TSV test leaves of a state with its channels calibrated, once its faults have shown (R143, R144, R215). -/
def State.tsvTested (s : State) (faults : List TsvFault) : State :=
  (List.finRange 32).foldl State.writeTsvRep (faults.foldl State.tsvFault ((List.finRange 32).foldl State.loopTest s))

/-- The state with other power records. -/
def State.withPower (s : State) (pw : Power) : State := { s with power := pw }

theorem State.withPower_memKept {s t : State} (h : memKept s t) (pw : Power) : memKept s (t.withPower pw) :=
  memKept_trans h fun _ _ _ => rfl

theorem TsvClean.withPower {s : State} (h : TsvClean s) (pw : Power) : TsvClean (s.withPower pw) := h

theorem State.tsvTested_frame {s : State} (h : TsvClean s) (faults : List TsvFault) :
    TsvClean (s.tsvTested faults) ∧ memKept s (s.tsvTested faults) := by
  have h1 := layersAlone_foldl layersAlone_loopTest (List.finRange 32) s
  have hc1 := h1.tsvClean h
  have hm1 := h1.memKept
  unfold State.tsvTested
  generalize (List.finRange 32).foldl State.loopTest s = u at hc1 hm1 ⊢
  have hf := List.foldlRecOn faults State.tsvFault (motive := fun t => TsvClean t ∧ t.cells = u.cells)
    ⟨hc1, rfl⟩ fun t ht x _ => ⟨ht.1.tsvFault x, (State.tsvFault_cells t x).trans ht.2⟩
  generalize faults.foldl State.tsvFault u = v at hf ⊢
  have h3 := layersAlone_foldl layersAlone_writeTsvRep (List.finRange 32) v
  exact ⟨h3.tsvClean hf.1, memKept_trans hm1 (memKept_trans (memKept_of_cells hf.2) h3.memKept)⟩

/-- Every channel is calibrated anew (R215). -/
def State.calibratesTsv (s : State) : State :=
  { s with chans := s.chans.mapFinIdx (fun i h _ => h.calibrateTsv (s.fresh + 2 * i)), fresh := s.fresh + 64 }

theorem tsvClean_calibratesTsv (s : State) : TsvClean s.calibratesTsv := fun c => by
  unfold State.calibratesTsv
  simp only [Fin.getElem_fin, Vector.getElem_mapFinIdx]
  exact ⟨rfl, rfl⟩

theorem memKept_calibratesTsv (s : State) : memKept s s.calibratesTsv := memKept_of_cells (by simp [State.calibratesTsv])

theorem exec_tsvTest {s : State} (hr : s.inReset = false) (ht : s.thermal.trip = false) (h1 : s.power.journal = true)
    (h2 : s.power.tsvTested = false) (faults : List TsvFault) : ∃ pw : Power, pw.tsvTested = true
      ∧ exec (.tsvTest faults) s = .next ((s.calibratesTsv.tsvTested faults).withPower pw) := by
  change ∃ pw : Power, _ ∧ execTsvTest faults s = _
  unfold execTsvTest State.tsvTested
  dsimp only
  rw [hr, ht, h1, h2, if_neg (by decide)]
  change ∃ pw : Power, _ ∧ Host.Outcome.next { (List.finRange 32).foldl State.writeTsvRep (faults.foldl State.tsvFault
    ((List.finRange 32).foldl State.loopTest s.calibratesTsv)) with
      power := { (faults.foldl State.tsvFault ((List.finRange 32).foldl State.loopTest s.calibratesTsv)).power with
        tsvTested := true } } = _
  generalize faults.foldl State.tsvFault _ = u
  generalize (List.finRange 32).foldl State.writeTsvRep u = v
  exact ⟨_, rfl, rfl⟩

theorem PseudoChannel.lapAfter_filled (q old : PseudoChannel) (now : Nat) : (q.lapAfter old now).filled = q.filled := by
  obtain ⟨scrub, e⟩ := q.lapAfter_eq old now
  rw [e]

theorem State.fillAtPowerUp_filled (s : State) (h : Channel) (waive : Bool) (p : Pc) :
    (s.fillAtPowerUp h waive).pcs[p].filled = (h.pcs[p].filled || (h.pcs[p].managed && !waive)) := by
  unfold State.fillAtPowerUp
  rw [Channel.lapsAfter_at, PseudoChannel.lapAfter_filled]
  unfold Channel.updPcs
  simp only [Fin.getElem_fin, Vector.getElem_map]
  cases h.pcs[p.val].managed && !waive <;> simp

/-- Settles O28: each step of the sequence by what it marks and sets. -/
theorem powerUpSequence : Obligations.PowerUpSequence := by
  refine fun s hr => ⟨fun h1 h2 => ?_, fun h1 => ?_, fun okB h1 h2 h3 h4 h5 h6 h7 => ?_, fun ht => ⟨fun h1 h2 => ?_, fun h1 h2 h3 h4 => ?_,
    fun faults h1 h2 => ?_, fun h1 h2 => ?_, fun c h1 h2 => ?_⟩⟩
  · refine ⟨_, exec_optionShadowLoad hr h1 h2, rfl, rfl, rfl, rfl, fun c => ?_⟩
    simp [State.loadOptions, Channel.lapsAfter, Channel.takeOptions]
  · exact ⟨_, exec_sramFill hr h1, rfl, rfl, rfl⟩
  · obtain ⟨e1, e2, e3⟩ := s.bootScan.startImage_frame false
    exact ⟨_, exec_bootVerify hr okB h1 h2 h3 h4 h5 h6 h7, e1, e2, e3.trans s.bootScan_chans⟩
  · refine ⟨_, congrArg Host.Outcome.next (if_neg (by rw [hr, h1, h2, ht]; decide)), rfl, memKept_of_cells ?_, fun c => ?_⟩
    · simp
    · simp
  · obtain ⟨e1, e2, e3⟩ := s.nowFound_frame
    refine ⟨_, exec_layerDiscovery hr ht h1 h2 h3 h4, rfl, rfl, e1, e2, fun c p => ?_⟩
    rw [e3]
    refine ⟨rfl, fun i => ?_⟩
    simp [PseudoChannel.blindLap, PseudoChannel.updBanks]
  · obtain ⟨e1, e2⟩ := State.tsvTested_frame (tsvClean_calibratesTsv s) faults
    obtain ⟨pw, hp, he⟩ := exec_tsvTest hr ht h1 h2 faults
    generalize s.calibratesTsv.tsvTested faults = u at e1 he e2
    exact ⟨_, he, hp, State.withPower_memKept (memKept_trans (memKept_calibratesTsv s) e2) pw, e1.withPower pw⟩
  · refine ⟨_, if_neg (by rw [hr, ht, h1, h2]; decide), rfl, fun c p => ?_⟩
    refine .trans ?_ (s.fillAtPowerUp_filled ..)
    exact congrArg (fun h : Channel => h.pcs[p].filled) (Vector.getElem_mapFinIdx ..)
  · refine ⟨_, congrArg Host.Outcome.next (if_neg (by rw [hr, ht, h1, h2]; decide)), onlyChannel_updCh .., State.updCh_self ..⟩

end Sys2Proof.Machine


namespace Sys2Proof.Machine

open Sys2Proof.Safety

/-! # The management plane -/

theorem Channel.opEnds_stands (h : Channel) (p : Pc) : (h.opEnds p).taper.armed = h.taper.armed
    ∧ (h.opEnds p).taper.images = h.taper.images ∧ (h.opEnds p).taper.active = h.taper.active ∧ (h.opEnds p).regs = h.regs := by
  have e := (releaseAlone_opEnds (h := h) p).1
  generalize h.opEnds p = k at e ⊢
  rw [e]
  exact ⟨rfl, rfl, rfl, rfl⟩

/-- The tables, the transfer area and the registers of the channel stand. -/
def Channel.TablesStand (h k : Channel) : Prop := k.taper.armed = h.taper.armed ∧ k.taper.images = h.taper.images
  ∧ k.taper.active = h.taper.active ∧ k.regs = h.regs

theorem Channel.TablesStand.trans {h k m : Channel} (e : h.TablesStand k) (e' : k.TablesStand m) : h.TablesStand m :=
  ⟨e'.1.trans e.1, e'.2.1.trans e.2.1, e'.2.2.1.trans e.2.2.1, e'.2.2.2.trans e.2.2.2⟩

/-- Only channels differ, and their tables, transfer areas and registers stand. -/
structure RunsEnd (s t : State) : Prop where
  alone : t = { s with chans := t.chans }
  stands : ∀ c : Ch, s.chans[c].TablesStand t.chans[c]

theorem runsEnd_endCalRuns (s : State) (k : Slot) (seq : Option (BitVec 16)) : RunsEnd s (s.endCalRuns k seq) := by
  refine ⟨rfl, fun c => ?_⟩
  unfold State.endCalRuns
  rw [State.updAll_at]
  refine List.foldlRecOn (motive := fun g : Channel => s.chans[c].TablesStand g) _ _ ⟨rfl, rfl, rfl, rfl⟩ fun g hg p _ => ?_
  split
  · exact hg.trans (g.opEnds_stands p)
  · exact hg

theorem runsEnd_endAll (s : State) (slots : List Slot) : RunsEnd s (slots.foldl (fun (t : State) k => t.endCalRuns k none) s) := by
  refine List.foldlRecOn (motive := RunsEnd s) _ _ ⟨rfl, fun _ => ⟨rfl, rfl, rfl, rfl⟩⟩ fun t ht k _ => ?_
  have e := runsEnd_endCalRuns t k none
  refine ⟨e.alone.trans ?_, fun c => (ht.stands c).trans (e.stands c)⟩
  generalize (t.endCalRuns k none).chans = chans
  rw [ht.alone]

theorem State.mgmtReset_plane (s : State) (cause : BitVec 3) (extra : List (Byte × List Byte)) :
    (s.mgmtReset cause extra).mgmt.ready = false ∧ (s.mgmtReset cause extra).mgmt.rstCause = cause
    ∧ (s.mgmtReset cause extra).mgmt.activation = none
    ∧ (s.mgmtReset cause extra).power.booted = false ∧ (s.mgmtReset cause extra).host.mgmtRst = true
    ∧ (s.mgmtReset cause extra).manager.mgmtRst = true := by
  unfold State.mgmtReset
  rw [(runsEnd_endAll _ _).alone]
  exact ⟨rfl, rfl, rfl, rfl, rfl, rfl⟩

theorem State.mgmtReset_chans (s : State) (cause : BitVec 3) (extra : List (Byte × List Byte)) (c : Ch) :
    (s.mgmtReset cause extra).chans[c].taper.armed = false ∧ (s.mgmtReset cause extra).chans[c].taper.images = []
    ∧ (s.mgmtReset cause extra).chans[c].taper.active = s.chans[c].taper.active
    ∧ (s.mgmtReset cause extra).chans[c].regs = s.chans[c].regs := by
  have hreset : (s.chans.map (·.mgmtReset))[c] = s.chans[c].mgmtReset := Vector.getElem_map ..
  have e := (runsEnd_endAll { s with chans := s.chans.map (·.mgmtReset) } []).stands c
  unfold State.mgmtReset
  obtain ⟨e1, e2, e3, e4⟩ := (runsEnd_endAll _ _).stands c
  rw [e1, e2, e3, e4, hreset]
  exact ⟨rfl, rfl, rfl, rfl⟩

/-! ## The restart -/

/-- Dzixia runs, nothing is owed to the ledger and no result of Quince waits. -/
structure OnDuty (s : State) : Prop where
  booted : s.power.booted = true
  ready : s.mgmt.ready = true
  owed : s.mgmt.owed = []
  result : s.quince.result = none

theorem OnDuty.of_same {s t : State} (h : OnDuty s) (hp : t.power = s.power) (hm : t.mgmt = s.mgmt) (hq : t.quince = s.quince) :
    OnDuty t :=
  ⟨hp ▸ h.booted, hm ▸ h.ready, hm ▸ h.owed, hq ▸ h.result⟩

theorem OnDuty.ledger {s : State} (h : OnDuty s) (rec : Byte) (body : List Byte) : OnDuty (s.ledger rec body) := by
  unfold State.ledger
  rw [if_pos h.booted]
  exact h.of_same (by simp) (by simp) (by simp)

theorem OnDuty.event {s : State} (h : OnDuty s) (typ : Nat) (u c p : Byte) (d : Word32) (q : Nat) : OnDuty (s.event typ u c p d q) :=
  h.of_same rfl rfl rfl

theorem OnDuty.takeMapState {s : State} (h : OnDuty s) (c : Ch) (p : Pc) (m : MapState) : OnDuty (s.takeMapState c p m) := by
  unfold State.takeMapState
  cases m <;> exact h.of_same rfl rfl rfl

theorem OnDuty.startMapLoad {s : State} (h : OnDuty s) (c : Ch) (p : Pc) (m : MapImage) (old : Option MapState) :
    OnDuty (s.startMapLoad c p m old) := by
  unfold State.startMapLoad
  have h0 : OnDuty (s.updPc c p (fun q => { q with mapState := .fallback, bins := [], weak := [], lostMap := [] })) :=
    h.of_same rfl rfl rfl
  generalize s.updPc c p _ = v at h0 ⊢
  have hrows : OnDuty ((List.range 128).foldl (fun (t : State) row => t.postImage c (.map p row (m.rowBytes row))) v) :=
    List.foldlRecOn (motive := OnDuty) _ _ h0 fun t ht _ _ => ht.of_same rfl rfl rfl
  generalize (List.range 128).foldl _ v = u at hrows ⊢
  exact hrows.of_same rfl rfl rfl

theorem OnDuty.takeUpMap {s : State} (h : OnDuty s) (c : Ch) (p : Pc) (old : Option MapState) : OnDuty (s.takeUpMap c p old) := by
  unfold State.takeUpMap
  split
  · exact h.startMapLoad ..
  · have hs := OnDuty.takeMapState (h.of_same (t := s.updPc c p (fun q => { q with bins := [], weak := [], lostMap := [] }))
      rfl rfl rfl) c p .fallback
    dsimp only
    split
    · unfold State.reportMapState
      split
      · exact hs
      · exact (hs.ledger ..).event ..
    · exact hs

theorem OnDuty.resumeLoads {s : State} (h : OnDuty s) : OnDuty s.resumeLoads := by
  unfold State.resumeLoads
  refine List.foldlRecOn (motive := OnDuty) _ _ ⟨h.booted, h.ready, h.owed, h.result⟩ fun t ht x _ => ?_
  split
  · exact ht.takeUpMap ..
  · exact ht

theorem OnDuty.evalHealth {s : State} (h : OnDuty s) : OnDuty s.evalHealth := by
  unfold State.evalHealth State.signalHealth
  split
  · dsimp only
    split
    · exact h
    · split
      · refine OnDuty.ledger ?_ ..
        exact ⟨h.booted, h.ready, h.owed, h.result⟩
      · refine OnDuty.ledger (OnDuty.event ?_ ..) ..
        exact ⟨h.booted, h.ready, h.owed, h.result⟩
  · exact h

theorem OnDuty.rebuildSnap {s : State} (h : OnDuty s) : OnDuty s.rebuildSnap := ⟨h.booted, h.ready, h.owed, h.result⟩

theorem OnDuty.startNv {s : State} (h : OnDuty s) (kind : NvKind) (sector : Option (Fin 255)) (page : Option (Fin 264))
    (cont : NvCont) (owner : Option (Slot × BitVec 16)) : OnDuty (s.startNv kind sector page cont owner) := by
  unfold State.startNv
  split
  · cases sector <;> exact ⟨h.booted, h.ready, h.owed, h.result⟩
  · exact ⟨h.booted, h.ready, h.owed, h.result⟩

theorem OnDuty.keepErased {s : State} (h : OnDuty s) : OnDuty s.keepErased := by
  unfold State.keepErased
  split
  · split
    · exact h.startNv ..
    · exact h
  · exact h

/-- What is owed is recorded and the image's table staged; the plane itself stands but for what is owed. -/
theorem State.restage_recordOwed_plane (s : State) : s.recordOwed.restage.power = s.power ∧ s.recordOwed.restage.mgmt.owed = [] := by
  have h : s.recordOwed.power = s.power ∧ s.recordOwed.mgmt.owed = [] := by
    unfold State.recordOwed
    refine List.foldlRecOn (motive := fun t : State => t.power = s.power ∧ t.mgmt.owed = []) _ _ ⟨rfl, rfl⟩ fun t ht x _ => ?_
    rw [State.record_power, State.record_mgmt]
    exact ht
  unfold State.restage
  split
  · exact h
  · exact h

theorem onDuty_mgmtRestart {s : State} (hr : s.inReset = false) (hb : s.power.booted = true) (hn : s.mgmt.ready = false) :
    ∃ t, exec .mgmtRestart s = .next t ∧ OnDuty t ∧ memKept s t ∧ t.around = s.around := by
  obtain ⟨hp, ho⟩ := s.restage_recordOwed_plane
  have hc : s.recordOwed.restage.cells = s.cells := by simp
  have ha : s.recordOwed.restage.around = s.around := by simp
  refine ⟨_, if_neg (by rw [hr, hb, hn]; decide), ?_, memKept_of_cells ?_, ?_⟩
  all_goals generalize s.recordOwed.restage = u at hp ho hc ha ⊢
  · refine OnDuty.keepErased (OnDuty.rebuildSnap (OnDuty.evalHealth (OnDuty.resumeLoads ?_)))
    exact ⟨(congrArg Power.booted hp).trans hb, rfl, ho, rfl⟩
  · simpa using hc
  · simpa using ha

theorem State.ledger_plane (s : State) (rec : Byte) (body : List Byte) : (s.ledger rec body).mgmt.ready = s.mgmt.ready
    ∧ (s.ledger rec body).timeUs = s.timeUs := by
  unfold State.ledger
  split
  · exact ⟨congrArg Mgmt.ready (s.record_mgmt rec body), s.record_timeUs rec body⟩
  · exact ⟨rfl, rfl⟩

theorem State.evalHealth_plane (s : State) : s.evalHealth.mgmt.ready = s.mgmt.ready ∧ s.evalHealth.timeUs = s.timeUs := by
  unfold State.evalHealth State.signalHealth
  split
  · dsimp only
    split
    · exact ⟨rfl, rfl⟩
    · split
      · exact State.ledger_plane ..
      · exact State.ledger_plane ..
  · exact ⟨rfl, rfl⟩

/-- Settles O29: a reset of the plane and its restart by what they set, the memory and what lies around by the frames. -/
theorem managementPlaneResetsAndRuns : Obligations.ManagementPlaneResetsAndRuns := by
  refine ⟨fun i cause s hrun hi => ?_, fun s hr hb hn => ?_, fun s hs => ?_, fun s ha => ?_⟩
  · have hreset : ∃ extra, exec i s = .next (s.mgmtReset cause extra) := by
      rcases hi with ⟨core, rfl, hq, rfl⟩ | ⟨rfl, rfl⟩ | ⟨rfl, rfl⟩ | ⟨a, rfl, rfl⟩
      · exact ⟨_, congrArg Host.Outcome.next (if_pos (by rw [hrun, hq]; rfl))⟩
      · exact ⟨_, congrArg Host.Outcome.next (if_pos hrun)⟩
      · exact ⟨_, congrArg Host.Outcome.next (if_pos hrun)⟩
      · exact ⟨_, congrArg Host.Outcome.next (if_pos hrun)⟩
    obtain ⟨extra, he⟩ := hreset
    obtain ⟨h1, h2, -, h3, h4, h5⟩ := s.mgmtReset_plane cause extra
    have ha := s.mgmtReset_around cause extra
    exact ⟨_, he, h1, h2, h3, h4, h5, memKept_of_cells (by simp), congrArg Around.wick ha, congrArg Around.thermal ha,
      s.mgmtReset_chans cause extra⟩
  · obtain ⟨t, he, hd, hm, ha⟩ := onDuty_mgmtRestart hr hb hn
    exact ⟨t, he, hd.ready, hd.owed, hd.result, hm, congrArg Around.wick ha, congrArg Around.thermal ha⟩
  · have ha : s.evalHealth.rebuildSnap.around = s.around := by simp
    have hk : s.evalHealth.rebuildSnap.kept = s.kept := by simp
    exact ⟨_, congrArg Host.Outcome.next (if_pos hs), memKept_of_cells (by simp), s.evalHealth_plane.1,
      s.evalHealth_plane.2,
      congrArg Around.thermal ha, congrArg Around.wick ha, congrArg (fun k => k.store.1) hk⟩
  · obtain ⟨h1, h2, h6, h3, -, -⟩ := s.mgmtReset_plane 7 []
    exact ⟨_, congrArg Host.Outcome.next (if_pos ha), h1, h2, h6, h3, memKept_of_cells (by simp)⟩

end Sys2Proof.Machine


namespace Sys2Proof.Machine

open Sys2Proof.Safety

/-! # The thermal plane -/

/-! ## The trip -/

theorem State.cutFuse_alone (s : State) : s.cutFuse = { s with nv := s.cutFuse.nv, fresh := s.cutFuse.fresh } := by
  unfold State.cutFuse
  split
  · rfl
  · split
    · rfl
    · rfl

/-- The channel's Taper stops, its dies sleep and nothing posted stands. -/
theorem Channel.trip_frame (h : Channel) (sids : Nat) : (h.trip sids).taper.stopped = true ∧ (h.trip sids).taper.threads = []
    ∧ (h.isFailed = false → (h.trip sids).tsv.clocks = false ∧ (h.trip sids).tsv.coreSr = h.tsv.coreSr ||| srefMask sids true 0)
    ∧ ∀ p : Pc, (h.trip sids).pcs[p].calendar = [] ∧ (h.trip sids).pcs[p].staging = [] := by
  refine ⟨rfl, rfl, fun hf => ?_, fun p => ?_⟩
  · unfold Channel.trip
    rw [hf, if_neg Bool.false_ne_true]
    exact ⟨rfl, rfl⟩
  · unfold Channel.trip Channel.updPcs
    simp

theorem exec_tripLatchSet {i : Fin 128} {r : BitVec 16} {again : Bool} {s : State} (h : s.trips i r again = true) :
    ∃ t, exec (.tripLatchSet i r again) s = .next t ∧ t.cells = s.cells ∧ t.thermal.trip = true ∧ t.thermal.cattrip = true
      ∧ t.thermal.tripBy = some (i, r) ∧ t.nv.efuse = s.cutFuse.nv.efuse ∧ ∀ c : Ch, t.chans[c] = s.chans[c].trip s.sids := by
  refine ⟨_, if_pos h, by simp, rfl, rfl, rfl, rfl, fun c => ?_⟩
  refine .trans (State.updAll_at ..) ?_
  rw [s.cutFuse_alone]

/-- A record of the trip is never merged into another (Table 17-3). -/
theorem State.record_trip_last (s : State) (body : List Byte) : (s.record 0x0B body).nv.ledger.getLast?.map (·.typ) = some 0x0B := by
  unfold State.record ledgerKind
  simp [State.updNv]

/-- Settles O25: the trip by its frame, the record by the ledger's kind of it. -/
theorem tripStopsStack : Obligations.TripStopsStack := by
  refine ⟨fun i r again s h => ?_, fun x s hx hb hq => ?_⟩
  · obtain ⟨t, he, hc, h1, h2, h3, h4, hch⟩ := exec_tripLatchSet h
    refine ⟨t, he, memKept_of_cells hc, h1, h2, h3, fun hnil => ?_, fun c => ?_⟩
    · rw [h4, s.cutFuse_of_queue_nil hnil]
    · rw [hch]
      exact s.chans[c].trip_frame s.sids
  · obtain ⟨i, r⟩ := x
    change ∃ t, execTripRecord s = .next t ∧ _
    unfold execTripRecord
    rw [hx]
    dsimp only
    rw [if_pos (by rw [hb, hq]; rfl)]
    unfold State.ledger
    rw [if_pos (by exact hb)]
    refine ⟨_, rfl, ?_, ?_, ?_, State.record_trip_last ..⟩
    · rw [State.record_thermal]
    · rw [State.record_thermal]
    · rw [State.record_chans]

/-! ## Samples -/

/-- What a sample reads and what says which sensors there are: Wick, the layers, the sensors' records and the trip. -/
structure SenseKept (s t : State) : Prop where
  wick : t.wick = s.wick
  layers : t.layers = s.layers
  sensors : t.thermal.sensors = s.thermal.sensors
  ticked : t.thermal.ticked = s.thermal.ticked
  trip : t.thermal.trip = s.thermal.trip

theorem SenseKept.trans {s t u : State} (h : SenseKept s t) (h' : SenseKept t u) : SenseKept s u :=
  ⟨h'.wick.trans h.wick, h'.layers.trans h.layers, h'.sensors.trans h.sensors, h'.ticked.trans h.ticked, h'.trip.trans h.trip⟩

theorem SenseKept.of_same {s t : State} (hw : t.wick = s.wick) (hl : t.layers = s.layers) (ht : t.thermal = s.thermal) : SenseKept s t :=
  ⟨hw, hl, by rw [ht], by rw [ht], by rw [ht]⟩

/-- Wick, the layers and Lantern C's records of the temperature stand. -/
def StillSensed (s t : State) : Prop := t.wick = s.wick ∧ t.layers = s.layers ∧ t.thermal = s.thermal

theorem StillSensed.trans {s t u : State} (h : StillSensed s t) (h' : StillSensed t u) : StillSensed s u :=
  ⟨h'.1.trans h.1, h'.2.1.trans h.2.1, h'.2.2.trans h.2.2⟩

theorem StillSensed.senseKept {s t : State} (h : StillSensed s t) : SenseKept s t := .of_same h.1 h.2.1 h.2.2

theorem stillSensed_raiseUrgent (s old : State) (c : Ch) : StillSensed s (s.raiseUrgent old c) := by
  unfold State.raiseUrgent
  split
  · exact ⟨State.setCause_wick .., State.setCause_layers .., State.setCause_thermal ..⟩
  · exact ⟨rfl, rfl, rfl⟩

theorem stillSensed_unitEvent (s : State) (u : Fin 5) : StillSensed s (s.unitEvent u) := by
  unfold State.unitEvent
  split
  · exact ⟨rfl, rfl, rfl⟩
  · dsimp only
    split
    · exact ⟨rfl, rfl, rfl⟩
    · exact ⟨rfl, rfl, rfl⟩

theorem senseKept_sensorFault (s : State) (i : Fin 128) (cause : Nat) : SenseKept s (s.sensorFault i cause) := by
  unfold State.sensorFault
  refine SenseKept.trans (t := { s with thermal := { s.thermal with faults := bump s.thermal.faults } }) ⟨rfl, rfl, rfl, rfl, rfl⟩ ?_
  exact .of_same (State.ledger_wick ..) (State.ledger_layers ..) (State.ledger_thermal ..)

/-- The state with the modes of its SIDs evaluated anew (R219, R220). -/
def State.remoded (s : State) : State :=
  { s with
    thermal := { s.thermal with
      mode := s.thermal.mode.mapFinIdx (fun i _ h => (s.sidMode ⟨i, h⟩).1)
      over105 := s.thermal.over105.mapFinIdx (fun i _ h => (s.sidMode ⟨i, h⟩).2) }
    chans := s.chans.map (fun h => h.updPcs (fun q => q.tooHot s.rows (fun x => s.unitReading ⟨x.val, by omega⟩))) }

theorem State.stillSensed_updateModes (s : State) : StillSensed s.remoded s.updateModes := by
  change StillSensed s.remoded (if (List.finRange 4).any (fun x => s.sidPresent x && (s.sidMode x).1 != s.thermal.mode[x])
    then (List.finRange 32).foldl (fun (t : State) c => t.raiseUrgent s c) (s.remoded.setCauseAll causeThermalStep) else s.remoded)
  generalize s.remoded = u
  split
  · refine List.foldlRecOn (motive := StillSensed u) _ _ ⟨rfl, rfl, rfl⟩ fun t ht c _ => ?_
    exact ht.trans (stillSensed_raiseUrgent ..)
  · exact ⟨rfl, rfl, rfl⟩

theorem State.updateModes_mode (s : State) (sid : Sid) : s.updateModes.thermal.mode[sid] = (s.sidMode sid).1 := by
  rw [s.stillSensed_updateModes.2.2]
  exact Vector.getElem_mapFinIdx ..

theorem senseKept_updateModes (s : State) : SenseKept s s.updateModes :=
  SenseKept.trans (t := s.remoded) ⟨rfl, rfl, rfl, rfl, rfl⟩ s.stillSensed_updateModes.senseKept

theorem senseKept_updateCodes (s : State) : SenseKept s s.updateCodes := ⟨rfl, rfl, rfl, rfl, rfl⟩

theorem senseKept_updatePeaks (s : State) : SenseKept s s.updatePeaks := ⟨rfl, rfl, rfl, rfl, rfl⟩

theorem SenseKept.unitReading {s t : State} (h : SenseKept s t) (u : Fin 5) : t.unitReading u = s.unitReading u := by
  unfold State.unitReading State.unitPresent State.sids Thermal.hottest Thermal.valid
  rw [h.layers, h.sensors]

theorem SenseKept.tempBlind {s t : State} (h : SenseKept s t) : t.thermal.blind t.tempGroups = s.thermal.blind s.tempGroups := by
  unfold Thermal.blind State.tempGroups State.sids Thermal.hottest Thermal.valid
  rw [h.layers, h.sensors]

theorem SenseKept.sidPresent {s t : State} (h : SenseKept s t) (sid : Sid) : t.sidPresent sid = s.sidPresent sid := by
  unfold State.sidPresent State.sids
  rw [h.layers]

/-- What a tick evaluates from the sensors: modes, codes and peaks (R219, R220, R290 to R294, R302). -/
def State.evaluated (s : State) : State := s.updateModes.updateCodes.updatePeaks

theorem senseKept_evaluated (s : State) : SenseKept s s.evaluated :=
  ((senseKept_updateModes s).trans (senseKept_updateCodes _)).trans (senseKept_updatePeaks _)

theorem State.evaluated_mode (s : State) (sid : Sid) (hs : s.sidPresent sid = true)
    (hr : s.unitReading ⟨sid.val, by omega⟩ = none) : s.evaluated.thermal.mode[sid] = .x4 := by
  refine (s.updateModes_mode sid).trans ?_
  unfold State.sidMode
  rw [hs, hr]
  rfl

theorem State.evaluated_temp (s : State) (h : s.thermal.blind s.tempGroups = true) : s.evaluated.thermal.temp = 4 := by
  have hb : s.updateModes.thermal.blind s.updateModes.tempGroups = true := (senseKept_updateModes s).tempBlind.trans h
  exact if_pos hb

/-- The threshold events of a tick (R295). -/
def State.tickEvents (s : State) : State := if s.mgmt.ready then (List.finRange 5).foldl State.unitEvent s else s

theorem stillSensed_tickEvents (s : State) : StillSensed s s.tickEvents := by
  unfold State.tickEvents
  split
  · exact List.foldlRecOn (motive := StillSensed s) _ _ ⟨rfl, rfl, rfl⟩ fun t ht u _ => ht.trans (stillSensed_unitEvent ..)
  · exact ⟨rfl, rfl, rfl⟩

/-- A sensor after a tick with these readings, as the hub takes them (R289). -/
def State.sensorAfter (s : State) (base core : List Reading) (i : Fin 128) : Sensor :=
  if s.sensorPresent i then s.thermal.sensors[i].take (tickReading (base.map s.trimmed) (core.map s.trimmed) i.val)
  else s.thermal.sensors[i]

/-- The state once the sensors are read, before their faults are counted (R287, R289). -/
def State.sampled (s : State) (base core : List Reading) : State :=
  { s with
    busFailed := BitVec.ofNat 16 ((List.range 16).foldl (fun acc l =>
      if (List.range 4).any (fun n => (tickReading (base.map s.trimmed) (core.map s.trimmed) (64 + 4 * l + n)).busFail)
        then acc + 2 ^ l else acc) 0)
    thermal := { s.thermal with
      ticked := true
      sensors := s.thermal.sensors.mapFinIdx (fun i x h =>
        if s.sensorPresent ⟨i, h⟩ then x.take (tickReading (base.map s.trimmed) (core.map s.trimmed) i) else x) } }

theorem State.sensorFaults_frame (s : State) (faults : List (Fin 128 × Nat)) :
    SenseKept s (faults.foldl (fun (t : State) x => t.sensorFault x.1 x.2) s)
      ∧ (faults.foldl (fun (t : State) x => t.sensorFault x.1 x.2) s).cells = s.cells :=
  List.foldlRecOn (motive := fun t : State => SenseKept s t ∧ t.cells = s.cells) faults _ ⟨⟨rfl, rfl, rfl, rfl, rfl⟩, rfl⟩
    fun _ ht _ _ => ⟨ht.1.trans (senseKept_sensorFault ..), (State.sensorFault_cells ..).trans ht.2⟩

theorem exec_sampleTick {s : State} (hr : s.inReset = false) (base core : List Reading) : ∃ u : State,
    exec (.sampleTick base core) s = .next u.evaluated.tickEvents ∧ u.cells = s.cells ∧ u.wick = s.wick
      ∧ u.layers = s.layers ∧ u.thermal.ticked = true ∧ u.thermal.trip = s.thermal.trip
      ∧ ∀ i : Fin 128, u.thermal.sensors[i] = s.sensorAfter base core i := by
  obtain ⟨hk, hc⟩ := (s.sampled base core).sensorFaults_frame ((List.finRange 128).filterMap (fun i =>
    (s.episodeAt (tickReading (base.map s.trimmed) (core.map s.trimmed) i.val) i).map (fun k => (i, k))))
  refine ⟨_, if_neg (by rw [hr]; decide), hc, hk.wick, hk.layers, hk.ticked, hk.trip, fun i => ?_⟩
  exact (congrArg (fun v => v[i]) hk.sensors).trans (Vector.getElem_mapFinIdx ..)

theorem State.evaluated_cells (s : State) : s.evaluated.cells = s.cells := by simp [State.evaluated]

theorem State.tickEvents_cells (s : State) : s.tickEvents.cells = s.cells := by simp [State.tickEvents]

theorem State.evalHealth_hist (s : State) : s.evalHealth.thermal = s.thermal ∧ s.evalHealth.nv.lifeHist = s.nv.lifeHist := by
  unfold State.evalHealth State.signalHealth
  split
  · dsimp only
    split
    · exact ⟨rfl, rfl⟩
    · split
      · exact ⟨State.ledger_thermal .., State.ledger_nv_lifeHist ..⟩
      · exact ⟨State.ledger_thermal .., State.ledger_nv_lifeHist ..⟩
  · exact ⟨rfl, rfl⟩

/-- The counts of the hub join the lifetime counters (R303). -/
theorem State.foldHistograms_hist {s : State} (hm : s.mgmt.ready = true) : s.foldHistograms.thermal.hist = Vector.replicate 5 []
    ∧ ∀ u : Fin 5, s.foldHistograms.nv.lifeHist[u] = addCounts s.nv.lifeHist[u] s.thermal.hist[u] := by
  unfold State.foldHistograms
  dsimp only
  rw [hm, Bool.not_true, if_neg Bool.false_ne_true, (State.evalHealth_hist _).1, (State.evalHealth_hist _).2,
    State.ledger_thermal, State.ledger_nv_lifeHist]
  exact ⟨rfl, fun u => Vector.getElem_mapFinIdx ..⟩

/-- Settles O26: what the tick evaluates leaves the sensors it has read, so their readings give the modes and TEMP. -/
theorem samplesHistogramsAndBlindSensors : Obligations.SamplesHistogramsAndBlindSensors := by
  refine ⟨⟨fun base core s hr => ?_, fun s hr => ?_, fun s hm => ?_⟩, fun base core s t hr he => ?_⟩
  · obtain ⟨u, he, hc, hw, -, ht, hp, hs⟩ := exec_sampleTick hr base core
    have hk := (senseKept_evaluated u).trans (stillSensed_tickEvents _).senseKept
    refine ⟨_, he, memKept_of_cells ((State.tickEvents_cells _).trans ((State.evaluated_cells u).trans hc)), hk.ticked.trans ht,
      fun i hi => ?_, fun i hi => ?_, hk.trip.trans hp, hk.wick.trans hw⟩
    · rw [hk.sensors, hs, State.sensorAfter, if_pos hi]
    · rw [hk.sensors, hs, State.sensorAfter, hi, if_neg Bool.false_ne_true]
  · refine ⟨_, if_neg (by rw [hr]; decide), rfl, rfl, fun u => ?_⟩
    simp
  · obtain ⟨e1, e2⟩ := State.foldHistograms_hist hm
    exact ⟨_, rfl, memKept_of_cells (by simp), e1, e2⟩
  · obtain ⟨u, he', -, -, hl, -⟩ := exec_sampleTick hr base core
    obtain rfl : u.evaluated.tickEvents = t := Host.Outcome.next.inj (he'.symm.trans he)
    have hv := stillSensed_tickEvents u.evaluated
    have hk := (senseKept_evaluated u).trans hv.senseKept
    refine ⟨fun sid hs hr => ?_, fun hb => ?_⟩
    · rw [hv.2.2]
      refine u.evaluated_mode sid ?_ ?_
      · unfold State.sidPresent State.sids at hs ⊢
        rw [hl]
        exact hs
      · rw [← hr, hk.unitReading]
    · rw [hv.2.2]
      exact u.evaluated_temp (hk.tempBlind ▸ hb)

end Sys2Proof.Machine


namespace Sys2Proof.Machine

open Sys2Proof.Safety

/-! # Holdover, link hold and the change of bin -/

/-! ## A freeze -/

theorem State.setCauseAll_at (s : State) (n : Nat) (c : Ch) :
    (s.setCauseAll n).chans[c] = if s.isGated c then s.chans[c] else s.chans[c].setCause n := Vector.getElem_mapFinIdx ..

theorem State.setCauseAll_holdover (s : State) {c : Ch} (h : s.isGated c = false) :
    (s.setCauseAll causeHoldover).chans[c].regs.causes.getLsbD causeHoldover = true := by
  rw [s.setCauseAll_at, h, if_neg Bool.false_ne_true]
  simp [Channel.setCause, Channel.updRegs, causeHoldover]

/-- Wick frozen for the first time in an episode, with a word of its own. -/
def Wick.frozenWith (w : Wick) (word : BitVec 24) (now : Nat) : Wick :=
  { w with
    state := .holdover, lock := false, closed := false, frozen := word, frac := word, frozenAt := some now
    holdCnt := if w.holdCnt = 63 then 63 else w.holdCnt + 1, holds := bump w.holds }

/-- The first freeze of an episode, where the spread follower has converged (R314 to R316). -/
theorem State.freeze_first {s : State} (hn : s.wick.frozenAt = none) (hf : s.wick.spread = false ∨ s.wick.followOk = true) :
    (∃ word, s.freeze.wick = s.wick.frozenWith word s.timeUs) ∧ s.freeze.chans = (s.setCauseAll causeHoldover).chans := by
  have hspread : (s.wick.spread && !s.wick.followOk) = false := by
    rcases hf with h | h
    · rw [h, Bool.false_and]
    · rw [h, Bool.not_true, Bool.and_false]
  unfold State.freeze
  dsimp only [State.free]
  rw [hn, Option.isSome_none, if_neg Bool.false_ne_true]
  rw [if_neg]
  · exact ⟨⟨_, rfl⟩, rfl⟩
  · exact fun h => absurd (hspread.symm.trans h) Bool.false_ne_true

theorem State.loseLock_run {s : State} (h : s.wick.state = .run) : s.loseLock = s.freeze := by
  unfold State.loseLock
  rw [h]

/-- After a loss of lock the loop closes at once where REFCK is there (R318). -/
def Wick.closesAgain (w : Wick) : Wick :=
  if (w.state == .holdover || w.state == .linkhold) && w.refOk then { w with closed := true } else w

theorem Wick.closesAgain_frame (w : Wick) : w.closesAgain.state = w.state ∧ w.closesAgain.lock = w.lock
    ∧ (w.state = .holdover → w.closed = false → w.closesAgain.closed = w.refOk) := by
  unfold Wick.closesAgain
  cases hr : w.refOk with
  | true =>
    split
    · exact ⟨rfl, rfl, fun _ _ => rfl⟩
    · next h => exact ⟨rfl, rfl, fun hs _ => absurd (by rw [hs]; rfl) h⟩
  | false =>
    rw [Bool.and_false, if_neg Bool.false_ne_true]
    exact ⟨rfl, rfl, fun _ hc => hc⟩

theorem exec_lossOfLock_run {s : State} (h : s.wick.state = .run) :
    exec .lossOfLock s = .next (s.loseLock.updWick (·.closesAgain)) := by
  change execLossOfLock s = _
  unfold execLossOfLock
  rw [h]
  rfl

/-! ## Link hold -/

theorem Channel.coreSleep_tsv (h : Channel) (sids : Nat) : (h.coreSleep sids).tsv.clocks = false
    ∧ (h.coreSleep sids).tsv.coreSr = h.tsv.coreSr ||| srefMask sids true 0 := ⟨rfl, rfl⟩

theorem Channel.linkHold_awake {h : Channel} (hs : h.regs.srAct = false) (sids : Nat) : (h.linkHold sids).intake.held = true
    ∧ (h.linkHold sids).tsv.clocks = false ∧ (h.linkHold sids).tsv.coreSr = h.tsv.coreSr ||| srefMask sids true 0 := by
  unfold Channel.linkHold
  rw [hs, if_neg Bool.false_ne_true]
  exact ⟨rfl, h.coreSleep_tsv sids⟩

theorem Channel.linkHold_asleep {h : Channel} (hs : h.regs.srAct = true) (sids : Nat) : (h.linkHold sids).intake = h.intake := by
  unfold Channel.linkHold
  rw [if_pos hs]
  split <;> rfl

theorem State.enterLinkHold_chan (s : State) (c : Ch) : s.enterLinkHold.chans[c]
    = if s.thermal.trip || s.chans[c].isFailed then s.chans[c] else s.chans[c].linkHold s.sids := by
  unfold State.enterLinkHold
  cases s.thermal.trip with
  | true => rfl
  | false => exact State.updAll_at ..

/-! ## The relock -/

/-- No soft repair waits for the channel. -/
def Channel.noneDue (h : Channel) : Prop := ∀ p : Pc, h.pcs[p].sparesDue = []

theorem Channel.coreWake_sameCells {h : Channel} (hd : h.noneDue) (rows : Nat) (p : Pc) :
    SameCells h.pcs[p] (h.coreWake rows).pcs[p] := by
  obtain ⟨d, sp, due, e, ed⟩ := h.srefExit_pcs rows 15 p.val p.isLt
  have e' : (h.coreWake rows).pcs[p] = { h.pcs[p] with dram := d, spares := sp, sparesDue := due } := e
  rw [e', ed (hd p)]
  exact ⟨rfl, rfl, rfl, rfl⟩

theorem Channel.unswitch_sameCells {h : Channel} (hd : h.noneDue) (rows : Nat) (p : Pc) :
    SameCells h.pcs[p] (h.unswitch rows).pcs[p] := by
  unfold Channel.unswitch
  split
  · refine (Channel.coreWake_sameCells hd rows p).trans ?_
    unfold Channel.updPcs
    simp only [Fin.getElem_fin, Vector.getElem_map]
    exact ⟨rfl, rfl, rfl, rfl⟩
  · exact .refl _

theorem Channel.relock_sameCells {h : Channel} (hd : h.noneDue) (rows : Nat) (p : Pc) :
    SameCells h.pcs[p] (h.relock rows).pcs[p] := by
  unfold Channel.relock
  split
  · exact Channel.unswitch_sameCells hd rows p
  · exact Channel.coreWake_sameCells hd rows p

theorem Channel.relock_awake {h : Channel} (hs : h.regs.srAct = false) (rows : Nat) :
    (h.relock rows).tsv.coreSr = 0 ∧ (h.relock rows).tsv.clocks = true := by
  unfold Channel.relock
  rw [hs, if_neg Bool.false_ne_true]
  refine ⟨?_, rfl⟩
  change h.tsv.coreSr &&& ~~~15#4 = 0
  rw [show ~~~15#4 = 0#4 from by decide, BitVec.and_zero]
  rfl

/-- Wick at the end of an episode (R318). -/
def Wick.episodeEnds (w : Wick) (now : Nat) : Wick :=
  { w with
    state := .run, frozenAt := none, closed := true, outputs := true, rcMgmt := false
    lastHold := BitVec.ofNat 8 (min 255 ((w.episode now + 3) / 4)), lastHoldUs := w.episode now }

theorem State.endEpisode_wick (s : State) (held : Bool) : (s.endEpisode held).wick = s.wick.episodeEnds s.timeUs :=
  State.ledgerEvent_wick ..

theorem State.endEpisode_chans (s : State) (held : Bool) : (s.endEpisode held).chans = s.chans := State.ledgerEvent_chans ..

theorem exec_lockDeclared_holdover {s : State} (hh : s.wick.state = .holdover) (hc : s.wick.closed = true) :
    exec .lockDeclared s = .next ((s.updWick (fun w => { w with lock := true })).endEpisode false) := by
  change execLockDeclared s = _
  unfold execLockDeclared
  rw [hh]
  exact if_pos hc

/-! ## The change of bin -/

theorem Channel.binChanged_frame (h : Channel) (sids : Nat) (p : Pc) :
    (h.binChanged sids).regs.binDenied = false ∧ (h.binChanged sids).pcs[p].ready = false := by
  refine ⟨rfl, ?_⟩
  unfold Channel.binChanged Channel.updPcs
  simp

theorem State.setCoreRl_at (s : State) (b : BitVec 2) {l : Fin 16} (hl : s.dies[l].present = true) :
    (s.setCoreRl b).dies[l].coreRl = BitVec.ofNat 6 (coreRlOf b) := by
  simp only [Fin.getElem_fin] at hl
  simp [State.setCoreRl, hl]

/-- A bin that is asked is asked by a channel that is not failed. -/
theorem State.binAsked_pend {s : State} {b : BitVec 2} {all : Bool} (ha : s.binAsked = (some b, all)) (hb : b ≠ s.wick.binAct) :
    s.chans.toList.any (fun h => !h.isFailed && h.regs.binReq != s.wick.binAct) = true := by
  have hhead : ((s.chans.toList.filter (fun h => !h.isFailed)).map (·.regs.binReq)).head? = some b := congrArg Prod.fst ha
  obtain ⟨h, hm, rfl⟩ := List.mem_map.1 (List.mem_of_head? hhead)
  obtain ⟨hm, hf⟩ := List.mem_filter.1 hm
  refine List.any_eq_true.2 ⟨h, hm, ?_⟩
  rw [hf, Bool.true_and, bne_iff_ne]
  exact hb

theorem exec_binChange {b : BitVec 2} {s : State} (hw : s.wick.state = .run) (hall : s.allAsleep = true)
    (ha : s.binAsked = (some b, true)) (hb : b ≠ s.wick.binAct) :
    exec .binChange s = if s.maxBin.toNat < b.toNat
      then .next (s.updAll (fun h => h.updRegs (fun r => { r with binDenied := true })))
      else .next (((s.updAll (·.binChanged s.sids)).setCoreRl b).updWick (fun w => { w.search with binAct := b, binChange := true })) := by
  have hpend := State.binAsked_pend ha hb
  change execBinChange s = _
  unfold execBinChange
  dsimp only
  rw [hall, hpend, hw, if_neg (by decide), ha]

/-- Settles O24: freezes, link hold and relock by what each channel takes, the change of bin by its two ways. -/
theorem wickHoldsOverAndChangesBin : Obligations.WickHoldsOverAndChangesBin := by
  refine ⟨⟨fun s hrun hn hf => ?_, fun s hh => ⟨?_, fun hcl hfo => ?_, fun hcl => ?_⟩, fun s hh => ⟨fun hl => ?_, fun hl ht => ?_⟩⟩,
    fun b s hw hall ha hb => ⟨fun hle => ?_, fun hlt => ?_⟩⟩
  · obtain ⟨⟨word, hwick⟩, hch⟩ := State.freeze_first hn hf
    have hcause (c : Ch) (hg : s.isGated c = false) : s.freeze.chans[c].regs.causes.getLsbD causeHoldover = true := by
      rw [hch]
      exact s.setCauseAll_holdover hg
    have hmem : memKept s s.freeze := memKept_of_cells (by simp)
    rw [← State.loseLock_run hrun] at hwick hcause hmem
    refine ⟨⟨_, rfl, hmem, ?_, ?_, rfl, ?_, ?_, ?_, hcause⟩, ⟨_, exec_lossOfLock_run hrun, hmem, ?_, ?_, ?_, hcause⟩⟩
    · exact congrArg Wick.state hwick
    · exact congrArg Wick.lock hwick
    · exact congrArg Wick.frozenAt hwick
    · exact (congrArg Wick.frac hwick).trans (congrArg Wick.frozen hwick).symm
    · exact congrArg Wick.holds hwick
    · exact (Wick.closesAgain_frame _).1.trans (congrArg Wick.state hwick)
    · exact (Wick.closesAgain_frame _).2.1.trans (congrArg Wick.lock hwick)
    · refine ((Wick.closesAgain_frame _).2.2 (congrArg Wick.state hwick) (congrArg Wick.closed hwick)).trans ?_
      rw [hwick]
      rfl
  · refine ⟨_, congrArg Host.Outcome.next (if_pos (by rw [hh]; rfl)), memKept_of_cells (by simp), rfl, rfl, fun c => ⟨fun h1 h2 h3 => ?_,
      fun h1 => ?_, fun h1 => ?_⟩⟩
    · rw [s.enterLinkHold_chan, h2, h3, Bool.or_self, if_neg Bool.false_ne_true]
      exact Channel.linkHold_awake h1 s.sids
    · rw [s.enterLinkHold_chan]
      split
      · rfl
      · exact Channel.linkHold_asleep h1 s.sids
    · rw [s.enterLinkHold_chan]
      exact if_pos (by rw [Bool.or_eq_true]; exact h1.symm)
  · refine ⟨_, congrArg Host.Outcome.next (if_pos (by rw [hh, hcl, hfo]; rfl)), memKept_of_cells (by simp), rfl, rfl, rfl, hh⟩
  · refine ⟨_, exec_lockDeclared_holdover hh hcl, memKept_of_cells (by simp), ?_, ?_, ?_, ?_⟩
    all_goals rw [State.endEpisode_wick]; rfl
  · exact ⟨_, congrArg Host.Outcome.next (if_pos (by rw [hh, hl]; rfl)), rfl, rfl, hh⟩
  · have hat (c : Ch) : (s.updAll (·.relock s.rows)).chans[c] = s.chans[c].relock s.rows := State.updAll_at ..
    refine ⟨_, if_pos (by rw [hh, hl]; rfl), fun hd => ?_, ?_, ?_, ?_, fun c hs => ?_⟩
    · rw [ht, if_neg Bool.false_ne_true]
      refine memKept_trans (t := s.updAll (·.relock s.rows)) ?_ (memKept_of_cells (by simp))
      refine memKept_of_sameCells rfl fun c p => ?_
      rw [hat]
      exact Channel.relock_sameCells (hd c) s.rows p
    · exact congrArg Wick.state (State.endEpisode_wick ..)
    · exact congrArg Wick.frozenAt (State.endEpisode_wick ..)
    · exact congrArg Wick.outputs (State.endEpisode_wick ..)
    · rw [State.endEpisode_chans, ht, if_neg Bool.false_ne_true, hat]
      exact Channel.relock_awake hs s.rows
  · refine ⟨_, .trans (exec_binChange hw hall ha hb) (if_neg (Nat.not_lt.2 hle)), memKept_of_cells ?_, rfl, rfl, rfl, rfl,
      fun l hl => ?_, fun c p => ?_⟩
    · simp
    · exact State.setCoreRl_at _ b hl
    · have hat : ((s.updAll (·.binChanged s.sids)).chans[c]) = s.chans[c].binChanged s.sids := State.updAll_at ..
      change ((s.updAll (·.binChanged s.sids)).chans[c]).regs.binDenied = false ∧
          ((s.updAll (·.binChanged s.sids)).chans[c]).pcs[p].ready = false
      rw [hat]
      exact s.chans[c].binChanged_frame s.sids p
  · refine ⟨_, .trans (exec_binChange hw hall ha hb) (if_pos hlt), memKept_of_cells ?_, rfl, fun c => ?_⟩
    · simp
    · rw [State.updAll_at]
      exact ⟨rfl, rfl⟩

end Sys2Proof.Machine


namespace Sys2Proof.Machine

open Sys2Proof.Safety

/-! # Training -/

/-! ## GO -/

/-- A channel whose stage GO starts (R183). -/
def Channel.startsStage (h : Channel) (now : Nat) (warm : Bool) : Channel :=
  let n := h.trn.stage.toNat
  let units := stageUnits n h.trn.pcsel
  { h with
    pcs := h.pcs.mapFinIdx (fun i q _ =>
      { (if units.getLsbD i then { q with ready := false } else q) with drive := if n = 2 then .rdqsStatic else q.drive })
    trn := { h.trn.resetFrom n units with
      busy := true, acting := units, done := false, aborted := false, last := h.trn.stage, warmUsed := warm
      saved := some h.lanes, startAt := now, started3 := (h.trn.resetFrom n units).started3 || decide (n = 3) } }

theorem Channel.go_accepted {h : Channel} (hb : h.trn.busy = false)
    (ha : h.goAccepted h.trn.stage.toNat (stageUnits h.trn.stage.toNat h.trn.pcsel) = true) (now : Nat) (warm : Bool) :
    h.go now warm = h.startsStage now warm := by
  unfold Channel.go
  dsimp only
  rw [hb, if_neg Bool.false_ne_true, if_pos ha]
  rfl

theorem Channel.startsStage_pc (h : Channel) (now : Nat) (warm : Bool) (p : Pc) :
    SameCells h.pcs[p] (h.startsStage now warm).pcs[p]
    ∧ (h.startsStage now warm).pcs[p].banks = h.pcs[p].banks
    ∧ ((stageUnits h.trn.stage.toNat h.trn.pcsel).getLsbD p.val = true → (h.startsStage now warm).pcs[p].ready = false)
    ∧ (h.trn.stage = 2 → (h.startsStage now warm).pcs[p].drive = .rdqsStatic) := by
  unfold Channel.startsStage
  simp only [Fin.getElem_fin, Vector.getElem_mapFinIdx]
  split
  · exact ⟨⟨rfl, rfl, rfl, rfl⟩, rfl, fun _ => rfl, fun h2 => if_pos (congrArg BitVec.toNat h2)⟩
  · next hn => exact ⟨⟨rfl, rfl, rfl, rfl⟩, rfl, fun hu => absurd hu hn, fun h2 => if_pos (congrArg BitVec.toNat h2)⟩

/-- A write of TRN_CTL with GO alone, in a channel that takes it, starts its stage (R183). -/
def Channel.goes (h : Channel) (now : Nat) (warm : Bool) (w : Word32) : Channel :=
  ((h.setTrnFields w).startsStage now warm).setTxeq (h.pcs.map (·.ready)) w

theorem goBit_or (w : Word32) : (w ||| 0x80000000#32).getLsbD 31 = true ∧ (w ||| 0x80000000#32).getLsbD 30 = w.getLsbD 30
    ∧ (w ||| 0x80000000#32).getLsbD 29 = w.getLsbD 29 ∧ (w ||| 0x80000000#32).extractLsb' 23 3 = w.extractLsb' 23 3
    ∧ (w ||| 0x80000000#32).extractLsb' 27 2 = w.extractLsb' 27 2 := by
  refine ⟨?_, ?_, ?_, ?_, ?_⟩
  · simp
  · simp
  · simp
  · rw [BitVec.extractLsb'_or]
    exact BitVec.or_zero
  · rw [BitVec.extractLsb'_or]
    exact BitVec.or_zero

theorem State.trnWrite_go {s : State} {c : Ch} {w : Word32} (h31 : w.getLsbD 31 = true) (h30 : w.getLsbD 30 = false)
    (h29 : w.getLsbD 29 = false) (hb : s.chans[c].trn.busy = false)
    (ha : s.chans[c].goAccepted (w.extractLsb' 23 3).toNat (stageUnits (w.extractLsb' 23 3).toNat (w.extractLsb' 27 2)) = true) :
    s.trnWrite c w = s.updCh c (fun _ => s.chans[c].goes s.timeUs (s.warmStart c w) w) := by
  have hgo : (s.chans[c].setTrnFields w).go s.timeUs (s.warmStart c w)
      = (s.chans[c].setTrnFields w).startsStage s.timeUs (s.warmStart c w) :=
    Channel.go_accepted (h := s.chans[c].setTrnFields w) hb ha _ _
  unfold State.trnWrite
  dsimp only
  rw [h31, h30, h29, if_pos rfl, if_neg Bool.false_ne_true, if_neg Bool.false_ne_true, State.updCh_updCh, State.updCh_updCh]
  refine State.updCh_congr ?_
  change Channel.setTxeq ((s.chans[c].setTrnFields w).go s.timeUs (s.warmStart c w)) _ _ = _
  rw [hgo]
  rfl

/-! ## FINISH -/

/-- A pseudo-channel at FINISH, by the results that its stages left (R185, R193). -/
structure Finished (h : Channel) (p : Pc) (q : PseudoChannel) : Prop where
  bad : (h.trn.bad 0 || h.trn.bad ⟨p.val + 1, by omega⟩) = true → q.failed = true ∧ q.ready = false
  good : h.trn.bad 0 = false → h.trn.bad ⟨p.val + 1, by omega⟩ = false → (h.trn.stageRes 7)[p.val + 1] = 0 →
    q.ready = true ∧ q.failed = false

theorem Channel.finishPc_trn (h : Channel) (p : Pc) : (h.finishPc p).trn = h.trn := by
  unfold Channel.finishPc
  dsimp only
  repeat' split
  all_goals rfl

theorem Channel.finishPc_other (h : Channel) {p q : Pc} (hq : q ≠ p) : (h.finishPc p).pcs[q] = h.pcs[q] := by
  unfold Channel.finishPc
  dsimp only
  repeat' split
  · rfl
  · exact Channel.updPc_other _ _ hq
  · exact Channel.updPc_other _ _ hq
  · rfl

theorem Channel.finishPc_self {h : Channel} {p : Pc} (ht : h.pcs[p].tsvFailed = false) : Finished h p (h.finishPc p).pcs[p] := by
  unfold Channel.finishPc
  dsimp only
  rw [ht, if_neg Bool.false_ne_true]
  split
  · next hbad =>
    rw [Channel.updPc_self]
    refine ⟨fun _ => ⟨rfl, rfl⟩, fun h0 h1 _ => ?_⟩
    rw [h0, h1] at hbad
    exact absurd hbad (by decide)
  · next hbad =>
    split
    · rw [Channel.updPc_self]
      refine ⟨fun hb => absurd hb hbad, fun _ _ _ => ?_⟩
      split
      · next hr => exact ⟨hr, rfl⟩
      · exact ⟨rfl, rfl⟩
    · next hr => exact ⟨fun hb => absurd hb hbad, fun _ _ h7 => absurd (beq_iff_eq.2 h7) hr⟩

theorem Channel.finish_pc (h : Channel) {p : Pc} (ht : h.pcs[p].tsvFailed = false) :
    Finished h p ((h.finishPc 0).finishPc 1).pcs[p] := by
  have h0 : ∀ q : Pc, h.pcs[q].tsvFailed = false → q = 1 → Finished h q ((h.finishPc 0).finishPc q).pcs[q] := by
    rintro q hq rfl
    have e : (h.finishPc 0).pcs[(1 : Pc)] = h.pcs[(1 : Pc)] := h.finishPc_other (by decide)
    obtain ⟨b, g⟩ := Channel.finishPc_self (h := h.finishPc 0) (p := 1) (by rw [e]; exact hq)
    rw [h.finishPc_trn] at b g
    exact ⟨b, g⟩
  by_cases hp : p = 1
  · subst hp
    exact h0 1 ht rfl
  · obtain rfl : p = 0 := match p, hp with
      | 0, _ => rfl
      | 1, h => absurd rfl h
    rw [Channel.finishPc_other _ (by decide)]
    exact Channel.finishPc_self ht

theorem State.saveBaselines_chans (s : State) : s.saveBaselines.chans = s.chans := by
  unfold State.saveBaselines
  split
  · unfold State.driveBaselines State.withQuince State.wakeQuince
    repeat' split
    all_goals rfl
  · rfl

/-! ## The end of a stage -/

theorem Channel.stage1_startAt (h : Channel) (rep : StageReport) : (h.stage1 rep).1.trn.startAt = h.trn.startAt := rfl

theorem Channel.stage2_startAt (h : Channel) (rep : StageReport) : (h.stage2 rep).1.trn.startAt = h.trn.startAt := rfl

theorem Channel.eyeStage_startAt (h : Channel) (n : Nat) (rep : StageReport) (occ : List Byte) (sids limit : Nat) :
    (h.eyeStage n rep occ sids limit).1.trn.startAt = h.trn.startAt := rfl


/-- The end of a stage leaves its start (Table 7-2). -/
theorem Channel.stages_startAt (h : Channel) (n : Nat) (rep : StageReport) (occ : List Byte) (sids limit : Nat) :
    (if n = 1 then h.stage1 rep else if n = 2 then h.stage2 rep else h.eyeStage n rep occ sids limit).1.trn.startAt
      = h.trn.startAt := by
  split
  · exact h.stage1_startAt rep
  · split
    · exact h.stage2_startAt rep
    · exact h.eyeStage_startAt ..

theorem Channel.stages_cells (h : Channel) (n : Nat) (rep : StageReport) (occ : List Byte) (sids limit : Nat) :
    (if n = 1 then h.stage1 rep else if n = 2 then h.stage2 rep else h.eyeStage n rep occ sids limit).1.cells = h.cells := by
  split
  · exact h.stage1_cells rep
  · split
    · exact h.stage2_cells rep
    · exact h.eyeStage_cells ..

theorem Channel.stageEnd_lane (h : Channel) (now : Nat) (aborted : Bool) (hit : BitVec 2) (k : Fin 100) :
    (h.trn.trims k = false → (h.stageEnd now aborted hit).lanes[k] = h.lanes[k])
    ∧ ∀ old, h.trn.saved = some old → h.trn.trims k = true → (h.stageEnd now aborted hit).lanes[k] = h.lanes[k].returnTo old[k] := by
  unfold Channel.stageEnd
  refine ⟨fun ht => ?_, fun old ho ht => ?_⟩
  · dsimp only
    split
    · refine (Vector.getElem_mapFinIdx ..).trans ?_
      exact if_neg (by rw [ht]; exact Bool.false_ne_true)
    · rfl
  · dsimp only
    rw [ho]
    exact (Vector.getElem_mapFinIdx ..).trans (if_pos ht)

/-- A channel whose stage has ended by itself. -/
structure StageEnded (h k : Channel) (now : Nat) : Prop where
  cells : k.cells = h.cells
  busy : k.trn.busy = false
  done : k.trn.done = true
  aborted : k.trn.aborted = false
  elapsed : k.trn.elapsed = h.trn.duration now

theorem Training.duration_congr {t u : Training} (h : t.startAt = u.startAt) (now : Nat) : t.duration now = u.duration now := by
  unfold Training.duration
  rw [h]

theorem exec_stageComplete {s : State} {c : Ch} (hb : s.chans[c].trn.busy = true) (rep : StageReport) : ∃ k : Channel,
    exec (.stageComplete c rep) s = .next ({ s with fresh := s.fresh + 1000 }.updCh c (fun _ => k)).evalHealth
      ∧ StageEnded s.chans[c] k s.timeUs := by
  change ∃ k, execStageComplete c rep s = _ ∧ _
  unfold execStageComplete
  dsimp only
  rw [hb, Bool.not_true, if_neg Bool.false_ne_true]
  have hc := s.chans[c].stages_cells s.chans[c].trn.last.toNat rep (s.chans[c].occupancies rep s.wick.binAct s.sids) s.sids
    (occLimit s.wick.binAct)
  have hs := s.chans[c].stages_startAt s.chans[c].trn.last.toNat rep (s.chans[c].occupancies rep s.wick.binAct s.sids) s.sids
    (occLimit s.wick.binAct)
  generalize (if s.chans[c].trn.last.toNat = 1 then s.chans[c].stage1 rep else _) = x at hc hs ⊢
  obtain ⟨h1, r⟩ := x
  refine ⟨_, rfl, ?_, rfl, rfl, rfl, Training.duration_congr hs _⟩
  refine .trans ?_ hc
  simp

/-- Settles O30: GO, ABORT, FINISH and the end of a stage by the channel that each leaves. -/
theorem trainingControl : Obligations.TrainingControl := by
  refine ⟨⟨fun c w s h30 h29 hb ha => ?_, fun c s hb => ?_, fun c s hb => ?_⟩, fun c rep s hb => ?_⟩
  · obtain ⟨e31, e30, e29, es, eu⟩ := goBit_or w
    have hgo := State.trnWrite_go e31 (e30.trans h30) (e29.trans h29) hb (by rw [es, eu]; exact ha)
    have hat : ∀ p : Pc, _ := (s.chans[c].setTrnFields (w ||| 0x80000000#32)).startsStage_pc s.timeUs
      (s.warmStart c (w ||| 0x80000000#32))
    refine ⟨_, congrArg Host.Outcome.next hgo, onlyChannel_updCh .., ?_, ?_, ?_⟩
    · refine memKept_of_sameCells rfl fun d p => ?_
      by_cases hd : d = c
      · subst hd
        rw [State.updCh_self]
        exact (hat p).1
      · rw [State.updCh_other s _ hd]
        exact .refl _
    · intro p i
      rw [State.updCh_self]
      exact congrArg (fun b => b[i].phase) (hat p).2.1
    · rw [State.updCh_self, ← es, ← eu]
      exact ⟨rfl, rfl, rfl, fun h2 p => (hat p).2.2.2 h2, fun p => (hat p).2.2.1⟩
  · have hend : s.chans[c].abortStage s.timeUs = s.chans[c].stageEnd s.timeUs true 0 := if_pos hb
    refine ⟨_, congrArg Host.Outcome.next (State.updCh_congr (g := fun _ => s.chans[c].stageEnd s.timeUs true 0) hend),
      onlyChannel_updCh .., memKept_of_cells ?_, ?_, ?_⟩
    · exact State.updCh_cells (s.chans[c].stageEnd_cells s.timeUs true 0)
    · intro p i
      rw [State.updCh_self]
      simp [Channel.stageEnd, Channel.updPcs]
    · rw [State.updCh_self]
      refine ⟨rfl, rfl, rfl, rfl, fun k => s.chans[c].stageEnd_lane s.timeUs true 0 k⟩
  · have hn := noted_evalHealth (s.updCh c (fun h => (h.finishPc 0).finishPc 1))
    have hpcs : (s.updCh c (fun h => (h.finishPc 0).finishPc 1)).evalHealth.saveBaselines.chans[c].pcs
        = ((s.chans[c].finishPc 0).finishPc 1).pcs := by
      rw [State.saveBaselines_chans, hn.pcs, State.updCh_self]
    refine ⟨_, congrArg Host.Outcome.next (if_neg (by rw [hb]; decide)), memKept_of_cells ?_, fun p ht => ?_⟩
    · simp
    · rw [hpcs]
      exact ⟨(s.chans[c].finish_pc ht).bad, (s.chans[c].finish_pc ht).good⟩
  · obtain ⟨k, he, hk⟩ := exec_stageComplete hb rep
    have hn := noted_evalHealth ({ s with fresh := s.fresh + 1000 }.updCh c (fun _ => k))
    have htrn : ({ s with fresh := s.fresh + 1000 }.updCh c (fun _ => k)).evalHealth.chans[c].trn = k.trn := by
      obtain ⟨x, hx⟩ := hn.chan c
      rw [hx, State.updCh_self]
    refine ⟨_, he, memKept_of_cells ?_, ?_, ?_, ?_, ?_, fun d hd => ?_⟩
    · exact (State.evalHealth_cells _).trans (State.updCh_cells (s := { s with fresh := s.fresh + 1000 }) hk.cells)
    · rw [htrn, hk.busy]
    · rw [htrn, hk.done]
    · rw [htrn, hk.aborted]
    · rw [htrn, hk.elapsed]
    · obtain ⟨x, hx⟩ := hn.chan d
      rw [hx, State.updCh_other _ _ hd]

end Sys2Proof.Machine


namespace Sys2Proof.Machine

open Sys2Proof.Safety

/-! # Tracking and re-centring -/

/-- A channel with another value of one lane. -/
def Channel.withLane (h : Channel) (k : Fin 100) (l : Lane) : Channel := { h with lanes := h.lanes.set k l }

/-- A channel with another trim of the RDQS of a strobe group. -/
def Channel.withRdqs (h : Channel) (g : Fin 4) (r : RdqsTrim) : Channel := { h with rdqs := h.rdqs.set g r }

theorem Channel.withLane_self (h : Channel) (k : Fin 100) (l : Lane) : (h.withLane k l).lanes[k] = l := Vector.getElem_set_self ..

theorem Channel.withLane_other (h : Channel) {k j : Fin 100} (l : Lane) (hj : j ≠ k) : (h.withLane k l).lanes[j] = h.lanes[j] :=
  Vector.getElem_set_ne k.isLt j.isLt (fun e => hj (Fin.ext e.symm))

/-- One lane's window (R197): its lane, and the count of steps. -/
def Channel.windowOf (h : Channel) (x : LaneCount) : Channel :=
  let l := h.lanes[x.lane].window x.early x.late
  { h.withLane x.lane l with
    cnt := if l.live = h.lanes[x.lane].live then h.cnt else { h.cnt with trackSteps := bump h.cnt.trackSteps } }

theorem exec_trackingWindow_one {s : State} (hl : s.mgmt.lab = false) (c : Ch) (x : LaneCount) :
    exec (.trackingWindow c [x]) s
      = .next (s.updCh c (fun h => if h.map.replaced x.lane then h else h.windowOf x)) := by
  change execTrackingWindow c [x] s = _
  unfold execTrackingWindow
  rw [hl, Bool.false_and, if_neg Bool.false_ne_true]
  refine congrArg Host.Outcome.next (State.updCh_congr ?_)
  cases hr : s.chans[c].map.replaced x.lane with
  | true =>
    rw [List.filter_cons_of_neg (by rw [hr]; decide)]
    rfl
  | false =>
    rw [List.filter_cons_of_pos (by rw [hr]; decide)]
    rfl

theorem noted_setCause (s : State) (c : Ch) (n : Nat) : Noted s (s.setCause c n) := by
  unfold State.setCause
  split
  · exact .of_chans rfl rfl
  · refine ⟨rfl, fun d => ?_⟩
    by_cases hd : d = c
    · subst hd
      exact ⟨_, State.updCh_self ..⟩
    · exact ⟨s.chans[d].regs.causes, State.updCh_other s _ hd⟩

theorem Noted.lanes {s t : State} (h : Noted s t) (c : Ch) : t.chans[c].lanes = s.chans[c].lanes := by
  obtain ⟨x, hx⟩ := h.chan c
  rw [hx]

/-- Marking a lane marginal leaves the code it stands at and its count of rejects (R205). -/
theorem State.laneMarginal_lane (s : State) (c : Ch) (k : Fin 100) (last : List Byte) :
    (s.laneMarginal c k last).chans[c].lanes[k].rejects = s.chans[c].lanes[k].rejects
    ∧ (s.laneMarginal c k last).chans[c].lanes[k].live = s.chans[c].lanes[k].live := by
  have hmark : ∀ h : Channel, ({ h with lanes := h.lanes.set k { h.lanes[k] with marginal := true }, map := h.map.propose k }
      : Channel).lanes[k] = { h.lanes[k] with marginal := true } := fun h => Vector.getElem_set_self ..
  unfold State.laneMarginal
  dsimp only
  rw [(noted_evalHealth _).lanes, (noted_ledgerEvent ..).lanes, (noted_setCause ..).lanes, State.updCh_self, hmark]
  exact ⟨rfl, rfl⟩

/-- A rejected result is counted and moves nothing (R205). -/
theorem State.reject_lane (s : State) (c : Ch) (k : Fin 100) (last : List Byte) :
    (s.reject c k last).chans[c].lanes[k].rejects = s.chans[c].lanes[k].rejects + 1
    ∧ (s.reject c k last).chans[c].lanes[k].live = s.chans[c].lanes[k].live := by
  have hat : (s.updCh c (fun h => h.withLane k { h.lanes[k] with rejects := s.chans[c].lanes[k].rejects + 1 })).chans[c].lanes[k]
      = { s.chans[c].lanes[k] with rejects := s.chans[c].lanes[k].rejects + 1 } := by
    rw [State.updCh_self, Channel.withLane_self]
  have hmarginal := State.laneMarginal_lane
    (s.updCh c (fun h => h.withLane k { h.lanes[k] with rejects := s.chans[c].lanes[k].rejects + 1 })) c k last
  rw [hat] at hmarginal
  unfold State.reject
  dsimp only
  split
  · exact hmarginal
  · exact ⟨congrArg Lane.rejects hat, .trans (congrArg Lane.live hat) rfl⟩

theorem stepToward_up {v t : BitVec 12} (h : v.toNat < t.toNat) : stepToward v t = v + 1 := if_pos h

theorem stepToward_down {v t : BitVec 12} (h : t.toNat < v.toNat) : stepToward v t = v - 1 :=
  (if_neg (Nat.lt_asymm h)).trans (if_pos h)

theorem Lane.slew_liveTx {l : Lane} {t : BitVec 12} (h : l.txTarget = some t) : l.slew.liveTx = stepToward l.liveTx t := by
  unfold Lane.slew
  rw [h]

theorem RdqsTrim.slew_live {r : RdqsTrim} {t : BitVec 12} (h : r.target = some t) : r.slew.live = stepToward r.live t := by
  unfold RdqsTrim.slew
  rw [h]

/-- A plausible result of a lane in service (R204, R21). -/
def Lane.takes (l : Lane) (e : EyeResult) : Lane :=
  { l with
    pending := some { e with ctle := clipCode l.refCtle e.ctle, dfe := clipCode l.refDfe e.dfe }
    net := l.since, rejects := 0, width := e.width, height := e.height, lastResult := resultBytes e }

theorem State.takeResult_plausible {s : State} {c : Ch} {e : EyeResult} (hp : s.chans[c].lanes[e.lane].plausible e = true)
    (hr : s.chans[c].map.replaced e.lane = false) :
    s.takeResult c e = s.updCh c (fun h => h.withLane e.lane (s.chans[c].lanes[e.lane].takes e)) := by
  unfold State.takeResult
  dsimp only
  rw [hr, if_neg Bool.false_ne_true, if_pos hp, State.updCh_updCh]
  refine State.updCh_congr ?_
  exact congrArg (fun v => { s.chans[c] with lanes := v }) (Vector.set_set ..)

/-- Settles O31: what each step leaves of its channel, lane by lane. -/
theorem linkTracksAndRecentres : Obligations.LinkTracksAndRecentres := by
  refine ⟨fun c x s hl => ?_, fun c k s => ⟨fun hd hr => ?_, fun h1 h2 => ?_⟩, fun c s hp => ?_, fun c s hg hw hm => ?_,
    fun c e s hm hp hr => ?_, fun c target s => ⟨fun k hk => ?_, fun g hg => ?_⟩⟩
  · refine ⟨_, exec_trackingWindow_one hl c x, onlyChannel_updCh .., memKept_of_cells (State.updCh_cells ?_), ?_, fun k hk => ?_⟩
    · split <;> rfl
    · rw [State.updCh_self]
      split
      · rfl
      · exact Channel.withLane_self ..
    · rw [State.updCh_self]
      split
      · rfl
      · exact Channel.withLane_other _ _ hk
  · refine ⟨_, congrArg Host.Outcome.next (if_pos ⟨hd, by rw [hr]; rfl⟩), memKept_of_cells (by simp), ?_, ?_⟩
    · rw [(State.reject_lane ..).1, State.ledger_chans]
    · rw [(State.reject_lane ..).2, State.ledger_chans]
  · exact congrArg Host.Outcome.next (if_neg fun h => h.1.elim h1 h2)
  · refine ⟨_, congrArg Host.Outcome.next (State.updCh_congr (g := fun h => h.updRegs (fun r => { r with lmwDue := true })) (if_pos hp)),
      onlyChannel_updCh .., ?_, ?_⟩
    · rw [State.updCh_self]
      rfl
    · rw [State.updCh_self]
      rfl
  · refine ⟨_, congrArg Host.Outcome.next ((if_pos (by rw [hm, hw]; rfl)).trans (State.updCh_congr (g := fun h =>
      { (h.updRegs (fun r => { r with lmwDue := false })) with
        intake := { h.intake with gathered := 0 }, lanes := h.lanes.map (fun l => { l with since := 0 }) }) (if_pos hg))),
      onlyChannel_updCh .., ?_⟩
    rw [State.updCh_self]
    exact ⟨rfl, rfl, rfl, fun k => Vector.getElem_map ..⟩
  · have he : (s.takeResult c e).updCh c (fun h => h)
        = s.updCh c (fun h => h.withLane e.lane (s.chans[c].lanes[e.lane].takes e)) := by
      rw [State.updCh_id, State.takeResult_plausible hp hr]
    refine ⟨_, congrArg Host.Outcome.next ((if_pos hm).trans he), onlyChannel_updCh .., ?_⟩
    rw [State.updCh_self, Channel.withLane_self]
    exact ⟨rfl, rfl, rfl, rfl, fun k hk => Channel.withLane_other _ _ hk⟩
  · refine ⟨_, congrArg Host.Outcome.next (State.updCh_congr (g := fun h => h.withLane k h.lanes[k].slew) (dif_pos k.isLt)),
      onlyChannel_updCh .., ?_⟩
    rw [State.updCh_self, Channel.withLane_self, Lane.slew_liveTx hk]
    exact ⟨stepToward_up, stepToward_down, fun j hj => Channel.withLane_other _ _ hj⟩
  · have hge : ¬ 100 + g.val < 100 := Nat.not_lt.2 (Nat.le_add_right ..)
    have hat : (s.chans[c].withRdqs g s.chans[c].rdqs[g].slew).rdqs[g] = s.chans[c].rdqs[g].slew := Vector.getElem_set_self ..
    refine ⟨_, congrArg Host.Outcome.next (State.updCh_congr (g := fun h => h.withRdqs g h.rdqs[g].slew) ?_), onlyChannel_updCh .., ?_⟩
    · refine (dif_neg hge).trans ?_
      simp [Channel.withRdqs]
    · rw [State.updCh_self, hat, RdqsTrim.slew_live hg]
      exact ⟨rfl, stepToward_up, stepToward_down⟩

end Sys2Proof.Machine


namespace Sys2Proof.Machine

open Sys2Proof.Safety

/-! # TSV calibration and the service buses -/

/-! ## Trims -/

theorem trimOffset_append_absent {trims : List (Nat × Int)} {ix : Nat} (h : trims.any (fun x => x.1 == ix) = false) (v : Int) :
    trimOffset (trims ++ [(ix, v)]) ix = v := by
  have hn : trims.find? (fun x => x.1 == ix) = none := by
    rw [List.find?_eq_none]
    exact fun x hx => by simpa using (List.any_eq_false.1 h) x hx
  unfold trimOffset
  rw [List.find?_append, hn]
  simp

theorem trimOffset_map_present {trims : List (Nat × Int)} {ix : Nat} (h : trims.any (fun x => x.1 == ix) = true) (v : Int) :
    trimOffset (trims.map (fun x => if x.1 == ix then (ix, v) else x)) ix = v := by
  obtain ⟨y, hy⟩ : ∃ y, trims.find? (fun x => x.1 == ix) = some y := by
    obtain ⟨x, hx, he⟩ := List.any_eq_true.1 h
    exact Option.isSome_iff_exists.1 (List.find?_isSome.2 ⟨x, hx, he⟩)
  have hyx := List.find?_some hy
  have hcongr : ((fun x : Nat × Int => x.1 == ix) ∘ fun x : Nat × Int => if x.1 == ix then (ix, v) else x) = fun x => x.1 == ix := by
    funext x
    by_cases hx : x.1 = ix
    · simp [hx]
    · simp [hx]
  unfold trimOffset
  rw [List.find?_map, hcongr, hy, Option.map_some, if_pos hyx]
  rfl

theorem TsvPort.stepTrim_offset (t : TsvPort) (ix : Nat) (d : Int) : (t.stepTrim ix d).offset ix = t.offset ix + d := by
  unfold TsvPort.stepTrim TsvPort.offset
  dsimp only
  cases h : t.trims.any (fun x => x.1 == ix) with
  | true => rw [if_pos rfl, trimOffset_map_present h]
  | false => rw [if_neg Bool.false_ne_true, trimOffset_append_absent h]

theorem TsvPort.stepTrim_trim (t : TsvPort) (ix : Nat) (d : Int) : (t.stepTrim ix d).trim ix = t.trim ix + d := by
  have h := t.stepTrim_offset ix d
  unfold TsvPort.offset at h
  unfold TsvPort.trim trimValue
  rw [h, ← Int.add_assoc]
  rfl

/-- Reads that come late move the read fine delay one code later, where it has range (R216). -/
theorem TsvPort.eval_late {t : TsvPort} {r : TsvReport} (hl : r.late = true) (he : r.early = false)
    (h0 : 0 ≤ t.trim (readDelayIx r.group r.pos.val r.sid)) (h1 : t.trim (readDelayIx r.group r.pos.val r.sid) < 63) :
    t.eval r = t.stepTrim (readDelayIx r.group r.pos.val r.sid) 1 := by
  unfold TsvPort.eval
  dsimp only
  rw [hl, he, if_neg (by decide), if_pos rfl, if_pos ⟨by omega, by omega⟩]

/-- The service thread of the calibration starts (R216, Table 6-8, entry 45). -/
def Channel.calThread (h : Channel) (halt : Bool) : Channel := h.eventThread halt 45 (pcAddr 0) none []

theorem exec_tsvCalEval_one {c : Ch} {r : TsvReport} {s : State} (hc : s.chans[c].tsv.clocks = true)
    (hs : s.chans[c].taper.stopped = false) (hn : r.lasted = false) (hf : s.chans[c].trimFree r = true) :
    exec (.tsvCalEval c [r]) s = .next (s.updCh c (fun h => { h.calThread (s.haltMaint c) with tsv := h.tsv.eval r })) := by
  obtain ⟨-, -, htsv, -⟩ := Channel.eventThread_frame s.chans[c] (s.haltMaint c) 45 (pcAddr 0) none []
  have hpcs : (s.chans[c].calThread (s.haltMaint c)).pcs = s.chans[c].pcs := Channel.eventThread_pcs ..
  have hfree : (s.chans[c].calThread (s.haltMaint c)).trimFree r = true := by
    unfold Channel.trimFree at hf ⊢
    rw [hpcs]
    exact hf
  have hstep : (s.updCh c (·.calThread (s.haltMaint c))).updCh c (fun h => if h.trimFree r then { h with tsv := h.tsv.eval r } else h)
      = s.updCh c (fun h => { h.calThread (s.haltMaint c) with tsv := h.tsv.eval r }) := by
    rw [State.updCh_updCh]
    refine State.updCh_congr ?_
    refine (if_pos hfree).trans ?_
    unfold Channel.calThread
    rw [htsv]
  refine (if_pos (by rw [hc, hs]; rfl)).trans (congrArg Host.Outcome.next ?_)
  refine (if_neg ?_).trans hstep
  unfold TsvPort.marginalBy
  rw [hn, Bool.false_and]
  exact Bool.false_ne_true

theorem State.startMove_frame (s : State) {c : Ch} {g : Fin 16} {pos : Fin 18} (hr : s.chans[c].tsv.repair[g] = none)
    (hv : s.chans[c].tsv.move = none) : (s.startMove c g pos).chans[c].tsv.move = some (g, pos, [], false)
      ∧ (s.startMove c g pos).chans[c].tsv.repair = s.chans[c].tsv.repair ∧ (s.startMove c g pos).nv = s.nv := by
  have hat : (s.updCh c (fun h => { h with tsv := { h.tsv with move := some (g, pos, [], false) } })).chans[c].tsv
      = { s.chans[c].tsv with move := some (g, pos, [], false) } := congrArg Channel.tsv (State.updCh_self ..)
  unfold State.startMove
  dsimp only
  rw [hr, hv, if_neg (by decide)]
  split
  · exact ⟨.trans (congrArg TsvPort.move hat) rfl, .trans (congrArg TsvPort.repair hat) rfl, rfl⟩
  · exact ⟨.trans (congrArg TsvPort.move hat) rfl, .trans (congrArg TsvPort.repair hat) rfl, rfl⟩

/-! ## The buses -/

theorem State.layerActs_done {s : State} {x : SvcCmd} (hp : x.pendingOp = false) (hsop : x.sop = 0) (ha : x.addr = 1)
    (hd : s.dies[x.lid].pend = none) :
    s.layerActs x = s.updDie x.lid (fun d => { d with coreRl := x.wdata.extractLsb' 0 6 }) := by
  unfold State.layerActs SvcCmd.onWire State.layerServes
  dsimp only
  rw [hp, if_neg Bool.false_ne_true, hsop, ha, hd]
  rfl

theorem State.layerActs_pending {s : State} {x : SvcCmd} (hp : x.pendingOp = false) (hsop : x.sop = 3 ∨ x.sop = 4)
    (hd : s.dies[x.lid].pend = none) : ∃ f : CoreDie → CoreDie, s.layerActs x = s.updDie x.lid f
      ∧ ∀ d, (f d).pend.isSome = true := by
  unfold State.layerActs SvcCmd.onWire State.layerServes
  dsimp only
  rw [hp, if_neg Bool.false_ne_true, hd]
  rcases hsop with h | h
  · rw [h]
    exact ⟨fun d => { d with pend := some (0, sparseGet d.antifuse (x.addr.toNat % 2048)) }, rfl, fun _ => rfl⟩
  · rw [h]
    exact ⟨fun d => { d with
      antifuse := sparseSet d.antifuse (x.addr.toNat % 2048)
        (sparseGet d.antifuse (x.addr.toNat % 2048) ||| (1#32 <<< (x.wdata.toNat % 32)))
      pend := some (0, 0) }, rfl, fun _ => rfl⟩

/-- A layer that acts leaves Quince and the buses, and every channel but for the soft repairs (R142). -/
theorem State.layerServes_frame (s : State) (x : SvcCmd) (programs : Bool) :
    (s.layerServes x programs).2.2.nv = s.nv ∧ (s.layerServes x programs).2.2.buses = s.buses
    ∧ (x.sop ≠ 5 → x.sop ≠ 6 → (s.layerServes x programs).2.2.chans = s.chans) := by
  unfold State.layerServes
  dsimp only
  split
  case h_9 h _ =>
    split
    · exact ⟨rfl, rfl, fun h5 => absurd (BitVec.eq_of_toNat_eq h) h5⟩
    · exact ⟨rfl, rfl, fun _ _ => rfl⟩
  case h_10 h _ => exact ⟨rfl, rfl, fun _ h6 => absurd (BitVec.eq_of_toNat_eq h) h6⟩
  case h_5 =>
    split
    · exact ⟨rfl, rfl, fun _ _ => rfl⟩
    · exact ⟨rfl, rfl, fun _ _ => rfl⟩
  all_goals exact ⟨rfl, rfl, fun _ _ => rfl⟩

theorem State.layerMayAct_frame (s : State) (x : SvcCmd) : (s.layerMayAct x).nv = s.nv ∧ (s.layerMayAct x).buses = s.buses
    ∧ (x.sop ≠ 5 → x.sop ≠ 6 → (s.layerMayAct x).chans = s.chans) := by
  have hwire : x.sop ≠ 5 → x.sop ≠ 6 → x.onWire.sop ≠ 5 ∧ x.onWire.sop ≠ 6 := fun h5 h6 => by
    unfold SvcCmd.onWire
    split
    · exact ⟨(by decide : (8 : BitVec 4) ≠ 5), (by decide : (8 : BitVec 4) ≠ 6)⟩
    · exact ⟨h5, h6⟩
  obtain ⟨hn, hb, hc⟩ := State.layerServes_frame (s.free 1).2 x.onWire true
  unfold State.layerMayAct
  dsimp only
  split
  · exact ⟨hn, hb, fun h5 h6 => hc (hwire h5 h6).1 (hwire h5 h6).2⟩
  · exact ⟨rfl, rfl, fun _ _ => rfl⟩

theorem exec_serviceResponse {i : Fin 2} {f : BitVec 48} {x : SvcCmd} {s : State} (hx : s.buses[i].cmd = some x)
    (hcrc : responseCrcOk f = true) (hlid : responseLid f = x.lid) :
    (responseStatus f = 0 → exec (.serviceResponse i f) s = .next ((s.layerActs x).complete i x true false))
    ∧ (responseStatus f = 1 → exec (.serviceResponse i f) s = .next ((s.layerActs x).updBus i (fun b =>
        { b with cmd := some { x with pendingOp := true }, sent := x.poll.frame }))) := by
  refine ⟨fun h => ?_, fun h => ?_⟩
  all_goals
    change execServiceResponse i f s = _
    unfold execServiceResponse
    rw [hx]
    dsimp only
    rw [hcrc, hlid, if_neg (by simp), h]
    rfl

theorem exec_serviceTimeout {i : Fin 2} {x : SvcCmd} {s : State} (hx : s.buses[i].cmd = some x) (hr : x.repeats < 3) :
    exec (.serviceTimeout i) s = .next ((s.layerMayAct x).updBus i (fun b =>
      { b with cmd := some { x with repeats := x.repeats + 1 }, sent := x.onWire.frame })) := by
  change execServiceTimeout i s = _
  unfold execServiceTimeout State.serviceRetry
  rw [hx]
  dsimp only
  rw [if_pos hr]

theorem State.complete_config (s : State) (i : Fin 2) {x : SvcCmd} (hp : x.purpose = .config) (ok fail : Bool) :
    s.complete i x ok fail = s.updBus i (·.next) := by
  unfold State.complete State.serviceEnd
  rw [hp]

theorem State.updBus_self (s : State) (i : Fin 2) (f : SvcBus → SvcBus) : (s.updBus i f).buses[i] = f s.buses[i] :=
  Vector.getElem_set_self ..

/-- Settles O32: one report, one step of a move, and a layer's answers by what each changes. -/
theorem tsvCalibrationAndServiceBus : Obligations.TsvCalibrationAndServiceBus := by
  refine ⟨⟨fun c r s hc hs hl he hn hf h0 h1 => ?_, fun c g pos s hm hg hr hv => ?_⟩, fun i x s hx =>
    ⟨fun f hcrc hlid hp hpend hd => ⟨fun hst hsop ha => ?_, fun hst hsop => ?_⟩, fun hrep => ?_⟩⟩
  · refine ⟨_, exec_tsvCalEval_one hc hs hn hf, onlyChannel_updCh .., memKept_of_cells (State.updCh_cells ?_), ?_⟩
    · exact Channel.eventThread_cells ..
    · rw [State.updCh_self]
      exact (congrArg (fun t => TsvPort.trim t _) (TsvPort.eval_late hl he h0 h1)).trans (TsvPort.stepTrim_trim ..)
  · obtain ⟨e1, e2, e3⟩ := s.startMove_frame (pos := pos) hr hv
    exact ⟨_, congrArg Host.Outcome.next (if_pos (by rw [hm, hg]; rfl)), memKept_of_cells (by simp), e1, e2, e3⟩
  · refine ⟨_, (exec_serviceResponse hx hcrc hlid).1 hst, ?_⟩
    rw [State.layerActs_done hpend hsop ha hd, State.complete_config _ i hp]
    have hself := s.updDie_self x.lid (fun d => { d with coreRl := x.wdata.extractLsb' 0 6 })
    have hother := (layerAlone_updDie s x.lid (fun d => { d with coreRl := x.wdata.extractLsb' 0 6 })).2
    exact ⟨rfl, hself, State.updBus_self .., hother⟩
  · obtain ⟨g, e, hg⟩ := State.layerActs_pending hpend hsop hd
    refine ⟨_, (exec_serviceResponse hx hcrc hlid).2 hst, ?_⟩
    rw [e, State.updBus_self]
    refine ⟨rfl, rfl, rfl, ?_⟩
    exact (congrArg (fun d => d.pend.isSome) (State.updDie_self ..)).trans (hg _)
  · obtain ⟨hn, -, hc⟩ := s.layerMayAct_frame x
    refine ⟨_, exec_serviceTimeout hx hrep, hn, hc, ?_, ?_⟩
    · rw [State.updBus_self]
      rfl
    · rw [State.updBus_self]
      unfold SvcCmd.onWire
      split <;> rfl

end Sys2Proof.Machine


namespace Sys2Proof.Machine

open Sys2Proof.Safety

/-! # Refresh debt -/

/-- A pseudo-channel after a 975 ns tick of a SID (R223). -/
def PseudoChannel.ticked (q : PseudoChannel) (sid : Sid) (n : Nat) (due : Bool) (adv : Nat) : PseudoChannel :=
  let q1 := { q with ticks := q.ticks.set sid n }
  if due then q1.updSid sid (fun b => { b with debt := b.debt + adv }) else q1

theorem PseudoChannel.updSid_at (q : PseudoChannel) (sid : Sid) (f : Bank → Bank) (i : Fin 64) :
    (q.updSid sid f).banks[i] = if bankSid i = sid then f q.banks[i] else q.banks[i] := Vector.getElem_mapFinIdx ..

theorem PseudoChannel.ticked_bank (q : PseudoChannel) (sid : Sid) (n : Nat) (due : Bool) (adv : Nat) (i : Fin 64) :
    (q.ticked sid n due adv).banks[i].phase = q.banks[i].phase
    ∧ (q.ticked sid n due adv).banks[i].debt = q.banks[i].debt + if bankSid i = sid ∧ due = true then (adv : Int) else 0 := by
  unfold PseudoChannel.ticked
  cases due with
  | true =>
    rw [if_pos rfl, PseudoChannel.updSid_at]
    by_cases hi : bankSid i = sid
    · rw [if_pos hi, if_pos ⟨hi, rfl⟩]
      exact ⟨rfl, rfl⟩
    · rw [if_neg hi, if_neg fun h => hi h.1]
      exact ⟨rfl, (Int.add_zero _).symm⟩
  | false =>
    rw [if_neg Bool.false_ne_true, if_neg (fun h => Bool.false_ne_true h.2)]
    exact ⟨rfl, (Int.add_zero _).symm⟩

theorem PseudoChannel.ticked_ticks (q : PseudoChannel) (sid : Sid) (n : Nat) (due : Bool) (adv : Nat) :
    (q.ticked sid n due adv).ticks[sid] = n := by
  unfold PseudoChannel.ticked
  cases due <;> exact Vector.getElem_set_self ..

theorem onlyChannel_refl (s : State) (c : Ch) : onlyChannel s s c := by
  have h := onlyChannel_updCh s c (fun h => h)
  rwa [State.updCh_id] at h

theorem onlyChannel_trans {s t u : State} {c : Ch} (h : onlyChannel s t c) (h' : onlyChannel t u c) : onlyChannel s u c := by
  unfold onlyChannel at h h' ⊢
  rw [h', h]
  simp

theorem State.raiseUrgent_onlyChannel (s old : State) (c : Ch) : onlyChannel s (s.raiseUrgent old c) c := by
  unfold State.raiseUrgent State.setCause
  repeat' split
  · exact onlyChannel_refl ..
  · exact onlyChannel_updCh ..
  · exact onlyChannel_refl ..

theorem State.aboveLimit_of_noted {s t : State} (h : Noted s t) (ht : t.thermal = s.thermal) (c : Ch) (p : Pc) (i : Fin 64) :
    t.aboveLimit c p i = s.aboveLimit c p i := by
  obtain ⟨x, hx⟩ := h.chan c
  unfold State.aboveLimit Channel.obliged State.limitRows State.advance
  rw [hx, ht, h.dens]

/-- Where a bank comes to stand above its limit, REF_URGENT follows (R224). -/
theorem State.raiseUrgent_raises {s old : State} {c : Ch} {p : Pc} {i : Fin 64} (hg : s.isGated c = false)
    (h : s.aboveLimit c p i = true) (ho : old.aboveLimit c p i = false) :
    (s.raiseUrgent old c).chans[c].regs.causes.getLsbD causeRefUrgent = true := by
  have hany : (List.finRange 2).any (fun p => (List.finRange 64).any (fun i => s.aboveLimit c p i && !old.aboveLimit c p i)) = true :=
    List.any_eq_true.2 ⟨p, List.mem_finRange p, List.any_eq_true.2 ⟨i, List.mem_finRange i, by rw [h, ho]; rfl⟩⟩
  unfold State.raiseUrgent State.setCause
  rw [if_pos hany, hg, if_neg Bool.false_ne_true, State.updCh_self]
  simp [Channel.setCause, Channel.updRegs, causeRefUrgent]

theorem exec_trefiAccrual {c : Ch} {p : Pc} {sid : Sid} {s : State} (ho : s.chans[c].obliged p = true) (hs : s.sidPresent sid = true) :
    exec (.trefiAccrual c p sid) s = .next ((s.updPc c p (fun q => q.ticked sid (s.chans[c].pcs[p].ticks[sid] + 1)
      ((s.chans[c].pcs[p].ticks[sid] + 1) % (s.thermal.mode[sid]).ticks == 0) s.advance)).raiseUrgent s c) :=
  if_neg (by rw [ho, hs]; decide)

/-- Settles O33: the tick by what it leaves of each bank, REF_URGENT by the limit that is passed. -/
theorem tickAccruesDebt : Obligations.TickAccruesDebt := by
  intro c p sid s ho hs hg
  have hself (u : PseudoChannel → PseudoChannel) : (s.updPc c p u).chans[c].pcs[p] = u s.chans[c].pcs[p] := s.updPc_at c p u
  have hother (u : PseudoChannel → PseudoChannel) (q : Pc) (hq : q ≠ p) : (s.updPc c p u).chans[c].pcs[q] = s.chans[c].pcs[q] := by
    rw [State.updPc, State.updCh_self, Channel.updPc_other _ _ hq]
  refine ⟨_, exec_trefiAccrual ho hs, onlyChannel_trans (onlyChannel_updCh ..) (State.raiseUrgent_onlyChannel ..),
    memKept_of_cells ?_, fun q i => ?_, ?_, fun i => ?_, fun ⟨i, hi, ht⟩ => ?_⟩
  · simp [PseudoChannel.ticked]
  · rw [(noted_raiseUrgent ..).pcs]
    by_cases hq : q = p
    · subst hq
      rw [hself, (PseudoChannel.ticked_bank ..).1]
    · rw [hother _ q hq]
  · rw [(noted_raiseUrgent ..).pcs, hself, PseudoChannel.ticked_ticks]
  · rw [(noted_raiseUrgent ..).pcs, hself, (PseudoChannel.ticked_bank ..).2]
    simp only [beq_iff_eq]
  · rw [State.aboveLimit_of_noted (noted_raiseUrgent ..) (stillSensed_raiseUrgent ..).2.2] at ht
    exact State.raiseUrgent_raises hg ht hi

end Sys2Proof.Machine


namespace Sys2Proof.Machine

open Sys2Proof.Safety

/-! # The work of a refresh command -/

/-! ## What the slack leaves -/

/-- The state of a bank, and where its refresh stands. -/
def Bank.stand (b : Bank) : BankPhase × Nat × Int := (b.phase, b.cursor, b.debt)

/-- Every bank stands where it stood, and of the memory at most the bytes named differ. -/
structure Spent (rows : Nat) (K : Nat → Prop) (q r : PseudoChannel) : Prop where
  bytes : ∀ a, ¬ K a → r.readByte rows a = q.readByte rows a
  stand : ∀ i : Fin 64, r.banks[i].stand = q.banks[i].stand

section
variable {rows : Nat} {K : Nat → Prop}

theorem Spent.refl (q : PseudoChannel) : Spent rows K q q := ⟨fun _ _ => rfl, fun _ => rfl⟩

theorem Spent.trans {q r t : PseudoChannel} (h : Spent rows K q r) (h' : Spent rows K r t) : Spent rows K q t :=
  ⟨fun a ha => (h'.bytes a ha).trans (h.bytes a ha), fun i => (h'.stand i).trans (h.stand i)⟩

theorem Spent.of_same {q r : PseudoChannel} (hc : SameCells q r) (hb : ∀ i : Fin 64, r.banks[i].stand = q.banks[i].stand) :
    Spent rows K q r := ⟨fun _ _ => hc.readByte _ _, hb⟩

theorem Spent.of_banks {q r : PseudoChannel} (hc : SameCells q r) (hb : r.banks = q.banks) : Spent rows K q r :=
  .of_same hc fun i => by rw [hb]

theorem spent_updBank (q : PseudoChannel) (i : Fin 64) {f : Bank → Bank} (hf : ∀ b, (f b).stand = b.stand := by intro; rfl) :
    Spent rows K q (q.updBank i f) := by
  refine .of_same ⟨rfl, rfl, rfl, rfl⟩ fun j => ?_
  by_cases hj : j = i
  · subst hj
    rw [PseudoChannel.updBank_self, hf]
  · rw [PseudoChannel.updBank_other _ _ hj]

theorem spent_foldl {α : Type} {f : PseudoChannel → α → PseudoChannel} (hf : ∀ q x, Spent rows K q (f q x)) (l : List α)
    (q : PseudoChannel) : Spent rows K q (l.foldl f q) :=
  List.foldlRecOn (motive := Spent rows K q) l f (.refl q) fun r hr x _ => hr.trans (hf r x)

theorem spent_foldBanks {f : PseudoChannel → Nat → Fin 64 → PseudoChannel × Nat} (hf : ∀ q u i, Spent rows K q (f q u i).1)
    (banks : List (Fin 64)) (q : PseudoChannel) (units : Nat) : Spent rows K q (foldBanks f banks q units).1 :=
  List.foldlRecOn (motive := fun acc : PseudoChannel × Nat => Spent rows K q acc.1) banks _ (.refl q)
    fun acc hacc i _ => hacc.trans (hf acc.1 acc.2 i)

/-! ## Orders 1 to 3 -/

theorem spent_refreshRows (q : PseudoChannel) (list : List OwedRow) : Spent rows K q (q.refreshRows rows list) := by
  refine spent_foldl (fun r x => ?_) list q
  split
  · exact spent_updBank _ _
  · exact .refl r

theorem PseudoChannel.pasteCells_bytes (q : PseudoChannel) (sid : Sid) (bank : Fin 16) (row : Row)
    (cells : List (BitVec 512 × BitVec 64)) : (q.pasteCells rows sid bank row cells).banks = q.banks
      ∧ (q.pasteCells rows sid bank row cells).restores = q.restores
      ∧ ∀ a, a / 1152 ≠ (bankAt sid bank).val * 32768 + row.toNat →
          (q.pasteCells rows sid bank row cells).readByte rows a = q.readByte rows a := by
  unfold PseudoChannel.pasteCells
  refine List.foldlRecOn (motive := fun r : PseudoChannel => r.banks = q.banks ∧ r.restores = q.restores
    ∧ ∀ a, a / 1152 ≠ (bankAt sid bank).val * 32768 + row.toNat → r.readByte rows a = q.readByte rows a) _ _
    ⟨rfl, rfl, fun _ _ => rfl⟩ fun r hr k _ => ?_
  split
  · refine ⟨hr.1, hr.2.1, fun a ha => ?_⟩
    rw [PseudoChannel.storeAccess_readByte, if_neg, hr.2.2 a ha]
    unfold accessNo
    unfold bankAt at ha
    have hk := (BitVec.ofNat 4 k).isLt
    dsimp only at ha
    omega
  · exact hr

theorem spent_pasteCells (q : PseudoChannel) {sid : Sid} {bank : Fin 16} {row : Row} (cells : List (BitVec 512 × BitVec 64))
    (hK : ∀ a, a / 1152 = (bankAt sid bank).val * 32768 + row.toNat → K a) : Spent rows K q (q.pasteCells rows sid bank row cells) := by
  obtain ⟨hb, -, hm⟩ := q.pasteCells_bytes (rows := rows) sid bank row cells
  exact ⟨fun a ha => hm a fun e => ha (hK a e), fun i => by rw [hb]⟩

/-- The bytes named hold every row that waits for its restore. -/
def RestoresIn (K : Nat → Prop) (q : PseudoChannel) : Prop :=
  ∀ r ∈ q.restores, ∀ a, a / 1152 = r.bank.val * 32768 + r.row % 32768 → K a

theorem RestoresIn.of_eq {q r : PseudoChannel} (h : RestoresIn K q) (e : r.restores = q.restores) : RestoresIn K r := by
  unfold RestoresIn
  rw [e]
  exact h

theorem Restore.place (r : Restore) : (bankAt (bankSid r.bank) ⟨r.bank.val % 16, by omega⟩).val * 32768 + (BitVec.ofNat 15 r.row).toNat
    = r.bank.val * 32768 + r.row % 32768 := by
  have hbank : (bankAt (bankSid r.bank) ⟨r.bank.val % 16, by omega⟩).val = r.bank.val := by
    unfold bankAt bankSid
    dsimp only
    omega
  rw [hbank, BitVec.toNat_ofNat]

theorem spent_copyIn (q : PseudoChannel) {r : Restore} (hr : ∀ a, a / 1152 = r.bank.val * 32768 + r.row % 32768 → K a) :
    Spent rows K q (q.copyIn rows r) :=
  spent_pasteCells q _ fun a ha => hr a (ha.trans r.place)

/-- A pseudo-channel with other restores to make. -/
def PseudoChannel.withRestores (q : PseudoChannel) (l : List Restore) : PseudoChannel := { q with restores := l }

theorem spent_withRestores (q : PseudoChannel) (l : List Restore) : Spent rows K q (q.withRestores l) := .of_banks ⟨rfl, rfl, rfl, rfl⟩ rfl

theorem RestoresIn.erase {q : PseudoChannel} (h : RestoresIn K q) (u : PseudoChannel) (r : Restore) :
    RestoresIn K (u.withRestores (q.restores.erase r)) := fun r' hr' => h r' (List.mem_of_mem_erase hr')

theorem spent_restoreWork {q : PseudoChannel} (h : RestoresIn K q) (x : RefCtx) (hx : x.rows = rows) (units : Nat) (i : Fin 64) :
    Spent rows K q (q.restoreWork x units i).1 ∧ RestoresIn K (q.restoreWork x units i).1 := by
  unfold PseudoChannel.restoreWork
  refine List.foldlRecOn (motive := fun acc : PseudoChannel × Nat => Spent rows K q acc.1 ∧ RestoresIn K acc.1) _ _
    ⟨.refl q, h⟩ fun acc hacc r hr => ?_
  split
  · rw [hx]
    exact ⟨(hacc.1.trans (spent_copyIn acc.1 (h r hr))).trans (spent_withRestores _ (acc.1.restores.erase r)), hacc.2.erase _ r⟩
  · exact hacc

theorem refreshRows_restores (q : PseudoChannel) (list : List OwedRow) : (q.refreshRows rows list).restores = q.restores :=
  List.foldlRecOn (motive := fun r : PseudoChannel => r.restores = q.restores) list _ rfl fun r hr x _ => by
    split
    · exact hr
    · exact hr

theorem spent_carriedWork {q : PseudoChannel} (h : RestoresIn K q) (x : RefCtx) (hx : x.rows = rows) (units : Nat) (i : Fin 64) :
    Spent rows K q (q.carriedWork x units i).1 ∧ RestoresIn K (q.carriedWork x units i).1 := by
  unfold PseudoChannel.carriedWork
  dsimp only
  generalize (q.banks[i].carried).take units = now
  have hrows : RestoresIn K ((q.refreshRows x.rows now).updBank i (fun b => { b with carried := b.carried.drop units })) :=
    h.of_eq (refreshRows_restores q now)
  obtain ⟨hs, hr⟩ := spent_restoreWork hrows x hx (units - now.length) i
  refine ⟨Spent.trans ?_ hs, hr⟩
  rw [hx]
  exact (spent_refreshRows q now).trans (spent_updBank _ i)

theorem spent_order2 {q : PseudoChannel} (h : RestoresIn K q) (x : RefCtx) (hx : x.rows = rows) (banks : List (Fin 64)) (units : Nat) :
    Spent rows K q (foldBanks (fun q u i => q.carriedWork x u i) banks q units).1 := by
  refine (List.foldlRecOn (motive := fun acc : PseudoChannel × Nat => Spent rows K q acc.1 ∧ RestoresIn K acc.1) banks _
    ⟨.refl q, h⟩ fun acc hacc i _ => ?_).1
  obtain ⟨hs, hr⟩ := spent_carriedWork hacc.2 x hx acc.2 i
  exact ⟨hacc.1.trans hs, hr⟩

theorem spent_cancelRow (q : PseudoChannel) (i : Fin 64) (row : Nat) (host : Bool) : Spent rows K q (q.cancelRow rows i row host) := by
  unfold PseudoChannel.cancelRow PseudoChannel.cancelWhere
  split
  · exact .refl q
  · dsimp only
    split
    · exact .refl q
    · exact .of_banks ⟨rfl, rfl, rfl, rfl⟩ rfl

theorem spent_neighbourRefresh (q : PseudoChannel) (i : Fin 64) (row : Row) : Spent rows K q (q.neighbourRefresh rows i row) := by
  have hcancel : ∀ (q : PseudoChannel) (r : Option Nat), Spent rows K q (match r with
      | some k => q.cancelRow rows i k false
      | none => q) := fun q r => by
    cases r with
    | some k => exact spent_cancelRow q i k false
    | none => exact .refl q
  unfold PseudoChannel.neighbourRefresh
  exact ((hcancel _ _).trans (hcancel _ _)).trans (spent_updBank _ i)

/-- Of a channel at most one pseudo-channel differs in what refresh goes by, and its banks stand. -/
structure SpentAt (rows : Nat) (K : Nat → Prop) (p : Pc) (h k : Channel) : Prop where
  pc : Spent rows K h.pcs[p] k.pcs[p]
  other : ∀ q : Pc, q ≠ p → k.pcs[q] = h.pcs[q]

theorem SpentAt.refl (p : Pc) (h : Channel) : SpentAt rows K p h h := ⟨.refl _, fun _ _ => rfl⟩

theorem SpentAt.trans {p : Pc} {h k m : Channel} (e : SpentAt rows K p h k) (e' : SpentAt rows K p k m) : SpentAt rows K p h m :=
  ⟨e.pc.trans e'.pc, fun q hq => (e'.other q hq).trans (e.other q hq)⟩

theorem spentAt_updPc (h : Channel) (p : Pc) {f : PseudoChannel → PseudoChannel} (hf : Spent rows K h.pcs[p] (f h.pcs[p])) :
    SpentAt rows K p h (h.updPc p f) :=
  ⟨by rw [Channel.updPc_self]; exact hf, fun q hq => Channel.updPc_other h f hq⟩

theorem SpentAt.of_pcs {p : Pc} {h k m : Channel} (e : SpentAt rows K p h k) (hm : m.pcs = k.pcs) : SpentAt rows K p h m :=
  ⟨by rw [hm]; exact e.pc, fun q hq => by rw [hm]; exact e.other q hq⟩

theorem Bank.postRfm_stand (b : Bank) (th stamp : Nat) : (b.postRfm th stamp).1.stand = b.stand := by
  unfold Bank.postRfm
  repeat' split
  all_goals rfl

theorem spentAt_postRequest (h : Channel) (p : Pc) (i : Fin 64) : SpentAt rows K p h (h.postRequest p i) := by
  have hs : Spent rows K h.pcs[p] (h.pcs[p].updBank i (fun _ => (h.pcs[p].banks[i].postRfm h.th h.stamp).1)) := by
    refine .of_same ⟨rfl, rfl, rfl, rfl⟩ fun j => ?_
    by_cases hj : j = i
    · subst hj
      rw [PseudoChannel.updBank_self, Bank.postRfm_stand]
    · rw [PseudoChannel.updBank_other _ _ hj]
  have hp := spentAt_updPc (f := fun q => q.updBank i (fun _ => (h.pcs[p].banks[i].postRfm h.th h.stamp).1)) h p hs
  unfold Channel.postRequest
  dsimp only
  split
  · exact hp.of_pcs rfl
  · exact hp

theorem spentAt_serveRfm (h : Channel) (p : Pc) (i : Fin 64) : SpentAt rows K p h (h.serveRfm rows p i) := by
  unfold Channel.serveRfm
  refine SpentAt.trans (spentAt_updPc h p ?_) (spentAt_postRequest _ p i)
  refine Spent.trans ?_ (spent_updBank _ i)
  split
  · exact spent_neighbourRefresh ..
  · exact .refl _

theorem spentAt_rfmWork (h : Channel) (x : RefCtx) (hx : x.rows = rows) (p : Pc) (banks : List (Fin 64)) (units : Nat) :
    SpentAt rows K p h (h.rfmWork x p banks units).1 := by
  unfold Channel.rfmWork
  refine List.foldlRecOn (motive := fun acc : Channel × Nat => SpentAt rows K p h acc.1) _ _ (.refl p h) fun acc hacc r _ => ?_
  dsimp only
  split
  · rw [hx]
    exact hacc.trans (spentAt_serveRfm ..)
  · exact hacc

end

end Sys2Proof.Machine


namespace Sys2Proof.Machine

open Sys2Proof.Safety

/-! # The whole slack of a refresh command -/

/-- Every bank is in the state it was in, and of the memory at most the bytes named differ. -/
structure Worked (rows : Nat) (K : Nat → Prop) (q r : PseudoChannel) : Prop where
  bytes : ∀ a, ¬ K a → r.readByte rows a = q.readByte rows a
  phase : ∀ i : Fin 64, r.banks[i].phase = q.banks[i].phase

section
variable {rows : Nat} {K : Nat → Prop}

theorem Worked.refl (q : PseudoChannel) : Worked rows K q q := ⟨fun _ _ => rfl, fun _ => rfl⟩

theorem Worked.trans {q r t : PseudoChannel} (h : Worked rows K q r) (h' : Worked rows K r t) : Worked rows K q t :=
  ⟨fun a ha => (h'.bytes a ha).trans (h.bytes a ha), fun i => (h'.phase i).trans (h.phase i)⟩

theorem Spent.worked {q r : PseudoChannel} (h : Spent rows K q r) : Worked rows K q r :=
  ⟨h.bytes, fun i => congrArg (fun s => s.1) (h.stand i)⟩

theorem worked_updBank (q : PseudoChannel) (i : Fin 64) {f : Bank → Bank} (hf : ∀ b, (f b).phase = b.phase := by intro; rfl) :
    Worked rows K q (q.updBank i f) := by
  refine ⟨fun _ _ => rfl, fun j => ?_⟩
  by_cases hj : j = i
  · subst hj
    rw [PseudoChannel.updBank_self, hf]
  · rw [PseudoChannel.updBank_other _ _ hj]

/-! ## Order 4 -/

theorem worked_repay (x : RefCtx) (hx : x.rows = rows) (i : Fin 64) (fuel : Nat) (q : PseudoChannel) (units : Nat) :
    Worked rows K q (q.repay x i fuel units).1
    ∧ ∀ j : Fin 64, j ≠ i → (q.repay x i fuel units).1.banks[j].stand = q.banks[j].stand := by
  induction fuel generalizing q units with
  | zero => exact ⟨.refl q, fun _ _ => rfl⟩
  | succ fuel ih =>
    unfold PseudoChannel.repay
    dsimp only
    split
    · have hrows : Spent rows K q (q.refreshRows x.rows (q.cursorOwes x i)) := by
        rw [hx]
        exact spent_refreshRows q _
      obtain ⟨hw, ho⟩ := ih (((q.refreshRows x.rows (q.cursorOwes x i)).updBank i (·.step x.rows)).updBank i (fun b =>
        { b with credit := b.credit - 2, debt := b.debt - 1 })) (units - (q.cursorOwes x i).length)
      refine ⟨((hrows.worked.trans (worked_updBank _ i)).trans (worked_updBank _ i)).trans hw,
        fun j hj => ?_⟩
      rw [ho j hj, PseudoChannel.updBank_other _ _ hj, PseudoChannel.updBank_other _ _ hj, hrows.stand j]
    · exact ⟨.refl q, fun _ _ => rfl⟩

/-- Slack work: a bank that stands within the limit stands where it stood. -/
structure Slackened (rows : Nat) (K : Nat → Prop) (limit : Int) (q r : PseudoChannel) : Prop where
  worked : Worked rows K q r
  low : ∀ j : Fin 64, q.banks[j].debt ≤ limit → r.banks[j].stand = q.banks[j].stand

theorem Slackened.refl (limit : Int) (q : PseudoChannel) : Slackened rows K limit q q := ⟨.refl q, fun _ _ => rfl⟩

theorem Slackened.trans {limit : Int} {q r t : PseudoChannel} (h : Slackened rows K limit q r) (h' : Slackened rows K limit r t) :
    Slackened rows K limit q t := by
  refine ⟨h.worked.trans h'.worked, fun j hj => ?_⟩
  have e := h.low j hj
  refine (h'.low j ?_).trans e
  rw [show r.banks[j].debt = q.banks[j].debt from congrArg (fun s => s.2.2) e]
  exact hj

theorem Spent.slackened {q r : PseudoChannel} (h : Spent rows K q r) (limit : Int) : Slackened rows K limit q r :=
  ⟨h.worked, fun j _ => h.stand j⟩

theorem slackened_repayWork (x : RefCtx) (hx : x.rows = rows) (q : PseudoChannel) (units : Nat) (i : Fin 64) :
    Slackened rows K x.limit q (q.repayWork x units i).1 := by
  unfold PseudoChannel.repayWork
  split
  · next hlim =>
    obtain ⟨hw, ho⟩ := worked_repay (K := K) x hx i 4 (q.updBank i (fun b => { b with credit := b.credit + x.adv })) units
    dsimp only
    refine ⟨((worked_updBank _ i).trans hw).trans (worked_updBank _ i), fun j hj => ?_⟩
    have hji : j ≠ i := fun e => absurd (e ▸ hj) (Int.not_le.2 hlim)
    rw [PseudoChannel.updBank_other _ _ hji, ho j hji, PseudoChannel.updBank_other _ _ hji]
  · dsimp only
    exact (spent_updBank q i).slackened _

theorem slackened_foldBanks {f : PseudoChannel → Nat → Fin 64 → PseudoChannel × Nat} {limit : Int}
    (hf : ∀ q u i, Slackened rows K limit q (f q u i).1) (banks : List (Fin 64)) (q : PseudoChannel) (units : Nat) :
    Slackened rows K limit q (foldBanks f banks q units).1 :=
  List.foldlRecOn (motive := fun acc : PseudoChannel × Nat => Slackened rows K limit q acc.1) banks _ (.refl limit q)
    fun acc hacc i _ => hacc.trans (hf acc.1 acc.2 i)

/-! ## Orders 5 to 7 -/

theorem spent_halfWork (x : RefCtx) (hx : x.rows = rows) (q : PseudoChannel) (units : Nat) (i : Fin 64) :
    Spent rows K q (q.halfWork x units i).1 := by
  unfold PseudoChannel.halfWork
  refine List.foldlRecOn (motive := fun acc : PseudoChannel × Nat => Spent rows K q acc.1) _ _ (.refl q) fun acc hacc e _ => ?_
  dsimp only
  split
  · rw [hx]
    dsimp only
    exact (hacc.trans (spent_neighbourRefresh ..)).trans (spent_updBank _ i)
  · exact hacc

/-- The bytes named hold the profiling copy rows (Table 8-4a). -/
def CopiesIn (rows : Nat) (K : Nat → Prop) : Prop :=
  ∀ (k : Fin 64) (a : Nat), a / 1152 = (copyBank k).val * 32768 + (copyRowOf rows k).toNat → K a

theorem bankAt_zero (b : Fin 16) : (bankAt 0 b).val = b.val := by
  unfold bankAt
  simp

theorem spent_copyOut (hC : CopiesIn rows K) (q : PseudoChannel) (adapt : Bool) (bank : Fin 64) (row : Nat) (k : Fin 64) :
    Spent rows K q (q.copyOut rows adapt bank row k) :=
  spent_pasteCells q _ fun a ha => hC k a (ha.trans (by rw [bankAt_zero]))

theorem spent_readRow (q : PseudoChannel) (i : Fin 64) (row : Nat) (profiling : Bool) : Spent rows K q (q.readRow i row profiling) :=
  .of_banks ⟨rfl, rfl, rfl, rfl⟩ rfl

theorem spent_profileStep (hC : CopiesIn rows K) (x : RefCtx) (hx : x.rows = rows) (q : PseudoChannel) (ended : Bool)
    (g : ProfileGroup) : Spent rows K q (q.profileStep x ended g).1 := by
  unfold PseudoChannel.profileStep
  rw [hx]
  dsimp only
  split
  · exact spent_copyOut hC ..
  · split
    · exact spent_readRow ..
    · exact .refl q

/-- A pseudo-channel with another batch. -/
def PseudoChannel.withBatch (q : PseudoChannel) (b : Option ProfileBatch) : PseudoChannel := { q with batch := b }

theorem spent_withBatch (q : PseudoChannel) (b : Option ProfileBatch) : Spent rows K q (q.withBatch b) :=
  .of_banks ⟨rfl, rfl, rfl, rfl⟩ rfl

theorem spent_profileWork (hC : CopiesIn rows K) (x : RefCtx) (hx : x.rows = rows) (q : PseudoChannel) (banks : List (Fin 64))
    (units : Nat) : Spent rows K q (q.profileWork x banks units).1 := by
  unfold PseudoChannel.profileWork
  split
  · exact .refl q
  · dsimp only
    split
    · exact .refl q
    · refine Spent.trans ?_ (spent_withBatch _ _)
      refine List.foldlRecOn (motive := fun acc : PseudoChannel × Nat × List ProfileGroup => Spent rows K q acc.1) _ _ (.refl q)
        fun acc hacc _ _ => ?_
      refine List.foldlRecOn (motive := fun acc : PseudoChannel × Nat × List ProfileGroup => Spent rows K q acc.1) _ _ hacc
        fun acc hacc g _ => ?_
      split
      · split
        · exact hacc.trans (spent_profileStep hC x hx ..)
        · exact hacc
      · exact hacc

theorem spent_scrubRows (x : RefCtx) (banks : List (Fin 64)) (fuel : Nat) (q : PseudoChannel) (units : Nat) :
    Spent rows K q (q.scrubRows x banks fuel units).1 := by
  induction fuel generalizing q units with
  | zero => exact .refl q
  | succ fuel ih =>
    unfold PseudoChannel.scrubRows
    split
    · exact .refl q
    · next i _ =>
      split
      · exact .refl q
      · refine Spent.trans ?_ (ih _ _)
        refine Spent.trans (r := (q.updBank i (fun b => { b with scrubRow := q.banks[i].scrubRow + 1 })).readRow i
          q.banks[i].scrubRow false) ?_ (.of_banks ⟨rfl, rfl, rfl, rfl⟩ rfl)
        exact (spent_updBank q i).trans (spent_readRow ..)

theorem spent_scrubWork (x : RefCtx) (q : PseudoChannel) (banks : List (Fin 64)) (units : Nat) :
    Spent rows K q (q.scrubWork x banks units).1 := by
  unfold PseudoChannel.scrubWork
  split
  · exact .refl q
  · dsimp only
    refine Spent.trans ?_ (spent_scrubRows ..)
    exact .of_banks ⟨rfl, rfl, rfl, rfl⟩ rfl

/-! ## Together -/

/-- Slack work of a channel on one of its pseudo-channels. -/
structure SlackAt (rows : Nat) (K : Nat → Prop) (limit : Int) (p : Pc) (h k : Channel) : Prop where
  pc : Slackened rows K limit h.pcs[p] k.pcs[p]
  other : ∀ q : Pc, q ≠ p → k.pcs[q] = h.pcs[q]

theorem SlackAt.trans {limit : Int} {p : Pc} {h k m : Channel} (e : SlackAt rows K limit p h k) (e' : SlackAt rows K limit p k m) :
    SlackAt rows K limit p h m :=
  ⟨e.pc.trans e'.pc, fun q hq => (e'.other q hq).trans (e.other q hq)⟩

theorem SpentAt.slackAt {p : Pc} {h k : Channel} (e : SpentAt rows K p h k) (limit : Int) : SlackAt rows K limit p h k :=
  ⟨e.pc.slackened limit, e.other⟩

theorem slackAt_updPc (h : Channel) (p : Pc) {q : PseudoChannel} {limit : Int} (hq : Slackened rows K limit h.pcs[p] q) :
    SlackAt rows K limit p h (h.updPc p (fun _ => q)) :=
  ⟨by rw [Channel.updPc_self]; exact hq, fun r hr => Channel.updPc_other h _ hr⟩

theorem slackAt_slackWork (h : Channel) (x : RefCtx) (hx : x.rows = rows) (p : Pc) (hR : RestoresIn K h.pcs[p]) (hC : CopiesIn rows K)
    (banks : List (Fin 64)) (units : Nat) (repays : Bool) : SlackAt rows K x.limit p h (h.slackWork x p banks units repays) := by
  unfold Channel.slackWork
  have e2 := spent_order2 hR x hx banks units
  generalize foldBanks (fun q u i => q.carriedWork x u i) banks h.pcs[p] units = a2 at e2 ⊢
  obtain ⟨p2, u2⟩ := a2
  dsimp only
  have e3 := ((spentAt_updPc (f := fun _ => p2) h p e2).trans (spentAt_rfmWork _ x hx p banks u2)).slackAt x.limit
  generalize (h.updPc p (fun _ => p2)).rfmWork x p banks u2 = a3 at e3 ⊢
  obtain ⟨h3, u3⟩ := a3
  dsimp only at e3 ⊢
  have e4 : Slackened rows K x.limit h3.pcs[p]
      (if repays then foldBanks (fun q u i => q.repayWork x u i) banks h3.pcs[p] u3 else (h3.pcs[p], u3)).1 := by
    split
    · exact slackened_foldBanks (fun q u i => slackened_repayWork x hx q u i) banks _ u3
    · exact .refl ..
  generalize (if repays then foldBanks (fun q u i => q.repayWork x u i) banks h3.pcs[p] u3 else (h3.pcs[p], u3)) = a4 at e4 ⊢
  obtain ⟨p4, u4⟩ := a4
  dsimp only at e4 ⊢
  have e5 : Spent rows K p4 (if x.noMaint then (p4, u4) else foldBanks (fun q u i => q.halfWork x u i) banks p4 u4).1 := by
    split
    · exact .refl _
    · exact spent_foldBanks (fun q u i => spent_halfWork x hx q u i) banks p4 u4
  generalize (if x.noMaint then (p4, u4) else foldBanks (fun q u i => q.halfWork x u i) banks p4 u4) = a5 at e5 ⊢
  obtain ⟨p5, u5⟩ := a5
  dsimp only at e5 ⊢
  have e6 := spent_profileWork hC x hx p5 banks u5
  generalize p5.profileWork x banks u5 = a6 at e6 ⊢
  obtain ⟨p6, u6⟩ := a6
  dsimp only at e6 ⊢
  have e7 := e4.trans (((e5.trans e6).trans (spent_scrubWork x p6 banks u6)).slackened x.limit)
  refine List.foldlRecOn (motive := SlackAt rows K x.limit p h) _ _ (e3.trans (slackAt_updPc h3 p e7)) fun k hk i _ => ?_
  exact hk.trans ((spentAt_postRequest k p i).slackAt x.limit)

end

end Sys2Proof.Machine


namespace Sys2Proof.Machine

open Sys2Proof.Safety

/-! # Cursor rows: order 1 and what is carried over -/

/-! ## The cursor -/

theorem Bank.step_cursor {b : Bank} {rows : Nat} (h : b.cursor < rows) : (b.step rows).cursor = (b.cursor + 1) % rows := by
  unfold Bank.step
  dsimp only
  split
  · next hlt => rw [Nat.mod_eq_of_lt hlt]
  · next hge =>
    rw [show b.cursor + 1 = rows by omega, Nat.mod_self]

/-- The cursor of one bank has passed n rows. -/
structure Passed (rows n : Nat) (i : Fin 64) (q r : PseudoChannel) : Prop where
  cells : SameCells q r
  restores : r.restores = q.restores
  other : ∀ j : Fin 64, j ≠ i → r.banks[j] = q.banks[j]
  phase : r.banks[i].phase = q.banks[i].phase
  debt : r.banks[i].debt = q.banks[i].debt
  carried : r.banks[i].carried = q.banks[i].carried
  cursor : q.banks[i].cursor < rows → r.banks[i].cursor = (q.banks[i].cursor + n) % rows

theorem passed_step (q : PseudoChannel) (rows : Nat) (i : Fin 64) : Passed rows 1 i q (q.updBank i (·.step rows)) where
  cells := ⟨rfl, rfl, rfl, rfl⟩
  restores := rfl
  other := fun _ hj => PseudoChannel.updBank_other _ _ hj
  phase := .trans (congrArg Bank.phase (PseudoChannel.updBank_self ..)) rfl
  debt := .trans (congrArg Bank.debt (PseudoChannel.updBank_self ..)) rfl
  carried := .trans (congrArg Bank.carried (PseudoChannel.updBank_self ..)) rfl
  cursor := fun h => (congrArg Bank.cursor (PseudoChannel.updBank_self ..)).trans (Bank.step_cursor h)

theorem Passed.trans {rows m n : Nat} {i : Fin 64} {q r t : PseudoChannel} (h : Passed rows m i q r) (h' : Passed rows n i r t) :
    Passed rows (m + n) i q t where
  cells := h.cells.trans h'.cells
  restores := h'.restores.trans h.restores
  other := fun j hj => (h'.other j hj).trans (h.other j hj)
  phase := h'.phase.trans h.phase
  debt := h'.debt.trans h.debt
  carried := h'.carried.trans h.carried
  cursor := fun hc => by
    have e := h.cursor hc
    have hlt : r.banks[i].cursor < rows := by
      rw [e]
      exact Nat.mod_lt _ (Nat.zero_lt_of_lt hc)
    rw [h'.cursor hlt, e, Nat.mod_add_mod, Nat.add_assoc]

theorem PseudoChannel.cursorOwes_length (q : PseudoChannel) (x : RefCtx) (i : Fin 64) : (q.cursorOwes x i).length ≤ 2
    ∧ ∀ r ∈ q.cursorOwes x i, r.bank = i := by
  unfold PseudoChannel.cursorOwes
  dsimp only
  refine ⟨?_, fun r hr => ?_⟩
  · split <;> split <;> simp
  · rcases List.mem_append.1 hr with h | h
    · split at h
      · rw [List.mem_singleton.1 h]
      · cases h
    · split at h
      · rw [List.mem_singleton.1 h]
      · cases h

theorem PseudoChannel.passRows_frame (x : RefCtx) (i : Fin 64) (n : Nat) (q : PseudoChannel) :
    Passed x.rows n i q (q.passRows x i n).1 ∧ (q.passRows x i n).2.length ≤ 2 * n ∧ ∀ r ∈ (q.passRows x i n).2, r.bank = i := by
  induction n generalizing q with
  | zero =>
    refine ⟨⟨.refl q, rfl, fun _ _ => rfl, rfl, rfl, rfl, fun h => (Nat.mod_eq_of_lt h).symm⟩, Nat.le_refl _, fun r hr => ?_⟩
    cases hr
  | succ n ih =>
    obtain ⟨hp, hl, hb⟩ := ih (q.updBank i (·.step x.rows))
    obtain ⟨hl', hb'⟩ := q.cursorOwes_length x i
    unfold PseudoChannel.passRows
    dsimp only
    refine ⟨?_, ?_, fun r hr => ?_⟩
    · rw [Nat.add_comm]
      exact (passed_step q x.rows i).trans hp
    · rw [List.length_append]
      omega
    · exact (List.mem_append.1 hr).elim (hb' r) (hb r)

/-- Order 1 of banks: memory, restores, phases and carried-over rows stand; a bank that is not among them stands whole, and of one
that is the cursor of an internal REF has passed one advance. -/
structure HandedOut (x : RefCtx) (count : Bool) (banks : List (Fin 64)) (q r : PseudoChannel) : Prop where
  cells : SameCells q r
  restores : r.restores = q.restores
  phase : ∀ j : Fin 64, r.banks[j].phase = q.banks[j].phase
  carried : ∀ j : Fin 64, r.banks[j].carried = q.banks[j].carried
  other : ∀ j : Fin 64, j ∉ banks → r.banks[j] = q.banks[j]
  cursor : count = false → ∀ j ∈ banks, q.banks[j].cursor < x.rows →
    r.banks[j].cursor = (q.banks[j].cursor + x.adv) % x.rows ∧ r.banks[j].debt = q.banks[j].debt

theorem handedOut_cursorWork (x : RefCtx) (count : Bool) (i : Fin 64) (q : PseudoChannel) :
    HandedOut x count [i] q (q.cursorWork x count i).1 ∧ (q.cursorWork x count i).2.length ≤ 2 * x.adv
      ∧ ∀ r ∈ (q.cursorWork x count i).2, r.bank = i := by
  have hbank : ∀ {r : PseudoChannel} {β : Type} (f : Bank → β), (∀ j : Fin 64, j ≠ i → r.banks[j] = q.banks[j]) →
      f r.banks[i] = f q.banks[i] → ∀ j : Fin 64, f r.banks[j] = f q.banks[j] := fun f ho hi j => by
    by_cases hj : j = i
    · rw [hj, hi]
    · rw [ho j hj]
  unfold PseudoChannel.cursorWork
  dsimp only
  split
  · next hfloor =>
    refine ⟨⟨.refl q, rfl, fun _ => rfl, fun _ => rfl, fun _ _ => rfl, fun hc => ?_⟩, Nat.zero_le _, fun r hr => by cases hr⟩
    rw [hc] at hfloor
    exact absurd hfloor (by simp)
  · obtain ⟨hp, hl, hb⟩ := q.passRows_frame x i x.adv
    generalize q.passRows x i x.adv = a at hp hl hb ⊢
    obtain ⟨p1, owed⟩ := a
    dsimp only at hp hl hb ⊢
    refine ⟨?_, hl, hb⟩
    cases count with
    | false =>
      rw [if_neg Bool.false_ne_true]
      exact ⟨hp.cells, hp.restores, hbank Bank.phase hp.other hp.phase, hbank Bank.carried hp.other hp.carried,
        fun j hj => hp.other j (List.ne_of_not_mem_cons hj), fun _ j hj hlt => by
          obtain rfl := List.mem_singleton.1 hj
          exact ⟨hp.cursor hlt, hp.debt⟩⟩
    | true =>
      rw [if_pos rfl]
      have ho : ∀ j : Fin 64, j ≠ i → (p1.updBank i (fun b => { b with debt := max (b.debt - x.adv) (-x.limit) })).banks[j]
          = q.banks[j] := fun j hj => (PseudoChannel.updBank_other _ _ hj).trans (hp.other j hj)
      have hself := PseudoChannel.updBank_self p1 i (fun b => { b with debt := max (b.debt - x.adv) (-x.limit) })
      exact ⟨hp.cells.trans ⟨rfl, rfl, rfl, rfl⟩, hp.restores, hbank Bank.phase ho ((congrArg Bank.phase hself).trans hp.phase),
        hbank Bank.carried ho ((congrArg Bank.carried hself).trans hp.carried),
        fun j hj => ho j (List.ne_of_not_mem_cons hj), fun hc => by cases hc⟩

theorem HandedOut.cons {x : RefCtx} {count : Bool} {i : Fin 64} {banks : List (Fin 64)} {q r t : PseudoChannel}
    (h : HandedOut x count [i] q r) (h' : HandedOut x count banks r t) (hn : i ∉ banks) : HandedOut x count (i :: banks) q t where
  cells := h.cells.trans h'.cells
  restores := h'.restores.trans h.restores
  phase := fun j => (h'.phase j).trans (h.phase j)
  carried := fun j => (h'.carried j).trans (h.carried j)
  other := fun j hj => by
    rw [List.mem_cons, not_or] at hj
    exact (h'.other j hj.2).trans (h.other j (by simpa using hj.1))
  cursor := fun hc j hj hlt => by
    by_cases hji : j = i
    · subst hji
      rw [h'.other j hn]
      exact h.cursor hc j (List.mem_singleton.2 rfl) hlt
    · have hjb : j ∈ banks := (List.mem_cons.1 hj).resolve_left hji
      have e := h.other j (by simpa using hji)
      rw [← e]
      exact h'.cursor hc j hjb (by rw [e]; exact hlt)

theorem PseudoChannel.handOut_frame (x : RefCtx) (count : Bool) (banks : List (Fin 64)) (hn : banks.Nodup) (q : PseudoChannel) :
    HandedOut x count banks q (q.handOut x banks count).1 ∧ (q.handOut x banks count).2.length ≤ 2 * x.adv * banks.length
      ∧ ∀ r ∈ (q.handOut x banks count).2, r.bank ∈ banks := by
  have key : ∀ (banks : List (Fin 64)), banks.Nodup → ∀ (q : PseudoChannel) (owed : List OwedRow),
      HandedOut x count banks q (banks.foldl (fun (acc : PseudoChannel × List OwedRow) i =>
        ((acc.1.cursorWork x count i).1, acc.2 ++ (acc.1.cursorWork x count i).2)) (q, owed)).1
      ∧ (banks.foldl (fun (acc : PseudoChannel × List OwedRow) i =>
        ((acc.1.cursorWork x count i).1, acc.2 ++ (acc.1.cursorWork x count i).2)) (q, owed)).2.length
          ≤ owed.length + 2 * x.adv * banks.length
      ∧ ∀ r ∈ (banks.foldl (fun (acc : PseudoChannel × List OwedRow) i =>
        ((acc.1.cursorWork x count i).1, acc.2 ++ (acc.1.cursorWork x count i).2)) (q, owed)).2, r ∈ owed ∨ r.bank ∈ banks := by
    intro banks
    induction banks with
    | nil =>
      exact fun _ q owed => ⟨⟨.refl q, rfl, fun _ => rfl, fun _ => rfl, fun _ _ => rfl, fun _ j hj => by cases hj⟩,
        Nat.le_add_right .., fun r hr => .inl hr⟩
    | cons i banks ih =>
      intro hn q owed
      obtain ⟨hi, hn'⟩ := List.nodup_cons.1 hn
      obtain ⟨h1, hl1, hb1⟩ := handedOut_cursorWork x count i q
      obtain ⟨h2, hl2, hb2⟩ := ih hn' (q.cursorWork x count i).1 (owed ++ (q.cursorWork x count i).2)
      rw [List.foldl_cons]
      refine ⟨h1.cons h2 hi, hl2.trans ?_, fun r hr => ?_⟩
      · rw [List.length_append, List.length_cons, Nat.mul_succ]
        omega
      · rcases hb2 r hr with h | h
        · rcases List.mem_append.1 h with h | h
          · exact .inl h
          · exact .inr (by rw [hb1 r h]; exact List.mem_cons_self ..)
        · exact .inr (List.mem_cons_of_mem _ h)
  obtain ⟨h1, h2, h3⟩ := key banks hn q []
  refine ⟨h1, Nat.le_trans h2 (by simp), fun r hr => ?_⟩
  exact (h3 r hr).resolve_left (List.not_mem_nil)

end Sys2Proof.Machine


namespace Sys2Proof.Machine

open Sys2Proof.Safety

/-! # Work that is carried over, and internal refresh -/

/-! ## The carried-over rows of a SID -/

theorem PseudoChannel.carriedIn_eq_sum (q : PseudoChannel) (sid : Sid) :
    q.carriedIn sid = ∑ b : Fin 16, (q.banks[bankAt sid b]).carried.length := by
  unfold PseudoChannel.carriedIn
  rw [Fin.sum_univ_def, List.sum_eq_foldl, List.foldl_map]

theorem bankAt_eq_iff (sid : Sid) (b : Fin 16) (i : Fin 64) (h : bankSid i = sid) : bankAt sid b = i ↔ b = ⟨i.val % 16, by omega⟩ := by
  subst h
  unfold bankAt bankSid
  simp only [Fin.ext_iff]
  omega

/-- Another row carried over in a bank is one more in its SID. -/
theorem PseudoChannel.carriedIn_updBank {q : PseudoChannel} {sid : Sid} {i : Fin 64} (h : bankSid i = sid) {f : Bank → Bank}
    (hf : (f q.banks[i]).carried.length = q.banks[i].carried.length + 1) : (q.updBank i f).carriedIn sid = q.carriedIn sid + 1 := by
  have hself : ∀ j : Fin 64, j = i → ((q.updBank i f).banks[j]).carried.length = (q.banks[j]).carried.length + 1 := by
    rintro j rfl
    rw [PseudoChannel.updBank_self, hf]
  have hat : ∀ b : Fin 16, ((q.updBank i f).banks[bankAt sid b]).carried.length
      = (q.banks[bankAt sid b]).carried.length + if b = ⟨i.val % 16, by omega⟩ then 1 else 0 := fun b => by
    by_cases hb : bankAt sid b = i
    · rw [if_pos ((bankAt_eq_iff sid b i h).1 hb), hself _ hb]
    · rw [if_neg (fun e => hb ((bankAt_eq_iff sid b i h).2 e)), PseudoChannel.updBank_other _ _ hb, Nat.add_zero]
  rw [PseudoChannel.carriedIn_eq_sum, PseudoChannel.carriedIn_eq_sum, Finset.sum_congr rfl fun b _ => hat b, Finset.sum_add_distrib,
    Finset.sum_ite_eq', if_pos (Finset.mem_univ _)]

theorem PseudoChannel.carriedIn_congr {q r : PseudoChannel} (h : ∀ j : Fin 64, r.banks[j].carried = q.banks[j].carried) (sid : Sid) :
    r.carriedIn sid = q.carriedIn sid := by
  rw [PseudoChannel.carriedIn_eq_sum, PseudoChannel.carriedIn_eq_sum]
  exact Finset.sum_congr rfl fun b _ => by rw [h]

/-- Rows carried over: memory, restores, phases and cursors stand, and while the SID holds no more than 48 the debts do (R129). -/
structure CarriedOver (q r : PseudoChannel) : Prop where
  cells : SameCells q r
  restores : r.restores = q.restores
  phase : ∀ j : Fin 64, r.banks[j].phase = q.banks[j].phase
  cursor : ∀ j : Fin 64, r.banks[j].cursor = q.banks[j].cursor

theorem CarriedOver.refl (q : PseudoChannel) : CarriedOver q q := ⟨.refl q, rfl, fun _ => rfl, fun _ => rfl⟩

theorem PseudoChannel.updBank_field {β : Type} (g : Bank → β) (q : PseudoChannel) (i : Fin 64) {f : Bank → Bank}
    (hf : g (f q.banks[i]) = g q.banks[i]) (j : Fin 64) : g (q.updBank i f).banks[j] = g q.banks[j] := by
  by_cases hj : j = i
  · subst hj
    rw [PseudoChannel.updBank_self, hf]
  · rw [PseudoChannel.updBank_other _ _ hj]

theorem carriedOver_carry (q : PseudoChannel) (list : List OwedRow) : CarriedOver q (q.carry list) := by
  unfold PseudoChannel.carry
  refine List.foldlRecOn (motive := CarriedOver q) list _ (.refl q) fun r hr x _ => ?_
  exact ⟨hr.cells.trans ⟨rfl, rfl, rfl, rfl⟩, hr.restores,
    fun j => (PseudoChannel.updBank_field Bank.phase r x.bank rfl j).trans (hr.phase j),
    fun j => (PseudoChannel.updBank_field Bank.cursor r x.bank rfl j).trans (hr.cursor j)⟩

theorem PseudoChannel.carry_debt {sid : Sid} (list : List OwedRow) (hs : ∀ r ∈ list, bankSid r.bank = sid) (q : PseudoChannel)
    (hn : q.carriedIn sid + list.length ≤ 48) (j : Fin 64) : (q.carry list).banks[j].debt = q.banks[j].debt := by
  induction list generalizing q with
  | nil => rfl
  | cons x list ih =>
    have hx : bankSid x.bank = sid := hs x (List.mem_cons_self ..)
    have hle : ¬ 48 < q.carriedIn (bankSid x.bank) + 1 := by
      rw [hx, Nat.not_lt]
      rw [List.length_cons] at hn
      omega
    have hstep := PseudoChannel.carriedIn_updBank (q := q) hx (f := fun b => { b with
      carried := b.carried ++ [x]
      debt := if 48 < q.carriedIn (bankSid x.bank) + 1 ∧ (q.carriedIn (bankSid x.bank) + 1 - 48) % 3 = 0 then b.debt + 1 else b.debt })
      (by rw [List.length_append]; rfl)
    refine .trans (ih (fun r hr => hs r (List.mem_cons_of_mem _ hr)) _ ?_) ?_
    · rw [hstep]
      rw [List.length_cons] at hn
      omega
    · exact PseudoChannel.updBank_field Bank.debt q x.bank (if_neg fun h => hle h.1) j

/-! ## Internal refresh -/

theorem mem_sidBanks {sid : Sid} {i : Fin 64} (h : bankSid i = sid) : i ∈ sidBanks sid :=
  List.mem_map.2 ⟨⟨i.val % 16, by omega⟩, List.mem_finRange _, (bankAt_eq_iff sid _ i h).2 rfl⟩

theorem bankSid_of_mem_sidBanks {sid : Sid} {i : Fin 64} (h : i ∈ sidBanks sid) : bankSid i = sid := by
  obtain ⟨b, -, rfl⟩ := List.mem_map.1 h
  unfold bankSid bankAt
  simp only [Fin.ext_iff]
  omega

theorem sidBanks_nodup (sid : Sid) : (sidBanks sid).Nodup := by
  refine (List.nodup_finRange 16).map fun a b h => ?_
  unfold bankAt at h
  simp only [Fin.ext_iff] at h ⊢
  omega

theorem sidBanks_length (sid : Sid) : (sidBanks sid).length = 16 := by
  unfold sidBanks
  rw [List.length_map, List.length_finRange]

theorem PseudoChannel.refreshRows_carried (q : PseudoChannel) (rows : Nat) (list : List OwedRow) (j : Fin 64) :
    (q.refreshRows rows list).banks[j].carried = q.banks[j].carried := by
  refine List.foldlRecOn (motive := fun r : PseudoChannel => r.banks[j].carried = q.banks[j].carried) list _ rfl fun r hr x _ => ?_
  split
  · unfold PseudoChannel.trackRefreshed
    rw [← hr]
    exact PseudoChannel.updBank_field Bank.carried r x.bank rfl j
  · exact hr

/-- What an internal REF leaves of the pseudo-channel: phases stand, of the memory the bytes named differ at most, and with
nothing carried over before the cursors of the banks of the SID within the limit have passed one advance. -/
structure Refreshed (x : RefCtx) (K : Nat → Prop) (sid : Sid) (q r : PseudoChannel) (debts : Prop) : Prop where
  worked : Worked x.rows K q r
  cursor : q.carriedIn sid = 0 → ∀ i : Fin 64, bankSid i = sid → q.banks[i].debt ≤ x.limit → q.banks[i].cursor < x.rows →
    r.banks[i].cursor = (q.banks[i].cursor + x.adv) % x.rows ∧ (debts → r.banks[i].debt = q.banks[i].debt)

theorem HandedOut.worked {x : RefCtx} {count : Bool} {banks : List (Fin 64)} {q r : PseudoChannel} {K : Nat → Prop}
    (h : HandedOut x count banks q r) : Worked x.rows K q r := ⟨fun _ _ => h.cells.readByte _ _, h.phase⟩

theorem CarriedOver.worked {rows : Nat} {q r : PseudoChannel} {K : Nat → Prop} (h : CarriedOver q r) : Worked rows K q r :=
  ⟨fun _ _ => h.cells.readByte _ _, h.phase⟩

/-- The rows that order 1 hands out are refreshed, the rest carried over. -/
def PseudoChannel.placed (p1 : PseudoChannel) (rows cap : Nat) (owed : List OwedRow) : PseudoChannel :=
  (p1.refreshRows rows (owed.take cap)).carry (owed.drop cap)

theorem Channel.refreshWork_eq (h : Channel) (x : RefCtx) (p : Pc) (banks : List (Fin 64)) (cap : Nat) (count : Bool) :
    h.refreshWork x p banks cap count = (h.updPc p (fun _ => (h.pcs[p].handOut x banks count).1.placed x.rows cap
      (h.pcs[p].handOut x banks count).2)).slackWork x p banks (cap - (h.pcs[p].handOut x banks count).2.length) true := rfl

/-- Rows of one SID that stands with nothing carried over: placed, they leave the cursors, and the debts where at most 48 are beyond
the capacity. -/
structure Placed (x : RefCtx) (K : Nat → Prop) (sid : Sid) (q r : PseudoChannel) : Prop where
  worked : Worked x.rows K q r
  restores : r.restores = q.restores
  cursor : ∀ j : Fin 64, r.banks[j].cursor = q.banks[j].cursor
  debt : q.carriedIn sid = 0 → ∀ j : Fin 64, r.banks[j].debt = q.banks[j].debt

theorem PseudoChannel.placed_debt {q : PseudoChannel} {rows cap : Nat} {owed : List OwedRow} {sid : Sid} (hlen : owed.length ≤ cap + 48)
    (hbank : ∀ r ∈ owed, bankSid r.bank = sid) (hz : q.carriedIn sid = 0) (j : Fin 64) :
    (q.placed rows cap owed).banks[j].debt = q.banks[j].debt := by
  have hrows := spent_refreshRows (rows := rows) (K := fun _ => False) q (owed.take cap)
  refine .trans (PseudoChannel.carry_debt _ (fun r hr => hbank r (List.mem_of_mem_drop hr)) _ ?_ j)
      (congrArg (fun s => s.2.2) (hrows.stand j))
  rw [PseudoChannel.carriedIn_congr (fun j => q.refreshRows_carried rows _ j), hz, Nat.zero_add, List.length_drop]
  omega

theorem placed_placed (q : PseudoChannel) (x : RefCtx) {K : Nat → Prop} {cap : Nat} {owed : List OwedRow} {sid : Sid}
    (hlen : owed.length ≤ cap + 48) (hbank : ∀ r ∈ owed, bankSid r.bank = sid) : Placed x K sid q (q.placed x.rows cap owed) := by
  have hrows := spent_refreshRows (rows := x.rows) (K := K) q (owed.take cap)
  have hcarry := carriedOver_carry (q.refreshRows x.rows (owed.take cap)) (owed.drop cap)
  exact ⟨hrows.worked.trans hcarry.worked, hcarry.restores.trans (refreshRows_restores q _),
    fun j => (hcarry.cursor j).trans (congrArg (fun s => s.2.1) (hrows.stand j)), PseudoChannel.placed_debt hlen hbank⟩

/-- The slack after order 1 of an internal REF. -/
theorem Channel.slackWork_internal {h : Channel} {x : RefCtx} {p : Pc} {sid : Sid} {K : Nat → Prop} {p1 q : PseudoChannel}
    (hh : HandedOut x false (sidBanks sid) h.pcs[p] p1) (hp : Placed x K sid p1 q) (hR : RestoresIn K h.pcs[p])
    (hC : CopiesIn x.rows K) (units : Nat) :
    Refreshed x K sid h.pcs[p] ((h.updPc p (fun _ => q)).slackWork x p (sidBanks sid) units true).pcs[p] True
    ∧ ∀ r : Pc, r ≠ p → ((h.updPc p (fun _ => q)).slackWork x p (sidBanks sid) units true).pcs[r] = h.pcs[r] := by
  have hat : (h.updPc p (fun _ => q)).pcs[p] = q := Channel.updPc_self ..
  have hR' : RestoresIn K (h.updPc p (fun _ => q)).pcs[p] := by
    rw [hat]
    exact hR.of_eq (hp.restores.trans hh.restores)
  have hslack := slackAt_slackWork (h.updPc p (fun _ => q)) x rfl p hR' hC (sidBanks sid) units true
  generalize (h.updPc p (fun _ => q)).slackWork x p (sidBanks sid) units true = k at hslack ⊢
  obtain ⟨hpc, hother⟩ := hslack
  rw [hat] at hpc
  refine ⟨⟨(hh.worked.trans hp.worked).trans hpc.worked, fun hz i hi hd hlt => ?_⟩,
    fun r hr => (hother r hr).trans (Channel.updPc_other _ _ hr)⟩
  obtain ⟨hcur, hdeb⟩ := hh.cursor rfl i (mem_sidBanks hi) hlt
  have hqd : q.banks[i].debt = h.pcs[p].banks[i].debt :=
    (hp.debt ((PseudoChannel.carriedIn_congr hh.carried sid).trans hz) i).trans hdeb
  have hstand := hpc.low i (by rw [hqd]; exact hd)
  exact ⟨(congrArg (fun s => s.2.1) hstand).trans ((hp.cursor i).trans hcur), fun _ => (congrArg (fun s => s.2.2) hstand).trans hqd⟩

theorem Channel.refreshWork_internal {h : Channel} {x : RefCtx} {p : Pc} {sid : Sid} {K : Nat → Prop} (ha : x.adv ≤ 3)
    (hR : RestoresIn K h.pcs[p]) (hC : CopiesIn x.rows K) :
    Refreshed x K sid h.pcs[p] (h.refreshWork x p (sidBanks sid) 48 false).pcs[p] True
    ∧ ∀ q : Pc, q ≠ p → (h.refreshWork x p (sidBanks sid) 48 false).pcs[q] = h.pcs[q] := by
  obtain ⟨hh, hlen, hbank⟩ := h.pcs[p].handOut_frame x false (sidBanks sid) (sidBanks_nodup sid)
  rw [sidBanks_length] at hlen
  rw [Channel.refreshWork_eq]
  exact Channel.slackWork_internal hh (placed_placed _ x (by omega) fun r hr => bankSid_of_mem_sidBanks (hbank r hr)) hR hC _

/-- The threads of a staged table: the channel's pseudo-channels stand, but that what no thread takes is carried over (R129). -/
theorem Channel.refThreads_pcs (h : Channel) (x : RefCtx) (entry : Nat) (addr : ThreadAddr) (lease : Lease) (owed : List OwedRow) :
    CarriedOver h.pcs[addr.pc] (h.refThreads x entry addr lease owed).pcs[addr.pc]
    ∧ ∀ q : Pc, q ≠ addr.pc → (h.refThreads x entry addr lease owed).pcs[q] = h.pcs[q] := by
  have hother : ∀ (k : Channel) (n : Nat) (due : Bool), (if due then k.eventThread false n addr (some lease) [] else k).pcs = k.pcs :=
    fun k n due => by
      split
      · exact Channel.eventThread_pcs ..
      · rfl
  unfold Channel.refThreads
  dsimp only
  have hpcs : (h.eventThread false entry addr (some lease) owed).pcs = h.pcs := Channel.eventThread_pcs ..
  simp only [hother]
  split
  · simp only [hpcs]
    exact ⟨.refl _, fun _ _ => trivial⟩
  · rw [Channel.updPc_self]
    simp only [hpcs]
    refine ⟨carriedOver_carry .., fun q hq => ?_⟩
    rw [Channel.updPc_other _ _ hq]
    simp only [hpcs]

/-- A channel after an internal REF of one of its pseudo-channels and a SID (R251). -/
def Channel.internallyRefreshed (h : Channel) (x : RefCtx) (p : Pc) (sid : Sid) : Channel :=
  if h.taper.active.baltil then h.refreshWork x p (sidBanks sid) 48 false
  else
    (h.updPc p (fun _ => (h.pcs[p].handOut x (sidBanks sid) false).1)).refThreads x 39 (bankAddr p sid 0 0 0 0) (h.ownLease p)
      (h.pcs[p].handOut x (sidBanks sid) false).2

theorem Channel.internallyRefreshed_frame {h : Channel} {x : RefCtx} {p : Pc} {sid : Sid} {K : Nat → Prop} (ha : x.adv ≤ 3)
    (hR : RestoresIn K h.pcs[p]) (hC : CopiesIn x.rows K) :
    Refreshed x K sid h.pcs[p] (h.internallyRefreshed x p sid).pcs[p] (h.taper.active.baltil = true)
    ∧ ∀ q : Pc, q ≠ p → (h.internallyRefreshed x p sid).pcs[q] = h.pcs[q] := by
  unfold Channel.internallyRefreshed
  cases hb : h.taper.active.baltil with
  | true =>
    rw [if_pos rfl]
    obtain ⟨hr, ho⟩ := Channel.refreshWork_internal (sid := sid) ha hR hC
    exact ⟨⟨hr.worked, fun hz i hi hd hlt => ⟨(hr.cursor hz i hi hd hlt).1, fun _ => (hr.cursor hz i hi hd hlt).2 trivial⟩⟩, ho⟩
  | false =>
    rw [if_neg Bool.false_ne_true]
    have hh := (h.pcs[p].handOut_frame x false (sidBanks sid) (sidBanks_nodup sid)).1
    generalize (h.pcs[p].handOut x (sidBanks sid) false).1 = p1 at hh ⊢
    generalize (h.pcs[p].handOut x (sidBanks sid) false).2 = owed
    have hat : (h.updPc p (fun _ => p1)).pcs[p] = p1 := Channel.updPc_self ..
    obtain ⟨hc, ho⟩ := (h.updPc p (fun _ => p1)).refThreads_pcs x 39 (bankAddr p sid 0 0 0 0) (h.ownLease p) owed
    have hc : CarriedOver p1 _ := hat ▸ hc
    refine ⟨⟨hh.worked.trans hc.worked, fun _ i hi _ hlt => ⟨(hc.cursor i).trans (hh.cursor rfl i (mem_sidBanks hi) hlt).1,
        fun h => by cases h⟩⟩,
      fun q hq => (ho q hq).trans (Channel.updPc_other _ _ hq)⟩

theorem State.advance_le (s : State) : s.advance ≤ 3 := by
  unfold State.advance
  split
  · decide
  · decide

theorem exec_internalRef {c : Ch} {p : Pc} {sid : Sid} {s : State} (hself : s.chans[c].selfRefreshes p sid = true)
    (hsid : s.sidPresent sid = true) :
    exec (.internalRef c p sid) s = .next (s.updCh c (fun h => h.internallyRefreshed (s.refCtx c p sid) p sid)) := by
  change execInternalRef c p sid s = _
  unfold execInternalRef
  rw [hself, hsid, if_neg (by decide)]
  refine congrArg Host.Outcome.next (State.updCh_congr ?_)
  unfold Channel.internallyRefreshed
  generalize s.chans[c].pcs[p].handOut _ _ _ = a
  rfl

/-- Settles O34: order 1 by its frame, the slack by what it leaves of the banks within the limit. -/
theorem internalRefreshAdvancesCursors : Obligations.InternalRefreshAdvancesCursors := by
  intro c p sid s hself hsid
  have hR : RestoresIn (profilerByte s c p) s.chans[c].pcs[p] := fun r hr a ha => .inr ⟨r, hr, ha⟩
  have hC : CopiesIn s.rows (profilerByte s c p) := fun k a ha => .inl ⟨k, ha⟩
  obtain ⟨hr, ho⟩ := Channel.internallyRefreshed_frame (h := s.chans[c]) (x := s.refCtx c p sid) (sid := sid) s.advance_le hR hC
  refine ⟨_, exec_internalRef hself hsid, onlyChannel_updCh .., fun d q a ha => ?_, fun q i => ?_, fun hz i hi hd hlt => ?_⟩
  · by_cases hd : d = c
    · subst hd
      rw [State.updCh_self]
      by_cases hq : q = p
      · subst hq
        exact hr.worked.bytes a fun hk => ha ⟨rfl, rfl, hk⟩
      · rw [ho q hq]
        rfl
    · rw [State.updCh_other s _ hd]
      rfl
  · rw [State.updCh_self]
    by_cases hq : q = p
    · subst hq
      exact hr.worked.phase i
    · rw [ho q hq]
  · rw [State.updCh_self]
    exact hr.cursor hz i hi hd hlt

end Sys2Proof.Machine

/-! # Soft row repair and the replay of its journal (R273, R274, R276) -/

namespace Sys2Proof.Machine

open Sys2Proof.Safety

/-! ## What the repair journal leaves of the management plane -/

/-- The mark of a lost journal and the power state are the same in both states. -/
structure SameGap (s t : State) : Prop where
  lost : t.mgmt.remapLost = s.mgmt.remapLost
  power : t.power = s.power

theorem SameGap.refl (s : State) : SameGap s s := ⟨rfl, rfl⟩

theorem SameGap.trans {s t u : State} (h : SameGap s t) (h' : SameGap t u) : SameGap s u :=
  ⟨h'.lost.trans h.lost, h'.power.trans h.power⟩

section
variable (s : State)

theorem sameGap_ledger (rec : Byte) (body : List Byte) : SameGap s (s.ledger rec body) := by
  refine ⟨?_, s.ledger_power rec body⟩
  unfold State.ledger
  split
  · exact congrArg Mgmt.remapLost (s.record_mgmt rec body)
  · rfl

theorem sameGap_ledgerEvent (rec : Byte) (body : List Byte) (typ : Nat) (u c p : Byte) (d : Word32) :
    SameGap s (s.ledgerEvent rec body typ u c p d) :=
  (sameGap_ledger s rec body).trans ⟨rfl, rfl⟩

theorem sameGap_evalHealth : SameGap s s.evalHealth := by
  unfold State.evalHealth State.signalHealth
  split
  · dsimp only
    split
    · exact .refl s
    · split
      · refine SameGap.trans ?_ (sameGap_ledger ..)
        exact ⟨rfl, rfl⟩
      · refine SameGap.trans ?_ (sameGap_ledger ..)
        exact ⟨rfl, rfl⟩
  · exact .refl s

theorem sameGap_journalRemap (c : Ch) (p : Pc) (e : Fin 8) (w : BitVec 32) (action : RemapAction) :
    SameGap s (s.journalRemap c p e w action) := by
  refine SameGap.trans (SameGap.trans ?_ (sameGap_ledgerEvent ..)) (sameGap_evalHealth _)
  exact ⟨rfl, rfl⟩

theorem sameGap_remapActive (c : Ch) (p : Pc) (e : Fin 8) : SameGap s (s.remapActive c p e) :=
  (sameGap_journalRemap s c p e _ .applied).trans ⟨rfl, rfl⟩

theorem sameGap_markSpareBad (c : Ch) (p : Pc) (e : Fin 8) : SameGap s (s.markSpareBad c p e) := by
  refine SameGap.trans ?_ (sameGap_journalRemap ..)
  exact ⟨rfl, rfl⟩

theorem sameGap_moveEntry (c : Ch) (p : Pc) (e : Fin 8) : SameGap s (s.moveEntry c p e) := by
  unfold State.moveEntry
  dsimp only
  split
  · split
    · exact sameGap_journalRemap ..
    · exact .refl s
  · exact .refl s

theorem sameGap_replayHard (c : Ch) (p : Pc) (e : Fin 8) : SameGap s (s.replayHard c p e) := by
  have hread (l : Fin 16) (a : Nat) : SameGap s (s.fuseRd l a).2 := by
    obtain ⟨he, -⟩ := layerAlone_fuseRd l s (w := a)
    rw [he]
    exact ⟨rfl, rfl⟩
  unfold State.replayHard
  dsimp only
  split
  · exact (hread _ _).trans (sameGap_journalRemap ..)
  · split
    · exact hread _ _
    · exact (hread _ _).trans ((sameGap_markSpareBad ..).trans (sameGap_moveEntry ..))

theorem SameGap.ite {s t u : State} {b : Prop} [Decidable b] (h : SameGap s t) (h' : SameGap s u) : SameGap s (if b then t else u) := by
  split
  · exact h
  · exact h'

theorem sameGap_service (x : SvcCmd) : SameGap s (s.service x) := ⟨rfl, rfl⟩

theorem sameGap_updPc (c : Ch) (p : Pc) (f : PseudoChannel → PseudoChannel) : SameGap s (s.updPc c p f) := ⟨rfl, rfl⟩

theorem sameGap_replayEntry (key : Nat) (w : BitVec 32) : SameGap s (s.replayEntry key w) := by
  unfold State.replayEntry
  dsimp only
  have hset := sameGap_updPc s ⟨key / 16 % 32, Nat.mod_lt _ (by decide)⟩ ⟨key / 8 % 2, Nat.mod_lt _ (by decide)⟩
    (fun q => { q with remap := q.remap.set (⟨key % 8, Nat.mod_lt _ (by decide)⟩ : Fin 8) w })
  generalize s.updPc _ _ _ = s1 at hset ⊢
  have hhard := SameGap.ite (b := remapState w = 3) (hset.trans (sameGap_replayHard s1 ⟨key / 16 % 32, Nat.mod_lt _ (by decide)⟩
    ⟨key / 8 % 2, Nat.mod_lt _ (by decide)⟩ ⟨key % 8, Nat.mod_lt _ (by decide)⟩)) hset
  generalize (if remapState w = 3 then _ else s1) = s2 at hhard ⊢
  split
  · exact hhard
  · refine SameGap.trans ?_ (sameGap_service ..)
    exact .ite (hhard.trans (sameGap_remapActive ..)) hhard

theorem State.loseRepairs_gap (seq : Word32) : (s.loseRepairs seq).mgmt.remapLost = true ∧ (s.loseRepairs seq).power = s.power :=
  ⟨(sameGap_ledger _ _ _).lost, (sameGap_ledger _ _ _).power⟩

end

/-- The journal's replay, after a gap it may have met: every entry is taken up and the step is marked. -/
theorem replay_gap (s : State) : SameGap s (s.nv.remaps.foldl (fun (t : State) x => t.replayEntry x.1 x.2)
    (allPcs.foldl (fun (t : State) x => t.updPc x.1 x.2 (fun q => { q with badSpares := s.nv.badSpares x.1 x.2 })) s)) := by
  have hbad : SameGap s (allPcs.foldl (fun (t : State) x =>
      t.updPc x.1 x.2 (fun q => { q with badSpares := s.nv.badSpares x.1 x.2 })) s) :=
    List.foldlRecOn (motive := SameGap s) _ _ (.refl s) fun t ht x _ => ht.trans ⟨rfl, rfl⟩
  exact List.foldlRecOn (motive := SameGap s) _ _ hbad fun t ht x _ => ht.trans (sameGap_replayEntry t _ _)

theorem replay_around (s : State) : (s.nv.remaps.foldl (fun (t : State) x => t.replayEntry x.1 x.2)
    (allPcs.foldl (fun (t : State) x => t.updPc x.1 x.2 (fun q => { q with badSpares := s.nv.badSpares x.1 x.2 })) s)).around
      = s.around := by
  refine (foldl_around (fun t x => ?_) _ _).trans (foldl_around (fun t x => ?_) _ _)
  · exact t.replayEntry_around x.1 x.2
  · exact State.updPc_around ..

theorem exec_journalReplay (lost : Option Word32) {s : State} (hb : s.power.booted = true) (hd : s.power.discovered = true) :
    ∃ t, exec (.journalReplay lost) s = .next t ∧ t.power.journal = true ∧ (lost.isSome = true → t.mgmt.remapLost = true)
      ∧ t.around = s.around := by
  have hguard : (!s.power.booted || !s.power.discovered) = false := by rw [hb, hd]; rfl
  refine ⟨_, if_neg (by rw [hguard]; decide), ?_, fun hl => ?_, ?_⟩
  · exact congrArg Power.journal (sameGap_evalHealth _).power
  · refine (sameGap_evalHealth _).lost.trans ?_
    refine .trans (replay_gap _).lost ?_
    cases lost with
    | none => exact absurd hl (by decide)
    | some seq => exact (s.loseRepairs_gap seq).1
  · refine .trans (State.evalHealth_around _) ?_
    refine .trans (replay_around _) ?_
    cases lost with
    | none => rfl
    | some seq => exact s.loseRepairs_around seq

/-! ## The row copy -/

theorem PseudoChannel.pasteCells_remap (q : PseudoChannel) (rows : Nat) (sid : Sid) (bank : Fin 16) (row : Row)
    (cells : List (BitVec 512 × BitVec 64)) : (q.pasteCells rows sid bank row cells).remap = q.remap := by
  unfold PseudoChannel.pasteCells
  refine List.foldlRecOn (motive := fun r : PseudoChannel => r.remap = q.remap) _ _ rfl fun r hr k _ => ?_
  split
  · next d check _ =>
    obtain ⟨dram, injected, h⟩ := r.storeAccess_eq rows (accessNo sid bank row (BitVec.ofNat 4 k)) d check
    rw [h]
    exact hr
  · exact hr

theorem State.copyBack_onlyChannel (s : State) (c : Ch) (p : Pc) : onlyChannel s (s.copyBack c p) c := by
  unfold State.copyBack State.updPc
  exact onlyChannel_updCh s c _

/-- The buffer of a row copy goes back to its row: no other row changes (R273). -/
theorem State.copyBack_at (s : State) (c : Ch) (p : Pc) : (s.copyBack c p).chans[c].pcs[p].copy = none
    ∧ (s.copyBack c p).chans[c].pcs[p].remap = s.chans[c].pcs[p].remap
    ∧ ∀ (k : RowCopy) (a : Nat), s.chans[c].pcs[p].copy = some k →
        a / 1152 ≠ (remapBank s.chans[c].pcs[p].remap[k.entry]).val * 32768 + (remapRow s.chans[c].pcs[p].remap[k.entry]).toNat →
        (s.copyBack c p).chans[c].pcs[p].readByte s.rows a = s.chans[c].pcs[p].readByte s.rows a := by
  unfold State.copyBack
  rw [State.updPc_at]
  generalize s.chans[c].pcs[p] = q
  cases hc : q.copy with
  | none => exact ⟨hc, rfl, fun k a hk => absurd hk (by simp)⟩
  | some k =>
    dsimp only
    refine ⟨rfl, q.pasteCells_remap .., fun k' a hk ha => ?_⟩
    obtain rfl : k = k' := Option.some.inj hk
    refine (q.pasteCells_bytes (rows := s.rows) _ _ _ _).2.2 a fun e => ha (e.trans ?_)
    congr 2
    unfold bankAt bankSid
    dsimp only
    omega

/-- A copy that found no release in time is written back, and the operation ends (R274). -/
theorem exec_rowCopyTimeout {c : Ch} {p : Pc} {e : Fin 8} {s : State} (hop : s.chans[c].pcs[p].op = some (.rowCopy e)) :
    ∃ t, exec (.rowCopyTimeout c p) s = .next t ∧ onlyChannel s t c ∧ t.chans[c].pcs[p].op = none
      ∧ t.chans[c].pcs[p].copy = none ∧ t.chans[c].pcs[p].remap = s.chans[c].pcs[p].remap
      ∧ ∀ (k : RowCopy) (a : Nat), s.chans[c].pcs[p].copy = some k →
          a / 1152 ≠ (remapBank s.chans[c].pcs[p].remap[k.entry]).val * 32768
            + (remapRow s.chans[c].pcs[p].remap[k.entry]).toNat →
          t.chans[c].pcs[p].readByte t.rows a = s.chans[c].pcs[p].readByte s.rows a := by
  have hexec : exec (.rowCopyTimeout c p) s
      = .next ((s.copyBack c p).updCh c (fun h => (h.updTaper (·.endEntry 43 p)).opEnds p)) := by
    change execRowCopyTimeout c p s = _
    rw [execRowCopyTimeout, hop]
  obtain ⟨hcopy, hremap, hbytes⟩ := s.copyBack_at c p
  have hends := (releaseAlone_opEnds ((s.copyBack c p).chans[c].updTaper (·.endEntry 43 p)) p).2 p
  have hrows : ((s.copyBack c p).updCh c (fun h => (h.updTaper (·.endEntry 43 p)).opEnds p)).rows = s.rows := rfl
  refine ⟨_, hexec, onlyChannel_trans (s.copyBack_onlyChannel c p) (onlyChannel_updCh ..), ?_, ?_, ?_, fun k a hk ha => ?_⟩
  · rw [State.updCh_self]
    exact Channel.opEnds_op _ p
  · rw [State.updCh_self, hends, Channel.updPc_self]
    exact hcopy
  · rw [State.updCh_self, hends, Channel.updPc_self]
    exact hremap
  · rw [hrows, State.updCh_self, hends.sameCells.readByte, Channel.updPc_self]
    exact hbytes k a hk ha

/-- An entry whose spare is good stays where it is (R274). -/
theorem State.moveEntry_good {s : State} {c : Ch} {p : Pc} {e : Fin 8} (h : s.chans[c].pcs[p].badSpares.contains
    (spareKey (remapBank s.chans[c].pcs[p].remap[e]) (remapSpare s.chans[c].pcs[p].remap[e])) = false) : s.moveEntry c p e = s :=
  if_neg (by rw [h]; decide)

theorem State.startCopy_at (s : State) (c : Ch) (p : Pc) (e : Fin 8) (op : QuiesceOp) :
    (s.startCopy c p e op).chans[c].pcs[p].op = some op
      ∧ ((s.startCopy c p e op).chans[c].pcs[p].copy).map (·.entry) = some e
      ∧ (s.startCopy c p e op).chans[c].pcs[p].remap = s.chans[c].pcs[p].remap := by
  unfold State.startCopy State.fillCopy
  rw [State.updPc_at, State.updCh_self, Channel.eventThread_pcs, Channel.updPc_self]
  refine ⟨rfl, rfl, ?_⟩
  dsimp only
  rw [(recorded_recordCopyUe s c p _ _).pcs]

theorem exec_remapApply {c : Ch} {p : Pc} {e : Fin 8} {s : State} (hr : s.mgmt.ready = true)
    (hw : remapState s.chans[c].pcs[p].remap[e] = 1) (hq : s.chans[c].pcs[p].qact = true) (hop : s.chans[c].pcs[p].op = none)
    (ht : s.chans[c].pcs[p].inTest s.rows (remapBank s.chans[c].pcs[p].remap[e]) (remapRow s.chans[c].pcs[p].remap[e]) = false)
    (hbad : s.chans[c].pcs[p].badSpares.contains
      (spareKey (remapBank s.chans[c].pcs[p].remap[e]) (remapSpare s.chans[c].pcs[p].remap[e])) = false) :
    exec (.remapApply c p e) s = .next ((s.startCopy c p e (.rowCopy e)).service
      (softRepCmd c p s.chans[c].pcs[p].remap[e] (.softRepair c p e))) := by
  change execRemapApply c p e s = _
  unfold execRemapApply
  dsimp only
  rw [if_neg (by rw [hr, hw, hq, hop, ht]; decide), State.moveEntry_good hbad, if_neg (by rw [hbad]; decide)]

/-- Settles O38: the copy's start and its end by what they set, the replay by its frames. -/
theorem remapCopiesRowAndReplays : Obligations.RemapCopiesRowAndReplays := by
  refine ⟨⟨fun c p e s hr hw hq hop ht hbad => ?_, fun c p e s hop => exec_rowCopyTimeout hop⟩, fun lost s hb hd => ?_⟩
  · obtain ⟨hop', hcopy, hremap⟩ := s.startCopy_at c p e (.rowCopy e)
    exact ⟨_, exec_remapApply hr hw hq hop ht hbad, memKept_of_cells (by simp), hop', hcopy, hremap⟩
  · obtain ⟨t, ht, hj, hl, ha⟩ := exec_journalReplay lost hb hd
    exact ⟨t, ht, hj, congrArg Around.thermal ha, congrArg Around.wick ha, hl,
      congrArg (fun k => k.store.1) (execJournalReplay_kept lost s t ht)⟩

end Sys2Proof.Machine

/-! # The scrubber: its credit, its laps and the decoder's gaps (R260 to R268, R281) -/

namespace Sys2Proof.Machine

open Sys2Proof.Safety

/-! ## What a read decoded in a gap leaves -/

theorem PseudoChannel.lapEnd_frame (q : PseudoChannel) (rows sids now : Nat) : (q.lapEnd rows sids now).captured = q.captured
    ∧ (q.lapEnd rows sids now).scrub.writebacks = q.scrub.writebacks := by
  unfold PseudoChannel.lapEnd
  split <;> exact ⟨rfl, rfl⟩

section
variable {s t : State} {c : Ch} (h : PathKept s t)
include h

theorem PathKept.gapRead (p : Pc) (n : Nat) (env : LineEnv) (owner : Option Nat) : PathKept s (t.gapRead c p n env owner).2.2 := by
  unfold State.gapRead
  refine PathKept.updCh (f := (·.countTsv p env)) ?_
  exact ⟨fun d q => by rw [(t.dieRead_frame c p n env owner).1]; exact h.pc d q⟩

theorem PathKept.foundCandidate (p : Pc) (n : Nat) (src : BitVec 2) : PathKept s (t.foundCandidate c p n src) := by
  unfold State.foundCandidate
  split
  · exact h.candidate ..
  · exact h

theorem PathKept.loseMap (p : Pc) (n : Nat) : PathKept s (t.loseMap c p n) := by
  unfold State.loseMap State.rewriteMapRow
  split
  · split
    · split
      · exact .updCh (.updPc h)
      · exact .updPc h
    · exact h
  · exact h

end

/-- The counts of a gap's read keep the write-backs of its pseudo-channel. -/
theorem State.countGap_writebacks (s : State) (c : Ch) (p : Pc) (x : Captured) (v : ReadEvents) (ods : BitVec 2) :
    (s.countGap c p x v ods).chans[c].pcs[p].scrub.writebacks = s.chans[c].pcs[p].scrub.writebacks := by
  have hcount (u : State) : ∀ (f : PseudoChannel → PseudoChannel) (g : Taper → Taper),
      (∀ q, (f q).scrub.writebacks = q.scrub.writebacks) →
      (u.updCh c (fun h => (h.updPc p f).updTaper g)).chans[c].pcs[p].scrub.writebacks = u.chans[c].pcs[p].scrub.writebacks := by
    intro f g hf
    rw [State.updCh_self]
    exact (congrArg (fun q : PseudoChannel => q.scrub.writebacks) (Channel.updPc_self ..)).trans (hf _)
  have hread := ((PathKept.refl s).countRead (c := c) p x.access v (s.chans[c].pcs[p].injCause x.access) (!x.profiling)).pc c p
  replace hread := congrArg (fun k => k.2.2.2.2.2.writebacks) hread
  have hlose (u : State) : (u.loseMap c p x.access).chans[c].pcs[p].scrub.writebacks = u.chans[c].pcs[p].scrub.writebacks :=
    congrArg (fun k => k.2.2.2.2.2.writebacks) (((PathKept.refl u).loseMap (c := c) p x.access).pc c p)
  have hupd := hcount (s.countRead c p x.access v (s.chans[c].pcs[p].injCause x.access) (!x.profiling))
    (fun q => { q.consumeRead x.access with scrub :=
      if x.profiling then q.scrub
      else { q.scrub with ceCur := bump q.scrub.ceCur (if v.managed then v.ce else v.odsCe).toNat
                          ueCur := bump q.scrub.ueCur (if v.managed then v.ue else v.odsUe).toNat } })
    (·.readEvents x.owner v ods) (fun q => by dsimp only; split <;> rfl)
  unfold State.countGap
  dsimp only
  split
  · exact (hlose _).trans (hupd.trans hread)
  · exact hupd.trans hread

/-- The bytes of a pseudo-channel in one state, of states with the same cells. -/
theorem State.readByte_of_cells {s t : State} (h : t.cells = s.cells) (c : Ch) (p : Pc) (rows a : Nat) :
    t.chans[c].pcs[p].readByte rows a = s.chans[c].pcs[p].readByte rows a :=
  (sameCells_of_cells (State.cells_at h c p)).readByte rows a

/-- The write-back of an access, as the scrubber counts it. -/
def PseudoChannel.scrubStore (q : PseudoChannel) (rows n : Nat) (w : BitVec 512 × BitVec 64) : PseudoChannel :=
  { q.storeAccess rows n w.1 w.2 with
    scrub := { q.scrub with writebacks := bump q.scrub.writebacks, owedUnits := q.scrub.owedUnits + 1 } }

theorem PseudoChannel.scrubStore_readByte (q : PseudoChannel) (rows n : Nat) (w : BitVec 512 × BitVec 64) (a : Nat) :
    (q.scrubStore rows n w).readByte rows a = if a / 72 = n then accessByte w.1 w.2 (a % 72) else q.readByte rows a :=
  q.storeAccess_readByte rows n w.1 w.2 a

/-- The re-read after a write-back (R266). -/
def State.scrubReread (s : State) (c : Ch) (p : Pc) (n : Nat) (managed : Bool) (reread : LineEnv) : State :=
  let (r, d, s2) := s.gapRead c p n reread none
  if (if managed then d.symErr || d.ue else r.ods != 0) then
    (s2.updPc c p (fun q => { q with scrub := { q.scrub with hard := bump q.scrub.hard } })).foundCandidate c p n 0
  else s2

theorem State.scrubBack_eq (s : State) (c : Ch) (p : Pc) (n : Nat) (managed : Bool) (w : BitVec 512 × BitVec 64) (reread : LineEnv) :
    s.scrubBack c p n managed w reread = (s.updPc c p (·.scrubStore s.rows n w)).scrubReread c p n managed reread := rfl

theorem State.scrubReread_frame (s : State) (c : Ch) (p : Pc) (n : Nat) (managed : Bool) (reread : LineEnv) :
    (s.scrubReread c p n managed reread).cells = s.cells
      ∧ (s.scrubReread c p n managed reread).chans[c].pcs[p].scrub.writebacks = s.chans[c].pcs[p].scrub.writebacks := by
  have hgap : (s.gapRead c p n reread none).2.2.chans[c].pcs[p].scrub.writebacks = s.chans[c].pcs[p].scrub.writebacks :=
    congrArg (fun k => k.2.2.2.2.2.writebacks) (((PathKept.refl s).gapRead (c := c) p n reread none).pc c p)
  have hcells := s.gapRead_cells c p n reread none
  unfold State.scrubReread
  dsimp only
  generalize (s.gapRead c p n reread none).2.2 = u at hgap hcells ⊢
  generalize (if managed = true then _ else _ : Bool) = hard
  cases hard
  · exact ⟨hcells, hgap⟩
  · refine ⟨(State.foundCandidate_cells ..).trans (.trans (State.updPc_cells ?_) hcells), ?_⟩
    · rfl
    refine .trans (congrArg (fun k => k.2.2.2.2.2.writebacks) (((PathKept.refl _).foundCandidate (c := c) p n 0).pc c p)) ?_
    exact .trans (congrArg (fun q : PseudoChannel => q.scrub.writebacks) (State.updPc_at ..)) hgap

/-- A write-back is counted, and its access alone takes what was decoded (R267). -/
theorem State.scrubBack_frame (s : State) (c : Ch) (p : Pc) (n : Nat) (managed : Bool) (w : BitVec 512 × BitVec 64)
    (reread : LineEnv) :
    (s.scrubBack c p n managed w reread).rows = s.rows
      ∧ (s.scrubBack c p n managed w reread).chans[c].pcs[p].scrub.writebacks = bump s.chans[c].pcs[p].scrub.writebacks
      ∧ ∀ a, (s.scrubBack c p n managed w reread).chans[c].pcs[p].readByte s.rows a
          = if a / 72 = n then accessByte w.1 w.2 (a % 72) else s.chans[c].pcs[p].readByte s.rows a := by
  rw [State.scrubBack_eq]
  obtain ⟨hcells, hback⟩ := (s.updPc c p (·.scrubStore s.rows n w)).scrubReread_frame c p n managed reread
  refine ⟨congrArg (fun k => if k.1 then 16384 else 24576) hcells, ?_, fun a => ?_⟩
  · rw [hback, State.updPc_at]
    rfl
  · rw [State.readByte_of_cells hcells, State.updPc_at]
    exact PseudoChannel.scrubStore_readByte ..

/-! ## The decoder's gap (R265 to R267) -/

section
variable (s : State) (c : Ch) (p : Pc) (x : Captured) (rest : List Captured) (env : LineEnv)

/-- A gap's read, counted (R259). -/
def State.gapCounted : State :=
  let r := s.gapRead c p x.access env x.owner
  r.2.2.countGap c p x (readEvents (s.chans[c].pcs[p].decodes s.rows x.access s.chans[c].regs.adaptAct) r.2.1 r.1.ods) r.1.ods

/-- What the decoder would write back of a gap's read (R267). -/
def State.gapBack : Option (BitVec 512 × BitVec 64) :=
  let r := s.gapRead c p x.access env x.owner
  scrubWriteback (s.chans[c].pcs[p].decodes s.rows x.access s.chans[c].regs.adaptAct) r.2.1 r.1.ods r.1.data r.1.check

/-- A capture leaves the queue of a pseudo-channel, and its lap may end (R266, R268). -/
def PseudoChannel.gapTake (q : PseudoChannel) : PseudoChannel := ({ q with captured := rest }).lapEnd s.rows s.sids s.timeUs

theorem State.gapCounted_cells : (s.gapCounted c p x env).cells = s.cells := by
  unfold State.gapCounted
  exact (State.countGap_cells ..).trans (State.gapRead_cells ..)

theorem State.gapCounted_writebacks :
    (s.gapCounted c p x env).chans[c].pcs[p].scrub.writebacks = s.chans[c].pcs[p].scrub.writebacks :=
  (State.countGap_writebacks ..).trans
    (congrArg (fun k => k.2.2.2.2.2.writebacks) (((PathKept.refl s).gapRead (c := c) p x.access env x.owner).pc c p))

theorem PseudoChannel.gapTake_frame (q : PseudoChannel) : (q.gapTake s rest).captured = rest
    ∧ (q.gapTake s rest).scrub.writebacks = q.scrub.writebacks ∧ (q.gapTake s rest).cells = q.cells := by
  obtain ⟨hcap, hback⟩ := ({ q with captured := rest }).lapEnd_frame s.rows s.sids s.timeUs
  exact ⟨hcap, hback, PseudoChannel.lapEnd_cells ..⟩

theorem State.gapTake_at (t : State) : (t.updPc c p (·.gapTake s rest)).chans[c].pcs[p].captured = rest := by
  rw [State.updPc_at]
  exact (PseudoChannel.gapTake_frame s rest _).1

variable {s c p x rest env} (reread : LineEnv) (low : Bool) (hcap : s.chans[c].pcs[p].captured = x :: rest)
include hcap

/-- A host read to decode comes first (R265). -/
theorem exec_decoderGap_busy (h : s.chans[c].pcs[p].tsvCapture ≠ []) : exec (.decoderGapDecode c p env reread low) s = .next s := by
  have hbusy : (!s.chans[c].pcs[p].tsvCapture.isEmpty) = true := by simpa using h
  change execDecoderGapDecode c p env reread low s = _
  simp only [execDecoderGapDecode, hcap, hbusy, if_true]

variable (h : s.chans[c].pcs[p].tsvCapture = [])
include h

theorem exec_decoderGap_eq : exec (.decoderGapDecode c p env reread low) s =
    if x.profiling then .next (((s.gapCounted c p x env).updPc c p (·.noteProfile s.rows x.access
      (if s.chans[c].pcs[p].decodes s.rows x.access s.chans[c].regs.adaptAct then
        (readEvents (s.chans[c].pcs[p].decodes s.rows x.access s.chans[c].regs.adaptAct)
          (s.gapRead c p x.access env x.owner).2.1 (s.gapRead c p x.access env x.owner).1.ods).ce
        || (readEvents (s.chans[c].pcs[p].decodes s.rows x.access s.chans[c].regs.adaptAct)
          (s.gapRead c p x.access env x.owner).2.1 (s.gapRead c p x.access env x.owner).1.ods).ue
        else (s.gapRead c p x.access env x.owner).1.ods != 0))).updPc c p (·.gapTake s rest))
    else match s.gapBack c p x env with
      | none => .next ((s.gapCounted c p x env).updPc c p (·.gapTake s rest))
      | some w =>
        if low then .next (s.updPc c p (fun q => { q with scrub := { q.scrub with deferred := bump q.scrub.deferred } }))
        else .next (((s.gapCounted c p x env).scrubBack c p x.access
          (s.chans[c].pcs[p].decodes s.rows x.access s.chans[c].regs.adaptAct) w reread).updPc c p (·.gapTake s rest)) := by
  change execDecoderGapDecode c p env reread low s = _
  unfold execDecoderGapDecode
  dsimp only
  rw [hcap]
  dsimp only
  rw [h, if_neg (by decide)]
  rfl

/-- A profiling read, and a scrub read that needs no write-back, leave every byte (R267). -/
theorem exec_decoderGap_read (hw : x.profiling = true ∨ s.gapBack c p x env = none) :
    ∃ t, exec (.decoderGapDecode c p env reread low) s = .next t ∧ memKept s t ∧ t.chans[c].pcs[p].captured = rest := by
  have htake (t : State) (ht : t.cells = s.cells) : memKept s (t.updPc c p (·.gapTake s rest)) :=
    memKept_of_cells ((State.updPc_cells (PseudoChannel.gapTake_frame s rest _).2.2).trans ht)
  rw [exec_decoderGap_eq reread low hcap h]
  cases hp : x.profiling with
  | true => exact ⟨_, if_pos rfl, htake _ ((State.updPc_cells (PseudoChannel.noteProfile_cells ..)).trans (s.gapCounted_cells c p x env)),
      State.gapTake_at ..⟩
  | false =>
    replace hw := hw.resolve_left (by rw [hp]; decide)
    rw [hw]
    exact ⟨_, if_neg (by decide), htake _ (s.gapCounted_cells c p x env), State.gapTake_at ..⟩

variable {w : BitVec 512 × BitVec 64} (hp : x.profiling = false) (hw : s.gapBack c p x env = some w)
include hp hw

/-- A write-back that the lease is too low for waits (R267). -/
theorem exec_decoderGap_defers : exec (.decoderGapDecode c p env reread true) s
    = .next (s.updPc c p (fun q => { q with scrub := { q.scrub with deferred := bump q.scrub.deferred } })) := by
  rw [exec_decoderGap_eq reread true hcap h, hp, if_neg (by decide), hw]
  rfl

/-- A write-back stores its access and no other (R267). -/
theorem exec_decoderGap_back : ∃ t, exec (.decoderGapDecode c p env reread false) s = .next t
    ∧ t.chans[c].pcs[p].captured = rest ∧ t.chans[c].pcs[p].scrub.writebacks = bump s.chans[c].pcs[p].scrub.writebacks
    ∧ (∀ k : Nat, k < 72 → t.chans[c].pcs[p].readByte t.rows (byteAddr x.access k) = accessByte w.1 w.2 k)
    ∧ ∀ a : Nat, a / 72 ≠ x.access → t.chans[c].pcs[p].readByte t.rows a = s.chans[c].pcs[p].readByte s.rows a := by
  have hcells := s.gapCounted_cells c p x env
  have hcountedrows : (s.gapCounted c p x env).rows = s.rows := congrArg (fun k => if k.1 then 16384 else 24576) hcells
  obtain ⟨hrows, hback, hbytes⟩ := (s.gapCounted c p x env).scrubBack_frame c p x.access
    (s.chans[c].pcs[p].decodes s.rows x.access s.chans[c].regs.adaptAct) w reread
  rw [exec_decoderGap_eq reread false hcap h, hp, if_neg (by decide), hw]
  dsimp only
  rw [if_neg Bool.false_ne_true]
  generalize (s.gapCounted c p x env).scrubBack c p x.access _ w reread = u at hrows hback hbytes
  obtain ⟨hcap', hback', hcells'⟩ := u.chans[c].pcs[p].gapTake_frame s rest
  have hread (a : Nat) : (u.updPc c p (·.gapTake s rest)).chans[c].pcs[p].readByte (u.updPc c p (·.gapTake s rest)).rows a
      = if a / 72 = x.access then accessByte w.1 w.2 (a % 72) else s.chans[c].pcs[p].readByte s.rows a := by
    have hr : (u.updPc c p (·.gapTake s rest)).rows = s.rows := .trans (b := u.rows) rfl (hrows.trans hcountedrows)
    rw [hr, State.updPc_at, (sameCells_of_cells hcells').readByte, ← hcountedrows, hbytes, hcountedrows,
      State.readByte_of_cells hcells]
  refine ⟨_, rfl, ?_, ?_, fun k hk => ?_, fun a ha => ?_⟩
  · rw [State.updPc_at]
    exact hcap'
  · rw [State.updPc_at]
    exact hback'.trans (hback.trans (congrArg bump (s.gapCounted_writebacks c p x env)))
  · have hdiv : byteAddr x.access k / 72 = x.access ∧ byteAddr x.access k % 72 = k := by
      unfold byteAddr
      omega
    rw [hread, if_pos hdiv.1, hdiv.2]
  · rw [hread, if_neg ha]

end

/-! ## The scrubber's clocks (R260, R262, R268) -/

section
variable (c : Ch) (p : Pc) (s : State)

theorem exec_scrubCredit (h : s.chans[c].pcs[p].lapRuns = true) : ∃ t, exec (.scrubCredit c p) s = .next t ∧ onlyChannel s t c
    ∧ memKept s t ∧ t.chans[c].pcs[p].scrub.credit = min 64 (s.chans[c].pcs[p].scrub.credit + 1) := by
  refine ⟨_, rfl, onlyChannel_updCh .., memKept_of_cells (State.updPc_cells ?_), ?_⟩
  · rw [h]
    rfl
  · rw [State.updPc_at, h]
    rfl

theorem exec_scrubOverdue (h : s.chans[c].pcs[p].lapRuns = true) (ho : s.chans[c].pcs[p].scrub.overdue = false) :
    ∃ t, exec (.scrubOverdue c p) s = .next t ∧ memKept s t ∧ t.chans[c].pcs[p].scrub.overdue = true := by
  have hevent : Noted (s.updPc c p (fun q => { q with scrub := { q.scrub with overdue := true } }))
      (if s.mgmt.ready then (s.updPc c p (fun q => { q with scrub := { q.scrub with overdue := true } })).event 7 0
          (byteOf c.val) (byteOf p.val)
        else s.updPc c p (fun q => { q with scrub := { q.scrub with overdue := true } })) := by
    split
    · exact noted_event ..
    · exact .of_chans rfl rfl
  refine ⟨_, if_pos (by rw [h, ho]; rfl), memKept_trans (memKept_of_cells (State.updPc_cells ?_)) hevent.memKept, ?_⟩
  · rfl
  · rw [hevent.pcs, State.updPc_at]

theorem exec_leakInterval : ∃ t, exec (.leakInterval c p) s = .next t ∧ onlyChannel s t c ∧ memKept s t
    ∧ t.chans[c].pcs[p].bucket.count = s.chans[c].pcs[p].bucket.count - 1 ∧ t.chans[c].pcs[p].bucket.last = none := by
  refine ⟨_, rfl, onlyChannel_updCh .., memKept_of_cells (State.updPc_cells ?_), ?_, ?_⟩
  · rfl
  · rw [State.updPc_at]
  · rw [State.updPc_at]

end

/-- Settles O37: the clocks by what they set, the gap by what its read needs. -/
theorem scrubAndBucketClocks : Obligations.ScrubAndBucketClocks := by
  refine ⟨fun c p s => ⟨fun h => ⟨exec_scrubCredit c p s h, exec_scrubOverdue c p s h⟩, exec_leakInterval c p s,
    fun n bad => ⟨_, rfl, rfl⟩⟩, fun c p env reread low x rest s hcap => ⟨exec_decoderGap_busy reread low hcap, fun h =>
      ⟨exec_decoderGap_read reread low hcap h, fun w hp hw => ⟨?_, ?_⟩⟩⟩⟩
  · rintro rfl
    refine ⟨_, exec_decoderGap_defers reread hcap h hp hw, onlyChannel_updCh .., memKept_of_cells (State.updPc_cells ?_), ?_, ?_, ?_⟩
    · rfl
    · rw [State.updPc_at]
      exact hcap
    · rw [State.updPc_at]
    · rw [State.updPc_at]
  · rintro rfl
    exact exec_decoderGap_back reread hcap h hp hw

end Sys2Proof.Machine

/-! # Retention profiling (R239, R240, R242) -/

namespace Sys2Proof.Machine

open Sys2Proof.Safety

/-! ## A code of the map (R232, R233) -/

theorem State.rows_cases (s : State) : s.rows = 16384 ∨ s.rows = 24576 := by
  unfold State.rows
  split
  · exact .inl rfl
  · exact .inr rfl

/-- The bin map lies in the reserved rows (Table 8-4a). -/
theorem accessReserved_mapAccess {rows a : Nat} (hr : rows = 16384 ∨ rows = 24576) (ha : a < 1536) :
    accessReserved rows (mapAccess rows a) = true := by
  have hlast : rows ≤ 24576 ∧ 16 ≤ rows := by omega
  unfold accessReserved accessSpare mapAccess reservedAccess
  rw [accessOf_accessNo]
  simp only [BitVec.toNat_ofNat]
  have hmod : (rows - 16 + a / 256) % 2 ^ 15 = rows - 16 + a / 256 := Nat.mod_eq_of_lt (by omega)
  rw [hmod]
  simp
  omega

theorem State.updPc_updPc (s : State) (c : Ch) (p : Pc) (f g : PseudoChannel → PseudoChannel) :
    (s.updPc c p f).updPc c p g = s.updPc c p (fun q => g (f q)) := by
  unfold State.updPc
  rw [State.updCh_updCh]
  refine State.updCh_congr ?_
  simp only [Channel.updPc, Fin.getElem_fin, Vector.getElem_set_self, Vector.set_set]

/-- Of one pseudo-channel nothing but its codes, the marks of its verdicts, its reserved rows and its restores differs. -/
structure CodesAlone (rows : Nat) (q r : PseudoChannel) : Prop where
  batch : r.batch = q.batch
  mapState : r.mapState = q.mapState
  bytes : ∀ a, accessReserved rows (a / 72) = false → r.readByte rows a = q.readByte rows a

theorem CodesAlone.refl (rows : Nat) (q : PseudoChannel) : CodesAlone rows q q := ⟨rfl, rfl, fun _ _ => rfl⟩

theorem CodesAlone.trans {rows : Nat} {q r t : PseudoChannel} (h : CodesAlone rows q r) (h' : CodesAlone rows r t) :
    CodesAlone rows q t :=
  ⟨h'.batch.trans h.batch, h'.mapState.trans h.mapState, fun a ha => (h'.bytes a ha).trans (h.bytes a ha)⟩

section
variable (q : PseudoChannel) (rows : Nat) (adapt : Bool) (g : Nat) (code : BitVec 2)

theorem PseudoChannel.setCode_eq : ∃ dram injected, q.setCode rows adapt g code
    = { q with bins := sparseSet q.bins g code, dram := dram, injected := injected } := by
  unfold PseudoChannel.setCode
  dsimp only
  split
  · obtain ⟨dram, injected, h⟩ := ({ q with bins := sparseSet q.bins g code }).storeAccess_eq rows (mapAccess rows (g / 256))
      (mapData (sparseSet q.bins g code) (g / 256)) (encodeCheck (mapData (sparseSet q.bins g code) (g / 256)))
    exact ⟨dram, injected, h⟩
  · exact ⟨q.dram, q.injected, rfl⟩

theorem PseudoChannel.setCode_bins : (q.setCode rows adapt g code).bins = sparseSet q.bins g code := by
  obtain ⟨dram, injected, h⟩ := q.setCode_eq rows adapt g code
  rw [h]

variable {rows g} (hr : rows = 16384 ∨ rows = 24576) (hg : adapt = true → g < 393216)
include hr hg

theorem codesAlone_setCode : CodesAlone rows q (q.setCode rows adapt g code) := by
  refine ⟨?_, ?_, fun a ha => ?_⟩
  · obtain ⟨dram, injected, h⟩ := q.setCode_eq rows adapt g code
    rw [h]
  · obtain ⟨dram, injected, h⟩ := q.setCode_eq rows adapt g code
    rw [h]
  · unfold PseudoChannel.setCode
    dsimp only
    split
    · next hadapt =>
      have hne : a / 72 ≠ mapAccess rows (g / 256) := fun e => by
        have hg' := hg hadapt
        rw [e, accessReserved_mapAccess hr (by omega)] at ha
        exact absurd ha (by decide)
      refine (PseudoChannel.storeAccess_readByte ..).trans ((if_neg hne).trans ?_)
      rfl
    · rfl

theorem codesAlone_endSequence : CodesAlone rows q (q.endSequence rows adapt g code) := by
  obtain ⟨hb, hm, hbytes⟩ := codesAlone_setCode q adapt code hr hg
  exact ⟨hb, hm, hbytes⟩

end

theorem PseudoChannel.endSequence_frame (q : PseudoChannel) (rows : Nat) (adapt : Bool) (g : Nat) (code : BitVec 2) :
    (q.endSequence rows adapt g code).bins = sparseSet q.bins g code
      ∧ (q.endSequence rows adapt g code).restores = q.restores := by
  refine ⟨q.setCode_bins rows adapt g code, ?_⟩
  obtain ⟨dram, injected, h⟩ := q.setCode_eq rows adapt g code
  exact .trans (b := (q.setCode rows adapt g code).restores) rfl ((congrArg PseudoChannel.restores h).trans rfl)

theorem lt_of_groupOk {rows : Nat} {sid : Sid} {adapt : Bool} {g : Nat} (hr : rows = 16384 ∨ rows = 24576)
    (h : groupOk rows sid adapt g = true) : g < 393216 := by
  unfold groupOk mapIndex at h
  simp only [Bool.and_eq_true, decide_eq_true_eq] at h
  have hs := sid.isLt
  rcases hr with rfl | rfl <;> simp at h <;> omega

/-! ## The sequence of a batch (R239, R240) -/

/-- The groups of a batch end their sequence with code V. -/
def PseudoChannel.endAll (rows : Nat) (adapt : Bool) (groups : List ProfileGroup) (q : PseudoChannel) : PseudoChannel :=
  groups.foldl (fun k g => k.endSequence rows adapt g.index 2) q

theorem PseudoChannel.endAll_frame {rows : Nat} (adapt : Bool) (groups : List ProfileGroup) (q : PseudoChannel)
    (hr : rows = 16384 ∨ rows = 24576) (hg : ∀ g ∈ groups, g.index < 393216) : CodesAlone rows q (q.endAll rows adapt groups)
      ∧ ∀ k, (∃ g ∈ groups, g.index = k) ∨ sparseGet q.bins k = 2 → sparseGet (q.endAll rows adapt groups).bins k = 2 := by
  induction groups generalizing q with
  | nil => exact ⟨.refl rows q, fun k hk => hk.resolve_left (by simp)⟩
  | cons g gs ih =>
    obtain ⟨halone, hcodes⟩ := ih (q.endSequence rows adapt g.index 2) fun x hx => hg x (List.mem_cons_of_mem g hx)
    have hbins := (q.endSequence_frame rows adapt g.index 2).1
    refine ⟨(codesAlone_endSequence q adapt 2 hr fun _ => hg g List.mem_cons_self).trans halone, fun k hk => hcodes k ?_⟩
    rw [hbins]
    by_cases hgk : k = g.index
    · exact .inr (by rw [hgk, sparseGet_set_self])
    · rw [sparseGet_set_other hgk]
      refine hk.imp_left fun ⟨x, hx, hxk⟩ => ⟨x, ?_, hxk⟩
      exact (List.mem_cons.mp hx).resolve_left fun e => hgk (by rw [← hxk, e])

section
variable (s : State) (c : Ch) (p : Pc) (b : ProfileBatch)

/-- The verdict of the next group, with the groups that stay. -/
def verdictStep (acc : State × List ProfileGroup) (g : ProfileGroup) : State × List ProfileGroup :=
  let (t, stays) := acc.1.groupVerdict c p b.step g
  (t, if stays then acc.2 ++ [g.again] else acc.2)

/-- The batch after the verdicts of its step. -/
def State.nextStep (left : List ProfileGroup) : Option ProfileBatch :=
  if left.isEmpty then none
  else some { b with
    step := b.step + 1, groups := left
    t0 := wholeDegree ((s.unitReading ⟨b.sid.val, by omega⟩).getD b.t0), ended := false }

variable {s c p b}

theorem State.batchVerdict_eq {t : State} {left : List ProfileGroup} (h : b.groups.foldl (verdictStep c p b) (s, []) = (t, left)) :
    s.batchVerdict c p b = t.updPc c p (fun q => { q with batch := s.nextStep b left }) := by
  have e : s.batchVerdict c p b = (b.groups.foldl (verdictStep c p b) (s, [])).1.updPc c p (fun q =>
      { q with batch := s.nextStep b (b.groups.foldl (verdictStep c p b) (s, [])).2 }) := rfl
  rw [e, h]

/-- Groups without an error stay in the batch until its last step. -/
theorem verdicts_stay (hs : b.step < 2) (groups : List ProfileGroup) (hbad : ∀ g ∈ groups, g.bad = 0) (l : List ProfileGroup) :
    groups.foldl (verdictStep c p b) (s, l) = (s, l ++ groups.map (·.again)) := by
  induction groups generalizing l with
  | nil => simp
  | cons g gs ih =>
    have hstep : verdictStep c p b (s, l) g = (s, l ++ [g.again]) := by
      unfold verdictStep State.groupVerdict
      rw [if_pos (hbad g List.mem_cons_self), if_pos hs]
      rfl
    rw [List.foldl_cons, hstep, ih fun x hx => hbad x (List.mem_cons_of_mem g hx)]
    simp

/-- At the last step groups without an error end with code V. -/
theorem verdicts_end (hs : b.step = 2) (groups : List ProfileGroup) (hbad : ∀ g ∈ groups, g.bad = 0) (f : PseudoChannel → PseudoChannel) :
    groups.foldl (verdictStep c p b) (s.updPc c p f, [])
      = (s.updPc c p (fun q => (f q).endAll s.rows s.chans[c].regs.adaptAct groups), []) := by
  induction groups generalizing f with
  | nil => rfl
  | cons g gs ih =>
    have hstep : verdictStep c p b (s.updPc c p f, []) g
        = (s.updPc c p (fun q => (f q).endSequence s.rows s.chans[c].regs.adaptAct g.index 2), []) := by
      unfold verdictStep State.groupVerdict
      rw [if_pos (hbad g List.mem_cons_self), if_neg (by rw [hs]; decide)]
      have hregs : (s.updPc c p f).chans[c].regs = s.chans[c].regs := by
        rw [State.updPc, State.updCh_self]
        rfl
      rw [State.updPc_updPc, hregs]
      rfl
    rw [List.foldl_cons, hstep, ih fun x hx => hbad x (List.mem_cons_of_mem g hx)]
    rfl

end

/-! ## The profiler's rows (R239, R240, R242) -/

theorem batchGroups_index {groups : List Nat} (h : groups.length ≤ 16) : (batchGroups groups).map (·.index) = groups := by
  unfold batchGroups
  rw [List.map_map]
  exact List.map_snd_zip (by rw [List.length_finRange]; exact h)

/-- A thread that starts where the pseudo-channel is quiesced leaves the pseudo-channels (R235). -/
theorem Channel.threadIf_pcs (h : Channel) (x halt : Bool) (n : Nat) (addr : ThreadAddr) (lease : Option Lease) (owed : List OwedRow) :
    (if x then h.eventThread halt n addr lease owed else h).pcs = h.pcs := by
  split
  · exact Channel.eventThread_pcs ..
  · rfl

theorem exec_profileBatchStart {c : Ch} {p : Pc} {sid : Sid} {groups : List Nat} {s : State} (hm : s.mayProfile c p sid = true)
    (hne : groups ≠ []) (hl : groups.length ≤ 16) (hd : groups.Nodup)
    (hok : groups.all (groupOk s.rows sid s.chans[c].regs.adaptAct) = true) :
    ∃ t, exec (.profileBatchStart c p sid groups) s = .next t ∧ onlyChannel s t c ∧ memKept s t ∧ phasesKept s t c
      ∧ (t.chans[c].pcs[p].batch).map (fun b => (b.sid, b.step, b.groups.map (·.index))) = some (sid, 0, groups) := by
  have hguard : (s.mayProfile c p sid && !groups.isEmpty && decide (groups.length ≤ 16) && decide groups.Nodup
      && groups.all (groupOk s.rows sid s.chans[c].regs.adaptAct)) = true := by
    rw [hm, decide_eq_true hl, decide_eq_true hd, hok]
    simpa using hne
  refine ⟨_, if_pos hguard, onlyChannel_updCh .., memKept_of_cells (State.updCh_cells ?_), fun q i => ?_, ?_⟩
  · exact .trans (congrArg (Vector.map PseudoChannel.cells) (Channel.threadIf_pcs ..)) (Channel.updPc_cells rfl)
  · rw [State.updCh_self]
    refine .trans (congrArg (fun v : Vector PseudoChannel 2 => v[q].banks[i].phase) (Channel.threadIf_pcs ..)) ?_
    rw [Channel.updPc_at]
    split <;> rfl
  · rw [State.updCh_self]
    refine .trans (congrArg (fun v : Vector PseudoChannel 2 => v[p].batch.map _) (Channel.threadIf_pcs ..)) ?_
    rw [Channel.updPc_self]
    exact congrArg (fun l => some (sid, 0, l)) (batchGroups_index hl)

section
variable {c : Ch} {p : Pc} {b : ProfileBatch} {s : State} (hb : s.chans[c].pcs[p].batch = some b)
include hb

theorem exec_profileVerdict_ended (he : b.ended = false) (hg : b.groups.all (fun g => g.copied == 4) = true) :
    ∃ t, exec (.profileVerdict c p .intervalEnd) s = .next t ∧ onlyChannel s t c ∧ memKept s t
      ∧ t.chans[c].pcs[p].batch = some { b with ended := true } ∧ t.chans[c].pcs[p].bins = s.chans[c].pcs[p].bins := by
  have hexec : exec (.profileVerdict c p .intervalEnd) s = .next (s.updCh c (fun h =>
      let h1 := h.updPc p (fun q => { q with batch := some { b with ended := true } })
      if h.pcs[p].qact then h1.eventThread (s.haltMaint c) 42 (pcAddr p) (some (pcLease p)) [] else h1)) := by
    change execProfileVerdict c p .intervalEnd s = _
    unfold execProfileVerdict
    rw [hb]
    exact if_pos (by rw [he, hg]; rfl)
  refine ⟨_, hexec, onlyChannel_updCh .., memKept_of_cells (State.updCh_cells ?_), ?_, ?_⟩
  · exact .trans (congrArg (Vector.map PseudoChannel.cells) (Channel.threadIf_pcs ..)) (Channel.updPc_cells rfl)
  · rw [State.updCh_self]
    refine .trans (congrArg (fun v : Vector PseudoChannel 2 => v[p].batch) (Channel.threadIf_pcs ..)) ?_
    rw [Channel.updPc_self]
  · rw [State.updCh_self]
    refine .trans (congrArg (fun v : Vector PseudoChannel 2 => v[p].bins) (Channel.threadIf_pcs ..)) ?_
    rw [Channel.updPc_self]

variable (hd : b.decided = true)
include hd

theorem exec_profileVerdict_decided : exec (.profileVerdict c p .readsDecoded) s = .next (s.batchVerdict c p b) := by
  change execProfileVerdict c p .readsDecoded s = _
  unfold execProfileVerdict
  rw [hb]
  dsimp only
  rw [hd, if_pos rfl]

/-- Every row of a step passes, and the batch goes on (R240). -/
theorem exec_profileVerdict_goesOn (hbad : ∀ g ∈ b.groups, g.bad = 0) (hs : b.step < 2) (hne : b.groups ≠ []) :
    ∃ t, exec (.profileVerdict c p .readsDecoded) s = .next t ∧ onlyChannel s t c ∧ memKept s t
      ∧ (t.chans[c].pcs[p].batch).map (fun x => (x.step, x.groups.map (·.index))) = some (b.step + 1, b.groups.map (·.index))
      ∧ t.chans[c].pcs[p].bins = s.chans[c].pcs[p].bins := by
  have hv := State.batchVerdict_eq (verdicts_stay (s := s) (c := c) (p := p) hs b.groups hbad [])
  have hempty : ([] ++ b.groups.map ProfileGroup.again).isEmpty = false := by simpa using hne
  refine ⟨_, (exec_profileVerdict_decided hb hd).trans (congrArg _ hv), onlyChannel_updCh ..,
    memKept_of_cells (State.updPc_cells rfl), ?_, ?_⟩
  · rw [State.updPc_at, State.nextStep, hempty, if_neg Bool.false_ne_true]
    simp [List.map_map, Function.comp_def, ProfileGroup.again]
  · rw [State.updPc_at]

/-- Every row of the last step passes, and the groups have code V (R240). -/
theorem exec_profileVerdict_passed (hbad : ∀ g ∈ b.groups, g.bad = 0) (hs : b.step = 2)
    (hok : ∀ g ∈ b.groups, g.index < 393216) :
    ∃ t, exec (.profileVerdict c p .readsDecoded) s = .next t ∧ onlyChannel s t c ∧ t.chans[c].pcs[p].batch = none
      ∧ (∀ g ∈ b.groups, sparseGet t.chans[c].pcs[p].bins g.index = 2)
      ∧ ∀ a : Nat, accessReserved s.rows (a / 72) = false →
          t.chans[c].pcs[p].readByte t.rows a = s.chans[c].pcs[p].readByte s.rows a := by
  have hid : s.updPc c p (fun q => q) = s := by
    refine .trans (State.updCh_congr (g := fun h => h) ?_) (s.updCh_id c)
    exact s.chans[c].updPc_of_eq p rfl
  have hends := verdicts_end (s := s) (c := c) (p := p) hs b.groups hbad (fun q => q)
  rw [hid] at hends
  have hv := State.batchVerdict_eq hends
  rw [State.updPc_updPc] at hv
  obtain ⟨halone, hcodes⟩ := s.chans[c].pcs[p].endAll_frame s.chans[c].regs.adaptAct b.groups s.rows_cases hok
  refine ⟨_, (exec_profileVerdict_decided hb hd).trans (congrArg _ hv), onlyChannel_updCh .., ?_, fun g hg => ?_, fun a ha => ?_⟩
  · rw [State.updPc_at]
    rfl
  · rw [State.updPc_at]
    exact hcodes g.index (.inl ⟨g, hg, rfl⟩)
  · rw [State.updPc_at]
    exact halone.bytes a ha

/-- A row in error at step S gives its group code N, and its rows are restored (R240). -/
theorem exec_profileVerdict_failed {g : ProfileGroup} (hg : b.groups = [g]) (hbad : g.bad ≠ 0) (hs : b.step = 1) :
    ∃ t, exec (.profileVerdict c p .readsDecoded) s = .next t ∧ onlyChannel s t c ∧ t.chans[c].pcs[p].batch = none
      ∧ sparseGet t.chans[c].pcs[p].bins g.index = 0
      ∧ t.chans[c].pcs[p].restores = s.chans[c].pcs[p].restores ++ g.restores s.rows none := by
  have hfold : b.groups.foldl (verdictStep c p b) (s, []) = (s.failGroup c p g 0, []) := by
    rw [hg]
    change verdictStep c p b (s, []) g = _
    unfold verdictStep State.groupVerdict
    rw [if_neg hbad, hs]
    rfl
  have hv := State.batchVerdict_eq hfold
  unfold State.failGroup at hv
  rw [State.updPc_updPc] at hv
  obtain ⟨hbins, -⟩ := s.chans[c].pcs[p].endSequence_frame s.rows s.chans[c].regs.adaptAct g.index 0
  refine ⟨_, (exec_profileVerdict_decided hb hd).trans (congrArg _ hv), onlyChannel_updCh .., ?_, ?_, ?_⟩
  · rw [State.updPc_at]
    rfl
  · rw [State.updPc_at]
    exact (congrArg (sparseGet · g.index) hbins).trans sparseGet_set_self
  · rw [State.updPc_at]

end

/-- Records of the delta log follow those that stand (R242). -/
theorem NonVolatile.logDeltas_frame (n : NonVolatile) (u : Fin 64) (items : List DeltaItem) :
    ((n.logDeltas u items).deltaLog.drop n.deltaLog.length).map (·.item) = items
      ∧ (n.logDeltas u items).deltaSeq = n.deltaSeq + items.length ∧ (n.logDeltas u items).user = n.user := by
  have hlog : ∃ l, (n.logDeltas u items).deltaLog = n.deltaLog ++ l ∧ l.map (·.item) = items
      ∧ (n.logDeltas u items).deltaSeq = n.deltaSeq + items.length ∧ (n.logDeltas u items).user = n.user := by
    unfold NonVolatile.logDeltas
    induction items generalizing n with
    | nil => exact ⟨[], by simp⟩
    | cons i is ih =>
      obtain ⟨l, hl, hitems, hseq, huser⟩ := ih { n with
        deltaSeq := n.deltaSeq + 1, deltaLog := n.deltaLog ++ [{ seq := n.deltaSeq + 1, unit := u, item := i }] }
      refine ⟨{ seq := n.deltaSeq + 1, unit := u, item := i } :: l, ?_, ?_, ?_, huser⟩
      · rw [List.foldl_cons, hl]
        simp
      · simp [hitems]
      · rw [List.foldl_cons, hseq, List.length_cons]
        dsimp only
        omega
  obtain ⟨l, hl, hitems, hseq, huser⟩ := hlog
  refine ⟨?_, hseq, huser⟩
  rw [hl, List.drop_left, hitems]

theorem exec_deltaLogWrite {c : Ch} {p : Pc} {s : State} (hb : s.power.booted = true)
    (hu : s.chans[c].pcs[p].undurable = true) (hm : s.chans[c].pcs[p].mapState ≠ .disabled) :
    exec (.deltaLogWrite c p) s = .next ((s.updPc c p (fun q => { q with undurable := false, promoted := false })).updNv (fun n =>
      n.logDeltas (pcUnit c p) (s.chans[c].pcs[p].liveMap.delta (n.logged (pcUnit c p))))) := by
  refine if_pos ?_
  rw [hb, hu]
  simpa using hm

/-- Settles O35: a batch by the verdicts of its groups, the delta log by the records added. -/
theorem profilingRuns : Obligations.ProfilingRuns := by
  refine ⟨fun c p sid groups s hm hne hl hd hok => exec_profileBatchStart hm hne hl hd hok, fun c p b s hb => ⟨fun he hg =>
    exec_profileVerdict_ended hb he hg, fun hd hgood => ?_, fun g hd hg hbad hs => exec_profileVerdict_failed hb hd hg hbad hs⟩,
    fun c p s hb hu hm => ?_⟩
  · have hbad : ∀ g ∈ b.groups, g.bad = 0 := by simpa using hgood
    refine ⟨fun hs hne => exec_profileVerdict_goesOn hb hd hbad hs hne, fun hs hok => exec_profileVerdict_passed hb hd hbad hs ?_⟩
    exact fun g hg => lt_of_groupOk s.rows_cases (List.all_eq_true.mp hok g hg)
  · obtain ⟨hitems, hseq, huser⟩ := s.nv.logDeltas_frame (pcUnit c p) (s.chans[c].pcs[p].liveMap.delta (s.nv.logged (pcUnit c p)))
    refine ⟨_, exec_deltaLogWrite hb hu hm, memKept_of_cells ?_, ?_, hitems, hseq, huser⟩
    · exact (State.updNv_cells ..).trans (State.updPc_cells rfl)
    · exact congrArg PseudoChannel.undurable (State.updPc_at ..)

end Sys2Proof.Machine

/-! # The durable copy of the maps (R243 to R245) -/

namespace Sys2Proof.Machine

open Sys2Proof.Safety

/-! ## The retention-map area of Quince -/

/-- The generations and the delta log are the same in both states. -/
structure SameMaps (s t : State) : Prop where
  slots : t.nv.slots = s.nv.slots
  log : t.nv.deltaLog = s.nv.deltaLog
  gap : t.nv.mapGap = s.nv.mapGap

theorem SameMaps.refl (s : State) : SameMaps s s := ⟨rfl, rfl, rfl⟩

theorem SameMaps.of_nv {s t : State} (h : t.nv = s.nv) : SameMaps s t := ⟨by rw [h], by rw [h], by rw [h]⟩

theorem SameMaps.trans {s t u : State} (h : SameMaps s t) (h' : SameMaps t u) : SameMaps s u :=
  ⟨h'.slots.trans h.slots, h'.log.trans h.log, h'.gap.trans h.gap⟩

theorem SameMaps.durable {s t : State} (h : SameMaps s t) (c : Ch) (p : Pc) : t.durable c p = s.durable c p := by
  unfold State.durable NonVolatile.durable NonVolatile.deltasAfter NonVolatile.mapSeq NonVolatile.generation
  rw [h.slots, h.log, h.gap]

theorem SameMaps.gen {s t : State} (h : SameMaps s t) : t.nv.gen = s.nv.gen := by
  unfold NonVolatile.gen NonVolatile.generation
  rw [h.slots]

section
variable (s : State)

theorem sameMaps_record (typ : Byte) (body : List Byte) : SameMaps s (s.record typ body) := by
  unfold State.record
  dsimp only
  split
  · exact ⟨rfl, rfl, rfl⟩
  · refine ⟨?_, ?_, ?_⟩
    · dsimp only [State.updNv]
      split <;> simp
    · dsimp only [State.updNv]
      split <;> simp
    · dsimp only [State.updNv]
      split <;> simp

theorem sameMaps_ledger (typ : Byte) (body : List Byte) : SameMaps s (s.ledger typ body) := by
  unfold State.ledger
  split
  · exact sameMaps_record ..
  · exact .of_nv rfl

theorem sameMaps_ledgerEvent (rec : Byte) (body : List Byte) (typ : Nat) (u c p : Byte) (d : Word32) :
    SameMaps s (s.ledgerEvent rec body typ u c p d) :=
  (sameMaps_ledger s rec body).trans (.of_nv rfl)

theorem sameMaps_evalHealth : SameMaps s s.evalHealth := by
  unfold State.evalHealth State.signalHealth
  split
  · dsimp only
    split
    · exact .refl s
    · split
      · refine SameMaps.trans ?_ (sameMaps_ledger ..)
        exact .of_nv rfl
      · refine SameMaps.trans ?_ (sameMaps_ledger ..)
        exact .of_nv rfl
  · exact .refl s

variable (c : Ch) (p : Pc)

theorem sameMaps_takeMapState (m : MapState) : SameMaps s (s.takeMapState c p m) := by
  unfold State.takeMapState
  split <;> exact ⟨rfl, rfl, rfl⟩

theorem sameMaps_reportMapState (old new : MapState) : SameMaps s (s.reportMapState c p old new) := by
  unfold State.reportMapState
  split
  · exact .refl s
  · exact sameMaps_ledgerEvent ..

theorem sameMaps_setMapState (m : MapState) : SameMaps s (s.setMapState c p m) := by
  unfold State.setMapState
  dsimp only
  split
  · exact .refl s
  · exact (sameMaps_takeMapState ..).trans (sameMaps_reportMapState ..)

end

/-! ## The newest generation (R243) -/

/-- The newer of two generations, the first where both have one number. -/
def newerOf (acc g : Option Generation) : Option Generation :=
  match acc, g with
  | none, y => y
  | x, none => x
  | some x, some y => if x.number < y.number then some y else some x

theorem newest_frame (l : List (Option Generation)) (acc : Option Generation) :
    l.foldl newerOf acc ∈ acc :: l
      ∧ ∀ y, some y ∈ acc :: l → ∃ x, l.foldl newerOf acc = some x ∧ y.number ≤ x.number := by
  induction l generalizing acc with
  | nil => exact ⟨by simp, fun y hy => ⟨y, (by simpa using hy : some y = acc).symm, le_rfl⟩⟩
  | cons g gs ih =>
    have hmem : newerOf acc g = acc ∨ newerOf acc g = g := by
      unfold newerOf
      split
      · exact .inr rfl
      · exact .inl rfl
      · split
        · exact .inr rfl
        · exact .inl rfl
    have hbound : ∀ y, some y = acc ∨ some y = g → ∃ x, newerOf acc g = some x ∧ y.number ≤ x.number := by
      rintro y (rfl | rfl)
      · cases g with
        | none => exact ⟨y, rfl, le_rfl⟩
        | some z =>
          by_cases h : y.number < z.number
          · exact ⟨z, if_pos h, h.le⟩
          · exact ⟨y, if_neg h, le_rfl⟩
      · cases acc with
        | none => exact ⟨y, rfl, le_rfl⟩
        | some z =>
          by_cases h : z.number < y.number
          · exact ⟨y, if_pos h, le_rfl⟩
          · exact ⟨z, if_neg h, by omega⟩
    obtain ⟨hin, hle⟩ := ih (newerOf acc g)
    rw [List.foldl_cons]
    refine ⟨?_, fun y hy => ?_⟩
    · rcases List.mem_cons.mp hin with h | h
      · rw [h]
        rcases hmem with h | h <;> rw [h] <;> simp
      · exact List.mem_cons_of_mem _ (List.mem_cons_of_mem _ h)
    · rcases List.mem_cons.mp hy with h | h
      · obtain ⟨x, hx, hyx⟩ := hbound y (.inl h)
        obtain ⟨z, hz, hxz⟩ := hle x (by rw [hx]; simp)
        exact ⟨z, hz, hyx.trans hxz⟩
      · rcases List.mem_cons.mp h with h | h
        · obtain ⟨x, hx, hyx⟩ := hbound y (.inr h)
          obtain ⟨z, hz, hxz⟩ := hle x (by rw [hx]; simp)
          exact ⟨z, hz, hyx.trans hxz⟩
        · exact hle y (List.mem_cons_of_mem _ h)

theorem NonVolatile.generation_eq (n : NonVolatile) : n.generation = n.slots.toList.foldl newerOf none := rfl

theorem NonVolatile.le_gen {n : NonVolatile} {y : Generation} (h : some y ∈ n.slots.toList) : y.number ≤ n.gen := by
  obtain ⟨x, hx, hyx⟩ := (newest_frame n.slots.toList none).2 y (List.mem_cons_of_mem _ h)
  rw [← n.generation_eq] at hx
  unfold NonVolatile.gen
  rw [hx]
  exact hyx

/-- A generation with a number above those that stand is the newest (R243). -/
theorem newest_set {v : Vector (Option Generation) 3} {g : Generation} (k : Fin 3)
    (h : ∀ y, some y ∈ v.toList → y.number < g.number) : (v.set k (some g)).toList.foldl newerOf none = some g := by
  have hset : (v.set k (some g)).toList = v.toList.set k (some g) := Vector.toList_set ..
  have hg : some g ∈ (v.set k (some g)).toList := by
    rw [hset]
    exact List.mem_set (by simp) _
  obtain ⟨hin, hle⟩ := newest_frame (v.set k (some g)).toList none
  obtain ⟨x, hx, hgx⟩ := hle g (List.mem_cons_of_mem _ hg)
  rw [hx] at hin ⊢
  have hmem : some x ∈ v.toList.set k (some g) := by
    rw [← hset]
    exact (List.mem_cons.mp hin).resolve_left (by simp)
  rcases List.mem_or_eq_of_mem_set hmem with hold | hnew
  · exact absurd (h x hold) (by omega)
  · exact hnew

theorem NonVolatile.writeGeneration_newest (n : NonVolatile) (maps : List (Fin 64 × MapImage)) (only : Bool) :
    (n.writeGeneration maps only).generation = some { number := n.gen + 1, seq := n.deltaSeq, maps := maps } := by
  rw [NonVolatile.generation_eq]
  unfold NonVolatile.writeGeneration
  dsimp only
  refine newest_set _ fun y hy => ?_
  cases only with
  | false => exact Nat.lt_succ_of_le (n.le_gen hy)
  | true => simp at hy

/-- The map that a pseudo-channel has once a generation is written (R243). -/
theorem NonVolatile.writeGeneration_durable (n : NonVolatile) (maps : List (Fin 64 × MapImage)) (only : Bool) (u : Fin 64) :
    (n.writeGeneration maps only).durable u = (maps.find? (fun x => x.1 == u)).map (·.2) := by
  have hlog : (n.writeGeneration maps only).deltaLog = [] := rfl
  have hgap : (n.writeGeneration maps only).mapGap = none := rfl
  unfold NonVolatile.durable NonVolatile.deltasAfter
  rw [n.writeGeneration_newest maps only, hlog, hgap]
  rfl

/-! ## A generation is written (R243, R245) -/

theorem mem_sparseSet {w : Nat} {l : List (Nat × BitVec w)} {k : Nat} {v : BitVec w} {e : Nat × BitVec w}
    (h : e ∈ sparseSet l k v) : e.1 = k ∨ e ∈ l := by
  have hinsert (l : List (Nat × BitVec w)) (h : e ∈ sparseInsert l k v) : e.1 = k ∨ e ∈ l := by
    induction l with
    | nil => exact .inl (congrArg Prod.fst (List.mem_singleton.mp h))
    | cons x xs ih =>
      unfold sparseInsert at h
      split at h
      · rcases List.mem_cons.mp h with h | h
        · exact .inr (by simp [h])
        · exact (ih h).imp_right (List.mem_cons_of_mem x)
      · split at h
        · rcases List.mem_cons.mp h with h | h
          · exact .inl (by rw [h])
          · exact .inr (List.mem_cons_of_mem x h)
        · rcases List.mem_cons.mp h with h | h
          · exact .inl (by rw [h])
          · exact .inr h
  unfold sparseSet at h
  split at h
  · exact .inr (List.mem_filter.mp h).1
  · exact hinsert l h

/-- The codes of a map are those of its groups (R233). -/
def PseudoChannel.MapInRange (q : PseudoChannel) : Prop := ∀ e ∈ q.bins, e.1 < 393216

/-- Groups of a map take code N. -/
def PseudoChannel.dropCodes (rows : Nat) (adapt : Bool) (gone : List (Nat × BitVec 2)) (q : PseudoChannel) : PseudoChannel :=
  gone.foldl (fun k e => k.setCode rows adapt e.1 0) q

theorem PseudoChannel.dropCodes_frame {rows : Nat} (adapt : Bool) (gone : List (Nat × BitVec 2)) (q : PseudoChannel)
    (hr : rows = 16384 ∨ rows = 24576) (hq : q.MapInRange) (hg : ∀ e ∈ gone, e.1 < 393216) :
    CodesAlone rows q (q.dropCodes rows adapt gone) ∧ (q.dropCodes rows adapt gone).MapInRange := by
  refine List.foldlRecOn (motive := fun k : PseudoChannel => CodesAlone rows q k ∧ k.MapInRange) _ _ ⟨.refl rows q, hq⟩
    fun k hk e he => ⟨hk.1.trans (codesAlone_setCode k adapt 0 hr fun _ => hg e he), fun x hx => ?_⟩
  rw [PseudoChannel.setCode_bins] at hx
  rcases mem_sparseSet hx with h | h
  · rw [h]
    exact hg e he
  · exact hk.2 x h

/-- Of a machine nothing but codes of the maps, and the reserved rows that hold them, differs. -/
structure MapsCut (s t : State) : Prop where
  nv : t.nv = s.nv
  dens : t.dens = s.dens
  regs : ∀ c : Fin 32, t.chans[c].regs = s.chans[c].regs
  codes : ∀ (c : Fin 32) (p : Fin 2), CodesAlone s.rows s.chans[c].pcs[p] t.chans[c].pcs[p]
  range : ∀ (c : Fin 32) (p : Fin 2), t.chans[c].pcs[p].MapInRange

theorem MapsCut.rows {s t : State} (h : MapsCut s t) : t.rows = s.rows := State.rows_of_dens h.dens

theorem State.updPc_cases (s : State) (c : Ch) (p : Pc) (f : PseudoChannel → PseudoChannel) (d : Ch) (q : Pc) :
    (s.updPc c p f).chans[d].pcs[q] = if d = c ∧ q = p then f s.chans[d].pcs[q] else s.chans[d].pcs[q] := by
  by_cases hd : d = c
  · subst hd
    rw [State.updPc, State.updCh_self, Channel.updPc_at]
    simp only [true_and]
  · rw [if_neg fun h => hd h.1, State.updPc, State.updCh_other s _ hd]

theorem State.updPc_regs (s : State) (c : Ch) (p : Pc) (f : PseudoChannel → PseudoChannel) (d : Ch) :
    (s.updPc c p f).chans[d].regs = s.chans[d].regs := by
  by_cases hd : d = c
  · subst hd
    rw [State.updPc, State.updCh_self]
    rfl
  · rw [State.updPc, State.updCh_other s _ hd]

theorem MapsCut.reduceMap {s t : State} (h : MapsCut s t) (c : Ch) (p : Pc) (number : Nat) : MapsCut s (t.reduceMap c p number) := by
  obtain ⟨hnv, hdens, hregs, hcodes, hrange⟩ := h
  have hrows : t.rows = s.rows := State.rows_of_dens hdens
  have hone (d : Ch) (q : Pc) : CodesAlone s.rows s.chans[d].pcs[q] (t.reduceMap c p number).chans[d].pcs[q]
      ∧ (t.reduceMap c p number).chans[d].pcs[q].MapInRange := by
    unfold State.reduceMap
    rw [State.updPc_cases]
    split
    · next e =>
      obtain ⟨rfl, rfl⟩ := e
      have hdrop := t.chans[d].pcs[q].dropCodes_frame t.chans[d].regs.adaptAct (t.chans[d].pcs[q].bins.filter
        (fun e => Config.snapshotReduced number (pcUnit d q).val e.1)) t.rows_cases (hrange d q)
          fun e he => hrange d q e (List.mem_filter.mp he).1
      rw [hrows] at hdrop
      rw [hrows]
      exact ⟨(hcodes d q).trans hdrop.1, hdrop.2⟩
    · exact ⟨hcodes d q, hrange d q⟩
  exact ⟨hnv, hdens, fun d => (State.updPc_regs ..).trans (hregs d), fun d q => (hone d q).1, fun d q => (hone d q).2⟩

/-- Nothing of a pseudo-channel's map but its state differs, nor of its cells. -/
structure MapStays (q r : PseudoChannel) : Prop where
  cells : r.cells = q.cells
  bins : r.bins = q.bins
  weak : r.weak = q.weak

/-- The pseudo-channels of a list have become LOADED, the others are as they were. -/
structure Generated (l : List (Ch × Pc)) (s t : State) : Prop where
  maps : SameMaps s t
  dens : t.dens = s.dens
  stays : ∀ (c : Fin 32) (p : Fin 2), MapStays s.chans[c].pcs[p] t.chans[c].pcs[p]
  state : ∀ (c : Fin 32) (p : Fin 2), t.chans[c].pcs[p].mapState = if (c, p) ∈ l then .loaded else s.chans[c].pcs[p].mapState

theorem State.generated_pc (s : State) (c : Ch) (p : Pc) (d : Ch) (q : Pc) : (s.generated c p).chans[d].pcs[q]
    = if d = c ∧ q = p then { s.chans[d].pcs[q] with undurable := false, promoted := false, profiled := [], mapState := .loaded }
      else s.chans[d].pcs[q] := by
  unfold State.generated
  by_cases hd : d = c
  · subst hd
    rw [State.setMapState_chan, Channel.updPc_at, State.updPc_cases]
    by_cases hq : q = p
    · rw [if_pos hq, if_pos ⟨rfl, hq⟩, if_pos ⟨rfl, hq⟩]
    · rw [if_neg hq, if_neg fun h => hq h.2, if_neg fun h => hq h.2]
  · rw [(mapChange_setMapState ..).other d hd, State.updPc_cases, if_neg fun h => hd h.1, if_neg fun h => hd h.1]

theorem generated_fold (l : List (Ch × Pc)) (s : State) :
    Generated l s (l.foldl (fun (t : State) x => t.generated x.1 x.2) s) := by
  induction l generalizing s with
  | nil => exact ⟨.refl s, rfl, fun _ _ => ⟨rfl, rfl, rfl⟩, fun _ _ => by simp⟩
  | cons x xs ih =>
    obtain ⟨hmaps, hdens, hstays, hstate⟩ := ih (s.generated x.1 x.2)
    have hhead : SameMaps s (s.generated x.1 x.2) := by
      refine SameMaps.trans ?_ (sameMaps_setMapState ..)
      exact .of_nv rfl
    have hpc (c : Ch) (p : Pc) := s.generated_pc x.1 x.2 c p
    refine ⟨hhead.trans hmaps, hdens.trans ?_, fun c p => ?_, fun c p => ?_⟩
    · exact .trans (mapChange_setMapState ..).dens rfl
    · have h := hstays c p
      rw [hpc] at h
      split at h <;> exact ⟨h.cells, h.bins, h.weak⟩
    · rw [List.foldl_cons, hstate, hpc]
      by_cases hx : c = x.1 ∧ p = x.2
      · have hmem : (c, p) ∈ x :: xs := by
          obtain ⟨rfl, rfl⟩ := hx
          simp
        rw [if_pos hx, if_pos hmem]
        exact ite_self _
      · have hne : (c, p) ≠ x := fun e => hx (by rw [← e]; exact ⟨rfl, rfl⟩)
        rw [if_neg hx]
        simp [hne]

theorem pcUnit_inj {c d : Ch} {p q : Pc} (h : pcUnit c p = pcUnit d q) : c = d ∧ p = q := by
  have hval := congrArg Fin.val h
  unfold pcUnit at hval
  dsimp only at hval
  exact ⟨Fin.ext (by omega), Fin.ext (by omega)⟩

/-- A generation's map of a pseudo-channel is the one put into it. -/
theorem find_maps (F : Ch × Pc → Option MapImage) (c : Ch) (p : Pc) (l : List (Ch × Pc)) (h : (c, p) ∈ l) :
    ((l.filterMap (fun x => (F x).map (fun m => (pcUnit x.1 x.2, m)))).find? (fun x => x.1 == pcUnit c p)).map (·.2) = F (c, p) := by
  have hgen (l : List (Ch × Pc)) : ((l.filterMap (fun x => (F x).map (fun m => (pcUnit x.1 x.2, m)))).find?
      (fun x => x.1 == pcUnit c p)).map (·.2) = if (c, p) ∈ l then F (c, p) else none := by
    induction l with
    | nil => rfl
    | cons x xs ih =>
      cases hF : F x with
      | none =>
        rw [List.filterMap_cons_none (by rw [hF]; rfl), ih]
        by_cases hx : (c, p) = x
        · rw [← hx] at hF
          rw [hF]
          simp
        · simp [hx]
      | some m =>
        rw [List.filterMap_cons_some (by rw [hF]; rfl)]
        by_cases hx : (c, p) = x
        · subst hx
          rw [List.find?_cons_of_pos (by simp), hF]
          simp
        · rw [List.find?_cons_of_neg, ih]
          · simp [hx]
          · intro e
            obtain ⟨h1, h2⟩ := pcUnit_inj (eq_of_beq e)
            exact hx (Prod.ext h1.symm h2.symm)
  rw [hgen l, if_pos h]

theorem mem_allPcs (c : Ch) (p : Pc) : (c, p) ∈ allPcs := by
  unfold allPcs
  simp

/-- The maps that a generation would take from a machine, as it stands once it is reduced (R243). -/
def State.generationMaps (s s1 : State) : List (Fin 64 × MapImage) :=
  allPcs.filterMap (fun x =>
    (if s.mapStands x.1 x.2 then some (s1.chans[x.1].pcs[x.2]).liveMap else s.durable x.1 x.2).map (fun m => (pcUnit x.1 x.2, m)))

/-- The pseudo-channels whose live map stands. -/
def State.standing (s : State) : List (Ch × Pc) := allPcs.filter (fun x => s.mapStands x.1 x.2)

/-- The machine once the maps that stand are reduced to what a generation holds of them. -/
def State.reducedMaps (s : State) : State :=
  s.standing.foldl (fun (t : State) x => t.reduceMap x.1 x.2 (s.nv.gen + 1)) s

/-- The machine once a generation is written. -/
def State.wroteMaps (s : State) : State :=
  s.reducedMaps.updNv (·.writeGeneration (s.generationMaps s.reducedMaps) s.poolShort)

theorem State.mem_standing (s : State) (c : Ch) (p : Pc) : (c, p) ∈ s.standing ↔ s.mapStands c p = true := by
  unfold State.standing
  rw [List.mem_filter]
  exact ⟨fun h => h.2, fun h => ⟨mem_allPcs c p, h⟩⟩

theorem State.reducedMaps_nv (s : State) : s.reducedMaps.nv = s.nv :=
  List.foldlRecOn (motive := fun t : State => t.nv = s.nv) _ _ rfl fun _ ht _ _ => ht

theorem State.reducedMaps_frame {s : State} (h : ∀ (c : Ch) (p : Pc), s.chans[c].pcs[p].MapInRange) : MapsCut s s.reducedMaps :=
  List.foldlRecOn (motive := MapsCut s) _ _
    ⟨rfl, rfl, fun _ => rfl, fun _ _ => .refl _ _, h⟩ fun _ ht x _ => ht.reduceMap x.1 x.2 _

theorem exec_snapshotGeneration {s : State} (hb : s.power.booted = true) (hd : s.generationDue = true) :
    exec .snapshotGeneration s = .next (s.standing.foldl (fun (t : State) x => t.generated x.1 x.2) s.wroteMaps).evalHealth :=
  if_neg (by rw [hb, hd]; decide)

theorem State.wroteMaps_gen (s : State) : s.wroteMaps.nv.gen = s.nv.gen + 1 ∧ s.wroteMaps.nv.deltaLog = [] := by
  refine ⟨?_, rfl⟩
  change ((s.reducedMaps.nv.writeGeneration _ _).generation.map (·.number)).getD 0 = _
  rw [NonVolatile.writeGeneration_newest, State.reducedMaps_nv]
  rfl

theorem State.wroteMaps_durable {s : State} {c : Ch} {p : Pc} (h : s.mapStands c p = true) :
    s.wroteMaps.durable c p = some s.reducedMaps.chans[c].pcs[p].liveMap := by
  change (s.reducedMaps.nv.writeGeneration _ _).durable (pcUnit c p) = _
  rw [NonVolatile.writeGeneration_durable]
  refine (find_maps (fun x => if s.mapStands x.1 x.2 then some (s.reducedMaps.chans[x.1].pcs[x.2]).liveMap else s.durable x.1 x.2)
    c p allPcs (mem_allPcs c p)).trans ?_
  exact if_pos h

theorem Noted.pc {s t : State} (h : Noted s t) (c : Fin 32) (p : Fin 2) : t.chans[c].pcs[p] = s.chans[c].pcs[p] := by
  rw [h.pcs]

/-- A generation holds the live maps that stand (R243, R245). -/
theorem generation_holds (s : State) (hrange : ∀ (c : Ch) (p : Pc), s.chans[c].pcs[p].MapInRange) (c : Ch) (p : Pc) {t : State}
    (ht : t = (s.standing.foldl (fun (t : State) x => t.generated x.1 x.2) s.wroteMaps).evalHealth) :
    (s.mapStands c p = true → t.chans[c].pcs[p].mapState = .loaded ∧ t.durable c p = some t.chans[c].pcs[p].liveMap)
      ∧ (s.mapStands c p = false → t.chans[c].pcs[p].mapState = s.chans[c].pcs[p].mapState)
      ∧ ∀ a : Nat, accessReserved s.rows (a / 72) = false →
          t.chans[c].pcs[p].readByte t.rows a = s.chans[c].pcs[p].readByte s.rows a := by
  obtain ⟨hmaps, hdens, hstays, hstate⟩ := generated_fold s.standing s.wroteMaps
  generalize s.standing.foldl (fun (t : State) x => t.generated x.1 x.2) s.wroteMaps = u at ht hmaps hdens hstays hstate
  have hnote := noted_evalHealth u
  have hcut := State.reducedMaps_frame hrange
  have hpc := hnote.pc c p
  have hwrote : s.wroteMaps.chans = s.reducedMaps.chans := rfl
  obtain ⟨hcells, hbins, hweak⟩ := hstays c p
  have hst := hstate c p
  rw [hwrote] at hcells hbins hweak hst
  subst ht
  refine ⟨fun h => ⟨?_, ?_⟩, fun h => ?_, fun a ha => ?_⟩
  · rw [hpc, hst, if_pos ((s.mem_standing c p).mpr h)]
  · rw [(sameMaps_evalHealth u).durable, hmaps.durable, State.wroteMaps_durable h, hpc]
    unfold PseudoChannel.liveMap
    rw [hbins, hweak]
  · rw [hpc, hst, if_neg fun hm => by rw [(s.mem_standing c p).mp hm] at h; exact absurd h (by decide)]
    exact (hcut.codes c p).mapState
  · have hrows : u.evalHealth.rows = s.rows := State.rows_of_dens (hnote.dens.trans (hdens.trans hcut.dens))
    rw [hrows, hpc, (sameCells_of_cells hcells).readByte]
    exact (hcut.codes c p).bytes a ha

/-! ## The load at power-up (R244) -/

theorem Taper.mem_placeImage (t : Taper) (x y : Transfer) :
    y ∈ (t.placeImage x).images.map (·.2) ++ (t.placeImage x).held ↔ y = x ∨ y ∈ t.images.map (·.2) ++ t.held := by
  unfold Taper.placeImage
  split
  · simp only [List.map_append, List.map_cons, List.map_nil, List.mem_append, List.mem_singleton]
    tauto
  · simp only [List.mem_append, List.mem_singleton]
    tauto

/-- The images that wait for a channel. -/
def State.waiting (s : State) (c : Ch) : List Transfer := s.chans[c].taper.images.map (·.2) ++ s.chans[c].taper.held

theorem State.mem_waiting_postImage (s : State) (c d : Ch) (x y : Transfer) :
    y ∈ (s.postImage c x).waiting d ↔ (d = c ∧ y = x) ∨ y ∈ s.waiting d := by
  unfold State.waiting State.postImage
  by_cases hd : d = c
  · subst hd
    rw [State.updCh_self]
    exact (Taper.mem_placeImage ..).trans (by simp)
  · rw [State.updCh_other s _ hd]
    simp [hd]

/-- What the load at power-up has done of a pseudo-channel (R244, Table 8-7). -/
structure MapLoading (s t : State) (c : Ch) (p : Pc) : Prop where
  off : s.chans[c].regs.adaptAct = false → t.chans[c].pcs[p].mapState = .disabled
  on : s.chans[c].regs.adaptAct = true → t.chans[c].pcs[p].mapState = .fallback ∧ t.chans[c].pcs[p].bins = []
  load : s.chans[c].regs.adaptAct = true → t.durable c p = none ∨ .mapDone p none ∈ t.waiting c

/-- One more pseudo-channel's load: the others are as they were. -/
structure LoadStep (s t : State) (c : Ch) (p : Pc) : Prop where
  maps : SameMaps s t
  regs : ∀ d : Fin 32, t.chans[d].regs = s.chans[d].regs
  other : ∀ (d : Fin 32) (q : Fin 2), ¬ (d = c ∧ q = p) → t.chans[d].pcs[q] = s.chans[d].pcs[q]
  waits : ∀ d y, y ∈ s.waiting d → y ∈ t.waiting d

theorem LoadStep.trans {s t u : State} {c : Ch} {p : Pc} (h : LoadStep s t c p) (h' : LoadStep t u c p) : LoadStep s u c p :=
  ⟨h.maps.trans h'.maps, fun d => (h'.regs d).trans (h.regs d), fun d q hq => (h'.other d q hq).trans (h.other d q hq),
    fun d y hy => h'.waits d y (h.waits d y hy)⟩

theorem loadStep_updPc (s : State) (c : Ch) (p : Pc) (f : PseudoChannel → PseudoChannel) : LoadStep s (s.updPc c p f) c p := by
  refine ⟨.of_nv rfl, State.updPc_regs s c p f, fun d q h => ?_, fun d y hy => ?_⟩
  · rw [State.updPc_cases, if_neg h]
  · unfold State.waiting at hy ⊢
    by_cases hd : d = c
    · subst hd
      rw [State.updPc, State.updCh_self]
      exact hy
    · rw [State.updPc, State.updCh_other s _ hd]
      exact hy

theorem loadStep_postImage (s : State) (c : Ch) (p : Pc) (x : Transfer) : LoadStep s (s.postImage c x) c p := by
  refine ⟨.of_nv rfl, fun d => ?_, fun d q _ => ?_, fun d y hy => (s.mem_waiting_postImage c d x y).mpr (.inr hy)⟩
  · by_cases hd : d = c
    · subst hd
      rw [State.postImage, State.updCh_self]
      rfl
    · rw [State.postImage, State.updCh_other s _ hd]
  · by_cases hd : d = c
    · subst hd
      rw [State.postImage, State.updCh_self]
      rfl
    · rw [State.postImage, State.updCh_other s _ hd]

theorem loadStep_of_chans {s t : State} (c : Ch) (p : Pc) (hm : SameMaps s t) (hc : t.chans = s.chans) : LoadStep s t c p :=
  ⟨hm, fun d => by rw [hc], fun d q _ => by rw [hc], fun d y hy => by unfold State.waiting; rw [hc]; exact hy⟩

theorem loadStep_takeMapState (s : State) (c : Ch) (p : Pc) (m : MapState) : LoadStep s (s.takeMapState c p m) c p := by
  have hfirst := loadStep_updPc s c p (fun q => { q with mapState := m })
  unfold State.takeMapState
  split
  · exact hfirst.trans (loadStep_of_chans c p ⟨rfl, rfl, rfl⟩ rfl)
  · exact hfirst.trans (loadStep_of_chans c p ⟨rfl, rfl, rfl⟩ rfl)
  · exact hfirst.trans (loadStep_of_chans c p ⟨rfl, rfl, rfl⟩ rfl)
  · exact hfirst

/-- The rows of a map that is loaded wait for the channel, and then the word that ends the load (R244). -/
theorem startMapLoad_frame (s : State) (c : Ch) (p : Pc) (m : MapImage) (old : Option MapState) :
    LoadStep s (s.startMapLoad c p m old) c p
      ∧ (s.startMapLoad c p m old).chans[c].pcs[p].mapState = .fallback ∧ (s.startMapLoad c p m old).chans[c].pcs[p].bins = []
      ∧ .mapDone p old ∈ (s.startMapLoad c p m old).waiting c := by
  have hfirst := loadStep_updPc s c p (fun q => { q with mapState := .fallback, bins := [], weak := [], lostMap := [] })
  have hpc (u : State) (x : Transfer) : (u.postImage c x).chans[c].pcs = u.chans[c].pcs := by
    rw [State.postImage, State.updCh_self]
    rfl
  have hrows := List.foldlRecOn (motive := fun t : State => LoadStep s t c p ∧ t.chans[c].pcs[p].mapState = .fallback
      ∧ t.chans[c].pcs[p].bins = []) (List.range 128)
    (fun (t : State) row => t.postImage c (.map p row (m.rowBytes row)))
    ⟨hfirst, by rw [State.updPc_at], by rw [State.updPc_at]⟩
    fun t ht row _ => ⟨ht.1.trans (loadStep_postImage ..), by rw [hpc]; exact ht.2.1, by rw [hpc]; exact ht.2.2⟩
  unfold State.startMapLoad
  generalize (List.range 128).foldl _ _ = u at hrows ⊢
  obtain ⟨hstep, hstate, hbins⟩ := hrows
  refine ⟨hstep.trans (loadStep_postImage ..), ?_, ?_, (State.mem_waiting_postImage ..).mpr (.inl ⟨rfl, rfl⟩)⟩
  · rw [hpc]
    exact hstate
  · rw [hpc]
    exact hbins

theorem takeUpMap_frame (s : State) (c : Ch) (p : Pc) (old : Option MapState) : LoadStep s (s.takeUpMap c p old) c p
    ∧ (s.takeUpMap c p old).chans[c].pcs[p].mapState = .fallback ∧ (s.takeUpMap c p old).chans[c].pcs[p].bins = []
    ∧ ((s.takeUpMap c p old).durable c p = none ∨ .mapDone p old ∈ (s.takeUpMap c p old).waiting c) := by
  unfold State.takeUpMap
  split
  · next m h =>
    obtain ⟨hstep, hstate, hbins, hdone⟩ := startMapLoad_frame s c p m old
    exact ⟨hstep, hstate, hbins, .inr hdone⟩
  · next h =>
    have hstep := (loadStep_updPc s c p (fun q => { q with bins := [], weak := [], lostMap := [] })).trans
      (loadStep_takeMapState _ c p .fallback)
    have hpc : ((s.updPc c p (fun q => { q with bins := [], weak := [], lostMap := [] })).takeMapState c p .fallback).chans[c].pcs[p]
        = { s.chans[c].pcs[p] with bins := [], weak := [], lostMap := [], mapState := .fallback } := by
      rw [State.takeMapState_chans, State.updPc_at, State.updPc_at]
    generalize (s.updPc c p _).takeMapState c p .fallback = u at hstep hpc ⊢
    have hall : ∀ t : State, SameMaps u t → t.chans = u.chans → LoadStep s t c p ∧ t.chans[c].pcs[p].mapState = .fallback
        ∧ t.chans[c].pcs[p].bins = [] ∧ (t.durable c p = none ∨ .mapDone p old ∈ t.waiting c) := fun t hm hc =>
      ⟨hstep.trans (loadStep_of_chans c p hm hc), by rw [hc, hpc], by rw [hc, hpc],
        .inl ((hm.durable c p).trans ((hstep.maps.durable c p).trans h))⟩
    dsimp only
    split
    · exact hall _ (sameMaps_reportMapState ..) (State.reportMapState_chans ..)
    · exact hall u (.refl u) rfl

theorem loadMapOf_frame (s : State) (c : Ch) (p : Pc) : LoadStep s (s.loadMapOf c p) c p ∧ MapLoading s (s.loadMapOf c p) c p := by
  have hfirst := loadStep_updPc s c p (fun q => { q with profiled := [] })
  unfold State.loadMapOf
  dsimp only
  split
  · next h =>
    obtain ⟨hstep, hstate, hbins, hdone⟩ := takeUpMap_frame (s.updPc c p (fun q => { q with profiled := [] })) c p none
    exact ⟨hfirst.trans hstep, fun hf => absurd (h.symm.trans hf) (by decide), fun _ => ⟨hstate, hbins⟩, fun _ => hdone⟩
  · next h =>
    refine ⟨hfirst.trans (loadStep_updPc ..), fun _ => ?_, fun hf => absurd hf h, fun hf => absurd hf h⟩
    rw [State.updPc_at]

/-- A load that has been done stands while others follow. -/
theorem MapLoading.step {s t u : State} {c d : Ch} {p q : Pc} (h : MapLoading s t c p) (hs : LoadStep t u d q) (hne : (c, p) ≠ (d, q)) :
    MapLoading s u c p := by
  obtain ⟨hoff, hon, hload⟩ := h
  have hpc : u.chans[c].pcs[p] = t.chans[c].pcs[p] := hs.other c p fun e => hne (Prod.ext e.1 e.2)
  exact ⟨fun h => by rw [hpc]; exact hoff h, fun h => by rw [hpc]; exact hon h,
    fun h => (hload h).imp (hs.maps.durable c p).trans (hs.waits c _)⟩

theorem loads_fold (l : List (Ch × Pc)) (s : State) :
    SameMaps s (l.foldl (fun (t : State) x => t.loadMapOf x.1 x.2) s)
      ∧ (∀ d : Fin 32, (l.foldl (fun (t : State) x => t.loadMapOf x.1 x.2) s).chans[d].regs = s.chans[d].regs)
      ∧ ∀ (c : Ch) (p : Pc), (c, p) ∈ l → MapLoading s (l.foldl (fun (t : State) x => t.loadMapOf x.1 x.2) s) c p := by
  induction l using List.reverseRecOn with
  | nil => exact ⟨.refl s, fun _ => rfl, fun _ _ h => absurd h (by simp)⟩
  | append_singleton xs x ih =>
    rw [List.foldl_append]
    generalize xs.foldl (fun (t : State) x => t.loadMapOf x.1 x.2) s = t at ih ⊢
    obtain ⟨hmaps, hregs, hloads⟩ := ih
    obtain ⟨hstep, hload⟩ := loadMapOf_frame t x.1 x.2
    refine ⟨hmaps.trans hstep.maps, fun d => (hstep.regs d).trans (hregs d), fun c p hcp => ?_⟩
    by_cases hx : (c, p) = x
    · subst hx
      obtain ⟨h1, h2, h3⟩ := hload
      rw [hregs c] at h1 h2 h3
      exact ⟨h1, h2, h3⟩
    · exact (hloads c p (by simpa [hx] using hcp)).step hstep hx

/-- What Lantern C finds of the maps in Quince: of each slot what it holds or none, of the log at most what it holds (R244). -/
theorem NonVolatile.readMaps_frame (n : NonVolatile) (unread : BitVec 3) (lost : List (Nat × BitVec 2)) (hours : Bool) :
    (∀ k : Fin 3, (n.readMaps unread lost hours).slots[k] = n.slots[k] ∨ (n.readMaps unread lost hours).slots[k] = none)
      ∧ (n.readMaps unread lost hours).deltaLog.Sublist n.deltaLog := by
  refine ⟨fun k => ?_, List.filter_sublist⟩
  unfold NonVolatile.readMaps
  simp only [Fin.getElem_fin, Vector.getElem_mapFinIdx]
  split
  · exact .inr rfl
  · exact .inl rfl

theorem State.readSlots_frame (s : State) : s.readSlots.nv = s.nv ∧ s.readSlots.chans = s.chans := by
  refine List.foldlRecOn (motive := fun t : State => t.nv = s.nv ∧ t.chans = s.chans) _ _ ⟨rfl, rfl⟩ fun t ht i _ => ?_
  unfold State.dmaRead
  split <;> exact ht

theorem State.findMaps_frame (s : State) : s.findMaps.chans = s.chans
    ∧ (∀ k : Fin 3, s.findMaps.nv.slots[k] = s.nv.slots[k] ∨ s.findMaps.nv.slots[k] = none)
    ∧ s.findMaps.nv.deltaLog.Sublist s.nv.deltaLog := by
  have hlost : ∀ (l : List DeltaRec) (acc : List (Nat × BitVec 2) × State), acc.2.nv = s.nv → acc.2.chans = s.chans →
      (l.foldl (fun (acc : List (Nat × BitVec 2) × State) d =>
        let (copies, t) := acc.2.free 2
        (acc.1 ++ [(d.seq, copies)], t)) acc).2.nv = s.nv ∧ (l.foldl (fun (acc : List (Nat × BitVec 2) × State) d =>
        let (copies, t) := acc.2.free 2
        (acc.1 ++ [(d.seq, copies)], t)) acc).2.chans = s.chans := by
    intro l
    induction l with
    | nil => exact fun acc hn hc => ⟨hn, hc⟩
    | cons d ds ih => exact fun acc hn hc => ih _ hn hc
  obtain ⟨hn, hc⟩ := hlost s.nv.deltaLog ([], (s.free 4).2) rfl rfl
  unfold State.findMaps
  dsimp only
  dsimp only at hn hc
  generalize List.foldl _ ([], (s.free 4).2) s.nv.deltaLog = acc at hn hc ⊢
  refine ⟨hc, ?_⟩
  have hread := acc.2.nv.readMaps_frame (((s.free 4).1.extractLsb' 0 3) ||| s.hiddenSlots) acc.1 ((s.free 4).1.getLsbD 3)
  rw [hn] at hread
  refine ⟨fun k => ?_, ?_⟩
  · exact (congrArg (fun n : NonVolatile => (n.readMaps _ acc.1 _).slots[k] = s.nv.slots[k]
      ∨ (n.readMaps _ acc.1 _).slots[k] = none) hn).mpr (hread.1 k)
  · exact (congrArg (fun n : NonVolatile => (n.readMaps _ acc.1 _).deltaLog.Sublist s.nv.deltaLog) hn).mpr hread.2

theorem exec_mapLoad {s : State} (hb : s.power.booted = true) : ∃ t, exec .mapLoad s = .next t ∧ memKept s t
    ∧ (∀ k : Fin 3, t.nv.slots[k] = s.nv.slots[k] ∨ t.nv.slots[k] = none) ∧ t.nv.deltaLog.Sublist s.nv.deltaLog
    ∧ ∀ (c : Ch) (p : Pc), MapLoading s t c p := by
  obtain ⟨hnv, hchans⟩ := s.readSlots_frame
  obtain ⟨hfound, hslots, hlog⟩ := s.readSlots.findMaps_frame
  rw [hnv] at hslots hlog
  rw [hchans] at hfound
  obtain ⟨hmaps, -, hloads⟩ := loads_fold allPcs s.readSlots.findMaps
  have hcells : (allPcs.foldl (fun (t : State) x => t.loadMapOf x.1 x.2) s.readSlots.findMaps).evalHealth.cells = s.cells := by
    have hfold := foldl_cells (f := fun (t : State) (x : Ch × Pc) => t.loadMapOf x.1 x.2) (fun t x => t.loadMapOf_cells x.1 x.2)
      allPcs s.readSlots.findMaps
    exact (State.evalHealth_cells _).trans (hfold.trans (s.readSlots.findMaps_cells.trans s.readSlots_cells))
  refine ⟨_, congrArg Host.Outcome.next (if_pos hb), memKept_of_cells hcells, ?_⟩
  generalize allPcs.foldl (fun (t : State) x => t.loadMapOf x.1 x.2) s.readSlots.findMaps = u at hmaps hloads ⊢
  have hall := hmaps.trans (sameMaps_evalHealth u)
  have hnote := noted_evalHealth u
  refine ⟨fun k => ?_, ?_, fun c p => ?_⟩
  · rw [hall.slots]
    exact hslots k
  · rw [hall.log]
    exact hlog
  · obtain ⟨hoff, hon, hload⟩ := hloads c p (mem_allPcs c p)
    rw [hfound] at hoff hon hload
    refine ⟨fun h => by rw [hnote.pc]; exact hoff h, fun h => by rw [hnote.pc]; exact hon h, fun h => (hload h).imp ?_ ?_⟩
    · exact ((sameMaps_evalHealth u).durable c p).trans
    · intro hw
      obtain ⟨x, hx⟩ := hnote.chan c
      unfold State.waiting
      rw [hx]
      exact hw

/-- The last image of a load takes up the state of its map (R244). -/
theorem exec_mapDone {c : Ch} {p : Pc} {n : Nat} {old : Option MapState} {rest : List (Nat × Transfer)} {s : State}
    (h : s.chans[c].taper.images = (n, .mapDone p old) :: rest) :
    ∃ t, exec (.transferImageTake c) s = .next t ∧ memKept s t ∧ t.chans[c].taper.imageTaken = n
      ∧ t.chans[c].pcs[p].mapState = mapStateOf (s.durable c p) := by
  have htaken : (s.chans[c].updTaper (·.takeOldest)).taper.imageTaken = n := by
    change s.chans[c].taper.takeOldest.imageTaken = n
    unfold Taper.takeOldest
    rw [h]
    dsimp only
    split
    · rfl
    · unfold Taper.placeImage
      split <;> rfl
  have hexec : exec (.transferImageTake c) s = .next ((s.updCh c (·.updTaper (·.takeOldest))).takeImage c (.mapDone p old)) := by
    change execTransferImageTake c s = _
    rw [execTransferImageTake, h]
  have hchans : ((s.updCh c (·.updTaper (·.takeOldest))).takeImage c (.mapDone p old)).chans
      = ((s.updCh c (·.updTaper (·.takeOldest))).takeMapState c p (mapStateOf (s.durable c p))).chans := by
    cases old with
    | none => rfl
    | some k => exact State.reportMapState_chans ..
  rw [State.takeMapState_chans] at hchans
  have hcells : ((s.updCh c (·.updTaper (·.takeOldest))).takeImage c (.mapDone p old)).cells = s.cells := by
    cases old <;> simp [State.takeImage]
  refine ⟨_, hexec, memKept_of_cells hcells, ?_, ?_⟩
  · rw [hchans, State.updPc, State.updCh_self, State.updCh_self]
    exact htaken
  · rw [hchans, State.updPc_at]

/-- A generation that is due (R243): the one obligation's clause, with its map facts for every machine whose maps are in range. -/
theorem exec_snapshotGeneration_frame {s : State} (hb : s.power.booted = true) (hd : s.generationDue = true) :
    ∃ t, exec .snapshotGeneration s = .next t ∧ t.nv.gen = s.nv.gen + 1 ∧ t.nv.deltaLog = [] ∧ t.nv.user = s.nv.user
      ∧ ((∀ (c : Ch) (p : Pc), s.chans[c].pcs[p].MapInRange) → ∀ (c : Ch) (p : Pc),
        (s.mapStands c p = true → t.chans[c].pcs[p].mapState = .loaded ∧ t.durable c p = some t.chans[c].pcs[p].liveMap)
        ∧ (s.mapStands c p = false → t.chans[c].pcs[p].mapState = s.chans[c].pcs[p].mapState)
        ∧ ∀ a : Nat, accessReserved s.rows (a / 72) = false →
            t.chans[c].pcs[p].readByte t.rows a = s.chans[c].pcs[p].readByte s.rows a) := by
  obtain ⟨hmaps, -⟩ := generated_fold s.standing s.wroteMaps
  have hall := hmaps.trans (sameMaps_evalHealth _)
  obtain ⟨hgen, hlog⟩ := s.wroteMaps_gen
  have hexec := exec_snapshotGeneration hb hd
  exact ⟨_, hexec, hall.gen.trans hgen, hall.log.trans hlog,
    congrArg (fun k => k.store.1) (execSnapshotGeneration_kept s _ hexec), fun hrange c p => generation_holds s hrange c p rfl⟩

/-- Settles O36: a generation by what it holds, the load by its steps, its last image by the state taken up. -/
theorem mapsLoadAndGenerate : Obligations.MapsLoadAndGenerate := by
  refine ⟨fun s hb hd => ?_, fun s hb => ?_, fun c p n old rest s h => exec_mapDone h⟩
  · obtain ⟨t, -, -, -, -, hholds⟩ := exec_snapshotGeneration_frame hb hd
    exact ⟨t, fun ⟨_, _, _, _, hrange⟩ => hholds hrange⟩
  · obtain ⟨t, ht, hmem, hslots, hlog, hloads⟩ := exec_mapLoad hb
    exact ⟨t, ht, hmem, hslots, hlog, fun c p => ⟨(hloads c p).off, (hloads c p).on, (hloads c p).load⟩⟩

end Sys2Proof.Machine

/-! # The end of a Quince operation in a domain that is off (R334, R435) -/

namespace Sys2Proof.Machine

open Sys2Proof.Safety

/-- An operation with nothing to make valid. -/
def plainErase : NvOp := { kind := .eraseMain, sector := none, cont := .nothing, owner := none }

/-- A machine whose Quince domain is off while an operation runs and a baseline record waits: no hypothesis excludes it. -/
def erasingOff : State := { State.reset with
  power := { State.reset.power with booted := true, quinceOff := true }
  mgmt := { State.reset.mgmt with ready := true, baseDue := true }
  quince := { State.reset.quince with op := some plainErase } }

/-- The machine once the operation has ended. -/
def State.eraseEnded (s : State) : State := { s with
  mgmt := { s.mgmt with stall := false }
  quince := { s.quince with op := none, status := some .ok, result := if s.mgmt.ready then none else some (true, 0) } }

theorem exec_plainErase_ends {s : State} (h : s.quince.op = some plainErase) :
    exec (.quinceOpComplete true 0 { atProgram := 0, atErase := 0 }) s = .next (s.eraseEnded.driveBaselines).keepErased := by
  change execQuinceOpComplete true 0 { atProgram := 0, atErase := 0 } s = _
  unfold execQuinceOpComplete
  rw [h]
  rfl

/-- The record that waits wakes the domain, and the Lantern that asks for it stalls (R212, R334). -/
theorem State.driveBaselines_off {s : State} (hd : s.mgmt.baseDue = true) (hr : s.mgmt.ready = true) (ho : s.power.quinceOff = true) :
    s.driveBaselines.mgmt.stall = true ∧ s.driveBaselines.nvFree = false := by
  have hbusy : s.nvFree = false := by
    unfold State.nvFree
    rw [ho]
    simp
  unfold State.driveBaselines State.withQuince State.wakeQuince
  rw [hd, hr, if_neg (by decide), hbusy, if_neg Bool.false_ne_true, ho, if_pos rfl]
  exact ⟨rfl, hbusy⟩

theorem State.keepErased_busy {s : State} (h : s.nvFree = false) : s.keepErased = s := by
  unfold State.keepErased
  rw [h, Bool.and_false, Bool.false_and, if_neg Bool.false_ne_true]

/-- Refutes O43: with the domain off and a baseline record waiting, the end of an operation wakes the domain, and its Lantern stalls. -/
theorem not_storesAndQuince : ¬ Obligations.StoresAndQuince := by
  rintro ⟨-, h⟩
  obtain ⟨hends, -⟩ := h plainErase erasingOff rfl
  obtain ⟨t, ht, -, hstall, -⟩ := hends true 0 { atProgram := 0, atErase := 0 }
  obtain ⟨hwoken, hbusy⟩ := erasingOff.eraseEnded.driveBaselines_off rfl rfl rfl
  rw [exec_plainErase_ends rfl, State.keepErased_busy hbusy] at ht
  cases ht
  exact absurd (hwoken.symm.trans hstall) (by decide)

end Sys2Proof.Machine

/-! # Identity, telemetry and clock answer and do nothing else (R363, R382 to R418) -/

namespace Sys2Proof.Machine

open Sys2Proof.Safety

section
variable {k : Slot} {x : Cmd} {s : State}

/-- A telemetry command with an empty request answers from the snapshot (R363). -/
theorem telemetry_reports {i : Instr} {op : BitVec 16} (hi : exec i s = .next (s.telemetry k op)) (hl : listedOp op = true)
    (hp : privilegedOp op = false) (hb : x.payload = []) (h : served s k x op) :
    reports i s k x (snapResp s (s.snapOf op.toNat 0)) := by
  refine reports_of_served h hi hl (isOp_of_opcode (opcode_of_served h)) hp ?_
  exact State.valid_true s k x (by rw [hb]; rfl) _

theorem fieldAt_bytes (a b : Nat) (ha : a < 256) (hb : b < 256) : fieldAt [byteOf a, byteOf b, 0, 0] 0 1 = a
    ∧ fieldAt [byteOf a, byteOf b, 0, 0] 1 1 = b ∧ shaped [byteOf a, byteOf b, 0, 0] 4 [2, 3] = true := by
  refine ⟨?_, ?_, rfl⟩
  · simp [byteOf]
    omega
  · simp [byteOf]
    omega

/-- A telemetry command of pseudo-channels answers from the snapshot (R390, R397, R399). -/
theorem pcTelemetry_reports {i : Instr} {op : BitVec 16} {c : Ch} {m : Fin 4} (hm : m ≠ 0)
    (hi : exec i s = .next (s.pcTelemetry k op)) (hl : listedOp op = true) (hp : privilegedOp op = false)
    (hb : x.payload = [byteOf c.val, byteOf m.val, 0, 0]) (h : served s k x op) :
    reports i s k x (snapResp s ((maskPcs m.val).flatMap (fun p => s.snapOf op.toNat (2 * c.val + p.val)))) := by
  obtain ⟨hch, hmask, hshape⟩ := fieldAt_bytes c.val m.val (by omega) (by omega)
  have hpos : 0 < m.val := Nat.pos_of_ne_zero fun e => hm (Fin.ext e)
  refine reports_of_served h hi hl (isOp_of_opcode (opcode_of_served h)) hp ?_
  rw [hb, hch, hmask, hshape]
  refine (State.valid_true s k x ?_ _).trans rfl
  simp [pcMaskOk, hpos]

theorem calStatus_reports {c : Ch} {part : Fin 3} (hb : x.payload = [byteOf c.val, byteOf part.val, 0, 0])
    (h : served s k x 0x0400) :
    reports (.calStatus k) s k x (snapResp s ([byteOf c.val, byteOf part.val, byteOf s.coefficients.toNat,
      byteOf (partLanes part.val).length] ++ s.snapOf 0x0400 (8 * c.val + 2 * part.val + s.coefficients.toNat))) := by
  obtain ⟨hch, hpart, hshape⟩ := fieldAt_bytes c.val part.val (by omega) (by omega)
  refine reports_of_served h rfl (by decide) (isOp_of_opcode (opcode_of_served h)) (by decide) ?_
  dsimp only
  rw [hb, hch, hpart, hshape]
  refine (State.valid_true s k x ?_ _).trans rfl
  simp

theorem spares_reports {c : Ch} {p : Pc} (hb : x.payload = [byteOf c.val, byteOf p.val, 0, 0]) (h : served s k x 0x0704) :
    reports (.spares k) s k x (snapResp s (s.snapOf 0x0704 (2 * c.val + p.val))) := by
  obtain ⟨hch, hpc, hshape⟩ := fieldAt_bytes c.val p.val (by omega) (by omega)
  refine reports_of_served h rfl (by decide) (isOp_of_opcode (opcode_of_served h)) (by decide) ?_
  dsimp only
  rw [hb, hch, hpc, hshape]
  refine (State.valid_true s k x ?_ _).trans rfl
  simp
  omega

theorem getId_reports (hb : x.payload = []) (h : served s k x 0x0100) : reports (.getId k) s k x (okResp s.idPayload) := by
  refine reports_of_served h rfl (by decide) (isOp_of_opcode (opcode_of_served h)) (by decide) ?_
  exact State.valid_true s k x (by rw [hb]; rfl) _

theorem getCaps_reports (hb : x.payload = []) (h : served s k x 0x0102) : reports (.getCaps k) s k x (okResp capsPayload) := by
  refine reports_of_served h rfl (by decide) (isOp_of_opcode (opcode_of_served h)) (by decide) ?_
  exact State.valid_true s k x (by rw [hb]; rfl) _

theorem clkStatus_reports (hb : x.payload = []) (h : served s k x 0x0B00) :
    reports (.clkStatus k) s k x (okResp (s.clkPayload s.sessions[k].transport)) := by
  refine reports_of_served h rfl (by decide) (isOp_of_opcode (opcode_of_served h)) (by decide) ?_
  exact State.valid_true s k x (by rw [hb]; rfl) _

end

/-- Settles O49: each command by what its row answers. -/
theorem jmpTelemetryAnswers : Obligations.JmpTelemetryAnswers := by
  intro k x s
  refine ⟨fun hb => ⟨getId_reports hb, getCaps_reports hb, telemetry_reports rfl (by decide) (by decide) hb,
    telemetry_reports rfl (by decide) (by decide) hb, telemetry_reports rfl (by decide) (by decide) hb,
    telemetry_reports rfl (by decide) (by decide) hb, clkStatus_reports hb⟩, fun c m hm hb => ⟨?_, ?_, ?_⟩,
    fun c part hb h => calStatus_reports hb h, fun c p hb h => spares_reports hb h⟩
  · exact pcTelemetry_reports hm rfl (by decide) (by decide) hb
  · exact pcTelemetry_reports hm rfl (by decide) (by decide) hb
  · exact pcTelemetry_reports hm rfl (by decide) (by decide) hb

end Sys2Proof.Machine

/-! # The session's own commands (R358, R360, R361, R420, R421) -/

namespace Sys2Proof.Machine

open Sys2Proof.Safety

/-! ## An answer after a change of the session -/

theorem Session.respond_cmds (y : Session) (seq : BitVec 16) (r : Response) : (y.respond seq r).cmds
    = y.cmds.map (fun c => if c.seq == seq then (if y.cmds.any (fun c => c.seq == seq && c.state != .done) then
        { c with state := .done, resp := some r } else c) else c) := by
  unfold Session.respond
  split
  · rfl
  · simp

/-- A response leaves of a session all but its commands. -/
theorem Session.respond_frame (y : Session) (seq : BitVec 16) (r : Response) :
    y.respond seq r = { y with cmds := (y.respond seq r).cmds, done := (y.respond seq r).done } := by
  unfold Session.respond
  split <;> rfl

section
variable {s : State} {k : Slot} {x : Cmd}

/-- The session that has answered a command. -/
theorem State.answer_at (s : State) (k : Slot) (x : Cmd) (r : Response) :
    (s.answer k x r).sessions[k] = ({ s.sessions[k] with parked := false } : Session).respond x.seq r := by
  unfold State.answer
  rw [State.respond_sessions, State.updSession_self]
  unfold State.takeTurn
  rw [State.updSession_self]
  rfl

variable {f : Session → Session} (hf : ∀ y : Session, (f y).cmds = y.cmds)
include hf

theorem find_updSession (seq : BitVec 16) : (s.updSession k f).sessions[k].find seq = s.sessions[k].find seq := by
  rw [State.updSession_self]
  unfold Session.find
  rw [hf]

variable (hfind : s.sessions[k].find x.seq = some x) (hp : privilegedOp x.opcode = false) (r : Response)
include hfind

/-- A row that changes its session and answers changes nothing else. -/
theorem onlySession_updAnswer (hp : privilegedOp x.opcode = false) : onlySession s ((s.updSession k f).answer k x r) k := by
  obtain ⟨he, hother⟩ := onlySession_answer (s := s.updSession k f) r ((find_updSession hf x.seq).trans hfind) hp
  refine ⟨?_, fun j hj => (hother j hj).trans (State.updSession_other s f hj)⟩
  rw [he]
  rfl

theorem answered_updAnswer (hd : x.state ≠ .done) : answered ((s.updSession k f).answer k x r) k x r :=
  State.answer_answered _ k x r ((find_updSession hf x.seq).trans hfind) hd

omit hf hfind in
theorem updAnswer_at : ((s.updSession k f).answer k x r).sessions[k]
    = ({ f s.sessions[k] with parked := false } : Session).respond x.seq r := by
  rw [State.answer_at, State.updSession_self]

end

/-! ## OPEN, events (R539, R420, R421) -/

section
variable {k : Slot} {x : Cmd} {s : State}

theorem open_answers {lease mask : Nat} (hl : lease ≤ 3600) (hm : mask < 2 ^ 32)
    (hb : x.payload = natBytes 2 lease ++ natBytes 4 mask ++ [0, 0]) (h : served s k x opOpen) :
    ∃ t, exec (.open_ k) s = .next t ∧ onlySession s t k
      ∧ answered t k x (okResp ([transportCode s.sessions[k].transport, 0]
          ++ natBytes 2 (if lease = 0 then 10 else lease) ++ [4, 0, 0, 0]))
      ∧ t.sessions[k].lease = (if lease = 0 then 10 else lease) ∧ t.sessions[k].mask = BitVec.ofNat 32 mask := by
  have hop := opcode_of_served h
  have hlf : fieldAt x.payload 0 2 = lease := by rw [hb, List.append_assoc, fieldAt_natBytes (by omega)]
  have hmf : fieldAt x.payload 2 4 = mask := by
    rw [hb, List.append_assoc, fieldAt_behind 2 lease _ 0 4, fieldAt_natBytes (by omega)]
  have hshape : (shaped x.payload 8 [6, 7] && decide (lease ≤ 3600)) = true := by
    rw [decide_eq_true hl, Bool.and_true]
    simp [hb, shaped, natBytes, List.range_succ]
  have hx := next_of_served (i := .open_ k) h rfl (by decide) (isOp_of_opcode hop)
  unfold State.openCmd at hx
  dsimp only at hx
  rw [hlf, hmf, if_pos hshape, State.ok_eq_answer] at hx
  refine ⟨_, hx, onlySession_updAnswer (by exact fun _ => rfl) (find_of_served h) _ (by rw [hop]; decide),
    answered_updAnswer (by exact fun _ => rfl) (find_of_served h) _ (not_done_of_served h), ?_, ?_⟩
  · rw [updAnswer_at, Session.respond_frame]
  · rw [updAnswer_at, Session.respond_frame]

theorem eventPoll_answers {n : Fin 31} (hn : n ≠ 0) (hb : x.payload = [byteOf n.val, 0, 0, 0]) (h : served s k x 0x0C00) :
    ∃ t, exec (.eventPoll k) s = .next t ∧ onlySession s t k
      ∧ answered t k x (okResp ([byteOf (min n.val s.sessions[k].events.length), byteOf (min s.sessions[k].lost 255), 0, 0]
          ++ (s.sessions[k].events.take n.val).flatMap (·.bytes)))
      ∧ t.sessions[k].events = s.sessions[k].events.drop n.val ∧ t.sessions[k].lost = 0 := by
  have hop := opcode_of_served h
  have hnf : fieldAt x.payload 0 1 = n.val := by
    rw [hb]
    exact (fieldAt_bytes n.val 0 (by omega) (by decide)).1
  have hpos : 1 ≤ n.val := Nat.pos_of_ne_zero fun e => hn (Fin.ext e)
  have hx := next_of_served (i := .eventPoll k) h rfl (by decide) (isOp_of_opcode hop)
  dsimp only at hx
  rw [hnf, State.valid_true s k x (by simp [hb, shaped, hpos]; omega), State.ok_eq_answer] at hx
  refine ⟨_, hx, onlySession_updAnswer (by exact fun _ => rfl) (find_of_served h) _ (by rw [hop]; decide),
    answered_updAnswer (by exact fun _ => rfl) (find_of_served h) _ (not_done_of_served h), ?_, ?_⟩
  · rw [updAnswer_at, Session.respond_frame]
  · rw [updAnswer_at, Session.respond_frame]

theorem eventMask_answers {mask : Nat} (hm : mask < 2 ^ 32) (hb : x.payload = natBytes 4 mask) (h : served s k x 0x0C01) :
    ∃ t, exec (.eventMask k) s = .next t ∧ onlySession s t k ∧ answered t k x (okResp (wordBytes s.sessions[k].mask))
      ∧ t.sessions[k].mask = BitVec.ofNat 32 mask ∧ t.sessions[k].events = s.sessions[k].events := by
  have hop := opcode_of_served h
  have hmf : fieldAt x.payload 0 4 = mask := by
    rw [hb, ← List.append_nil (natBytes 4 mask), fieldAt_natBytes (by omega)]
  have hx := next_of_served (i := .eventMask k) h rfl (by decide) (isOp_of_opcode hop)
  rw [hmf, State.valid_true s k x (by simp [hb]), State.ok_eq_answer] at hx
  refine ⟨_, hx, onlySession_updAnswer (by exact fun _ => rfl) (find_of_served h) _ (by rw [hop]; decide),
    answered_updAnswer (by exact fun _ => rfl) (find_of_served h) _ (not_done_of_served h), ?_, ?_⟩
  · rw [updAnswer_at, Session.respond_frame]
  · rw [updAnswer_at, Session.respond_frame]

theorem list_reports (hb : x.payload = []) (h : served s k x 0x0005) : ∃ r, reports (.list k) s k x (okResp r)
    ∧ r.take 1 = [byteOf ((List.finRange 16).filter (fun j => s.sessions[j].live)).length] := by
  refine ⟨_, reports_of_served h rfl (by decide) (isOp_of_opcode (opcode_of_served h)) (by decide)
    (State.valid_true s k x (by rw [hb]; rfl) _), ?_⟩
  rfl

end

/-! ## Urgent commands (R360) -/

section
variable {k : Slot} {x : Cmd} {s : State} {op : BitVec 16} (h : servedUrgent s k x op)
include h

theorem find_of_servedUrgent : s.sessions[k].find x.seq = some x := by
  obtain ⟨-, -, hfind, -⟩ := h
  exact hfind

theorem opcode_of_servedUrgent : x.opcode = op := by
  obtain ⟨-, -, -, hop⟩ := h
  exact hop

theorem queued_of_servedUrgent : x.state = .queued := by
  obtain ⟨-, hurgent, -⟩ := h
  have hx := List.find?_some hurgent
  simp only [Bool.and_eq_true, beq_iff_eq] at hx
  exact hx.2

theorem not_done_of_servedUrgent : x.state ≠ .done := by
  rw [queued_of_servedUrgent h]
  decide

/-- An urgent row whose body answers the command reports the answer. -/
theorem reports_of_servedUrgent {i : Instr} {body : Cmd → State → State} {r : Response} {t : State}
    (hi : exec i s = .next (s.serveUrgent k op body)) (hb : body x s = t.answer k x r)
    (hfind : t.sessions[k].find x.seq = some x)
    (hs : onlySession s (t.answer k x r) k) : reports i s k x r :=
  ⟨_, hi.trans (congrArg _ ((State.serveUrgent_served h body).trans hb)),
    State.answer_answered t k x r hfind (not_done_of_servedUrgent h), hs⟩

end

section
variable {k : Slot} {x : Cmd} {s : State}

theorem keepalive_reports (hb : x.payload = []) (h : servedUrgent s k x opKeepalive) :
    reports (.keepalive k) s k x (okResp (natBytes 2 (s.sessions[k].leaseLeft s.timeUs) ++ [0, 0])) := by
  have hop := opcode_of_servedUrgent h
  have hfind := find_of_servedUrgent h
  refine reports_of_servedUrgent h (t := s) rfl ?_ hfind (onlySession_answer _ hfind (by rw [hop]; decide))
  exact (if_neg (by rw [hb]; decide)).trans rfl

/-! ## ABORT (R361, Table 13-12) -/

theorem State.abandon_cmds (s : State) (k j : Slot) : (s.abandon k).sessions[j].cmds = s.sessions[j].cmds := by
  have hupd : (s.updSession k (fun y => { y with upload := none })).sessions[j].cmds = s.sessions[j].cmds := by
    by_cases hj : j = k
    · subst hj
      rw [State.updSession_self]
    · rw [State.updSession_other _ _ hj]
  unfold State.abandon
  split
  · rfl
  · dsimp only
    repeat' split
    all_goals exact hupd

theorem State.abandonBy_cmds (s : State) (k j : Slot) (op : BitVec 16) :
    (s.abandonBy k op).sessions[j].cmds = s.sessions[j].cmds := by
  unfold State.abandonBy
  split
  · split
    · exact s.abandon_cmds k j
    · rfl
  · rfl

/-- The commands of the session once one of them is aborted. -/
theorem State.abortCmd_cmds (s : State) (k : Slot) (c : Cmd) :
    (s.abortCmd k c).sessions[k].cmds
      = (({ s.sessions[k] with upload := none } : Session).respond c.seq { status := stAborted }).cmds := by
  unfold State.abortCmd
  rw [State.respond_sessions, State.updSession_self, Session.respond_cmds, Session.respond_cmds, State.abandonBy_cmds,
    State.cancel_sessions]

/-- A command that is aborted has completed, and those of other numbers are as they were (R361). -/
theorem State.abortCmd_frame (s : State) (k : Slot) (c : Cmd) {y : Cmd} (hy : y ∈ (s.abortCmd k c).sessions[k].cmds) :
    y.state = .done ∨ (y ∈ s.sessions[k].cmds ∧ y.seq ≠ c.seq) := by
  rw [State.abortCmd_cmds, Session.respond_cmds] at hy
  obtain ⟨z, hz, rfl⟩ := List.mem_map.mp hy
  dsimp only at hz ⊢
  by_cases hseq : (z.seq == c.seq) = true
  · rw [if_pos hseq]
    split
    · exact .inl rfl
    · next hany =>
      left
      rw [List.any_eq_true] at hany
      by_contra hdone
      exact hany ⟨z, hz, by simpa [hseq] using hdone⟩
  · rw [if_neg hseq]
    exact .inr ⟨hz, by simpa using hseq⟩

theorem Session.mem_respond_cmds {y : Session} {seq : BitVec 16} {r : Response} {c : Cmd} (h : c ∈ (y.respond seq r).cmds)
    (hne : c.seq ≠ seq) : c ∈ y.cmds := by
  rw [Session.respond_cmds] at h
  obtain ⟨z, hz, rfl⟩ := List.mem_map.mp h
  by_cases e : (z.seq == seq) = true
  · refine absurd ?_ hne
    rw [if_pos e]
    split <;> exact eq_of_beq e
  · rw [if_neg e]
    exact hz

theorem Session.find_respond_other (y : Session) (seq : BitVec 16) (r : Response) {n : BitVec 16} (h : n ≠ seq) :
    (y.respond seq r).find n = y.find n := by
  unfold Session.find
  rw [Session.respond_cmds, List.find?_map]
  have hkeep : ((fun c : Cmd => c.seq == n) ∘ fun c : Cmd => if c.seq == seq then
      (if y.cmds.any (fun c => c.seq == seq && c.state != .done) then { c with state := .done, resp := some r } else c) else c)
        = fun c : Cmd => c.seq == n := by
    funext c
    dsimp only [Function.comp]
    repeat' split
    all_goals rfl
  rw [hkeep]
  cases hz : y.cmds.find? (fun c => c.seq == n) with
  | none => rfl
  | some z =>
    have hseq := List.find?_some hz
    refine congrArg some (if_neg fun e => h ?_)
    exact (eq_of_beq hseq).symm.trans (eq_of_beq e)

theorem State.abortCmd_find (s : State) (k : Slot) (c : Cmd) {n : BitVec 16} (h : n ≠ c.seq) :
    (s.abortCmd k c).sessions[k].find n = s.sessions[k].find n := by
  have hother := ({ s.sessions[k] with upload := none } : Session).find_respond_other c.seq { status := stAborted } h
  unfold Session.find at hother ⊢
  rw [State.abortCmd_cmds]
  exact hother

theorem State.abortCmd_answered {s : State} {k : Slot} {c : Cmd} (hfind : s.sessions[k].find c.seq = some c) (hd : c.state ≠ .done) :
    answered (s.abortCmd k c) k c { status := stAborted } := by
  have hf := Session.find_respond ({ s.sessions[k] with upload := none } : Session) c.seq { status := stAborted } c hfind hd
  unfold answered Session.find
  rw [State.abortCmd_cmds]
  exact hf

theorem fieldAt_seq {y : BitVec 16} (hb : x.payload = natBytes 2 y.toNat ++ [0, 0]) :
    fieldAt x.payload 0 2 = y.toNat ∧ shaped x.payload 4 [2, 3] = true := by
  refine ⟨?_, ?_⟩
  · rw [hb, fieldAt_natBytes (by have := y.isLt; omega)]
  · simp [hb, shaped, natBytes, List.range_succ]

/-- What ABORT of a command that the session holds does (Table 13-12). -/
theorem State.abortTarget_eq {y : Cmd} (hb : x.payload = natBytes 2 y.seq.toNat ++ [0, 0])
    (hy : s.sessions[k].find y.seq = some y) (hne : y.seq ≠ x.seq) : s.abortTarget k x
      = if y.state == .queued || y.state == .started then (s.abortCmd k y).ok k x else s.fails k x stAlreadyDone := by
  obtain ⟨hseq, hshape⟩ := fieldAt_seq hb
  unfold State.abortTarget
  rw [hshape, hseq, if_neg (by decide), BitVec.ofNat_toNat, BitVec.setWidth_eq, hy]
  dsimp only
  rw [if_neg hne]

theorem abort_answers {y : Cmd} (hb : x.payload = natBytes 2 y.seq.toNat ++ [0, 0]) (hy : s.sessions[k].find y.seq = some y)
    (hne : y.seq ≠ x.seq) (h : servedUrgent s k x opAbort) :
    (y.state = .queued → ∃ t, exec (.abort k) s = .next t ∧ memKept s t ∧ answered t k x (okResp [])
        ∧ answered t k y { status := stAborted })
      ∧ (y.state = .committed ∨ y.state = .done → reports (.abort k) s k x { status := stAlreadyDone }) := by
  have hop := opcode_of_servedUrgent h
  have hfind := find_of_servedUrgent h
  have hexec : exec (.abort k) s = .next (s.abortTarget k x) :=
    congrArg Host.Outcome.next (State.serveUrgent_served h (fun c t => t.abortTarget k c))
  rw [State.abortTarget_eq hb hy hne] at hexec
  refine ⟨fun hq => ?_, fun hdone => ?_⟩
  · rw [if_pos (by rw [hq]; rfl)] at hexec
    have hx : (s.abortCmd k y).sessions[k].find x.seq = some x := (s.abortCmd_find k y hne.symm).trans hfind
    have hyd : y.state ≠ .done := by rw [hq]; decide
    refine ⟨_, hexec, memKept_of_cells ((State.answer_cells ..).trans (State.abortCmd_cells ..)),
      State.answer_answered _ k x _ hx (not_done_of_servedUrgent h), ?_⟩
    unfold answered
    rw [State.ok_eq_answer, State.answer_at, Session.find_respond_other _ _ _ hne]
    exact State.abortCmd_answered hy hyd
  · rw [if_neg (by rcases hdone with e | e <;> rw [e] <;> decide)] at hexec
    exact ⟨_, hexec, State.answer_answered s k x _ hfind (not_done_of_servedUrgent h),
      onlySession_answer _ hfind (by rw [hop]; decide)⟩

/-! ## CLOSE (R361) -/

/-- The commands that CLOSE aborts. -/
def Session.hits (y : Session) (but : BitVec 16) : List Cmd :=
  y.cmds.filter (fun c => c.seq != but && (c.state == .queued || c.state == .started))

theorem abortAll_done (l : List Cmd) (s : State) (k : Slot) {y : Cmd}
    (hy : y ∈ (l.foldl (fun (t : State) c => t.abortCmd k c) s).sessions[k].cmds) :
    y.state = .done ∨ (y ∈ s.sessions[k].cmds ∧ ∀ c ∈ l, y.seq ≠ c.seq) := by
  induction l generalizing s with
  | nil => exact .inr ⟨hy, by simp⟩
  | cons c cs ih =>
    rcases ih (s.abortCmd k c) hy with hdone | ⟨hmem, hne⟩
    · exact .inl hdone
    · refine (s.abortCmd_frame k c hmem).imp_right fun ⟨hold, hc⟩ => ⟨hold, fun d hd => ?_⟩
      rcases List.mem_cons.mp hd with rfl | hd
      · exact hc
      · exact hne d hd

theorem State.abortAll_ends (s : State) (k : Slot) (but : BitVec 16) {y : Cmd} (hy : y ∈ (s.abortAll k but).sessions[k].cmds)
    (hne : y.seq ≠ but) : y.state ≠ .queued ∧ y.state ≠ .started := by
  rcases abortAll_done _ s k hy with hdone | ⟨hmem, hhits⟩
  · rw [hdone]
    exact ⟨by decide, by decide⟩
  · refine ⟨fun e => hhits y (List.mem_filter.mpr ⟨hmem, ?_⟩) rfl, fun e => hhits y (List.mem_filter.mpr ⟨hmem, ?_⟩) rfl⟩
    · rw [e]
      simpa using hne
    · rw [e]
      simpa using hne

/-- The machine once CLOSE has aborted what had not committed. -/
def State.closing (s : State) (k : Slot) (x : Cmd) : State :=
  (s.abortAll k x.seq).updSession k (fun y => { y with cancelled := y.cancelled + (s.sessions[k].hits x.seq).length })

/-- The commands that stand beside CLOSE. -/
def State.beside (s : State) (k : Slot) (x : Cmd) : List Cmd := s.sessions[k].cmds.filter (fun y => y.seq != x.seq)

theorem State.closeCmd_eq (hb : x.payload = []) : s.closeCmd k x = if ((s.closing k x).beside k x).any (fun y => y.state != .done)
    then s.closing k x
    else (s.closing k x).ok k x [byteOf (s.closing k x).sessions[k].cancelled,
      byteOf (((s.closing k x).beside k x).filter (fun y => y.resp.map (·.status) != some stAborted)).length, 0, 0] :=
  if_neg (by rw [hb]; decide)

theorem State.closing_cmds (s : State) (k : Slot) (x : Cmd) :
    (s.closing k x).sessions[k].cmds = (s.abortAll k x.seq).sessions[k].cmds := by
  unfold State.closing
  rw [State.updSession_self]

theorem exec_close (hb : x.payload = []) (h : servedUrgent s k x opClose) : ∃ t, exec (.close k) s = .next t ∧ memKept s t
    ∧ ∀ y ∈ t.sessions[k].cmds, y.seq ≠ x.seq → y.state ≠ .queued ∧ y.state ≠ .started := by
  have hexec : exec (.close k) s = .next (s.closeCmd k x) :=
    congrArg Host.Outcome.next (State.serveUrgent_served h (fun c t => t.closeCmd k c))
  have hcells : (s.closing k x).cells = s.cells := (State.updSession_cells ..).trans (State.abortAll_cells ..)
  have hends : ∀ y ∈ (s.closing k x).sessions[k].cmds, y.seq ≠ x.seq → y.state ≠ .queued ∧ y.state ≠ .started := fun y hy hne =>
    s.abortAll_ends k x.seq (by rwa [State.closing_cmds] at hy) hne
  rw [State.closeCmd_eq hb] at hexec
  by_cases hrest : ((s.closing k x).beside k x).any (fun y => y.state != .done) = true
  · rw [if_pos hrest] at hexec
    exact ⟨_, hexec, memKept_of_cells hcells, hends⟩
  · rw [if_neg hrest] at hexec
    refine ⟨_, hexec, memKept_of_cells ((State.answer_cells ..).trans hcells), fun y hy hne => ?_⟩
    rw [State.ok_eq_answer, State.answer_at] at hy
    have hold := Session.mem_respond_cmds hy hne
    exact hends y hold hne

theorem close_reports (hb : x.payload = []) (h : servedUrgent s k x opClose)
    (hrest : ∀ y ∈ s.sessions[k].cmds, y.seq ≠ x.seq → y.state = .done) :
    ∃ n, reports (.close k) s k x (okResp [byteOf s.sessions[k].cancelled, n, 0, 0]) := by
  have hop := opcode_of_servedUrgent h
  have hnone : s.sessions[k].hits x.seq = [] := by
    refine List.filter_eq_nil_iff.mpr fun y hy => ?_
    by_cases e : y.seq = x.seq
    · simp [e]
    · rw [hrest y hy e]
      simp
  have hclosing : s.closing k x = s.updSession k (fun y => { y with cancelled := y.cancelled + 0 }) := by
    have hall : s.abortAll k x.seq = s := by
      unfold State.abortAll
      change (s.sessions[k].hits x.seq).foldl _ s = s
      rw [hnone]
      rfl
    unfold State.closing
    rw [hnone, hall]
    rfl
  have hdone : ((s.closing k x).beside k x).any (fun y => y.state != .done) = false := by
    rw [List.any_eq_false]
    intro y hy
    unfold State.beside at hy
    rw [hclosing, State.updSession_self, List.mem_filter] at hy
    rw [hrest y hy.1 (by simpa using hy.2)]
    decide
  have hexec : exec (.close k) s = .next (s.closeCmd k x) :=
    congrArg Host.Outcome.next (State.serveUrgent_served h (fun c t => t.closeCmd k c))
  have hcount : (s.closing k x).sessions[k].cancelled = s.sessions[k].cancelled := by
    rw [hclosing, State.updSession_self]
    rfl
  rw [State.closeCmd_eq hb, if_neg (by rw [hdone]; decide), State.ok_eq_answer, hcount] at hexec
  generalize byteOf (((s.closing k x).beside k x).filter (fun y => y.resp.map (·.status) != some stAborted)).length = n at hexec
  rw [hclosing] at hexec
  exact ⟨n, _, hexec, answered_updAnswer (by exact fun _ => rfl) (find_of_servedUrgent h) _ (not_done_of_servedUrgent h),
    onlySession_updAnswer (by exact fun _ => rfl) (find_of_servedUrgent h) _ (by rw [hop]; decide)⟩

end

/-- Settles O51: each command by what its row does to the session. -/
theorem jmpSessionCommands : Obligations.JmpSessionCommands := by
  intro k x s
  exact ⟨fun lease mask hl hm hb h => open_answers hl hm hb h,
    fun hb h => ⟨exec_close hb h, fun hrest => close_reports hb h hrest⟩, keepalive_reports,
    fun y hb hy hne h => abort_answers hb hy hne h, list_reports, fun n hn hb h => eventPoll_answers hn hb h,
    fun mask hm hb h => eventMask_answers hm hb h⟩

end Sys2Proof.Machine

/-! # The maintenance unlock (R370, R371, R422) -/

namespace Sys2Proof.Machine

open Sys2Proof.Safety

section
variable {k : Slot} {x : Cmd} {s : State}

/-- What an answer leaves of the session's unlock (R370, R371). -/
theorem State.answer_unlock (s : State) (k : Slot) (x : Cmd) (r : Response) :
    (s.answer k x r).sessions[k].challenge = s.sessions[k].challenge ∧ (s.answer k x r).sessions[k].scope = s.sessions[k].scope
      ∧ (s.answer k x r).sessions[k].fails = s.sessions[k].fails ∧ (s.answer k x r).sessions[k].lockout = s.sessions[k].lockout := by
  rw [State.answer_at, Session.respond_frame]
  exact ⟨rfl, rfl, rfl, rfl⟩

/-- The answer to a command that is not privileged leaves the stores and lab mode. -/
theorem State.answer_lab (r : Response) (hfind : s.sessions[k].find x.seq = some x) (hp : privilegedOp x.opcode = false) :
    (s.answer k x r).nv = s.nv ∧ (s.answer k x r).mgmt.lab = s.mgmt.lab := by
  rw [State.answer_of_plain r hfind hp]
  exact ⟨rfl, rfl⟩

theorem unlockChallenge_answers (hb : x.payload = []) (hl : s.sessions[k].lockout = false) (h : served s k x 0x0D00) :
    ∃ t nonce, exec (.unlockChallenge k) s = .next t ∧ t.sessions[k].challenge = some nonce
      ∧ answered t k x (okResp (natBytes 32 nonce.toNat ++ natBytes 2 60 ++ [0, 0]))
      ∧ t.sessions[k].scope = s.sessions[k].scope ∧ t.chans = s.chans ∧ t.nv = s.nv := by
  have hop := opcode_of_served h
  have hx := next_of_served (i := .unlockChallenge k) h rfl (by decide) (isOp_of_opcode hop)
  dsimp only at hx
  rw [hl, if_neg Bool.false_ne_true, State.valid_true s k x (by rw [hb]; rfl), State.ok_eq_answer] at hx
  have hfind : ((s.free 256).2.updSession k (fun y => { y with challenge := some (s.free 256).1 })).sessions[k].find x.seq = some x :=
    (find_updSession (by exact fun _ => rfl) _).trans (find_of_served h)
  obtain ⟨hch, hscope, -⟩ := State.answer_unlock ((s.free 256).2.updSession k (fun y => { y with challenge := some (s.free 256).1 })) k x
    (okResp (natBytes 32 (s.free 256).1.toNat ++ natBytes 2 60 ++ [0, 0]))
  refine ⟨_, _, hx, hch.trans ?_, State.answer_answered _ k x _ hfind (not_done_of_served h), hscope.trans ?_,
    (State.answer_frame ..).1, (State.answer_lab _ hfind (by rw [hop]; decide)).1⟩
  · rw [State.updSession_self]
  · rw [State.updSession_self]
    rfl

/-! ## A response fails -/

theorem State.ledger_lab (s : State) (typ : Byte) (body : List Byte) : (s.ledger typ body).mgmt.lab = s.mgmt.lab := by
  unfold State.ledger
  split
  · exact congrArg Mgmt.lab (s.record_mgmt typ body)
  · rfl

/-- A failure spends the challenge and is counted; the third locks the session out (R371). -/
theorem unlockFails_answers (hfind : s.sessions[k].find x.seq = some x) (hd : x.state ≠ .done) (detail : Byte) :
    (s.unlockFails k x detail).sessions[k].challenge = none ∧ answered (s.unlockFails k x detail) k x
        { status := stDenied, detail := detail }
      ∧ (s.unlockFails k x detail).sessions[k].scope = s.sessions[k].scope
      ∧ (s.unlockFails k x detail).sessions[k].fails = s.sessions[k].fails + 1
      ∧ (2 ≤ s.sessions[k].fails → (s.unlockFails k x detail).sessions[k].lockout = true) := by
  unfold State.unlockFails
  dsimp only
  rw [State.fails_eq_answer]
  have hsess := State.ledger_sessions (s.updSession k (fun y =>
    { y with challenge := none, fails := y.fails + 1, lockout := y.lockout || decide (2 ≤ y.fails) })) 0x13
      [sessionId k s.sessions[k], transportCode s.sessions[k].transport]
  generalize (s.updSession k (fun y => { y with
    challenge := none, fails := y.fails + 1, lockout := y.lockout || decide (2 ≤ y.fails) })).ledger 0x13 _ = u at hsess ⊢
  have hat : u.sessions[k] = { s.sessions[k] with
      challenge := none, fails := s.sessions[k].fails + 1, lockout := s.sessions[k].lockout || decide (2 ≤ s.sessions[k].fails) } := by
    rw [hsess, State.updSession_self]
  obtain ⟨hch, hscope, hfails, hlock⟩ := u.answer_unlock k x { status := stDenied, detail := detail }
  rw [hat] at hch hscope hfails hlock
  refine ⟨hch, State.answer_answered u k x _ (by rw [hat]; exact hfind) hd, hscope, hfails, fun hf => hlock.trans ?_⟩
  rw [decide_eq_true hf]
  exact Bool.or_true _

/-! ## A response is accepted -/

/-- The machine with the classes that an accepted response grants. -/
def State.granting (s : State) (k : Slot) (scope : BitVec 5) : State :=
  s.updSession k (fun y => { y with challenge := none, scope := scope })

theorem granting_find (scope : BitVec 5) : (s.granting k scope).sessions[k].find x.seq = s.sessions[k].find x.seq :=
  find_updSession (by exact fun _ => rfl) _

theorem granting_at (scope : BitVec 5) : (s.granting k scope).sessions[k] = { s.sessions[k] with challenge := none, scope := scope } :=
  State.updSession_self ..

theorem unlockGrants_eq {scope : BitVec 5} (h : (scope.getLsbD 4 && !s.labClose) = false) : s.unlockGrants k x scope
    = (s.granting k ((scope &&& 0x0F) ||| s.sessions[k].scope)).answer k x
        (okResp [((scope &&& 0x0F) ||| s.sessions[k].scope).setWidth 8, 0, 0, 0]) := by
  unfold State.unlockGrants
  dsimp only
  rw [h, if_neg Bool.false_ne_true, if_neg Bool.false_ne_true]
  rfl

/-- Lab mode begins, and is recorded (R175, R371). -/
theorem unlockGrants_lab {scope : BitVec 5} (h : (scope.getLsbD 4 && !s.labClose) = true) : s.unlockGrants k x scope
    = (((s.granting k (scope ||| s.sessions[k].scope)).updMgmt (fun m => { m with lab := true })).recordPrivileged k x.opcode
        { status := stOk }).answer k x (okResp [(scope ||| s.sessions[k].scope).setWidth 8, 0, 0, 0]) := by
  unfold State.unlockGrants
  dsimp only
  rw [h, if_pos rfl, if_pos rfl]
  rfl

/-- What an accepted response grants (R370). -/
structure Grants (s t : State) (k : Slot) (x : Cmd) (scope : BitVec 5) : Prop where
  challenge : t.sessions[k].challenge = none
  scope : t.sessions[k].scope = scope
  answer : answered t k x (okResp [t.sessions[k].scope.setWidth 8, 0, 0, 0])

theorem grants_answer {u : State} {scope : BitVec 5} (hu : u.sessions[k] = { s.sessions[k] with challenge := none, scope := scope })
    (hfind : s.sessions[k].find x.seq = some x) (hd : x.state ≠ .done) :
    Grants s (u.answer k x (okResp [scope.setWidth 8, 0, 0, 0])) k x scope := by
  obtain ⟨hch, hscope, -⟩ := u.answer_unlock k x (okResp [scope.setWidth 8, 0, 0, 0])
  rw [hu] at hch hscope
  refine ⟨hch, hscope, ?_⟩
  rw [hscope]
  exact State.answer_answered u k x _ (by rw [hu]; exact hfind) hd

theorem recordPrivileged_lab (u : State) (op : BitVec 16) (r : Response) : (u.recordPrivileged k op r).mgmt.lab = u.mgmt.lab :=
  u.ledger_lab ..

variable (hfind : s.sessions[k].find x.seq = some x) (hd : x.state ≠ .done) (hp : privilegedOp x.opcode = false)
include hfind hd hp

theorem unlockGrants_plain {scope : BitVec 5} (h : (scope.getLsbD 4 && !s.labClose) = false) :
    Grants s (s.unlockGrants k x scope) k x ((scope &&& 0x0F) ||| s.sessions[k].scope)
      ∧ (s.unlockGrants k x scope).mgmt.lab = s.mgmt.lab := by
  rw [unlockGrants_eq h]
  exact ⟨grants_answer (granting_at _) hfind hd, (State.answer_lab _ ((granting_find _).trans hfind) hp).2⟩

theorem unlockGrants_enters {scope : BitVec 5} (h : (scope.getLsbD 4 && !s.labClose) = true) :
    Grants s (s.unlockGrants k x scope) k x (scope ||| s.sessions[k].scope) ∧ (s.unlockGrants k x scope).mgmt.lab = true := by
  rw [unlockGrants_lab h]
  have hsess := State.recordPrivileged_sessions ((s.granting k (scope ||| s.sessions[k].scope)).updMgmt (fun m => { m with lab := true }))
    k x.opcode { status := stOk }
  have hlab := recordPrivileged_lab (k := k) ((s.granting k (scope ||| s.sessions[k].scope)).updMgmt (fun m => { m with lab := true }))
    x.opcode { status := stOk }
  generalize State.recordPrivileged _ k x.opcode _ = u at hsess hlab ⊢
  have hat : u.sessions[k] = { s.sessions[k] with challenge := none, scope := scope ||| s.sessions[k].scope } := by
    rw [hsess]
    exact granting_at _
  exact ⟨grants_answer hat hfind hd, (State.answer_lab _ (by rw [hat]; exact hfind) hp).2.trans hlab⟩

end

theorem scope_masked {scope : BitVec 5} (h : scope.getLsbD 4 = false) : scope &&& 0x0F = scope := by
  revert h
  revert scope
  decide

section
variable {k : Slot} {x : Cmd} {s : State}

theorem exec_unlockResponse {nonce : BitVec 256} (hn : s.sessions[k].challenge = some nonce)
    (hb : shaped x.payload 196 [97, 98, 99] = true) (hs : fieldAt x.payload 96 1 < 32) (h : served s k x 0x0D01) :
    exec (.unlockResponse k) s = .next (if s.unlockVerifies k nonce x.payload then
      s.unlockGrants k x (BitVec.ofNat 5 (fieldAt x.payload 96 1)) else s.unlockFails k x 0x08) := by
  have hx := next_of_served (i := .unlockResponse k) h rfl (by decide) (isOp_of_opcode (opcode_of_served h))
  dsimp only at hx
  rw [State.valid_true s k x (by rw [hb, decide_eq_true hs]; rfl), hn] at hx
  exact hx

theorem unlockResponse_answers {nonce : BitVec 256} (hn : s.sessions[k].challenge = some nonce)
    (hb : shaped x.payload 196 [97, 98, 99] = true) (hs : fieldAt x.payload 96 1 < 32) (h : served s k x 0x0D01) :
    ∃ t, exec (.unlockResponse k) s = .next t ∧ t.sessions[k].challenge = none ∧ memKept s t
      ∧ (s.unlockVerifies k nonce x.payload = true → s.labClose = true →
          t.sessions[k].scope = (BitVec.ofNat 5 (fieldAt x.payload 96 1) &&& 0x0F) ||| s.sessions[k].scope
            ∧ t.mgmt.lab = s.mgmt.lab ∧ answered t k x (okResp [t.sessions[k].scope.setWidth 8, 0, 0, 0]))
      ∧ (s.unlockVerifies k nonce x.payload = true → s.labClose = false →
          t.sessions[k].scope = BitVec.ofNat 5 (fieldAt x.payload 96 1) ||| s.sessions[k].scope
            ∧ (t.mgmt.lab = true ↔ s.mgmt.lab = true ∨ (BitVec.ofNat 5 (fieldAt x.payload 96 1)).getLsbD 4 = true)
            ∧ answered t k x (okResp [t.sessions[k].scope.setWidth 8, 0, 0, 0]))
      ∧ (s.unlockVerifies k nonce x.payload = false → answered t k x { status := stDenied, detail := 0x08 }
          ∧ t.sessions[k].scope = s.sessions[k].scope ∧ t.sessions[k].fails = s.sessions[k].fails + 1
          ∧ (2 ≤ s.sessions[k].fails → t.sessions[k].lockout = true)) := by
  have hexec := exec_unlockResponse hn hb hs h
  have hfind := find_of_served h
  have hd := not_done_of_served h
  have hp : privilegedOp x.opcode = false := by
    rw [opcode_of_served h]
    decide
  generalize BitVec.ofNat 5 (fieldAt x.payload 96 1) = scope at hexec ⊢
  cases hv : s.unlockVerifies k nonce x.payload with
  | false =>
    rw [hv, if_neg Bool.false_ne_true] at hexec
    obtain ⟨hch, hans, hscope, hfails, hlock⟩ := unlockFails_answers hfind hd 0x08
    exact ⟨_, hexec, hch, memKept_of_cells (State.unlockFails_cells ..), fun e => absurd e (by decide), fun e => absurd e (by decide),
      fun _ => ⟨hans, hscope, hfails, hlock⟩⟩
  | true =>
    rw [hv, if_pos rfl] at hexec
    have hmem : memKept s (s.unlockGrants k x scope) := memKept_of_cells (State.unlockGrants_cells ..)
    cases hl : (scope.getLsbD 4 && !s.labClose) with
    | true =>
      obtain ⟨⟨hch, hscope, hans⟩, hlab⟩ := unlockGrants_enters hfind hd hp hl
      obtain ⟨hbit, hclose⟩ := Bool.and_eq_true_iff.mp hl
      refine ⟨_, hexec, hch, hmem, fun _ e => ?_, fun _ _ => ⟨hscope, ⟨fun _ => .inr hbit, fun _ => hlab⟩, hans⟩,
        fun e => absurd e (by decide)⟩
      rw [e] at hclose
      exact absurd hclose (by decide)
    | false =>
      obtain ⟨⟨hch, hscope, hans⟩, hlab⟩ := unlockGrants_plain hfind hd hp hl
      refine ⟨_, hexec, hch, hmem, fun _ _ => ⟨hscope, hlab, hans⟩, fun _ e => ?_, fun e => absurd e (by decide)⟩
      rw [e] at hl
      have hbit : scope.getLsbD 4 = false := by simpa using hl
      rw [scope_masked hbit] at hscope
      exact ⟨hscope, by rw [hlab, hbit]; simp, hans⟩

end

/-- Settles O52: a challenge by its nonce, a response by whether it verifies. -/
theorem jmpUnlockGrants : Obligations.JmpUnlockGrants := by
  intro k x s
  exact ⟨unlockChallenge_answers, fun nonce hn hb hs h => unlockResponse_answers hn hb hs h⟩

end Sys2Proof.Machine

/-! # Settings and the images that carry them (R17, R207, R264, R268, R283, R385, R388, R395, R398, R400) -/

namespace Sys2Proof.Machine

open Sys2Proof.Safety

/-! ## Images posted to transfer areas (R17) -/

theorem State.postImage_self (s : State) (c : Ch) (x : Transfer) :
    (s.postImage c x).chans[c] = s.chans[c].updTaper (·.placeImage x) := State.updCh_self ..

theorem State.postImage_other {c d : Ch} (s : State) (x : Transfer) (h : d ≠ c) : (s.postImage c x).chans[d] = s.chans[d] :=
  State.updCh_other _ _ h

/-- A transfer area with room takes an image. -/
theorem Taper.placeImage_eq {t : Taper} (h : t.images.length < 16) (x : Transfer) :
    t.placeImage x = { t with images := t.images ++ [(t.imageSeq + 1, x)], imageSeq := t.imageSeq + 1 } := if_pos h

/-- A channel takes the images of a list, one after the other. -/
def State.postEach (s : State) (c : Ch) (l : List Transfer) : State := l.foldl (fun u x => u.postImage c x) s

theorem State.postEach_cells (s : State) (c : Ch) (l : List Transfer) : (s.postEach c l).cells = s.cells :=
  foldl_cells (f := fun u x => u.postImage c x) (fun u x => u.postImage_cells c x) l s

theorem State.postEach_sessions (s : State) (c : Ch) (l : List Transfer) : (s.postEach c l).sessions = s.sessions := by
  induction l generalizing s with
  | nil => rfl
  | cons x l ih => exact ih (s.postImage c x)

theorem State.postEach_other {c d : Ch} (s : State) (l : List Transfer) (h : d ≠ c) :
    (s.postEach c l).chans[d] = s.chans[d] := by
  induction l generalizing s with
  | nil => rfl
  | cons x l ih => exact (ih (s.postImage c x)).trans (s.postImage_other x h)

theorem State.imagesOf_postEach {s : State} {c : Ch} {l : List Transfer}
    (h : s.chans[c].taper.images.length + l.length ≤ 16) : imagesOf (s.postEach c l) c = imagesOf s c ++ l := by
  induction l generalizing s with
  | nil => exact (List.append_nil _).symm
  | cons x l ih =>
    rw [List.length_cons] at h
    have himages : (s.postImage c x).chans[c].taper.images = s.chans[c].taper.images ++ [(s.chans[c].taper.imageSeq + 1, x)] := by
      rw [State.postImage_self]
      exact congrArg Taper.images (Taper.placeImage_eq (by omega) x)
    have hstep : imagesOf (s.postImage c x) c = imagesOf s c ++ [x] := by
      unfold imagesOf
      rw [himages, List.map_append]
      rfl
    refine (ih ?_).trans ?_
    · rw [himages, List.length_append, List.length_singleton]
      omega
    · rw [hstep, List.append_assoc]
      rfl

/-- The channels of a list take one image each. -/
def State.postAll (s : State) (l : List Ch) (x : Transfer) : State := l.foldl (fun u c => u.postImage c x) s

theorem State.postAll_cells (s : State) (l : List Ch) (x : Transfer) : (s.postAll l x).cells = s.cells :=
  foldl_cells (f := fun u c => u.postImage c x) (fun u c => u.postImage_cells c x) l s

theorem State.postAll_sessions (s : State) (l : List Ch) (x : Transfer) : (s.postAll l x).sessions = s.sessions := by
  induction l generalizing s with
  | nil => rfl
  | cons c l ih => exact ih (s.postImage c x)

theorem State.postAll_other {d : Ch} (s : State) {l : List Ch} (x : Transfer) (h : d ∉ l) :
    (s.postAll l x).chans[d] = s.chans[d] := by
  induction l generalizing s with
  | nil => rfl
  | cons c l ih =>
    exact (ih (s.postImage c x) (List.not_mem_of_not_mem_cons h)).trans (s.postImage_other x (List.ne_of_not_mem_cons h))

theorem State.imagesOf_postAll {s : State} {d : Ch} {l : List Ch} (x : Transfer) (hn : l.Nodup) (hd : d ∈ l)
    (h : s.chans[d].taper.images.length < 16) : imagesOf (s.postAll l x) d = imagesOf s d ++ [x] := by
  induction l generalizing s with
  | nil => cases hd
  | cons c l ih =>
    obtain ⟨hc, hn'⟩ := List.nodup_cons.mp hn
    by_cases e : d = c
    · subst e
      have hlast : imagesOf (s.postAll (d :: l) x) d = imagesOf (s.postImage d x) d :=
        by
        unfold imagesOf
        exact congrArg (fun y : Channel => y.taper.images.map Prod.snd) (State.postAll_other (s.postImage d x) x hc)
      exact hlast.trans (State.imagesOf_postEach (l := [x]) h)
    · have hsame := s.postImage_other x e
      refine (ih (s := s.postImage c x) hn' (List.mem_of_ne_of_mem e hd) (by rw [hsame]; exact h)).trans ?_
      unfold imagesOf
      rw [hsame]

theorem State.room_of_areasFree {s : State} {l : List Ch} {n : Nat} (h : s.areasFree l n = true) {c : Ch} (hc : c ∈ l) :
    s.chans[c].taper.images.length + n ≤ 16 := of_decide_eq_true (List.all_eq_true.mp h c hc)

theorem State.posting_of_free {s : State} {l : List Ch} {n : Nat} (h : s.areasFree l n = true) (t : State) :
    s.posting l t n = t := if_pos h

section
variable {k : Slot} {x : Cmd} {s : State}

theorem imagesOf_answer (s : State) (k : Slot) (x : Cmd) (r : Response) (c : Ch) :
    imagesOf (s.answer k x r) c = imagesOf s c := by
  unfold imagesOf
  rw [(s.answer_frame k x r).1]

/-- The answer of a row that has posted images. -/
theorem postEach_answered (c : Ch) (l : List Transfer) (r : Response) (hfind : s.sessions[k].find x.seq = some x)
    (hd : x.state ≠ .done) (hroom : s.chans[c].taper.images.length + l.length ≤ 16) :
    answered ((s.postEach c l).answer k x r) k x r ∧ memKept s ((s.postEach c l).answer k x r)
      ∧ imagesOf ((s.postEach c l).answer k x r) c = imagesOf s c ++ l
      ∧ ∀ c' : Ch, c' ≠ c → ((s.postEach c l).answer k x r).chans[c'] = s.chans[c'] := by
  refine ⟨State.answer_answered _ k x r (by rw [State.postEach_sessions]; exact hfind) hd,
    memKept_of_cells ((State.answer_cells ..).trans (s.postEach_cells c l)),
    (imagesOf_answer ..).trans (State.imagesOf_postEach hroom), fun c' hc => ?_⟩
  rw [(State.answer_frame _ k x r).1]
  exact s.postEach_other l hc

/-! ## Thresholds and visibility (R207, R385, R388) -/

theorem named_units (units : BitVec 5) (u : Fin 5) : (units.setWidth 8).toNat.testBit u.val = units.getLsbD u.val := by
  rw [BitVec.testBit_toNat, BitVec.getLsbD_setWidth]
  simp [Nat.lt_trans u.isLt (by decide : 5 < 8)]

theorem thermalCfg_answers {units : BitVec 5} {thr : Nat} (hu : units ≠ 0) (hlo : 1500 ≤ thr) (hhi : thr ≤ 5200)
    (hpres : ∀ u : Fin 5, units.getLsbD u.val = true → s.unitPresent u = true)
    (hb : x.payload = [units.setWidth 8, 0] ++ natBytes 2 thr) (h : served s k x 0x0301) :
    ∃ t, exec (.thermalCfg k) s = .next t ∧ answered t k x (okResp []) ∧ t.chans = s.chans ∧ t.thermal = s.thermal
      ∧ ∀ u : Fin 5, t.mgmt.thr[u] = if units.getLsbD u.val then (thr : Int) else s.mgmt.thr[u] := by
  have hop := opcode_of_served h
  have hfind := find_of_served h
  have hunits : fieldAt x.payload 0 1 = (units.setWidth 8).toNat := by
    rw [hb]
    exact fieldAt_head ..
  have hthr : fieldAt x.payload 2 2 = thr := by
    rw [hb, ← List.append_nil (natBytes 2 thr)]
    exact fieldAt_natBytes (by omega) []
  have hshape : shaped x.payload 4 [1] = true := by simp [hb, shaped]
  have hpos : (0 < (units.setWidth 8).toNat) ∧ (units.setWidth 8).toNat < 32 := by
    have hne : units.toNat ≠ 0 := fun e => hu (BitVec.eq_of_toNat_eq e)
    have hlt := units.isLt
    rw [BitVec.toNat_setWidth]
    omega
  have hgood : (List.finRange 5).all (fun u => !(units.setWidth 8).toNat.testBit u.val || s.unitPresent u) = true := by
    refine List.all_eq_true.mpr fun u _ => ?_
    rw [named_units]
    cases hbit : units.getLsbD u.val with
    | false => rfl
    | true => exact hpres u hbit
  have hx := next_of_served (i := .thermalCfg k) h rfl (by decide) (isOp_of_opcode hop)
  dsimp only at hx
  rw [hunits, hthr, State.valid_true s k x (by
    rw [hshape, hgood, decide_eq_true hpos.1, decide_eq_true hpos.2, decide_eq_true hlo, decide_eq_true hhi]; rfl),
    State.ok_eq_answer] at hx
  refine ⟨_, hx, State.answer_answered _ k x _ (by exact hfind) (not_done_of_served h), (State.answer_frame ..).1,
    (State.answer_frame ..).2.2.1, fun u => ?_⟩
  rw [State.answer_of_plain _ (by exact hfind) (by rw [hop]; decide), ← named_units]
  exact Vector.getElem_mapFinIdx ..

theorem State.answer_visible (s : State) (r : Response) (hfind : s.sessions[k].find x.seq = some x)
    (hp : privilegedOp x.opcode = false) : (s.answer k x r).mgmt.visible = s.mgmt.visible := by
  rw [State.answer_of_plain r hfind hp]
  rfl

theorem calVisSet_answers {mode : Bool} (hshape : calVisShape x.payload = true) (hopc : fieldAt x.payload 0 1 = 1)
    (hmode : fieldAt x.payload 1 1 = mode.toNat) (hlock : mode = true → s.visLock = false) (h : served s k x 0x0403 true) :
    ∃ t, exec (.calVisSet k) s = .next t ∧ t.mgmt.visible = mode ∧ t.chans = s.chans ∧ t.nv = s.nv
      ∧ answered t k x (okResp [byteOf (mode && !s.visLock).toNat, byteOf s.storedOptions.calVis.toNat,
          byteOf s.visLock.toNat, 0]) := by
  have hop := opcode_of_served h
  have hfind := find_of_served h
  have hx := next_of_served (i := .calVisSet k) h rfl (by decide) (isOpAt_of_opcode hop hopc)
  have hle : mode.toNat ≤ 1 := Bool.toNat_le mode
  have hfree : ¬ (decide (mode.toNat = 1) && s.visLock) = true := by
    cases mode with
    | false => exact Bool.false_ne_true
    | true => rw [hlock rfl]; exact Bool.false_ne_true
  have hvis : decide (mode.toNat = 1) = mode := by cases mode <;> rfl
  dsimp only at hx
  rw [hmode, State.valid_true s k x (by rw [hshape, decide_eq_true hle]; rfl), if_neg hfree,
    State.optionAnswer_calVis hop, State.ok_eq_answer, hvis] at hx
  change exec _ s = .next ((s.updMgmt (fun m => { m with visible := mode })).answer k x (okResp
    [byteOf (mode && !s.visLock).toNat, byteOf s.storedOptions.calVis.toNat, byteOf s.visLock.toNat, 0])) at hx
  have hfind' : (s.updMgmt (fun m => { m with visible := mode })).sessions[k].find x.seq = some x := hfind
  have hvisible : (s.updMgmt (fun m => { m with visible := mode })).mgmt.visible = mode := rfl
  have hchans : (s.updMgmt (fun m => { m with visible := mode })).chans = s.chans := rfl
  have hnv : (s.updMgmt (fun m => { m with visible := mode })).nv = s.nv := rfl
  generalize s.updMgmt (fun m => { m with visible := mode }) = u at hx hfind' hvisible hchans hnv
  have hp : privilegedOp x.opcode = false := by rw [hop]; decide
  exact ⟨_, hx, (u.answer_visible _ hfind' hp).trans hvisible, (u.answer_frame k x _).1.trans hchans,
    (State.answer_lab _ hfind' hp).1.trans hnv, u.answer_answered k x _ hfind' (not_done_of_served h)⟩

/-! ## Settings that travel as images (R264, R268, R395, R398) -/

theorem rhCfgSet_answers {th : Nat} (hlo : 500 ≤ th) (hhi : th ≤ 16000) (hfree : s.areasFree (List.finRange 32) = true)
    (hb : x.payload = [1, 0] ++ natBytes 2 th) (h : served s k x 0x0505 true) :
    ∃ t, exec (.rhCfgSet k) s = .next t ∧ answered t k x (okResp (natBytes 2 th ++ [0, 0])) ∧ memKept s t
      ∧ ∀ c : Ch, imagesOf t c = imagesOf s c ++ [.threshold th] := by
  have hop := opcode_of_served h
  have hth : fieldAt x.payload 2 2 = th := by
    rw [hb, ← List.append_nil (natBytes 2 th)]
    exact fieldAt_natBytes (by omega) []
  have hx := next_of_served (i := .rhCfgSet k) h rfl (by decide) (isOpAt_of_opcode hop (by rw [hb]; rfl))
  dsimp only at hx
  rw [hth, State.valid_true s k x (by rw [decide_eq_true hlo, decide_eq_true hhi]; simp [hb, shaped]),
    State.posting_of_free hfree, State.ok_eq_answer] at hx
  change exec _ s = .next ((s.postAll (List.finRange 32) (.threshold th)).answer k x _) at hx
  refine ⟨_, hx, State.answer_answered _ k x _ ?_ (not_done_of_served h),
    memKept_of_cells ((State.answer_cells ..).trans (State.postAll_cells ..)), fun c => (imagesOf_answer ..).trans
      (State.imagesOf_postAll _ (List.nodup_finRange 32) (List.mem_finRange c)
        (State.room_of_areasFree hfree (List.mem_finRange c)))⟩
  rw [State.postAll_sessions]
  exact find_of_served h

/-- The bytes of a payload that names a channel, pseudo-channels, a byte and a halfword. -/
theorem fields_of_setting {c : Ch} {m : Fin 4} {n v : Nat} (hn : n < 256) (hv : v < 65536)
    (hb : x.payload = [byteOf c.val, byteOf m.val, byteOf n, 0] ++ natBytes 2 v) :
    shaped x.payload 6 [3] = true ∧ fieldAt x.payload 0 1 = c.val ∧ fieldAt x.payload 1 1 = m.val
      ∧ fieldAt x.payload 2 1 = n ∧ fieldAt x.payload 4 2 = v := by
  rw [hb]
  refine ⟨by simp [shaped], ?_, ?_, ?_, ?_⟩
  · exact (fieldAt_head ..).trans (by simp [byteOf]; omega)
  · exact (fieldAt_head ..).trans (by simp [byteOf]; omega)
  · exact (fieldAt_head ..).trans (by simp [byteOf]; omega)
  · rw [← List.append_nil (natBytes 2 v)]
    exact fieldAt_natBytes (by omega) []

theorem pcMaskOk_fin {m : Fin 4} (hm : m ≠ 0) : pcMaskOk m.val = true := by
  revert m
  decide

theorem leakyCfg_answers {c : Ch} {m : Fin 4} {n thr : Nat} (hm : m ≠ 0) (hn : n ≤ 22) (hlo : 1 ≤ thr) (hhi : thr < 65536)
    (hfree : s.areasFree [c] (maskPcs m.val).length = true)
    (hb : x.payload = [byteOf c.val, byteOf m.val, byteOf n, 0] ++ natBytes 2 thr) (h : served s k x 0x0602) :
    ∃ t, exec (.leakyCfg k) s = .next t ∧ answered t k x (okResp []) ∧ memKept s t
      ∧ imagesOf t c = imagesOf s c ++ (maskPcs m.val).map (fun p => .leaky p n thr)
      ∧ ∀ c' : Ch, c' ≠ c → t.chans[c'] = s.chans[c'] := by
  obtain ⟨hshape, hcf, hmf, hnf, htf⟩ := fields_of_setting (by omega) hhi hb
  have hx := next_of_served (i := .leakyCfg k) h rfl (by decide) (isOp_of_opcode (opcode_of_served h))
  dsimp only at hx
  rw [chAt_of_field hcf, hcf, hmf, hnf, htf, State.valid_true s k x (by
    rw [hshape, decide_eq_true c.isLt, pcMaskOk_fin hm, decide_eq_true hn, decide_eq_true hlo]; rfl),
    State.posting_of_free hfree, State.ok_eq_answer, ← List.foldl_map (f := fun p => Transfer.leaky p n thr)] at hx
  exact ⟨_, hx, postEach_answered c _ _ (find_of_served h) (not_done_of_served h) (by
    rw [List.length_map]; exact State.room_of_areasFree hfree (List.mem_singleton_self c))⟩

theorem scrubCfg_answers {c : Ch} {m : Fin 4} {en : Bool} {target : Nat} (hm : m ≠ 0) (hlo : 1 ≤ target) (hhi : target ≤ 720)
    (hfree : s.areasFree [c] (maskPcs m.val).length = true)
    (hb : x.payload = [byteOf c.val, byteOf m.val, byteOf en.toNat, 0] ++ natBytes 2 target) (h : served s k x 0x0603) :
    ∃ t, exec (.scrubCfg k) s = .next t ∧ answered t k x (okResp []) ∧ memKept s t
      ∧ imagesOf t c = imagesOf s c ++ (maskPcs m.val).map (fun p => .scrub p en target)
      ∧ ∀ c' : Ch, c' ≠ c → t.chans[c'] = s.chans[c'] := by
  have hen : en.toNat ≤ 1 := Bool.toNat_le en
  obtain ⟨hshape, hcf, hmf, hnf, htf⟩ := fields_of_setting (by omega) (by omega) hb
  have hbit : decide (en.toNat = 1) = en := by cases en <;> rfl
  have hx := next_of_served (i := .scrubCfg k) h rfl (by decide) (isOp_of_opcode (opcode_of_served h))
  dsimp only at hx
  rw [chAt_of_field hcf, hcf, hmf, hnf, htf, hbit, State.valid_true s k x (by
    rw [hshape, decide_eq_true c.isLt, pcMaskOk_fin hm, decide_eq_true hen, decide_eq_true hlo, decide_eq_true hhi]; rfl),
    State.posting_of_free hfree, State.ok_eq_answer, ← List.foldl_map (f := fun p => Transfer.scrub p en target)] at hx
  exact ⟨_, hx, postEach_answered c _ _ (find_of_served h) (not_done_of_served h) (by
    rw [List.length_map]; exact State.room_of_areasFree hfree (List.mem_singleton_self c))⟩

/-! ## Error injection (R283, R400) -/

theorem isInject_of_opcode {b : Bool} (hop : x.opcode = 0x0605) (h : (x.payload.getD 4 0).getLsbD 3 = b) :
    isInject b x = true := by
  unfold isInject
  rw [hop, h, beq_self_eq_true, beq_self_eq_true]
  rfl

theorem eccInjectCancel_answers {w : Word32} {ctl : Byte} (hw : w = addrAt x.payload 0) (hctl : ctl = x.payload.getD 4 0)
    (hw0 : w.getLsbD 0 = false) (hlt : ctl.toNat < 16) (hfree : s.areasFree [addrCh w] = true)
    (h : served s k x 0x0605 true) (hcancel : ctl.getLsbD 3 = true) (hlen : x.payload.length = 16) :
    ∃ t, exec (.eccInjectCancel k) s = .next t ∧ answered t k x (okResp []) ∧ memKept s t
      ∧ imagesOf t (addrCh w) = imagesOf s (addrCh w) ++ [.inject (addrPc w) none] := by
  have hx := next_of_served (i := .eccInjectCancel k) h rfl (by decide)
    (isInject_of_opcode (opcode_of_served h) (hctl ▸ hcancel))
  dsimp only at hx
  rw [← hw, ← hctl, State.valid_true s k x (by rw [hlen, hw0, decide_eq_true hlt]; rfl), State.posting_of_free hfree,
    State.ok_eq_answer] at hx
  obtain ⟨hans, hmem, himages, -⟩ := postEach_answered (addrCh w) [.inject (addrPc w) none] (okResp []) (find_of_served h)
    (not_done_of_served h) (State.room_of_areasFree hfree (List.mem_singleton_self _))
  exact ⟨_, hx, hans, hmem, himages⟩

theorem eccInjectArm_answers {w : Word32} {ctl : Byte} (hw : w = addrAt x.payload 0) (hctl : ctl = x.payload.getD 4 0)
    (hw0 : w.getLsbD 0 = false) (hlt : ctl.toNat < 16) (hfree : s.areasFree [addrCh w] = true)
    (h : served s k x 0x0605 true) (harm : ctl.getLsbD 3 = false) (hshape : shaped x.payload 16 [6, 7, 14, 15] = true)
    (hany : ctl.getLsbD 0 = true ∨ s.addrOk w = true) (hsyms : symsOk x.payload (fieldAt x.payload 5 1) = true) :
    ∃ t a, exec (.eccInjectArm k) s = .next t ∧ answered t k x (okResp []) ∧ memKept s t
      ∧ imagesOf t (addrCh w) = imagesOf s (addrCh w) ++ [.inject (addrPc w) (some a)]
      ∧ a.access = (if ctl.getLsbD 0 then none else some (addrAccess w)) ∧ a.counted = ctl.getLsbD 1
      ∧ a.write = ctl.getLsbD 2 ∧ a.syms.length = fieldAt x.payload 5 1 := by
  have hx := next_of_served (i := .eccInjectArm k) h rfl (by decide)
    (isInject_of_opcode (opcode_of_served h) (hctl ▸ harm))
  dsimp only at hx
  rw [← hw, ← hctl, State.valid_true s k x (by
    rw [hshape, hw0, decide_eq_true hlt, hsyms, Bool.or_eq_true_iff.mpr hany]; rfl), State.posting_of_free hfree,
    State.ok_eq_answer] at hx
  obtain ⟨hans, hmem, himages, -⟩ := postEach_answered (addrCh w) [_] (okResp []) (find_of_served h)
    (not_done_of_served h) (State.room_of_areasFree hfree (List.mem_singleton_self _))
  refine ⟨_, _, hx, hans, hmem, himages, rfl, rfl, rfl, ?_⟩
  rw [List.length_map, List.length_range]

end

/-- Settles O53: thresholds and visibility by the answer's frame, the others by the images they post. -/
theorem jmpSettingsTakeEffect : Obligations.JmpSettingsTakeEffect := by
  intro k x s
  refine ⟨fun _ _ => thermalCfg_answers, fun _ => calVisSet_answers, fun _ => rhCfgSet_answers,
    fun _ _ _ _ => leakyCfg_answers, fun _ _ _ _ => scrubCfg_answers, fun w ctl hw hctl hw0 hlt hfree h =>
      ⟨eccInjectCancel_answers hw hctl hw0 hlt hfree h, eccInjectArm_answers hw hctl hw0 hlt hfree h⟩⟩

end Sys2Proof.Machine

/-! # Programs that commands begin: stored options, marks, retention settings (R380, R384, R388, R391, R394, R396, R419) -/

namespace Sys2Proof.Machine

open Sys2Proof.Safety

/-! ## A program begins (R367, R435) -/

section
variable {k : Slot} {x : Cmd} {s : State}

/-- The machine while the program of a command runs. -/
def State.programming (s : State) (k : Slot) (x : Cmd) (kind : NvKind) (sector : Option (Fin 255)) (page : Option (Fin 264))
    (cont : NvCont) : State :=
  ((s.takeTurn k).markCmd k x.seq .started).startNv kind sector page cont (some (k, x.seq))

theorem State.startNv_of_admits {kind : NvKind} {sector : Option (Fin 255)} {page : Option (Fin 264)} {cont : NvCont}
    {owner : Option (Slot × BitVec 16)} (h : s.nv.admits sector page = true) :
    ∃ q : QuinceCtl, s.startNv kind sector page cont owner = { s with quince := q }
      ∧ q.op = some { kind := kind, sector := sector, page := page, cont := cont, owner := owner } := by
  unfold State.startNv
  rw [if_pos h]
  exact ⟨_, rfl, rfl⟩

/-- What a program's start leaves of the machine. -/
structure Begins (s t : State) (k : Slot) (x : Cmd) (kind : NvKind) (cont : NvCont) : Prop where
  chans : t.chans = s.chans
  nv : t.nv = s.nv
  programs : programs t k x kind cont

/-- A program that the page rules admit begins where the controller is free. -/
theorem begins_program {kind : NvKind} {sector : Option (Fin 255)} {page : Option (Fin 264)} {cont : NvCont}
    (hfree : s.nvFree = true) (hfind : s.sessions[k].find x.seq = some x) (h : s.nv.admits sector page = true) :
    Begins s (s.program k x kind sector page cont) k x kind cont := by
  obtain ⟨q, heq, hq⟩ := State.startNv_of_admits (s := (s.takeTurn k).markCmd k x.seq .started) (kind := kind) (sector := sector)
    (page := page) (cont := cont) (owner := some (k, x.seq)) h
  unfold State.program State.withQuince
  rw [if_pos hfree, heq]
  dsimp only
  rw [hq, Option.isSome_some, if_pos rfl]
  refine ⟨rfl, rfl, begun_markCmd hfind, ?_⟩
  dsimp only
  rw [hq]
  rfl

/-! ## Stored options (R380, R453) -/

theorem storeOption_begins {o : OptionImage} (hfree : s.nvFree = true) (hfind : s.sessions[k].find x.seq = some x)
    (h : o ≠ s.storedOptions) :
    Begins s (s.storeOption k x o) k x .single (.options { o with seq := s.storedOptions.seq + 1 }) := by
  unfold State.storeOption
  rw [if_neg h]
  exact begins_program hfree hfind rfl

theorem storeOption_same {o : OptionImage} (h : o = s.storedOptions) : s.storeOption k x o = s.optionAnswer k x := if_pos h

/-- A command that stores options has begun its program, or has answered where they are stored already. -/
def Stores (s t : State) (k : Slot) (x : Cmd) (o : OptionImage) : Prop :=
  t.chans = s.chans ∧ t.nv = s.nv
    ∧ (o ≠ s.storedOptions → programs t k x .single (.options { o with seq := s.storedOptions.seq + 1 }))
    ∧ (o = s.storedOptions → onlySession s t k ∧ ∃ r, answered t k x (okResp r))

theorem stores_storeOption {o : OptionImage} {b : List Byte} (hfree : s.nvFree = true)
    (hfind : s.sessions[k].find x.seq = some x) (hd : x.state ≠ .done) (hp : privilegedOp x.opcode = false)
    (hans : s.optionAnswer k x = s.ok k x b) : Stores s (s.storeOption k x o) k x o := by
  by_cases h : o = s.storedOptions
  · rw [storeOption_same h, hans, State.ok_eq_answer]
    exact ⟨(State.answer_frame ..).1, (State.answer_lab _ hfind hp).1, fun hne => absurd h hne,
      fun _ => ⟨onlySession_answer _ hfind hp, b, State.answer_answered s k x _ hfind hd⟩⟩
  · obtain ⟨hchans, hnv, hprog⟩ := storeOption_begins hfree hfind h
    exact ⟨hchans, hnv, fun _ => hprog, fun e => absurd e h⟩

theorem calVisStore_answers (hfree : s.nvFree = true) (hshape : calVisShape x.payload = true) (hopc : fieldAt x.payload 0 1 = 2)
    (hmode : fieldAt x.payload 1 1 ≤ 1) (hmask : 0 < fieldAt x.payload 4 4) (htx : fieldAt x.payload 8 1 < 64)
    (hmr : fieldAt x.payload 9 1 < 4) (h : served s k x 0x0403 true) :
    ∃ t, exec (.calVisStore k) s = .next t
      ∧ Stores s t k x (({ s.storedOptions with calVis := decide (fieldAt x.payload 1 1 = 1) } : OptionImage).onChannels
          (fieldAt x.payload 4 4) (fun y => { y with
            txeq1 := BitVec.ofNat 3 (fieldAt x.payload 8 1 / 8), txeq0 := BitVec.ofNat 3 (fieldAt x.payload 8 1)
            mr07 := BitVec.ofNat 2 (fieldAt x.payload 9 1) })) := by
  have hop := opcode_of_served h
  have hx := next_of_served (i := .calVisStore k) h rfl (by decide) (isOpAt_of_opcode hop hopc)
  dsimp only at hx
  rw [State.valid_true s k x (by
    rw [hshape, decide_eq_true hmode, decide_eq_true hmask, decide_eq_true htx, decide_eq_true hmr]; rfl)] at hx
  exact ⟨_, hx, stores_storeOption hfree (find_of_served h) (not_done_of_served h) (by rw [hop]; decide)
    (State.optionAnswer_calVis hop)⟩

theorem adaptiveRefStore_answers (hfree : s.nvFree = true) (hshape : adaptiveShape x.payload = true)
    (hopc : fieldAt x.payload 0 1 = 1) (hmask : 0 < fieldAt x.payload 4 4) (hon : fieldAt x.payload 8 1 ≤ 1)
    (h : served s k x 0x0504 true) :
    ∃ t, exec (.adaptiveRefStore k) s = .next t
      ∧ Stores s t k x (s.storedOptions.onChannels (fieldAt x.payload 4 4)
          (fun y => { y with adapt := decide (fieldAt x.payload 8 1 = 1) })) := by
  have hop := opcode_of_served h
  have hx := next_of_served (i := .adaptiveRefStore k) h rfl (by decide) (isOpAt_of_opcode hop hopc)
  dsimp only at hx
  rw [State.valid_true s k x (by rw [hshape, decide_eq_true hmask, decide_eq_true hon]; rfl)] at hx
  exact ⟨_, hx, stores_storeOption hfree (find_of_served h) (not_done_of_served h) (by rw [hop]; decide)
    (State.optionAnswer_adaptiveRef hop)⟩

theorem eccModeStore_answers (hfree : s.nvFree = true) (hshape : eccModeShape x.payload = true)
    (hopc : fieldAt x.payload 0 1 = 1) (hmask : 0 < fieldAt x.payload 4 4) (hmode : fieldAt x.payload 8 1 < 4)
    (hwaive : fieldAt x.payload 9 1 ≤ 1) (hmr : fieldAt x.payload 10 2 < 0x2000) (h : served s k x 0x0600 true) :
    ∃ t, exec (.eccModeStore k) s = .next t
      ∧ Stores s t k x (s.storedOptions.onChannels (fieldAt x.payload 4 4) (fun y => { y with
          mode := BitVec.ofNat 2 (fieldAt x.payload 8 1), waive := decide (fieldAt x.payload 9 1 = 1)
          mr03 := BitVec.ofNat 13 (fieldAt x.payload 10 2) })) := by
  have hop := opcode_of_served h
  have hx := next_of_served (i := .eccModeStore k) h rfl (by decide) (isOpAt_of_opcode hop hopc)
  dsimp only at hx
  rw [State.valid_true s k x (by
    rw [hshape, decide_eq_true hmask, decide_eq_true hmode, decide_eq_true hwaive, decide_eq_true hmr]; rfl)] at hx
  exact ⟨_, hx, stores_storeOption hfree (find_of_served h) (not_done_of_served h) (by rw [hop]; decide)
    (State.optionAnswer_eccMode hop)⟩

/-! ## DITHER_SEED (R419) -/

theorem toNat_decide_one {n : Nat} (h : n ≤ 1) : (decide (n = 1)).toNat = n := by
  obtain rfl | rfl : n = 0 ∨ n = 1 := by omega
  · rfl
  · rfl

/-- An option image that takes fields within their ranges has these fields. -/
theorem dither_fields {o : OptionImage} {lock sync bin seed : Nat} (hl : lock ≤ 6) (hs : sync ≤ 1) (hb : bin < 4)
    (hd : seed < 2 ^ 24)
    (h : ({ o with lockCnt := BitVec.ofNat 3 lock, syncEn := decide (sync = 1), binDef := BitVec.ofNat 2 bin
                   seed := BitVec.ofNat 24 seed } : OptionImage) = o) :
    (o.lockCnt.toNat, o.syncEn.toNat, o.binDef.toNat, o.seed.toNat) = (lock, sync, bin, seed) := by
  rw [← h]
  dsimp only
  rw [toNat_decide_one hs, BitVec.toNat_ofNat, BitVec.toNat_ofNat, BitVec.toNat_ofNat, Nat.mod_eq_of_lt (by omega),
    Nat.mod_eq_of_lt (by omega), Nat.mod_eq_of_lt (by omega)]

theorem bytesToNat_lt (l : List Byte) : bytesToNat l < 256 ^ l.length := by
  induction l using List.reverseRecOn with
  | nil => decide
  | append_singleton l b ih =>
    have hb : b.toNat < 256 := b.isLt
    rw [bytesToNat_append, List.length_append, List.length_singleton, Nat.pow_succ]
    omega

theorem fieldAt_lt (b : List Byte) (i n : Nat) : fieldAt b i n < 256 ^ n :=
  (bytesToNat_lt _).trans_le (Nat.pow_le_pow_right (by decide) (List.length_take_le ..))

theorem ditherSeedStore_answers (hfree : s.nvFree = true) (hshape : shaped x.payload 8 [7] = true)
    (hopc : fieldAt x.payload 0 1 = 1) (hl : fieldAt x.payload 1 1 ≤ 6) (hs : fieldAt x.payload 2 1 ≤ 1)
    (hb : fieldAt x.payload 3 1 < 4) (h : served s k x 0x0B01 true) :
    ∃ t, exec (.ditherSeedStore k) s = .next t ∧ t.chans = s.chans ∧ t.nv = s.nv
      ∧ ((s.storedOptions.lockCnt.toNat, s.storedOptions.syncEn.toNat, s.storedOptions.binDef.toNat, s.storedOptions.seed.toNat)
          ≠ (fieldAt x.payload 1 1, fieldAt x.payload 2 1, fieldAt x.payload 3 1, fieldAt x.payload 4 3) →
        programs t k x .single (.options { s.storedOptions with
          seq := s.storedOptions.seq + 1, lockCnt := BitVec.ofNat 3 (fieldAt x.payload 1 1)
          syncEn := decide (fieldAt x.payload 2 1 = 1), binDef := BitVec.ofNat 2 (fieldAt x.payload 3 1)
          seed := BitVec.ofNat 24 (fieldAt x.payload 4 3) })) := by
  have hop := opcode_of_served h
  have hfind := find_of_served h
  have hx := next_of_served (i := .ditherSeedStore k) h rfl (by decide) (isOpAt_of_opcode hop hopc)
  dsimp only at hx
  rw [State.valid_true s k x (by rw [hshape, decide_eq_true hl, decide_eq_true hs, decide_eq_true hb]; rfl)] at hx
  by_cases he : ({ s.storedOptions with
      lockCnt := BitVec.ofNat 3 (fieldAt x.payload 1 1), syncEn := decide (fieldAt x.payload 2 1 = 1)
      binDef := BitVec.ofNat 2 (fieldAt x.payload 3 1), seed := BitVec.ofNat 24 (fieldAt x.payload 4 3) } : OptionImage)
      = s.storedOptions
  · rw [storeOption_same he, State.optionAnswer_ditherSeed hop, State.ok_eq_answer] at hx
    exact ⟨_, hx, (State.answer_frame ..).1, (State.answer_lab (s := (s.free 8).2) _ hfind (by rw [hop]; decide)).1,
      fun hne => absurd (dither_fields hl hs hb (fieldAt_lt _ 4 3) he) hne⟩
  · obtain ⟨hchans, hnv, hprog⟩ := storeOption_begins hfree hfind he
    exact ⟨_, hx, hchans, hnv, fun _ => hprog⟩

end

/-! ## The page of a record (R428, R477) -/

/-- A sector that is found among the numbered ones is the one of its number. -/
theorem NonVolatile.sectors_of_physical {n : NonVolatile} {l i : Nat} {x : Sector} (h : n.physical l = some (i, x)) :
    n.sectors[i]? = some x := by
  have hmem : (i, x) ∈ n.numbered := List.mem_of_find?_eq_some h
  obtain ⟨j, hj⟩ := List.mem_iff_getElem?.mp hmem
  obtain ⟨hi, hx⟩ := List.getElem?_zip_eq_some.mp hj
  obtain ⟨hj', hji⟩ := List.getElem?_eq_some_iff.mp hi
  rw [List.getElem_range] at hji
  obtain rfl : j = i := hji
  exact hx

theorem Sector.mayProgram_of_nextLower {x : Sector} {p : Fin 264} (h : x.nextLower = some p) : x.mayProgram p = true := by
  unfold nextLower at h
  have hp := List.find?_some h
  exact (Bool.and_eq_true_iff.mp hp).2

theorem ofNat_of_physical {n : NonVolatile} {i : Nat} {x : Sector} (hn : n.sectors.length = 255)
    (h : n.sectors[i]? = some x) : (Fin.ofNat 255 i).val = i := by
  have hi : i < n.sectors.length := (List.getElem?_eq_some_iff.mp h).1
  exact Nat.mod_eq_of_lt (by omega)

/-- The page that the next record of the ledger's main part takes is one that may be programmed. -/
theorem NonVolatile.admits_ledgerPlace {n : NonVolatile} (hn : n.sectors.length = 255) :
    n.admits (n.ledgerPlace.map (·.1)) (n.ledgerPlace.map (·.2)) = true := by
  unfold ledgerPlace
  cases hp : n.physical (52 + n.mainSector.val) with
  | none => rfl
  | some y =>
    obtain ⟨i, x⟩ := y
    have hx := sectors_of_physical hp
    cases hl : x.nextLower with
    | none => simp [hl, admits]
    | some p =>
      simp [hl, admits, Sector.mayProgram_of_nextLower hl, Nat.mod_eq_of_lt (hn ▸ (List.getElem?_eq_some_iff.mp hx).1), hx]

theorem NonVolatile.ledgerOpen_length (n : NonVolatile) : n.ledgerOpen.sectors.length = n.sectors.length :=
  congrArg Prod.snd n.ledgerOpen_kept

/-- An erased sector's first page may be programmed. -/
theorem Sector.mayProgram_erased (x : Sector) : ({ x.erased 0 with assigned := x.assigned, prog := servicePages } : Sector).mayProgram 0
    = true := by
  have h0 : servicePages.getLsbD 0 = false := by
    unfold servicePages
    rw [BitVec.getLsbD_ofNat, Nat.testBit_zero, Nat.mul_mod, Nat.pow_mod]
    rfl
  unfold mayProgram
  dsimp only [Fin.val_zero]
  rw [h0]
  simp [erased, upperPage]

theorem NonVolatile.updSector_at {n : NonVolatile} {i : Nat} {x : Sector} (f : Sector → Sector) (h : n.sectors[i]? = some x) :
    (n.updSector i f).sectors[i]? = some (f x) := by
  unfold updSector
  dsimp only
  rw [List.getElem?_mapIdx, h, Option.map_some, if_pos rfl]

/-- Where an owner's next record goes, with its sector erased where it is full. -/
theorem State.ownerPage_admits {s t : State} {first n : Nat} {place : Option (Fin 255 × Fin 264)} (hn : sectorsWhole s)
    (h : s.ownerPage first n = (place, t)) :
    t.nv.admits (place.map (·.1)) (place.map (·.2)) = true ∧ t.nv = { s.nv with sectors := t.nv.sectors } ∧ t.chans = s.chans
      ∧ t.sessions = s.sessions ∧ t.nvFree = s.nvFree := by
  unfold State.ownerPage at h
  dsimp only at h
  split at h
  · obtain ⟨rfl, rfl⟩ := Prod.mk.inj h
    exact ⟨rfl, rfl, rfl, rfl, rfl⟩
  · next i x hp =>
    have hx := NonVolatile.sectors_of_physical hp
    have hi := ofNat_of_physical hn hx
    split at h
    · next p hl =>
      obtain ⟨rfl, rfl⟩ := Prod.mk.inj h
      refine ⟨?_, rfl, rfl, rfl, rfl⟩
      simp only [NonVolatile.admits, Option.map_some, hi]
      change (match s.nv.sectors[i]? with | some x => x.mayProgram p | none => true) = true
      rw [hx]
      exact Sector.mayProgram_of_nextLower hl
    · obtain ⟨rfl, rfl⟩ := Prod.mk.inj h
      refine ⟨?_, rfl, rfl, rfl, rfl⟩
      have hnew := NonVolatile.updSector_at (n := s.nv) (fun y => { y.erased 0 with assigned := y.assigned, prog := servicePages }) hx
      simp only [NonVolatile.admits, Option.map_some, hi]
      change (match (s.nv.updSector i (fun y => { y.erased 0 with assigned := y.assigned, prog := servicePages })).sectors[i]? with
        | some x => x.mayProgram 0 | none => true) = true
      rw [hnew]
      exact x.mayProgram_erased

section
variable {k : Slot} {x : Cmd} {s : State}

theorem ledgerMark_answers (hfree : s.nvFree = true) (hn : sectorsWhole s) (hlo : 4 ≤ x.payload.length)
    (hhi : x.payload.length ≤ 36) (h : served s k x 0x0202) :
    ∃ t, exec (.ledgerMark k) s = .next t ∧ t.chans = s.chans ∧ t.nv = s.nv.ledgerOpen
      ∧ programs t k x .lower (.mark (BitVec.ofNat 32 (fieldAt x.payload 0 4)) (x.payload.drop 4)
          (s.sessions[k].transport == .manager) (sessionId k s.sessions[k])) := by
  have hx := next_of_served (i := .ledgerMark k) h rfl (by decide) (isOp_of_opcode (opcode_of_served h))
  dsimp only at hx
  rw [State.valid_true s k x (by rw [decide_eq_true hlo, decide_eq_true hhi]; rfl), if_pos hfree] at hx
  obtain ⟨hchans, hnv, hprog⟩ := begins_program (s := s.updNv (·.ledgerOpen)) (k := k) (x := x) (kind := .lower)
    (cont := .mark (BitVec.ofNat 32 (fieldAt x.payload 0 4)) (x.payload.drop 4) (s.sessions[k].transport == .manager)
      (sessionId k s.sessions[k])) hfree (find_of_served h)
    (NonVolatile.admits_ledgerPlace (s.nv.ledgerOpen_length.trans hn))
  exact ⟨_, hx, hchans, hnv, hprog⟩

theorem retProfileSet_answers {pace limit : Nat} (hfree : s.nvFree = true) (hn : sectorsWhole s) (hp1 : 1 ≤ pace)
    (hp2 : pace ≤ 3600) (hl1 : 1 ≤ limit) (hl2 : limit ≤ 720)
    (hb : x.payload = [1, 0] ++ natBytes 2 pace ++ natBytes 2 limit ++ [0, 0]) (h : served s k x 0x0501) :
    ∃ t, exec (.retProfileSet k) s = .next t ∧ t.chans = s.chans ∧ t.nv = { s.nv with sectors := t.nv.sectors }
      ∧ programs t k x .lower (.retProfile pace limit) := by
  have hpf : fieldAt x.payload 2 2 = pace := by
    rw [hb, List.append_assoc, List.append_assoc]
    exact fieldAt_natBytes (by omega) _
  have hlf : fieldAt x.payload 4 2 = limit := by
    rw [hb, List.append_assoc, List.append_assoc]
    exact (fieldAt_behind 2 pace _ 0 2).trans (fieldAt_natBytes (by omega) _)
  have hx := next_of_served (i := .retProfileSet k) h rfl (by decide) (isOpAt_of_opcode (opcode_of_served h) (by rw [hb]; rfl))
  dsimp only at hx
  generalize hpage : s.ownerPage 24 28 = y at hx
  obtain ⟨place, u⟩ := y
  obtain ⟨hadm, hnv, hchans, hsess, hq⟩ := State.ownerPage_admits hn hpage
  rw [hpf, hlf, State.valid_true s k x (by
    rw [decide_eq_true hp1, decide_eq_true hp2, decide_eq_true hl1, decide_eq_true hl2]; simp [hb, shaped]), if_pos hfree] at hx
  obtain ⟨hc, hv, hprog⟩ := begins_program (k := k) (x := x) (kind := .lower) (cont := .retProfile pace limit) (hq.trans hfree)
    (by rw [hsess]; exact find_of_served h) hadm
  refine ⟨_, hx, hc.trans hchans, ?_, hprog⟩
  rw [hv]
  exact hnv

end

/-- Settles O54: each row by what its program's start leaves, with the page that it takes. -/
theorem jmpStoresProgram : Obligations.JmpStoresProgram := by
  intro k x s hfree hn
  refine ⟨?_, ?_, ledgerMark_answers hfree hn, fun pace limit => retProfileSet_answers hfree hn⟩
  · rintro mask f o rfl
    refine ⟨?_, ?_, ?_⟩
    · rintro hshape hopc hmode rfl hmask htx hmr rfl h
      exact calVisStore_answers hfree hshape hopc hmode hmask htx hmr h
    · rintro hshape hopc rfl hmask hon rfl h
      exact adaptiveRefStore_answers hfree hshape hopc hmask hon h
    · rintro hshape hopc rfl hmask hmode hwaive hmr rfl h
      exact eccModeStore_answers hfree hshape hopc hmask hmode hwaive hmr h
  · rintro o rfl hshape hopc hl hs hb h
    exact ditherSeedStore_answers hfree hshape hopc hl hs hb h

end Sys2Proof.Machine

/-! # Raw access (R282, R401) -/

namespace Sys2Proof.Machine

open Sys2Proof.Safety

/-! ## The commands of the sessions, and the operations that leave them -/

/-- The commands of each session. -/
def State.calls (s : State) : Vector (List Cmd) 16 := s.sessions.map (·.cmds)

theorem State.find_of_calls {s t : State} (h : t.calls = s.calls) (k : Slot) (seq : BitVec 16) :
    t.sessions[k].find seq = s.sessions[k].find seq := by
  have hk : t.sessions[k].cmds = s.sessions[k].cmds := by
    have := congrArg (fun v : Vector (List Cmd) 16 => v[k]) h
    simpa [State.calls] using this
  unfold Session.find
  rw [hk]

section
variable {p : Prop} [Decidable p]
@[simp] theorem ite_calls (a b : State) : (if p then a else b).calls = if p then a.calls else b.calls := apply_ite ..
end

section
variable (s : State) (c : Ch) (p : Pc)
@[simp] theorem State.updCh_calls (f : Channel → Channel) : (s.updCh c f).calls = s.calls := rfl
@[simp] theorem State.updPc_calls (f : PseudoChannel → PseudoChannel) : (s.updPc c p f).calls = s.calls := rfl
@[simp] theorem State.updMgmt_calls (f : Mgmt → Mgmt) : (s.updMgmt f).calls = s.calls := rfl
@[simp] theorem State.updNv_calls (f : NonVolatile → NonVolatile) : (s.updNv f).calls = s.calls := rfl
@[simp] theorem State.free_calls (w : Nat) : (s.free w).2.calls = s.calls := rfl
@[simp] theorem State.setCauseAll_calls (n : Nat) : (s.setCauseAll n).calls = s.calls := rfl
@[simp] theorem State.postImage_calls (x : Transfer) : (s.postImage c x).calls = s.calls := rfl

@[simp] theorem State.setCause_calls (n : Nat) : (s.setCause c n).calls = s.calls := by simp [State.setCause]

@[simp] theorem State.ledger_calls (typ : Byte) (body : List Byte) : (s.ledger typ body).calls = s.calls :=
  congrArg (·.map (·.cmds)) (s.ledger_sessions typ body)

theorem Session.addEvent_cmds (y : Session) (e : Event) : (y.addEvent e).cmds = y.cmds := by
  unfold Session.addEvent
  split
  · split
    · rfl
    · rfl
  · rfl

@[simp] theorem State.event_calls (typ : Nat) (unit ch pc : Byte) (data : Word32) (seq : Nat) :
    (s.event typ unit ch pc data seq).calls = s.calls := by
  simp [State.event, State.calls, Session.addEvent_cmds]

@[simp] theorem State.ledgerEvent_calls (rec : Byte) (body : List Byte) (typ : Nat) (u ch pc : Byte) (d : Word32) :
    (s.ledgerEvent rec body typ u ch pc d).calls = s.calls := by simp [State.ledgerEvent]

@[simp] theorem State.signalHealth_calls (t : BitVec 32) : (s.signalHealth t).calls = s.calls := by simp [State.signalHealth]

@[simp] theorem State.evalHealth_calls : s.evalHealth.calls = s.calls := by simp [State.evalHealth]

@[simp] theorem State.bucketOverflow_calls : (s.bucketOverflow c p).calls = s.calls := by simp [State.bucketOverflow]

@[simp] theorem State.bucketAdd_calls (n sym : Nat) : (s.bucketAdd c p n sym).calls = s.calls := by simp [State.bucketAdd]

@[simp] theorem State.journalRemap_calls (e : Fin 8) (w : BitVec 32) (a : RemapAction) :
    (s.journalRemap c p e w a).calls = s.calls := by simp [State.journalRemap]

@[simp] theorem State.candidate_calls (bank : Fin 64) (row : Row) (src : BitVec 2) :
    (s.candidate c p bank row src).1.calls = s.calls := by
  unfold State.candidate
  dsimp only
  split
  · rfl
  · split
    · simp
    · simp

@[simp] theorem State.foundCandidate_calls (n : Nat) (src : BitVec 2) : (s.foundCandidate c p n src).calls = s.calls := by
  simp [State.foundCandidate]

@[simp] theorem State.noteCorrected_calls (n : Nat) : (s.noteCorrected c p n).calls = s.calls := by simp [State.noteCorrected]

@[simp] theorem State.tsvMarginal_calls (g : Fin 16) (pos : Fin 19) : (s.tsvMarginal c g pos).calls = s.calls := by
  simp [State.tsvMarginal]

@[simp] theorem State.noteSymbol_calls (n sym : Nat) : (s.noteSymbol c p n sym).calls = s.calls := by simp [State.noteSymbol]

@[simp] theorem State.tallyUe_calls (n : Nat) (scrub : Bool) : (s.tallyUe c p n scrub).calls = s.calls := by simp [State.tallyUe]

@[simp] theorem State.countRead_calls (n : Nat) (v : ReadEvents) (inj : Option Bool) (scrub : Bool) :
    (s.countRead c p n v inj scrub).calls = s.calls := by simp [State.countRead]

@[simp] theorem State.dieRead_calls (n : Nat) (env : LineEnv) (o : Option Nat) : (s.dieRead c p n env o).2.calls = s.calls := by
  unfold State.dieRead
  dsimp only
  split
  · rfl
  · rfl

end

/-- What a core die returns once its timing is set: the stored bits as they arrive (R133). -/
theorem State.dieRead_timed (s : State) {c : Ch} (p : Pc) (n : Nat) (env : LineEnv) (o : Option Nat)
    (h : s.dies[layerOf c (accessOf n).1].coreRl ≠ 0) :
    (s.dieRead c p n env o).1.data = s.chans[c].pcs[p].readData s.rows n ^^^ (dieErrors env.cells ^^^ env.flips).extractLsb' 0 512
      ∧ (s.dieRead c p n env o).1.check
        = s.chans[c].pcs[p].readCheck s.rows n ^^^ (dieErrors env.cells ^^^ env.flips).extractLsb' 512 64 := by
  unfold State.dieRead
  dsimp only
  rw [if_neg h]
  exact ⟨rfl, rfl⟩

theorem rawBytes_length (data : BitVec 512) (check : BitVec 64) : (rawBytes data check).length = 72 := by simp [rawBytes]

/-- The machine once a raw read has been counted, before it answers (R282). -/
def State.rawReadCounted (s : State) (c : Ch) (p : Pc) (n : Nat) (env : LineEnv) (y : TsvRead × State) : State :=
  let d := s.chans[c].pcs[p].decoderInput y.1
  ((y.2.updCh c (·.countTsv p env)).countRead c p n (readEvents true (decodeManaged d.1 d.2) y.1.ods)
    (some ((s.chans[c].pcs[p].injCause n).getD false)) false).updPc c p (·.consumeRead n)

theorem State.rawReadCounted_calls (s : State) (c : Ch) (p : Pc) (n : Nat) (env : LineEnv) (y : TsvRead × State) :
    (s.rawReadCounted c p n env y).calls = y.2.calls := by simp [State.rawReadCounted]

theorem State.rawReadCounted_cells (s : State) (c : Ch) (p : Pc) (n : Nat) (env : LineEnv) (y : TsvRead × State) :
    (s.rawReadCounted c p n env y).cells = y.2.cells := by simp [State.rawReadCounted]

/-- The bytes that a raw read answers (R401). -/
def State.rawReadBytes (s : State) (c : Ch) (p : Pc) (y : TsvRead × State) : List Byte :=
  let d := s.chans[c].pcs[p].decoderInput y.1
  rawBytes y.1.data y.1.check ++ [(decodeManaged d.1 d.2).sev.code.setWidth 8,
    byteOf (if (decodeManaged d.1 d.2).sev = .corrected then (decodeManaged d.1 d.2).symidx else 0), y.1.ods.setWidth 8, 0]

/-- A raw read as what its access returns counts and answers. -/
def State.rawReadAnswer (s : State) (k : Slot) (x : Cmd) (c : Ch) (p : Pc) (n : Nat) (env : LineEnv) (y : TsvRead × State) : State :=
  (s.rawReadCounted c p n env y).answer k x (okResp (s.rawReadBytes c p y))

theorem State.rawReadOut_eq (s : State) (k : Slot) (x : Cmd) (env : LineEnv) {w : Word32} (hw : w = addrAt x.payload 4) :
    s.rawReadOut k x env = s.rawReadAnswer k x (addrCh w) (addrPc w) (addrAccess w) env
      (s.dieRead (addrCh w) (addrPc w) (addrAccess w) env none) := by
  subst hw
  rfl

/-! ## The image of a raw access -/

section
variable {k : Slot} {x : Cmd} {s : State} {c : Ch}

/-- An image that finds the transfer area empty is taken within the command's own time. -/
theorem State.drainImages_post (hi : s.chans[c].taper.images = []) (hh : s.chans[c].taper.held = []) (y : Transfer) :
    (s.postImage c y).drainImages c = (s.updCh c (·.updTaper (·.passed))).takeImage c y := by
  rw [← State.handImage_nil hi hh, State.handImage, State.drainImages_nil hi hh]

theorem areasFree_of_nil (hi : s.chans[c].taper.images = []) : s.areasFree [c] = true := by
  unfold State.areasFree
  rw [List.all_cons, hi]
  rfl

/-- A raw access that may be made is made (R282). -/
theorem rawCheck_of_quiet {len : Nat} {w : Word32} (hw : w = addrAt x.payload 4) (hok : s.addrOk w = true)
    (hm : s.chans[addrCh w].pcs[addrPc w].managed = true)
    (hr : s.reservedRow s.chans[addrCh w] (addrSid w) (addrRow w) = false) (ho : s.chans[addrCh w].pcs[addrPc w].op = none)
    (hq : s.chans[addrCh w].pcs[addrPc w].qact = true) (hi : s.chans[addrCh w].taper.images = [])
    (hb : shaped x.payload len [1, 2, 3] = true) (hop : fieldAt x.payload 0 1 ≤ 1) (body : State) :
    s.rawCheck k x len body = body := by
  subst hw
  unfold State.rawCheck
  refine (State.valid_true s k x (by rw [hb, hok, hm, hr, decide_eq_true hop]; rfl) _).trans ?_
  refine (if_neg (by rw [ho]; exact Bool.false_ne_true)).trans ?_
  refine (if_neg (by rw [hq]; exact Bool.false_ne_true)).trans ?_
  exact State.posting_of_free (areasFree_of_nil hi) body

/-- The pseudo-channel that a raw write reaches, its access injected no longer but as the write leaves it (R282). -/
def PseudoChannel.rawWritten (q : PseudoChannel) (rows n : Nat) (data : BitVec 512) (check : BitVec 64) : PseudoChannel :=
  { q.storeAccess rows n data check with injected := (n, false) :: (q.clearInjected n).injected }

theorem PseudoChannel.rawWritten_readByte (q : PseudoChannel) (rows n : Nat) (data : BitVec 512) (check : BitVec 64) (a : Nat) :
    (q.rawWritten rows n data check).readByte rows a
      = if a / 72 = n then accessByte data check (a % 72) else q.readByte rows a :=
  q.storeAccess_readByte rows n data check a

theorem takeImage_rawWrite (s : State) (c : Ch) (p : Pc) (n : Nat) (data : BitVec 512) (check : BitVec 64) :
    s.takeImage c (.rawWrite p n data check)
      = (s.updPc c p (·.rawWritten s.rows n data check)).updCh c (·.updTaper (fun t => { t with rawDone := true })) := rfl

theorem updTaper_pcs (s : State) (c d : Ch) (f : Taper → Taper) : (s.updCh c (·.updTaper f)).chans[d].pcs = s.chans[d].pcs := by
  by_cases hd : d = c
  · subst hd
    rw [State.updCh_self]
    rfl
  · rw [State.updCh_other _ _ hd]

/-- What the pseudo-channels hold after a raw write. -/
theorem takeImage_rawWrite_readByte (s : State) (c d : Ch) (p q : Pc) (n : Nat) (data : BitVec 512) (check : BitVec 64) (a : Nat) :
    (s.takeImage c (.rawWrite p n data check)).chans[d].pcs[q].readByte s.rows a
      = if d = c ∧ q = p ∧ a / 72 = n then accessByte data check (a % 72) else s.chans[d].pcs[q].readByte s.rows a := by
  rw [takeImage_rawWrite, updTaper_pcs]
  by_cases hd : d = c ∧ q = p
  · obtain ⟨rfl, rfl⟩ := hd
    rw [State.updPc_at, PseudoChannel.rawWritten_readByte]
    simp
  · rw [if_neg (fun h => hd ⟨h.1, h.2.1⟩), State.updPc_cases, if_neg hd]

/-- What an image of a raw read leaves where it finds the area empty. -/
theorem takeImage_rawRead (s : State) (c : Ch) (p : Pc) (n : Nat) :
    ((s.updCh c (·.updTaper (·.passed))).takeImage c (.rawRead p n)).chans[c].pcs = s.chans[c].pcs
      ∧ ((s.updCh c (·.updTaper (·.passed))).takeImage c (.rawRead p n)).cells = s.cells
      ∧ ((s.updCh c (·.updTaper (·.passed))).takeImage c (.rawRead p n)).sessions = s.sessions
      ∧ ((s.updCh c (·.updTaper (·.passed))).takeImage c (.rawRead p n)).dies = s.dies
      ∧ ((s.updCh c (·.updTaper (·.passed))).takeImage c (.rawRead p n)).rows = s.rows := by
  refine ⟨(updTaper_pcs _ c c _).trans (updTaper_pcs s c c _), (State.updCh_cells ?_).trans (State.updCh_cells ?_), rfl, rfl, rfl⟩
  · rfl
  · rfl

/-- What a raw read leaves and answers. -/
theorem State.rawReadAnswer_answers (c : Ch) (p : Pc) (n : Nat) (env : LineEnv) {sid : Sid} (hsid : (accessOf n).1 = sid)
    (hfind : s.sessions[k].find x.seq = some x) (hd : x.state ≠ .done) :
    answered (s.rawReadAnswer k x c p n env (s.dieRead c p n env none)) k x
        (okResp (s.rawReadBytes c p (s.dieRead c p n env none)))
      ∧ memKept s (s.rawReadAnswer k x c p n env (s.dieRead c p n env none))
      ∧ (s.dies[layerOf c sid].coreRl ≠ 0 → (s.rawReadBytes c p (s.dieRead c p n env none)).take 72 = rawBytes
          (s.chans[c].pcs[p].readData s.rows n ^^^ (dieErrors env.cells ^^^ env.flips).extractLsb' 0 512)
          (s.chans[c].pcs[p].readCheck s.rows n ^^^ (dieErrors env.cells ^^^ env.flips).extractLsb' 512 64)) := by
  subst hsid
  have hcalls := (s.rawReadCounted_calls c p n env (s.dieRead c p n env none)).trans (s.dieRead_calls c p n env none)
  have hcells := (s.rawReadCounted_cells c p n env (s.dieRead c p n env none)).trans (s.dieRead_cells c p n env none)
  refine ⟨State.answer_answered _ k x _ ((State.find_of_calls hcalls k x.seq).trans hfind) hd,
    memKept_of_cells ((State.answer_cells ..).trans hcells), fun hcore => ?_⟩
  obtain ⟨hdata, hcheck⟩ := s.dieRead_timed p n env none hcore
  rw [← hdata, ← hcheck]
  exact List.take_left' (rawBytes_length ..)

end

/-! ## The commands -/

section
variable {k : Slot} {x : Cmd} {s : State} {w : Word32} (hw : w = addrAt x.payload 4) (hok : s.addrOk w = true)
  (hm : s.chans[addrCh w].pcs[addrPc w].managed = true)
  (hr : s.reservedRow s.chans[addrCh w] (addrSid w) (addrRow w) = false) (ho : s.chans[addrCh w].pcs[addrPc w].op = none)
  (hq : s.chans[addrCh w].pcs[addrPc w].qact = true) (hi : s.chans[addrCh w].taper.images = [])
  (hh : s.chans[addrCh w].taper.held = []) (h : served s k x 0x0606 true)
include hw hok hm hr ho hq hi hh h

theorem rawWrite_stores (hb : shaped x.payload 80 [1, 2, 3] = true) (h0 : fieldAt x.payload 0 1 = 0) :
    ∃ t, exec (.rawWrite k) s = .next t ∧ answered t k x (okResp [])
      ∧ (∀ j : Nat, j < 72 →
          t.chans[addrCh w].pcs[addrPc w].readByte t.rows (byteAddr (addrAccess w) j)
            = accessByte (dataOfBytes ((x.payload.drop 8).take 64)) (checkOfBytes ((x.payload.drop 72).take 8)) j)
      ∧ ∀ (c : Ch) (p : Pc) (a : Nat), (c = addrCh w ∧ p = addrPc w → a / 72 ≠ addrAccess w) →
          t.chans[c].pcs[p].readByte t.rows a = s.chans[c].pcs[p].readByte s.rows a := by
  have hx := next_of_served (i := .rawWrite k) h rfl (by decide) (isOpFirst_of_opcode (opcode_of_served h) h0)
  dsimp only at hx
  rw [rawCheck_of_quiet hw hok hm hr ho hq hi hb (by omega), ← hw, State.drainImages_post hi hh, State.ok_eq_answer] at hx
  generalize dataOfBytes ((x.payload.drop 8).take 64) = data at hx ⊢
  generalize checkOfBytes ((x.payload.drop 72).take 8) = check at hx ⊢
  have hbytes := takeImage_rawWrite_readByte (s.updCh (addrCh w) (·.updTaper (·.passed))) (addrCh w)
    (p := addrPc w) (n := addrAccess w) (data := data) (check := check)
  have hfind : ((s.updCh (addrCh w) (·.updTaper (·.passed))).takeImage (addrCh w)
      (.rawWrite (addrPc w) (addrAccess w) data check)).sessions[k].find x.seq = some x := find_of_served h
  have hrows : ((s.updCh (addrCh w) (·.updTaper (·.passed))).takeImage (addrCh w)
      (.rawWrite (addrPc w) (addrAccess w) data check)).rows = s.rows := rfl
  have hsame (c : Ch) (p : Pc) : (s.updCh (addrCh w) (·.updTaper (·.passed))).chans[c].pcs[p] = s.chans[c].pcs[p] := by
    by_cases e : c = addrCh w
    · subst e
      rw [State.updCh_self]
      rfl
    · rw [State.updCh_other _ _ e]
  generalize (s.updCh (addrCh w) (·.updTaper (·.passed))).takeImage (addrCh w) _ = u at hx hbytes hfind hrows
  obtain ⟨hchans, -, -, -, -, -, hdens, -⟩ := u.answer_frame k x (okResp [])
  have hread (c : Ch) (p : Pc) (a : Nat) : (u.answer k x (okResp [])).chans[c].pcs[p].readByte (u.answer k x (okResp [])).rows a
      = if c = addrCh w ∧ p = addrPc w ∧ a / 72 = addrAccess w then accessByte data check (a % 72)
        else s.chans[c].pcs[p].readByte s.rows a := by
    rw [hchans, State.rows_of_dens hdens, hrows]
    exact (hbytes c p a).trans (by rw [hsame]; rfl)
  refine ⟨_, hx, State.answer_answered u k x _ hfind (not_done_of_served h), fun j hj => ?_, fun c p a hne => ?_⟩
  · rw [hread, if_pos ⟨rfl, rfl, by unfold byteAddr; omega⟩]
    exact congrArg _ (by unfold byteAddr; omega)
  · rw [hread, if_neg (fun e => hne ⟨e.1, e.2.1⟩ e.2.2)]

theorem rawRead_answers (hb : shaped x.payload 8 [1, 2, 3] = true) (h1 : fieldAt x.payload 0 1 = 1) (env : LineEnv) :
    ∃ t r, exec (.rawRead k env) s = .next t ∧ answered t k x (okResp r) ∧ memKept s t
      ∧ ((s.dies[layerOf (addrCh w) (addrSid w)]).coreRl ≠ 0 → r.take 72 = rawBytes
          (s.chans[addrCh w].pcs[addrPc w].readData s.rows (addrAccess w)
            ^^^ (dieErrors env.cells ^^^ env.flips).extractLsb' 0 512)
          (s.chans[addrCh w].pcs[addrPc w].readCheck s.rows (addrAccess w)
            ^^^ (dieErrors env.cells ^^^ env.flips).extractLsb' 512 64)) := by
  have hx := next_of_served (i := .rawRead k env) h rfl (by decide) (isOpAt_of_opcode (opcode_of_served h) h1)
  dsimp only at hx
  rw [rawCheck_of_quiet hw hok hm hr ho hq hi hb (by omega), ← hw, State.drainImages_post hi hh] at hx
  have hfind := find_of_served h
  have hdone := not_done_of_served h
  have hsid : (accessOf (addrAccess w)).1 = addrSid w := by rw [addrAccess, accessOf_accessNo]
  rw [State.rawReadOut_eq _ k x env hw] at hx
  generalize addrAccess w = n at hx hsid ⊢
  obtain ⟨hpc, hcells, hsess, hdies, hrows⟩ := takeImage_rawRead s (addrCh w) (addrPc w) n
  generalize (s.updCh (addrCh w) (·.updTaper (·.passed))).takeImage (addrCh w) (.rawRead (addrPc w) n) = u
    at hx hpc hcells hsess hdies hrows
  obtain ⟨hans, hmem, htake⟩ := u.rawReadAnswer_answers (addrCh w) (addrPc w) n env hsid (by rw [hsess]; exact hfind) hdone
  rw [hdies, hpc, hrows] at htake
  exact ⟨_, _, hx, hans, fun d q a => (hmem d q a).trans (memKept_of_cells hcells d q a), htake⟩

end

/-- Settles O55: an image that finds its area empty is taken at once. -/
theorem jmpRawAccess : Obligations.JmpRawAccess := by
  intro k x s w hw hok hm hr ho hq hi hh h
  exact ⟨rawWrite_stores hw hok hm hr ho hq hi hh h, rawRead_answers hw hok hm hr ho hq hi hh h⟩

end Sys2Proof.Machine

/-! # Calibration commands (R208 to R211, R218, R387, R389) -/

namespace Sys2Proof.Machine

open Sys2Proof.Safety

/-! ## Downloads and uploads (R375, R376, R378) -/

section
variable {k : Slot} {x : Cmd} {s : State}

/-- What an answer leaves of a session's upload and of the plane, where no record of it is made. -/
theorem State.answer_upload (s : State) (k : Slot) (x : Cmd) (r : Response) :
    (s.answer k x r).sessions[k].upload = s.sessions[k].upload := by
  rw [State.answer_at, Session.respond_frame]

theorem State.answer_mgmt (r : Response) (hfind : s.sessions[k].find x.seq = some x) (hp : privilegedOp x.opcode = false) :
    (s.answer k x r).mgmt = { s.mgmt with turn := k } := by
  rw [State.answer_of_plain r hfind hp]
  rfl

/-- The first chunk of an object that is captured now. -/
theorem download_captures {spec object : List Byte} {build : List Byte → (Byte × Byte) ⊕ List Byte} {onCapture : State → State}
    (hlen : x.payload.length = 16) (hoff : fieldAt x.payload 0 4 = 0) (hspec : x.payload.drop 4 = spec)
    (hbuild : build spec = .inr object) :
    s.download k x build onCapture
      = ((onCapture s).updSession k (·.capture x.opcode spec object)).answer k x (chunkOf s.sessions[k].capNo object 0) := by
  unfold State.download
  dsimp only
  rw [if_neg (not_not.mpr hlen), hoff, if_pos rfl, hspec, hbuild]

/-- A chunk that continues or begins an upload is taken. -/
theorem uploadChunk_of_uploads {o : OwnedObject} {u : Upload} {last : Bool} {first : List Byte → Nat → Bool}
    {take : Upload → Bool → State} (h : uploads s k x o u last) (hfirst : first u.spec u.total = true) :
    s.uploadChunk k x o first take = take u last := by
  obtain ⟨hlen, hfits, rfl, ⟨v, hv, hcont, rfl⟩ | ⟨hnone, hoff, hown, rfl⟩⟩ := h
  · unfold State.uploadChunk
    dsimp only
    rw [if_neg (by omega), hv]
    dsimp only
    rw [if_pos hcont, if_pos hfits]
  · unfold State.uploadChunk
    dsimp only at hfirst ⊢
    rw [if_neg (by omega), hnone]
    dsimp only
    rw [if_neg (by rw [hoff, hfits]; decide), if_neg (by rw [hfirst]; decide), if_neg (by rw [hown]; decide), List.nil_append]

theorem putUpload_at (u : Option Upload) : (s.putUpload k u).sessions[k] = { s.sessions[k] with upload := u } :=
  State.updSession_self ..

theorem putUpload_find (u : Option Upload) (seq : BitVec 16) :
    (s.putUpload k u).sessions[k].find seq = s.sessions[k].find seq :=
  find_updSession (f := fun y => { y with upload := u }) (fun _ => rfl) seq

/-- A chunk before the last is kept under the session's name. -/
theorem keepChunk_answers (o : OwnedObject) (u : Upload) (hfind : s.sessions[k].find x.seq = some x) (hd : x.state ≠ .done)
    (hp : privilegedOp x.opcode = false) :
    answered (s.keepChunk k x o u) k x (okResp []) ∧ (s.keepChunk k x o u).sessions[k].upload = some u
      ∧ (s.keepChunk k x o u).mgmt = { o.setOwner s.mgmt (some k) with turn := k }
      ∧ (s.keepChunk k x o u).chans = s.chans ∧ (s.keepChunk k x o u).nv = s.nv := by
  unfold State.keepChunk
  rw [State.ok_eq_answer]
  have hfind' : ((s.putUpload k (some u)).updMgmt (fun m => o.setOwner m (some k))).sessions[k].find x.seq = some x :=
    (putUpload_find (some u) x.seq).trans hfind
  refine ⟨State.answer_answered _ k x _ hfind' hd, (State.answer_upload ..).trans ?_, State.answer_mgmt _ hfind' hp,
    (State.answer_frame ..).1, (State.answer_lab _ hfind' hp).1⟩
  exact congrArg Session.upload (putUpload_at (some u))

theorem dropUpload_upload (o : OwnedObject) : (s.dropUpload k o).sessions[k].upload = none :=
  congrArg Session.upload (putUpload_at none)

theorem dropUpload_find (o : OwnedObject) (seq : BitVec 16) :
    (s.dropUpload k o).sessions[k].find seq = s.sessions[k].find seq := putUpload_find none seq

end

/-- A coefficient blob counts as a capture (Table 7-8), which changes the plane alone. -/
theorem captured_frame (s : State) :
    (if s.coefficients then s.updMgmt (fun m => { m with calCaptures := m.calCaptures + 1 }) else s).chans = s.chans
      ∧ (if s.coefficients then s.updMgmt (fun m => { m with calCaptures := m.calCaptures + 1 }) else s).nv = s.nv
      ∧ (if s.coefficients then s.updMgmt (fun m => { m with calCaptures := m.calCaptures + 1 }) else s).sessions = s.sessions := by
  split
  · exact ⟨rfl, rfl, rfl⟩
  · exact ⟨rfl, rfl, rfl⟩

section
variable {k : Slot} {x : Cmd} {s : State}

/-! ## CAL_SAVE (R210, R387) -/

theorem saveObject_of_mask {mask : Nat} (hm : mask < 2 ^ 32) (hne : mask ≠ 0)
    (hall : ∀ c ∈ maskChs mask, s.chans[c].trn.ever7 = true) {b : List Byte}
    (hb : s.coefficients = true ∧ b = s.coefficientBlob mask ∨ s.coefficients = false ∧ s.handleBlob mask = some b) :
    s.saveObject (natBytes 4 mask ++ zeros 8) = .inr b := by
  have hfield : fieldAt (natBytes 4 mask ++ zeros 8) 0 4 = mask := fieldAt_natBytes (by omega) _
  have hall' : (maskChs mask).all (fun c => s.chans[c].trn.ever7) = true := List.all_eq_true.mpr hall
  have hshape : shaped (natBytes 4 mask ++ zeros 8) 12 [4, 5, 6, 7, 8, 9, 10, 11] = true := by
    simp [shaped, natBytes, List.range_succ, zeros]
  unfold State.saveObject
  dsimp only
  rw [hfield, hshape, hall', decide_eq_false hne, if_neg (by decide)]
  obtain ⟨hc, rfl⟩ | ⟨hc, hb⟩ := hb
  · rw [if_pos hc]
  · rw [hc, if_neg Bool.false_ne_true, hb]

theorem calSave_answers {mask : Nat} (hm : mask < 2 ^ 32) (hne : mask ≠ 0)
    (hall : ∀ c ∈ maskChs mask, s.chans[c].trn.ever7 = true) (hpay : x.payload = zeros 4 ++ natBytes 4 mask ++ zeros 8)
    (h : served s k x 0x0401 true) {b : List Byte}
    (hb : s.coefficients = true ∧ b = s.coefficientBlob mask ∨ s.coefficients = false ∧ s.handleBlob mask = some b) :
    ∃ t, exec (.calSave k) s = .next t ∧ t.chans = s.chans ∧ t.nv = s.nv
      ∧ answered t k x (chunkOf s.sessions[k].capNo b 0) := by
  have hop := opcode_of_served h
  have hx := next_of_served (i := .calSave k) h rfl (by decide) (isOp_of_opcode hop)
  rw [download_captures (by rw [hpay]; simp [zeros]) (by rw [hpay, List.append_assoc]; rfl)
    (by rw [hpay, List.append_assoc]; rfl) (saveObject_of_mask hm hne hall hb)] at hx
  have hframe := captured_frame s
  generalize (if s.coefficients then s.updMgmt (fun m => { m with calCaptures := m.calCaptures + 1 }) else s) = v at hx hframe
  obtain ⟨hchans, hnv, hsess⟩ := hframe
  have hfind : (v.updSession k (·.capture x.opcode (natBytes 4 mask ++ zeros 8) b)).sessions[k].find x.seq = some x := by
    rw [find_updSession (by exact fun _ => rfl), hsess]
    exact find_of_served h
  exact ⟨_, hx, (State.answer_frame ..).1.trans hchans, (State.answer_lab _ hfind (by rw [hop]; decide)).1.trans hnv,
    State.answer_answered _ k x _ hfind (not_done_of_served h)⟩

end

/-! ## CAL_RESTORE (R211, R387) -/

/-- The channels of a list take their warm baselines. -/
def State.restoreEach (s : State) (F : Nat × Ch → Option Baseline) (l : List (Nat × Ch)) : State :=
  l.foldl (fun t x => match F x with
    | some r => t.updCh x.2 (fun h => { h with trn := { h.trn with restored := some r } })
    | none => t) s

theorem restoreEach_cons (s : State) (F : Nat × Ch → Option Baseline) (x : Nat × Ch) (l : List (Nat × Ch)) :
    s.restoreEach F (x :: l) = (match F x with
      | some r => s.updCh x.2 (fun h => { h with trn := { h.trn with restored := some r } })
      | none => s).restoreEach F l := rfl

theorem restoreEach_alone (s : State) (F : Nat × Ch → Option Baseline) (l : List (Nat × Ch)) :
    s.restoreEach F l = { s with chans := (s.restoreEach F l).chans } := by
  induction l generalizing s with
  | nil => rfl
  | cons x l ih =>
    rw [restoreEach_cons, ih]
    split
    · rfl
    · rfl

theorem restoreEach_lanes (s : State) (F : Nat × Ch → Option Baseline) (l : List (Nat × Ch)) (c : Ch) :
    (s.restoreEach F l).chans[c].lanes = s.chans[c].lanes := by
  induction l generalizing s with
  | nil => rfl
  | cons x l ih =>
    rw [restoreEach_cons, ih]
    split
    · by_cases hc : c = x.2
      · subst hc
        rw [State.updCh_self]
      · rw [State.updCh_other _ _ hc]
    · rfl

theorem restoreEach_other (s : State) (F : Nat × Ch → Option Baseline) {l : List (Nat × Ch)} {c : Ch} (h : c ∉ l.map (·.2)) :
    (s.restoreEach F l).chans[c] = s.chans[c] := by
  induction l generalizing s with
  | nil => rfl
  | cons x l ih =>
    rw [List.map_cons] at h
    rw [restoreEach_cons, ih _ (List.not_mem_of_not_mem_cons h)]
    split
    · rw [State.updCh_other _ _ (List.ne_of_not_mem_cons h)]
    · rfl

theorem restoreEach_at (s : State) (F : Nat × Ch → Option Baseline) {l : List (Nat × Ch)} (hn : (l.map (·.2)).Nodup)
    {y : Nat × Ch} (hy : y ∈ l) {r : Baseline} (hr : F y = some r) : (s.restoreEach F l).chans[y.2].trn.restored = some r := by
  induction l generalizing s with
  | nil => cases hy
  | cons x l ih =>
    obtain ⟨hx, hn'⟩ := List.nodup_cons.mp hn
    rcases List.mem_cons.mp hy with rfl | hl
    · rw [restoreEach_cons, hr, restoreEach_other _ F hx, State.updCh_self]
    · exact ih _ hn' hl

theorem nodup_blobChannels (b : List Byte) : ((blobChannels b).map (·.2)).Nodup := by
  unfold blobChannels
  dsimp only
  rw [List.map_snd_zip (by rw [List.length_range])]
  exact (List.nodup_finRange 32).filter _

section
variable {k : Slot} {x : Cmd} {s : State}

theorem acceptBlob_eq (s : State) (b : List Byte) : s.acceptBlob b = s.restoreEach (s.restoredOf b) (blobChannels b) := rfl

variable (hfind : s.sessions[k].find x.seq = some x) (hd : x.state ≠ .done) (hp : privilegedOp x.opcode = false)
include hfind hd hp

/-- What the last chunk of a CAL_RESTORE leaves, whatever it answers. -/
theorem restored_frame {t : State} (r : Response) (ht : t = { s.dropUpload k restoreBuffer with chans := t.chans }) :
    answered (t.answer k x r) k x r ∧ (t.answer k x r).sessions[k].upload = none ∧ (t.answer k x r).mgmt.restoreOwner = none
      ∧ (t.answer k x r).chans = t.chans ∧ (t.answer k x r).nv = s.nv := by
  have hfind' : t.sessions[k].find x.seq = some x := by
    rw [ht]
    exact (dropUpload_find restoreBuffer x.seq).trans hfind
  refine ⟨State.answer_answered t k x r hfind' hd, (State.answer_upload ..).trans ?_, ?_, (State.answer_frame ..).1,
    (State.answer_lab r hfind' hp).1.trans ?_⟩
  · rw [ht]
    exact dropUpload_upload restoreBuffer
  · rw [State.answer_mgmt r hfind' hp, ht]
    rfl
  · rw [ht]
    rfl

theorem restoreBlob_answers (b : List Byte) :
    (∀ c : Ch, (s.restoreBlob k x b).chans[c].lanes = s.chans[c].lanes) ∧ (s.restoreBlob k x b).nv = s.nv
      ∧ (s.restoreBlob k x b).sessions[k].upload = none ∧ (s.restoreBlob k x b).mgmt.restoreOwner = none
      ∧ (s.blobOk b = false → answered (s.restoreBlob k x b) k x { status := stBadArg } ∧ (s.restoreBlob k x b).chans = s.chans)
      ∧ (s.blobOk b = true → (∀ y ∈ blobChannels b, s.chans[y.2].trn.started3 = false) →
          answered (s.restoreBlob k x b) k x (okResp []) ∧ ∀ y ∈ blobChannels b, ∀ r, s.restoredOf b y = some r →
            (s.restoreBlob k x b).chans[y.2].trn.restored = some r) := by
  unfold State.restoreBlob
  dsimp only
  cases hb : s.blobOk b with
  | false =>
    rw [if_pos (by rfl), State.fails_eq_answer]
    obtain ⟨hans, hup, hown, hchans, hnv⟩ := restored_frame hfind hd hp (t := s.dropUpload k restoreBuffer)
      { status := stBadArg, detail := 0 } rfl
    exact ⟨fun c => by rw [hchans]; rfl, hnv, hup, hown, fun _ => ⟨hans, hchans⟩, fun e => absurd e (by decide)⟩
  | true =>
    rw [if_neg (by decide)]
    cases hs : (blobChannels b).any (fun y => s.chans[y.2].trn.started3) with
    | true =>
      rw [if_pos rfl, State.fails_eq_answer]
      obtain ⟨hans, hup, hown, hchans, hnv⟩ := restored_frame hfind hd hp (t := s.dropUpload k restoreBuffer)
        { status := stDenied, detail := 0 } rfl
      refine ⟨fun c => by rw [hchans]; rfl, hnv, hup, hown, fun e => absurd e (by decide), fun _ hno => ?_⟩
      obtain ⟨y, hy, hst⟩ := List.any_eq_true.mp hs
      rw [hno y hy] at hst
      exact absurd hst (by decide)
    | false =>
      rw [if_neg Bool.false_ne_true, State.ok_eq_answer, acceptBlob_eq]
      obtain ⟨hans, hup, hown, hchans, hnv⟩ := restored_frame hfind hd hp
        (t := (s.dropUpload k restoreBuffer).restoreEach ((s.dropUpload k restoreBuffer).restoredOf b) (blobChannels b))
        (okResp []) (restoreEach_alone ..)
      refine ⟨fun c => by rw [hchans, restoreEach_lanes]; rfl, hnv, hup, hown, fun e => absurd e (by decide),
        fun _ _ => ⟨hans, fun y hy r hr => ?_⟩⟩
      rw [hchans]
      exact restoreEach_at _ _ (nodup_blobChannels b) hy hr

end

section
variable {k : Slot} {x : Cmd} {s : State}

theorem calRestore_answers {u : Upload} {last : Bool} (hu : uploads s k x restoreBuffer u last)
    (hz : u.spec.all (· == 0) = true) (hlo : 68 ≤ u.total) (hhi : u.total ≤ 27204) (h : served s k x opCalRestore true) :
    ∃ t, exec (.calRestore k) s = .next t ∧ (∀ c : Ch, t.chans[c].lanes = s.chans[c].lanes) ∧ t.nv = s.nv
      ∧ (last = false → answered t k x (okResp []) ∧ t.sessions[k].upload = some u ∧ t.mgmt.restoreOwner = some k
          ∧ t.chans = s.chans)
      ∧ (last = true → t.sessions[k].upload = none ∧ t.mgmt.restoreOwner = none
          ∧ (s.blobOk u.bytes = false → answered t k x { status := stBadArg } ∧ t.chans = s.chans)
          ∧ (s.blobOk u.bytes = true → (∀ y ∈ blobChannels u.bytes, s.chans[y.2].trn.started3 = false) →
              answered t k x (okResp []) ∧ ∀ y ∈ blobChannels u.bytes, ∀ r, s.restoredOf u.bytes y = some r →
                t.chans[y.2].trn.restored = some r)) := by
  have hop := opcode_of_served h
  have hp : privilegedOp x.opcode = false := by rw [hop]; decide
  have hx := next_of_served (i := .calRestore k) h rfl (by decide) (isOp_of_opcode hop)
  rw [uploadChunk_of_uploads hu (by rw [hz, decide_eq_true hlo, decide_eq_true hhi]; rfl)] at hx
  cases last with
  | false =>
    rw [if_neg Bool.false_ne_true] at hx
    obtain ⟨hans, hup, hmgmt, hchans, hnv⟩ := keepChunk_answers restoreBuffer u (find_of_served h) (not_done_of_served h) hp
    exact ⟨_, hx, fun c => by rw [hchans], hnv, fun _ => ⟨hans, hup, by rw [hmgmt]; rfl, hchans⟩, fun e => absurd e (by decide)⟩
  | true =>
    rw [if_pos rfl] at hx
    obtain ⟨hlanes, hnv, hrest⟩ := restoreBlob_answers (find_of_served h) (not_done_of_served h) hp u.bytes
    exact ⟨_, hx, hlanes, hnv, fun e => absurd e (by decide), fun _ => hrest⟩

end

end Sys2Proof.Machine

/-! # Calibration runs (R13, R17, R218, R389) -/

namespace Sys2Proof.Machine

open Sys2Proof.Safety

/-! ## Images of runs -/

/-- The channel's control plane takes the oldest image. -/
def State.drainStep (c : Ch) (s : State) : State :=
  match s.chans[c].taper.images with
  | [] => s
  | (_, x) :: _ => (s.updCh c (·.updTaper (·.takeOldest))).takeImage c x

theorem drainImages_iterate (s : State) (c : Ch) :
    s.drainImages c = (State.drainStep c)^[s.chans[c].taper.images.length + s.chans[c].taper.held.length] s :=
  (List.foldl_const (State.drainStep c) s (List.range _)).trans (by rw [List.length_range])

/-- A channel whose area held images alone has taken them all, one after the other. -/
theorem drainImages_cons {s : State} {c : Ch} {i : Nat} {x : Transfer} {rest : List (Nat × Transfer)}
    (hi : s.chans[c].taper.images = (i, x) :: rest) (hh : s.chans[c].taper.held = [])
    (hi' : (s.drainStep c).chans[c].taper.images = rest) (hh' : (s.drainStep c).chans[c].taper.held = []) :
    s.drainImages c = (s.drainStep c).drainImages c := by
  rw [drainImages_iterate, drainImages_iterate, hi, hh, hi', hh']
  exact Function.iterate_succ_apply (State.drainStep c) rest.length s

theorem drainImages_none {s : State} {c : Ch} (hi : s.chans[c].taper.images = []) (hh : s.chans[c].taper.held = []) :
    s.drainImages c = s := State.drainImages_nil hi hh

/-- The images of a run of mode 0. -/
def runImages (l : List Pc) : List Transfer := l.map (fun p => .calRun p 0)

/-- What the images of a run of mode 0 leave of the machine and its channel, marked due or not. -/
structure Marks (s t : State) (c : Ch) (b : Bool) : Prop where
  pcs : t.chans[c].pcs = s.chans[c].pcs
  trn : t.chans[c].trn = s.chans[c].trn
  due : t.chans[c].regs.lmwDue = (s.chans[c].regs.lmwDue || (b && s.chans[c].trn.passed7))
  sessions : t.sessions = s.sessions
  other : ∀ d : Ch, d ≠ c → t.chans[d] = s.chans[d]

theorem Marks.trans {s t u : State} {c : Ch} {b b' : Bool} (h : Marks s t c b) (h' : Marks t u c b') : Marks s u c (b || b') := by
  refine ⟨h'.pcs.trans h.pcs, h'.trn.trans h.trn, ?_, h'.sessions.trans h.sessions, fun d hd => (h'.other d hd).trans (h.other d hd)⟩
  rw [h'.due, h.due, h.trn]
  cases b <;> cases b' <;> cases s.chans[c].regs.lmwDue <;> cases s.chans[c].trn.passed7 <;> rfl

theorem Taper.takeOldest_cons {t : Taper} {i : Nat} {x : Transfer} {rest : List (Nat × Transfer)} (hi : t.images = (i, x) :: rest)
    (hh : t.held = []) : t.takeOldest = { t with images := rest, imageTaken := i, held := [] } := by
  unfold takeOldest
  rw [hi]
  dsimp only
  rw [hh]
  rfl

/-- The image of a run of mode 0 marks its channel due (R389). -/
def Channel.markedDue (h : Channel) : Channel := if h.trn.passed7 then h.updRegs (fun r => { r with lmwDue := true }) else h

theorem Channel.markedDue_frame (h : Channel) : h.markedDue.pcs = h.pcs ∧ h.markedDue.trn = h.trn ∧ h.markedDue.taper = h.taper
    ∧ h.markedDue.regs.lmwDue = (h.regs.lmwDue || h.trn.passed7) := by
  unfold markedDue
  split
  · next hp => exact ⟨rfl, rfl, rfl, by rw [hp, Bool.or_true]; rfl⟩
  · next hp => exact ⟨rfl, rfl, rfl, by rw [Bool.eq_false_of_not_eq_true hp, Bool.or_false]⟩

theorem drainStep_run {s : State} {c : Ch} {i : Nat} {p : Pc} {rest : List (Nat × Transfer)}
    (hi : s.chans[c].taper.images = (i, .calRun p 0) :: rest) :
    s.drainStep c = s.updCh c (fun h => (h.updTaper (·.takeOldest)).markedDue) := by
  unfold State.drainStep
  rw [hi]
  have htake (u : State) : u.takeImage c (.calRun p 0) = u.updCh c (·.markedDue) := rfl
  exact (htake _).trans (State.updCh_updCh ..)

theorem marks_drainStep {s : State} {c : Ch} {i : Nat} {p : Pc} {rest : List (Nat × Transfer)}
    (hi : s.chans[c].taper.images = (i, .calRun p 0) :: rest) (hh : s.chans[c].taper.held = []) :
    Marks s (s.drainStep c) c true ∧ (s.drainStep c).chans[c].taper.images = rest ∧ (s.drainStep c).chans[c].taper.held = [] := by
  rw [drainStep_run hi]
  obtain ⟨hpcs, htrn, htaper, hdue⟩ := (s.chans[c].updTaper (·.takeOldest)).markedDue_frame
  have htake := Taper.takeOldest_cons hi hh
  refine ⟨⟨?_, ?_, ?_, rfl, fun d hd => State.updCh_other _ _ hd⟩, ?_, ?_⟩
  · rw [State.updCh_self, hpcs]
    rfl
  · rw [State.updCh_self, htrn]
    rfl
  · rw [State.updCh_self, hdue, Bool.true_and]
    rfl
  · rw [State.updCh_self, htaper]
    exact congrArg Taper.images htake
  · rw [State.updCh_self, htaper]
    exact congrArg Taper.held htake

theorem marks_drainImages {s : State} {c : Ch} (l : List Pc) (hi : imagesOf s c = runImages l)
    (hh : s.chans[c].taper.held = []) : Marks s (s.drainImages c) c (!l.isEmpty) := by
  induction l generalizing s with
  | nil =>
    rw [drainImages_none (List.map_eq_nil_iff.mp hi) hh]
    exact ⟨rfl, rfl, (Bool.or_false _).symm, rfl, fun _ _ => rfl⟩
  | cons p l ih =>
    obtain ⟨⟨i, y⟩, rest, himages, hy, hrest⟩ := List.map_eq_cons_iff.mp hi
    obtain rfl : y = .calRun p 0 := hy
    obtain ⟨hmark, hi', hh'⟩ := marks_drainStep himages hh
    rw [drainImages_cons himages hh hi' hh']
    exact hmark.trans (ih (by unfold imagesOf; rw [hi']; exact hrest) hh')

theorem postEach_pcs (s : State) (c d : Ch) (l : List Transfer) : (s.postEach c l).chans[d].pcs = s.chans[d].pcs := by
  induction l generalizing s with
  | nil => rfl
  | cons x l ih => exact (ih (s.postImage c x)).trans (updTaper_pcs s c d _)

theorem marks_postEach {s : State} {c : Ch} {l : List Transfer} (h : s.chans[c].taper.images.length + l.length ≤ 16) :
    Marks s (s.postEach c l) c false ∧ (s.postEach c l).chans[c].taper.held = s.chans[c].taper.held := by
  induction l generalizing s with
  | nil => exact ⟨⟨rfl, rfl, (Bool.or_false _).symm, rfl, fun _ _ => rfl⟩, rfl⟩
  | cons x l ih =>
    rw [List.length_cons] at h
    have htaper := Taper.placeImage_eq (t := s.chans[c].taper) (by omega) x
    have hself := s.postImage_self c x
    obtain ⟨hmarks, hheld⟩ := ih (s := s.postImage c x) (by
      rw [hself]
      change (s.chans[c].taper.placeImage x).images.length + _ ≤ 16
      rw [htaper, List.length_append, List.length_singleton]
      omega)
    refine ⟨Marks.trans (t := s.postImage c x) (b := false) ⟨?_, ?_, ?_, rfl, fun d hd => s.postImage_other x hd⟩ hmarks, hheld.trans ?_⟩
    · rw [hself]
      rfl
    · rw [hself]
      rfl
    · rw [hself]
      exact (Bool.or_false _).symm
    · rw [hself]
      have hheld' := congrArg Taper.held htaper
      exact hheld'

/-! ## The commands -/

section
variable {k : Slot} {x : Cmd} {s : State} {c : Ch} {m : Fin 4} {mode : Nat}

theorem fields_of_run (hm : mode ≤ 2) (hb : x.payload = [byteOf c.val, byteOf m.val, byteOf mode, 0]) (hm0 : m ≠ 0) :
    calRunOk x.payload = true ∧ chAt x.payload 0 = c ∧ fieldAt x.payload 1 1 = m.val ∧ fieldAt x.payload 2 1 = mode := by
  have hc : fieldAt x.payload 0 1 = c.val := by
    rw [hb]
    exact (fieldAt_head ..).trans (by simp [byteOf]; omega)
  have hmf : fieldAt x.payload 1 1 = m.val := by
    rw [hb]
    exact (fieldAt_head ..).trans (by simp [byteOf]; omega)
  have hmode : fieldAt x.payload 2 1 = mode := by
    rw [hb]
    exact (fieldAt_head ..).trans (by simp [byteOf]; omega)
  refine ⟨?_, chAt_of_field hc, hmf, hmode⟩
  unfold calRunOk
  rw [hc, hmf, hmode, pcMaskOk_fin hm0, decide_eq_true c.isLt, decide_eq_true hm, hb]
  rfl

theorem maskPcs_fin (m : Fin 4) (hm : m ≠ 0) : (maskPcs m.val).length ≤ 2 ∧ (maskPcs m.val).isEmpty = false := by
  revert m
  decide

theorem postRun_eq (s : State) (c : Ch) (l : List Pc) (mode : Nat) :
    s.postRun c l mode = s.postEach c (l.map (fun p => .calRun p mode)) := by
  unfold State.postRun State.postEach
  rw [List.foldl_map]

theorem calRunMode0_answers (hm : m ≠ 0) (hb : x.payload = [byteOf c.val, byteOf m.val, 0, 0])
    (hi : s.chans[c].taper.images = []) (hh : s.chans[c].taper.held = []) (h : served s k x 0x0404 true) :
    ∃ t, exec (.calRunMode0 k) s = .next t ∧ answered t k x (okResp []) ∧ t.chans[c].pcs = s.chans[c].pcs
      ∧ t.chans[c].regs.lmwDue = (s.chans[c].regs.lmwDue || s.chans[c].trn.passed7)
      ∧ ∀ c' : Ch, c' ≠ c → t.chans[c'] = s.chans[c'] := by
  obtain ⟨hok, hc, hmf, hmode⟩ := fields_of_run (mode := 0) (by omega) hb hm
  obtain ⟨hlen, hne⟩ := maskPcs_fin m hm
  have hroom : s.chans[c].taper.images.length + (runImages (maskPcs m.val)).length ≤ 16 := by
    rw [hi, runImages, List.length_map, List.length_nil]
    omega
  have hfree : s.areasFree [c] (maskPcs m.val).length = true := by
    unfold State.areasFree
    rw [List.all_cons, List.all_nil, Bool.and_true, hi]
    exact decide_eq_true (by simp; omega)
  have hx := next_of_served (i := .calRunMode0 k) h rfl (by decide) (isOpFirst_of_opcode (opcode_of_served h) hmode)
  dsimp only at hx
  rw [hc, hmf, State.valid_true s k x hok, State.posting_of_free hfree, State.ok_eq_answer, postRun_eq] at hx
  obtain ⟨hpost, hheld⟩ := marks_postEach hroom
  have hmarks := hpost.trans (marks_drainImages (maskPcs m.val) ((State.imagesOf_postEach hroom).trans (by
    unfold imagesOf; rw [hi]; rfl)) (hheld.trans hh))
  rw [hne] at hmarks
  unfold runImages at hmarks
  generalize (s.postEach c _).drainImages c = u at hx hmarks
  have hchans := (u.answer_frame k x (okResp [])).1
  refine ⟨_, hx, State.answer_answered u k x _ (by rw [hmarks.sessions]; exact find_of_served h) (not_done_of_served h), ?_, ?_,
    fun d hd => ?_⟩
  · rw [hchans]
    exact hmarks.pcs
  · rw [hchans, hmarks.due]
    rfl
  · rw [hchans]
    exact hmarks.other d hd

/-- The pseudo-channels of a list come to be held. -/
def State.holdEach (s : State) (c : Ch) (l : List Pc) (o : QuiesceOp) : State :=
  l.foldl (fun t p => t.updPc c p (fun q => { q with op := some o })) s

theorem holdEach_frame (s : State) (c : Ch) (l : List Pc) (o : QuiesceOp) :
    (s.holdEach c l o).sessions = s.sessions ∧ (s.holdEach c l o).cells = s.cells
      ∧ (s.holdEach c l o).chans[c].taper = s.chans[c].taper := by
  refine List.foldlRecOn (motive := fun t : State => t.sessions = s.sessions ∧ t.cells = s.cells
    ∧ t.chans[c].taper = s.chans[c].taper) l _ ⟨rfl, rfl, rfl⟩ fun t ht p _ => ?_
  obtain ⟨hsess, hcells, htaper⟩ := ht
  refine ⟨hsess, (State.updPc_cells (by exact rfl)).trans hcells, ?_⟩
  rw [State.updPc, State.updCh_self]
  exact htaper

theorem holdEach_pc (s : State) (c : Ch) (l : List Pc) (o : QuiesceOp) (p : Pc) : (s.holdEach c l o).chans[c].pcs[p]
    = if p ∈ l then { s.chans[c].pcs[p] with op := some o } else s.chans[c].pcs[p] := by
  induction l generalizing s with
  | nil => exact (if_neg (List.not_mem_nil)).symm
  | cons a l ih =>
    refine (ih _).trans ?_
    rw [State.updPc_cases]
    by_cases ha : p = a
    · subst ha
      simp
    · simp [ha]

theorem startCalRun_eq (hm : m ≠ 0) (hmode : mode ≤ 2) (hb : x.payload = [byteOf c.val, byteOf m.val, byteOf mode, 0])
    (hq : ∀ p ∈ maskPcs m.val, s.chans[c].pcs[p].op = none ∧ s.chans[c].pcs[p].qact = true)
    (hfree : s.areasFree [c] (maskPcs m.val).length = true) : s.startCalRun k x mode
      = (((s.takeTurn k).markCmd k x.seq .started).holdEach c (maskPcs m.val) (.calRun mode k x.seq)).postEach c
          ((maskPcs m.val).map (fun p => .calRun p mode)) := by
  obtain ⟨hok, rfl, hmf, -⟩ := fields_of_run hmode hb hm
  have hop : (maskPcs m.val).any (fun p => s.chans[chAt x.payload 0].pcs[p].op.isSome) = false := by
    refine List.any_eq_false.mpr fun p hp => ?_
    rw [(hq p hp).1]
    decide
  have hqact : (maskPcs m.val).any (fun p => !s.chans[chAt x.payload 0].pcs[p].qact) = false := by
    refine List.any_eq_false.mpr fun p hp => ?_
    rw [(hq p hp).2]
    decide
  unfold State.startCalRun
  dsimp only
  rw [hmf, State.valid_true s k x hok, hop, if_neg Bool.false_ne_true, hqact, if_neg Bool.false_ne_true,
    State.posting_of_free hfree, postRun_eq]
  rfl

theorem startCalRun_begins (hm : m ≠ 0) (hmode : mode ≤ 2) (hb : x.payload = [byteOf c.val, byteOf m.val, byteOf mode, 0])
    (hq : ∀ p ∈ maskPcs m.val, s.chans[c].pcs[p].op = none ∧ s.chans[c].pcs[p].qact = true)
    (hfree : s.areasFree [c] (maskPcs m.val).length = true) (hfind : s.sessions[k].find x.seq = some x) :
    begun (s.startCalRun k x mode) k x ∧ memKept s (s.startCalRun k x mode)
      ∧ (∀ p ∈ maskPcs m.val, (s.startCalRun k x mode).chans[c].pcs[p].op = some (.calRun mode k x.seq))
      ∧ imagesOf (s.startCalRun k x mode) c = imagesOf s c ++ (maskPcs m.val).map (fun p => .calRun p mode)
      ∧ ∀ p : Pc, p ∉ maskPcs m.val → (s.startCalRun k x mode).chans[c].pcs[p] = s.chans[c].pcs[p] := by
  rw [startCalRun_eq hm hmode hb hq hfree]
  obtain ⟨hsess, hcells, htaper⟩ :=
    holdEach_frame ((s.takeTurn k).markCmd k x.seq .started) c (maskPcs m.val) (.calRun mode k x.seq)
  have hpc := holdEach_pc ((s.takeTurn k).markCmd k x.seq .started) c (maskPcs m.val) (.calRun mode k x.seq)
  generalize State.holdEach _ c (maskPcs m.val) (.calRun mode k x.seq) = u at hsess hcells htaper hpc
  have hroom : u.chans[c].taper.images.length + ((maskPcs m.val).map (fun p => Transfer.calRun p mode)).length ≤ 16 := by
    rw [htaper, List.length_map]
    exact State.room_of_areasFree hfree (List.mem_singleton_self c)
  refine ⟨?_, memKept_of_cells ((u.postEach_cells c _).trans (hcells.trans rfl)), fun p hp => ?_,
    (State.imagesOf_postEach hroom).trans ?_, fun p hp => ?_⟩
  · have hbegun := begun_markCmd hfind
    unfold begun at hbegun ⊢
    rw [State.postEach_sessions, hsess]
    exact hbegun
  · rw [postEach_pcs, hpc, if_pos hp]
  · unfold imagesOf
    rw [htaper]
    rfl
  · rw [postEach_pcs, hpc, if_neg hp]
    rfl

theorem mode_cases : ∀ mode : Fin 3, mode ≠ 0 → mode = 1 ∨ mode = 2 := by decide

theorem calRun_answers (hm : m ≠ 0) {mode : Fin 3} (hmode : mode ≠ 0)
    (hb : x.payload = [byteOf c.val, byteOf m.val, byteOf mode.val, 0])
    (hq : ∀ p ∈ maskPcs m.val, s.chans[c].pcs[p].op = none ∧ s.chans[c].pcs[p].qact = true)
    (hfree : s.areasFree [c] (maskPcs m.val).length = true) (h : served s k x 0x0404 true) :
    ∃ t, exec (if mode = 1 then .calRunMode1 k else .calRunMode2 k) s = .next t ∧ begun t k x ∧ memKept s t
      ∧ (∀ p ∈ maskPcs m.val, t.chans[c].pcs[p].op = some (.calRun mode.val k x.seq))
      ∧ imagesOf t c = imagesOf s c ++ (maskPcs m.val).map (fun p => .calRun p mode.val)
      ∧ ∀ p : Pc, p ∉ maskPcs m.val → t.chans[c].pcs[p] = s.chans[c].pcs[p] := by
  obtain ⟨-, -, -, hfield⟩ := fields_of_run (by omega) hb hm
  have hop := opcode_of_served h
  refine ⟨s.startCalRun k x mode.val, ?_, startCalRun_begins hm (by omega) hb hq hfree (find_of_served h)⟩
  obtain rfl | rfl : mode = 1 ∨ mode = 2 := mode_cases mode hmode
  · exact next_of_served (i := .calRunMode1 k) h rfl (by decide) (isOpAt_of_opcode hop hfield)
  · exact next_of_served (i := .calRunMode2 k) h rfl (by decide) (isOpAt_of_opcode hop hfield)

end

/-! ## The end of a run (R389) -/

/-- The pseudo-channels of a run come free, and with mode 1 their threads end. -/
def Channel.runEnds (h : Channel) (mode : Nat) (l : List Pc) : Channel :=
  l.foldl (fun (g : Channel) q => (if mode = 1 then g.updTaper (·.endEntry 45 q) else g).opEnds q) h

/-- What the end of a run leaves of its channel. -/
structure RunEnds (h g : Channel) : Prop where
  lanes : g.lanes = h.lanes
  tsv : g.tsv = h.tsv
  free : ∀ q : Pc, h.pcs[q].op = none → g.pcs[q].op = none

theorem RunEnds.trans {h g m : Channel} (e : RunEnds h g) (e' : RunEnds g m) : RunEnds h m :=
  ⟨e'.lanes.trans e.lanes, e'.tsv.trans e.tsv, fun q hq => e'.free q (e.free q hq)⟩

theorem runEnds_opEnds (h : Channel) (p : Pc) : RunEnds h (h.opEnds p) := by
  obtain ⟨halone, -⟩ := releaseAlone_opEnds h p
  refine ⟨(opsEnd_opEnds h p).lanes, ?_, (opsEnd_opEnds h p).free⟩
  rw [halone]
  rfl

theorem runEnds_step (h : Channel) (mode : Nat) (p : Pc) :
    RunEnds h ((if mode = 1 then h.updTaper (·.endEntry 45 p) else h).opEnds p) := by
  split
  · exact RunEnds.trans (g := h.updTaper (·.endEntry 45 p)) ⟨rfl, rfl, fun _ => id⟩ (runEnds_opEnds _ p)
  · exact runEnds_opEnds h p

theorem runEnds_runEnds (h : Channel) (mode : Nat) (l : List Pc) : RunEnds h (h.runEnds mode l) :=
  List.foldlRecOn (motive := RunEnds h) l _ ⟨rfl, rfl, fun _ => id⟩ fun g hg p _ => hg.trans (runEnds_step g mode p)

theorem Channel.runEnds_op (h : Channel) (mode : Nat) {l : List Pc} {p : Pc} (hp : p ∈ l) : (h.runEnds mode l).pcs[p].op = none := by
  induction l generalizing h with
  | nil => cases hp
  | cons a l ih =>
    rcases List.mem_cons.mp hp with rfl | htail
    · exact (runEnds_runEnds _ mode l).free p (Channel.opEnds_op _ p)
    · exact ih _ htail

section
variable {k : Slot} {x : Cmd} {s : State} {c : Ch} {p : Pc} {mode : Nat}

theorem mem_runPcs (ho : s.chans[c].pcs[p].op = some (.calRun mode k x.seq)) : p ∈ s.chans[c].runPcs k x.seq := by
  refine List.mem_filter.mpr ⟨List.mem_finRange p, ?_⟩
  unfold PseudoChannel.calRunOf
  rw [ho]
  simp

/-- The machine that applies a run's results. -/
def State.looped (s : State) (c : Ch) (mode : Nat) : State := if mode = 1 then s.loopTest c else s

theorem looped_frame (s : State) (c : Ch) (mode : Nat) : (s.looped c mode).chans = s.chans ∧ (s.looped c mode).sessions = s.sessions := by
  unfold State.looped
  split
  · rw [layersAlone_loopTest s c]
    exact ⟨rfl, rfl⟩
  · exact ⟨rfl, rfl⟩

theorem assignTsv_sessions (s : State) (c : Ch) (g : Fin 16) (pos : Fin 18) : (s.assignTsv c g pos).sessions = s.sessions := by
  unfold State.assignTsv
  split
  · rfl
  · exact List.foldlRecOn (motive := fun t : State => t.sessions = s.sessions) _ _ rfl fun t ht sid _ => ht

theorem applyRun_sessions (s : State) (c : Ch) (mode : Nat) (l : List Pc) (spares : List (Fin 16 × Fin 18)) :
    (s.applyRun c mode l spares).sessions = s.sessions := by
  unfold State.applyRun
  refine List.foldlRecOn (motive := fun t : State => t.sessions = s.sessions) _ _ ?_ fun t ht y _ =>
    (assignTsv_sessions ..).trans ht
  exact List.foldlRecOn (motive := fun t : State => t.sessions = s.sessions) l _ rfl fun t ht p _ => ht

variable (ho : s.chans[c].pcs[p].op = some (.calRun mode k x.seq)) (ht : s.chans[c].runTaken mode (s.chans[c].runPcs k x.seq) = true)
include ho ht

theorem exec_calRunEnd_rejected : exec (.calRunEnd c p .rejected) s
    = .next (((s.looped c mode).respond k x.seq { status := stCalRejected }).updCh c (·.runEnds mode (s.chans[c].runPcs k x.seq))) := by
  change execCalRunEnd c p .rejected s = _
  unfold execCalRunEnd
  rw [ho]
  dsimp only
  rw [if_neg (by rw [ht]; decide), State.foldl_updCh (f := fun (q : Pc) (h : Channel) =>
    (if mode = 1 then h.updTaper (·.endEntry 45 q) else h).opEnds q)]
  rfl

theorem exec_calRunEnd_finished (failed : BitVec 2) (spares : List (Fin 16 × Fin 18)) (elapsed : BitVec 16) :
    exec (.calRunEnd c p (.finished failed spares elapsed)) s
      = .next ((((s.looped c mode).applyRun c mode ((s.chans[c].runPcs k x.seq).filter (fun q => !failed.getLsbD q.val)) spares).respond
          k x.seq (okResp (runPayload mode (s.chans[c].runPcs k x.seq) failed spares elapsed))).updCh c
            (·.runEnds mode (s.chans[c].runPcs k x.seq))) := by
  change execCalRunEnd c p (.finished failed spares elapsed) s = _
  unfold execCalRunEnd
  rw [ho]
  dsimp only
  rw [if_neg (by rw [ht]; decide), State.foldl_updCh (f := fun (q : Pc) (h : Channel) =>
    (if mode = 1 then h.updTaper (·.endEntry 45 q) else h).opEnds q)]
  rfl

omit ht in
/-- What an answered run leaves of its session and its channel. -/
theorem runAnswer_frame {u : State} (r : Response) (hsess : u.sessions = s.sessions)
    (hfind : s.sessions[k].find x.seq = some x) (hd : x.state ≠ .done) :
    answered ((u.respond k x.seq r).updCh c (·.runEnds mode (s.chans[c].runPcs k x.seq))) k x r
      ∧ (((u.respond k x.seq r).updCh c (·.runEnds mode (s.chans[c].runPcs k x.seq))).chans[c].pcs[p].op = none)
      ∧ RunEnds u.chans[c] ((u.respond k x.seq r).updCh c (·.runEnds mode (s.chans[c].runPcs k x.seq))).chans[c] := by
  refine ⟨?_, ?_, ?_⟩
  · change (u.respond k x.seq r).sessions[k].find x.seq = _
    rw [State.respond_sessions, State.updSession_self]
    exact Session.find_respond _ _ _ _ (by rw [hsess]; exact hfind) hd
  · rw [State.updCh_self]
    exact Channel.runEnds_op _ mode (mem_runPcs ho)
  · rw [State.updCh_self, State.respond_chans]
    exact runEnds_runEnds _ mode _

theorem calRunEnd_answers (hfind : s.sessions[k].find x.seq = some x) (hstate : x.state = .started) :
    (∃ t, exec (.calRunEnd c p .rejected) s = .next t ∧ answered t k x { status := stCalRejected }
      ∧ t.chans[c].pcs[p].op = none ∧ t.chans[c].lanes = s.chans[c].lanes ∧ t.chans[c].tsv.trims = s.chans[c].tsv.trims)
    ∧ (∀ (failed : BitVec 2) (spares : List (Fin 16 × Fin 18)) (elapsed : BitVec 16),
      ∃ t, exec (.calRunEnd c p (.finished failed spares elapsed)) s = .next t ∧ t.chans[c].pcs[p].op = none
        ∧ answered t k x (okResp (runPayload mode (s.chans[c].runPcs k x.seq) failed spares elapsed))) := by
  have hd : x.state ≠ .done := by rw [hstate]; decide
  obtain ⟨hchans, hsess⟩ := looped_frame s c mode
  refine ⟨?_, fun failed spares elapsed => ?_⟩
  · obtain ⟨hans, hop, hends⟩ := runAnswer_frame ho { status := stCalRejected } hsess hfind hd
    refine ⟨_, exec_calRunEnd_rejected ho ht, hans, hop, hends.lanes.trans (by rw [hchans]), ?_⟩
    rw [hends.tsv, hchans]
  · obtain ⟨hans, hop, -⟩ := runAnswer_frame ho (okResp (runPayload mode (s.chans[c].runPcs k x.seq) failed spares elapsed))
      ((applyRun_sessions (s.looped c mode) c mode ((s.chans[c].runPcs k x.seq).filter (fun q => !failed.getLsbD q.val)) spares).trans
        hsess) hfind hd
    exact ⟨_, exec_calRunEnd_finished ho ht failed spares elapsed, hop, hans⟩

end

/-- Settles O56: the blobs by their upload, the runs by what they post and hold. -/
theorem jmpCalibrates : Obligations.JmpCalibrates := by
  intro k x s
  refine ⟨fun mask hm hne hall hb h => ⟨fun hc => ?_, fun b hc hh => ?_⟩, fun u last hu hz hlo hhi h => ?_,
    fun c m hm => ⟨fun hb hi hh h => ?_, fun mode hmode hb hq hfree h => ?_⟩,
    fun c p mode ho hfind hstate ht => calRunEnd_answers ho ht hfind hstate⟩
  · exact calSave_answers hm hne hall hb h (.inl ⟨hc, rfl⟩)
  · exact calSave_answers hm hne hall hb h (.inr ⟨hc, hh⟩)
  · exact calRestore_answers hu hz hlo hhi h
  · exact calRunMode0_answers hm hb hi hh h
  · exact calRun_answers hm hmode hb hq hfree h

end Sys2Proof.Machine

/-! # Uploads, downloads and activation (R246, R375 to R378, R392, R393, R410 to R412, R173, R174) -/

namespace Sys2Proof.Machine

open Sys2Proof.Safety

section
variable {k : Slot} {x : Cmd} {s : State}

/-! ## What any answer leaves of the plane -/

theorem State.ledger_mgmt_owed (s : State) (typ : Byte) (body : List Byte) :
    ∃ owed, (s.ledger typ body).mgmt = { s.mgmt with owed := owed } := by
  unfold State.ledger
  split
  · exact ⟨s.mgmt.owed, s.record_mgmt typ body⟩
  · exact ⟨_, rfl⟩

/-- An answer, recorded or not, leaves of the plane all but the turn and the records owed. -/
theorem State.answer_mgmt_owed (s : State) (k : Slot) (x : Cmd) (r : Response) :
    ∃ owed, (s.answer k x r).mgmt = { s.mgmt with turn := k, owed := owed } := by
  unfold State.answer State.respond
  dsimp only
  split
  · split
    · exact State.ledger_mgmt_owed ..
    · exact ⟨_, rfl⟩
  · exact ⟨_, rfl⟩

/-- An upload chunk that is kept, by whatever command. -/
theorem keepChunk_keeps (o : OwnedObject) (u : Upload) (hfind : s.sessions[k].find x.seq = some x) (hd : x.state ≠ .done) :
    answered (s.keepChunk k x o u) k x (okResp []) ∧ (s.keepChunk k x o u).sessions[k].upload = some u
      ∧ (∃ owed, (s.keepChunk k x o u).mgmt = { o.setOwner s.mgmt (some k) with turn := k, owed := owed })
      ∧ (s.keepChunk k x o u).chans = s.chans := by
  unfold State.keepChunk
  rw [State.ok_eq_answer]
  have hfind' : ((s.putUpload k (some u)).updMgmt (fun m => o.setOwner m (some k))).sessions[k].find x.seq = some x :=
    (putUpload_find (some u) x.seq).trans hfind
  exact ⟨State.answer_answered _ k x _ hfind' hd,
    (State.answer_upload ..).trans (congrArg Session.upload (putUpload_at (some u))), State.answer_mgmt_owed ..,
    (State.answer_frame ..).1⟩

/-- The program of a complete upload begins. -/
theorem begins_programUpload (o : OwnedObject) (u : Upload) (cont : NvCont) (hfree : s.nvFree = true)
    (hfind : s.sessions[k].find x.seq = some x) : Begins s (s.programUpload k x o u cont) k x .single cont := by
  unfold State.programUpload
  rw [if_pos hfree]
  obtain ⟨hchans, hnv, hprog⟩ := begins_program (s := (s.putUpload k (some u)).updMgmt (fun m => o.setOwner m (some k)))
    (k := k) (x := x) (kind := .single) (sector := none) (page := none) (cont := cont) hfree
    ((putUpload_find (some u) x.seq).trans hfind) rfl
  exact ⟨hchans, hnv, hprog⟩

/-! ## Retention images (R392, R393) -/

theorem retMapExport_reports {mask : Nat} (hm : mask < 2 ^ 64) (hne : mask ≠ 0)
    (hb : x.payload = zeros 4 ++ natBytes 8 mask ++ zeros 4) (h : served s k x 0x0502) :
    reports (.retMapExport k) s k x (chunkOf s.sessions[k].capNo (s.exportImage mask) 0) := by
  have hop := opcode_of_served h
  have hmask : fieldAt (natBytes 8 mask ++ zeros 4) 0 8 = mask := fieldAt_natBytes (by omega) _
  have hshape : shaped (natBytes 8 mask ++ zeros 4) 12 [8, 9, 10, 11] = true := by
    simp [shaped, natBytes, List.range_succ, zeros]
  have hx := next_of_served (i := .retMapExport k) h rfl (by decide) (isOp_of_opcode hop)
  rw [download_captures (spec := natBytes 8 mask ++ zeros 4) (object := s.exportImage mask) (by rw [hb]; simp [zeros])
    (by rw [hb, List.append_assoc]; rfl) (by rw [hb, List.append_assoc]; rfl)
    (by rw [hmask, hshape]; exact if_pos (decide_eq_true hne))] at hx
  exact ⟨_, hx, answered_updAnswer (by exact fun _ => rfl) (find_of_served h) _ (not_done_of_served h),
    onlySession_updAnswer (by exact fun _ => rfl) (find_of_served h) _ (by rw [hop]; decide)⟩

theorem retMapImport_answers {u : Upload} {last : Bool} (hu : uploads s k x importBuffer u last)
    (hz : u.spec.all (· == 0) = true) (hfree : s.nvFree = true) (h : served s k x opMapImport false (some 3)) :
    ∃ t, exec (.retMapImport k) s = .next t ∧ t.chans = s.chans
      ∧ (last = false → answered t k x (okResp []) ∧ t.sessions[k].upload = some u ∧ t.mgmt.importOwner = some k)
      ∧ (last = true → s.imageOk u.bytes = true → programs t k x .single (.mapImport u.bytes))
      ∧ (last = true → s.imageOk u.bytes = false → answered t k x { status := stBadArg } ∧ t.sessions[k].upload = none) := by
  have hfind := find_of_served h
  have hd := not_done_of_served h
  have hx := next_of_served (i := .retMapImport k) h rfl (by decide) (isOp_of_opcode (opcode_of_served h))
  rw [uploadChunk_of_uploads hu hz] at hx
  cases last with
  | false =>
    rw [if_pos (by decide)] at hx
    obtain ⟨hans, hup, ⟨owed, hmgmt⟩, hchans⟩ := keepChunk_keeps importBuffer u hfind hd
    exact ⟨_, hx, hchans, fun _ => ⟨hans, hup, by rw [hmgmt]; rfl⟩, fun e => absurd e (by decide), fun e => absurd e (by decide)⟩
  | true =>
    rw [if_neg (by decide)] at hx
    cases hok : s.imageOk u.bytes with
    | true =>
      rw [hok, if_pos rfl] at hx
      obtain ⟨hchans, -, hprog⟩ := begins_programUpload importBuffer u (.mapImport u.bytes) hfree hfind
      exact ⟨_, hx, hchans, fun e => absurd e (by decide), fun _ _ => hprog, fun _ e => absurd e (by decide)⟩
    | false =>
      rw [hok, if_neg Bool.false_ne_true, State.fails_eq_answer] at hx
      exact ⟨_, hx, (State.answer_frame ..).1, fun e => absurd e (by decide), fun _ e => absurd e (by decide), fun _ _ =>
        ⟨State.answer_answered _ k x _ ((dropUpload_find importBuffer x.seq).trans hfind) hd,
          (State.answer_upload ..).trans (dropUpload_upload importBuffer)⟩⟩

/-! ## The user area and images (R410, R411) -/

theorem nvWrite_answers {u : Upload} {last : Bool} (hu : uploads s k x nvBuffer u last)
    (hshape : shaped u.spec 8 [4, 5, 6, 7] = true) (hlo : 1 ≤ u.total) (hhi : u.total ≤ 0x10000)
    (hreach : fieldAt u.spec 0 4 + u.total ≤ 0x100000) (hpool : s.poolShort = false) (hfree : s.nvFree = true)
    (h : served s k x opNvWrite) :
    ∃ t, exec (.nvWrite k) s = .next t ∧ t.nv = s.nv ∧ t.chans = s.chans
      ∧ (last = false → answered t k x (okResp []) ∧ t.sessions[k].upload = some u ∧ t.mgmt.nvOwner = some k)
      ∧ (last = true → programs t k x .single (.userWrite (fieldAt u.spec 0 4) u.bytes (s.nv.ctag + 1))) := by
  have hop := opcode_of_served h
  have hfind := find_of_served h
  have hx := next_of_served (i := .nvWrite k) h rfl (by decide) (isOp_of_opcode hop)
  rw [uploadChunk_of_uploads hu (by
    rw [hshape, decide_eq_true hlo, decide_eq_true hhi, decide_eq_true hreach]; rfl), hpool, if_neg Bool.false_ne_true] at hx
  cases last with
  | false =>
    rw [if_neg Bool.false_ne_true] at hx
    obtain ⟨hans, hup, hmgmt, hchans, hnv⟩ := keepChunk_answers nvBuffer u hfind (not_done_of_served h) (by rw [hop]; decide)
    exact ⟨_, hx, hnv, hchans, fun _ => ⟨hans, hup, by rw [hmgmt]; rfl⟩, fun e => absurd e (by decide)⟩
  | true =>
    rw [if_pos rfl] at hx
    obtain ⟨hchans, hnv, hprog⟩ := begins_programUpload nvBuffer u
      (.userWrite (fieldAt u.spec 0 4) u.bytes (s.nv.ctag + 1)) hfree hfind
    exact ⟨_, hx, hnv, hchans, fun e => absurd e (by decide), fun _ => hprog⟩

theorem NonVolatile.clearSlot_alone (n : NonVolatile) (b : Bool) : n.clearSlot b = { n with sectors := (n.clearSlot b).sectors } := by
  unfold clearSlot
  refine List.foldlRecOn (motive := fun m : NonVolatile => m = { n with sectors := m.sectors }) _ _ rfl fun m hm j _ => ?_
  split
  · conv_lhs => rw [hm]
    rfl
  · exact hm

theorem NonVolatile.updImage_at (n : NonVolatile) (b : Bool) (f : ImageSlot → ImageSlot) :
    (n.updImage b f).image b = f (n.image b) ∧ (n.updImage b f).image (!b) = n.image (!b) ∧ (n.updImage b f).user = n.user := by
  cases b
  · exact ⟨rfl, rfl, rfl⟩
  · exact ⟨rfl, rfl, rfl⟩

theorem fwStageImage_begins {u : Upload} {last : Bool} (hu : uploads s k x imageArea u last) (hz : u.spec.all (· == 0) = true)
    (hkind : fieldAt x.payload 8 1 = 0) (hlo : 1 ≤ u.total) (hhi : u.total ≤ 1572864) (hpool : s.poolShort = false)
    (hfree : s.nvFree = true) (h : served s k x opFwStage) :
    ∃ t, exec (.fwStageImage k) s = .next t ∧ t.chans = s.chans ∧ t.nv.user = s.nv.user
      ∧ programs t k x .single (.imageChunk (!s.nv.activeB) last)
      ∧ (t.nv.image (!s.nv.activeB)).status = 2 ∧ (t.nv.image (!s.nv.activeB)).bytes = u.bytes
      ∧ t.nv.image s.nv.activeB = s.nv.image s.nv.activeB := by
  have hx := next_of_served (i := .fwStageImage k) h rfl (by decide) (isOpFirst_of_opcode (opcode_of_served h) hkind)
  rw [uploadChunk_of_uploads hu (by rw [hz, decide_eq_true hlo, decide_eq_true hhi]; rfl), hpool,
    if_neg Bool.false_ne_true, if_pos hfree] at hx
  have hn : ∃ sectors, (if chunkOffset x = 0 then s.nv.clearSlot (!s.nv.activeB) else s.nv) = { s.nv with sectors := sectors } := by
    split
    · exact ⟨_, s.nv.clearSlot_alone _⟩
    · exact ⟨_, rfl⟩
  obtain ⟨sectors, hn⟩ := hn
  obtain ⟨hchans, hnv, hprog⟩ := begins_programUpload (s := s.updNv (fun n =>
      (if chunkOffset x = 0 then n.clearSlot (!n.activeB) else n).updImage (!n.activeB)
          (fun x => { x with status := 2, bytes := u.bytes })))
    (k := k) (x := x) imageArea u (.imageChunk (!s.nv.activeB) last) hfree (find_of_served h)
  have hupd : (s.updNv (fun n => (if chunkOffset x = 0 then n.clearSlot (!n.activeB) else n).updImage (!n.activeB)
      (fun x => { x with status := 2, bytes := u.bytes }))).nv
      = ({ s.nv with sectors := sectors } : NonVolatile).updImage (!s.nv.activeB) (fun x => { x with status := 2, bytes := u.bytes }) := by
    rw [← hn]
    rfl
  rw [hupd] at hnv
  obtain ⟨hat, hother, huser⟩ := ({ s.nv with sectors := sectors } : NonVolatile).updImage_at (!s.nv.activeB)
    (fun x => { x with status := 2, bytes := u.bytes })
  rw [Bool.not_not] at hother
  refine ⟨_, hx, hchans, ?_, hprog, ?_, ?_, ?_⟩
  · rw [hnv, huser]
  · rw [hnv, hat]
  · rw [hnv, hat]
  · rw [hnv, hother]
    rfl

theorem fwStageTable_answers {u : Upload} {last : Bool} (hu : uploads s k x tableArea u last) (hkind : fieldAt x.payload 8 1 = 1)
    (hz : (u.spec.drop 1).all (· == 0) = true) (htotal : u.total = 8480) (h : served s k x opFwStage) :
    ∃ t, exec (.fwStageTable k) s = .next t ∧ answered t k x (okResp []) ∧ t.chans = s.chans ∧ t.nv = s.nv
      ∧ t.mgmt.tableOwner = some k ∧ t.mgmt.table = (if last then some u.bytes else none)
      ∧ t.sessions[k].upload = if last then none else some u := by
  have hop := opcode_of_served h
  have hfind := find_of_served h
  have hd := not_done_of_served h
  have hp : privilegedOp x.opcode = false := by rw [hop]; decide
  have hx := next_of_served (i := .fwStageTable k) h rfl (by decide) (isOpAt_of_opcode hop hkind)
  rw [uploadChunk_of_uploads hu (by rw [hz, htotal]; rfl)] at hx
  cases last with
  | false =>
    rw [if_neg Bool.false_ne_true] at hx
    obtain ⟨hans, hup, hmgmt, hchans, hnv⟩ := keepChunk_answers (s := s.updMgmt (fun m => { m with table := none })) tableArea u hfind hd hp
    exact ⟨_, hx, hans, hchans, hnv, by rw [hmgmt]; rfl, by rw [hmgmt]; rfl, hup⟩
  | true =>
    rw [if_pos rfl, State.ok_eq_answer] at hx
    have hfind' : ((s.putUpload k none).updMgmt (fun m => { m with table := some u.bytes, tableOwner := some k })).sessions[k].find
        x.seq = some x := (putUpload_find none x.seq).trans hfind
    have hmgmt := State.answer_mgmt (okResp []) hfind' hp
    exact ⟨_, hx, State.answer_answered _ k x _ hfind' hd, (State.answer_frame ..).1, (State.answer_lab _ hfind' hp).1,
      by rw [hmgmt]; rfl, by rw [hmgmt]; rfl, (State.answer_upload ..).trans (congrArg Session.upload (putUpload_at none))⟩

/-! ## Activation (R412, R173, R174) -/

theorem fwActivateImage_answers (hshape : activateShape x.payload = true) (hkind : fieldAt x.payload 0 1 = 0)
    (hst : (s.nv.image (!s.nv.activeB)).status = 3) (hraise : raises x = false) (hown : imageArea.heldByOther s k = false)
    (hfree : s.nvFree = true) (h : served s k x opFwActivate false (some 1)) :
    ∃ t, exec (.fwActivateImage k) s = .next t ∧ t.chans = s.chans ∧ t.nv.user = s.nv.user
      ∧ (Config.ecdsaVerify (s.keySelected 0) (s.nv.image (!s.nv.activeB)).bytes [] = true →
          s.fuse.arc ≤ Config.imageSvn (s.nv.image (!s.nv.activeB)).bytes →
          programs t k x .single (.imageActive (!s.nv.activeB)))
      ∧ (Config.ecdsaVerify (s.keySelected 0) (s.nv.image (!s.nv.activeB)).bytes [] = true →
          Config.imageSvn (s.nv.image (!s.nv.activeB)).bytes < s.fuse.arc →
          answered t k x { status := stDenied, detail := 0x09 })
      ∧ (Config.ecdsaVerify (s.keySelected 0) (s.nv.image (!s.nv.activeB)).bytes [] = false →
          answered t k x { status := stDenied, detail := 0x08 }) := by
  have hfind := find_of_served h
  have hd := not_done_of_served h
  have hx := next_of_served (i := .fwActivateImage k) h rfl (by decide) (isOpFirst_of_opcode (opcode_of_served h) hkind)
  dsimp only at hx
  rw [State.valid_true s k x (by rw [hshape, hkind, hst, hraise]; rfl), if_neg (by rw [hown]; decide)] at hx
  cases hv : Config.ecdsaVerify (s.keySelected 0) (s.nv.image (!s.nv.activeB)).bytes [] with
  | false =>
    rw [hv, if_pos (by rfl), State.fails_eq_answer] at hx
    exact ⟨_, hx, (State.answer_frame ..).1, (State.answer_frame ..).2.2.2.2.2.1, fun e => absurd e (by decide),
      fun e => absurd e (by decide), fun _ => State.answer_answered s k x _ hfind hd⟩
  | true =>
    rw [hv, if_neg (by decide)] at hx
    by_cases hsvn : Config.imageSvn (s.nv.image (!s.nv.activeB)).bytes < s.fuse.arc
    · rw [if_pos hsvn, State.fails_eq_answer] at hx
      exact ⟨_, hx, (State.answer_frame ..).1, (State.answer_frame ..).2.2.2.2.2.1, fun _ e => absurd hsvn (Nat.not_lt.mpr e),
        fun _ _ => State.answer_answered s k x _ hfind hd, fun e => absurd e (by decide)⟩
    · rw [if_neg hsvn] at hx
      obtain ⟨hchans, hnv, hprog⟩ := begins_program (k := k) (x := x) (kind := .single) (sector := none) (page := none)
        (cont := .imageActive (!s.nv.activeB)) hfree hfind rfl
      exact ⟨_, hx, hchans, congrArg NonVolatile.user hnv, fun _ _ => hprog, fun _ e => absurd e hsvn, fun e => absurd e (by decide)⟩

/-- The channels of a list take a table and are armed. -/
def State.armEach (s : State) (l : List Ch) (bank : TableBank) : State :=
  l.foldl (fun t c => t.updCh c (·.updTaper (fun x => { x with shadow := bank, armed := true }))) s

theorem armEach_frame (s : State) (l : List Ch) (bank : TableBank) : (s.armEach l bank).sessions = s.sessions
    ∧ (s.armEach l bank).cells = s.cells ∧ ∀ c : Ch, (s.armEach l bank).chans[c].taper.active = s.chans[c].taper.active := by
  induction l generalizing s with
  | nil => exact ⟨rfl, rfl, fun _ => rfl⟩
  | cons a l ih =>
    obtain ⟨hsess, hcells, hact⟩ := ih (s.updCh a (·.updTaper (fun x => { x with shadow := bank, armed := true })))
    refine ⟨hsess, hcells.trans (State.updCh_cells (by exact rfl)), fun c => (hact c).trans ?_⟩
    by_cases hc : c = a
    · subst hc
      rw [State.updCh_self]
      rfl
    · rw [State.updCh_other _ _ hc]

theorem armEach_stays {s : State} {l : List Ch} {bank : TableBank} {c : Ch}
    (h : s.chans[c].taper.armed = true ∧ s.chans[c].taper.shadow = bank) :
    (s.armEach l bank).chans[c].taper.armed = true ∧ (s.armEach l bank).chans[c].taper.shadow = bank := by
  induction l generalizing s with
  | nil => exact h
  | cons a l ih =>
    refine ih ?_
    by_cases hc : c = a
    · subst hc
      rw [State.updCh_self]
      exact ⟨rfl, rfl⟩
    · rw [State.updCh_other _ _ hc]
      exact h

theorem armEach_arms {s : State} {l : List Ch} {bank : TableBank} {c : Ch} (hc : c ∈ l) :
    (s.armEach l bank).chans[c].taper.armed = true ∧ (s.armEach l bank).chans[c].taper.shadow = bank := by
  induction l generalizing s with
  | nil => cases hc
  | cons a l ih =>
    rcases List.mem_cons.mp hc with rfl | hl
    · refine armEach_stays (s := s.updCh c (·.updTaper (fun x => { x with shadow := bank, armed := true }))) ?_
      rw [State.updCh_self]
      exact ⟨rfl, rfl⟩
    · exact ih hl

theorem armTable_eq (s : State) (k : Slot) (x : Cmd) (b : List Byte) : ∃ payload, s.armTable k x b
    = ((s.armEach ((maskChs (fieldAt x.payload 4 4)).filter (fun c => (fieldAt b 8 4).testBit c.val && s.chans[c].shadowWritable))
        (bankOfImage b (s.tableSigned b))).updMgmt (fun m => { m with table := none, tableOwner := none })).answer k x
          (okResp payload) := ⟨_, rfl⟩

theorem fwActivateTable_answers {b : List Byte} (hshape : activateShape x.payload = true) (htable : s.mgmt.table = some b)
    (hkind : fieldAt x.payload 0 1 = 1) (hmask : fieldAt x.payload 4 4 ≠ 0) (hfmt : tableFormatOk b = true)
    (hown : tableArea.heldByOther s k = false) (h : served s k x opFwActivate false (some 1)) :
    ∃ t, exec (.fwActivateTable k) s = .next t ∧ memKept s t
      ∧ (tableDigestOk b = true → (s.mgmt.lab = true ∨ s.tableSigned b = true) → t.mgmt.table = none
          ∧ (∃ r, answered t k x (okResp r))
          ∧ ∀ c : Ch,
              (c ∈ maskChs (fieldAt x.payload 4 4) → (fieldAt b 8 4).testBit c.val = true →
                s.chans[c].shadowWritable = true →
                t.chans[c].taper.armed = true ∧ t.chans[c].taper.shadow = bankOfImage b (s.tableSigned b))
              ∧ t.chans[c].taper.active = s.chans[c].taper.active)
      ∧ (¬(tableDigestOk b = true ∧ (s.mgmt.lab = true ∨ s.tableSigned b = true)) →
          answered t k x { status := stDenied, detail := 0x08 } ∧ t.chans = s.chans) := by
  have hfind := find_of_served h
  have hd := not_done_of_served h
  have hx := next_of_served (i := .fwActivateTable k) h rfl (by decide) (isOpAt_of_opcode (opcode_of_served h) hkind)
  rw [htable] at hx
  dsimp only at hx
  rw [State.valid_true s k x (by rw [hshape, hfmt, decide_eq_true hmask]; rfl), if_neg (by rw [hown]; decide)] at hx
  by_cases hpass : tableDigestOk b = true ∧ (s.mgmt.lab = true ∨ s.tableSigned b = true)
  · rw [if_pos (by rw [hpass.1, Bool.or_eq_true_iff.mpr hpass.2]; rfl)] at hx
    obtain ⟨payload, heq⟩ := armTable_eq s k x b
    rw [heq] at hx
    obtain ⟨hsess, hcells, hact⟩ := armEach_frame s ((maskChs (fieldAt x.payload 4 4)).filter
      (fun c => (fieldAt b 8 4).testBit c.val && s.chans[c].shadowWritable)) (bankOfImage b (s.tableSigned b))
    have harms (c : Ch) (hc : c ∈ maskChs (fieldAt x.payload 4 4)) (hbit : (fieldAt b 8 4).testBit c.val = true)
        (hw : s.chans[c].shadowWritable = true) := armEach_arms (s := s) (bank := bankOfImage b (s.tableSigned b))
      (List.mem_filter.mpr ⟨hc, by rw [hbit, hw]; rfl⟩ : c ∈ (maskChs (fieldAt x.payload 4 4)).filter
        (fun c => (fieldAt b 8 4).testBit c.val && s.chans[c].shadowWritable))
    generalize s.armEach _ _ = u at hx hsess hcells hact harms
    have hchans := ((u.updMgmt (fun m => { m with table := none, tableOwner := none })).answer_frame k x (okResp payload)).1
    obtain ⟨owed, hmgmt⟩ := (u.updMgmt (fun m => { m with table := none, tableOwner := none })).answer_mgmt_owed k x (okResp payload)
    refine ⟨_, hx, memKept_of_cells ((State.answer_cells ..).trans hcells), fun _ _ => ⟨by rw [hmgmt]; rfl, ⟨payload,
      State.answer_answered _ k x _ ?_ hd⟩, fun c => ⟨fun hc hbit hw => ?_, ?_⟩⟩, fun hn => absurd hpass hn⟩
    · change u.sessions[k].find x.seq = some x
      rw [hsess]
      exact hfind
    · rw [hchans]
      exact harms c hc hbit hw
    · rw [hchans]
      exact hact c
  · rw [if_neg (fun e => hpass ?_), State.fails_eq_answer] at hx
    · exact ⟨_, hx, memKept_of_cells (State.answer_cells ..), fun h1 h2 => absurd ⟨h1, h2⟩ hpass,
        fun _ => ⟨State.answer_answered s k x _ hfind hd, (State.answer_frame ..).1⟩⟩
    · obtain ⟨h1, h2⟩ := Bool.and_eq_true_iff.mp e
      exact ⟨h1, Bool.or_eq_true_iff.mp h2⟩

end

/-- Settles O57: each object by its chunks and the program that the last begins. -/
theorem jmpTransfersAndActivates : Obligations.JmpTransfersAndActivates := by
  intro k x s
  refine ⟨fun mask hm hne hb h => retMapExport_reports hm hne hb h, fun u last hu hz hfree h => retMapImport_answers hu hz hfree h,
    fun u last hu hshape hlo hhi hreach hpool hfree h => nvWrite_answers hu hshape hlo hhi hreach hpool hfree h,
    fun u last hu hz hkind hlo hhi hpool hfree h => fwStageImage_begins hu hz hkind hlo hhi hpool hfree h,
    fun u last hu hkind hz htotal h => fwStageTable_answers hu hkind hz htotal h, fun hshape => ⟨?_, ?_⟩⟩
  · intro hkind hst hraise hown hfree h
    exact fwActivateImage_answers hshape hkind hst hraise hown hfree h
  · intro b htable hkind hmask hfmt hown h
    exact fwActivateTable_answers hshape htable hkind hmask hfmt hown h

end Sys2Proof.Machine

/-! # Steps of a Taper thread (Tables 6-1 to 6-6, R153, R169) -/

namespace Sys2Proof.Machine

open Sys2Proof.Safety

/-! ## One channel and the model's counter -/

theorem channelOnly_of_onlyChannel {s t : State} {c : Ch} (h : onlyChannel s t c) : channelOnly s t c := by
  unfold onlyChannel at h
  unfold channelOnly
  rw [h]
  simp

theorem channelOnly_updCh (s : State) (c : Ch) (f : Channel → Channel) : channelOnly s (s.updCh c f) c :=
  channelOnly_of_onlyChannel (onlyChannel_updCh s c f)

theorem channelOnly_trans {s t u : State} {c : Ch} (h : channelOnly s t c) (h' : channelOnly t u c) : channelOnly s u c := by
  unfold channelOnly at h h' ⊢
  rw [h', h]
  simp

theorem channelOnly_fresh (s : State) (c : Ch) (n : Nat) : channelOnly s { s with fresh := n } c := by
  unfold channelOnly
  simp

/-! ## Threads of a Taper -/

theorem find_map_put {l : List Thread} {tid : Nat} {x y : Thread} (h : l.find? (fun z => z.tid == tid) = some x)
    (hy : y.tid = tid) : (l.map (fun z => if z.tid == y.tid then y else z)).find? (fun z => z.tid == tid) = some y := by
  induction l with
  | nil => cases h
  | cons a l ih =>
    rw [List.map_cons, hy]
    cases ha : (a.tid == tid) with
    | true => rw [if_pos rfl, List.find?_cons_of_pos (by rw [hy]; exact beq_self_eq_true tid)]
    | false =>
      rw [if_neg Bool.false_ne_true, List.find?_cons_of_neg (by rw [ha]; exact Bool.false_ne_true)]
      rw [List.find?_cons_of_neg (by rw [ha]; exact Bool.false_ne_true)] at h
      rw [hy] at ih
      exact ih h

/-- A thread that stands in the Taper is replaced. -/
theorem Taper.find_put {t : Taper} {tid : Nat} {x y : Thread} (h : t.find tid = some x) (hy : y.tid = tid) :
    (t.put y).find tid = some y := find_map_put h hy

theorem Taper.find_tid {t : Taper} {tid : Nat} {x : Thread} (h : t.find tid = some x) : x.tid = tid := by
  unfold find at h
  have hx := List.find?_some h
  exact beq_iff_eq.mp hx

/-! ## The branch rule -/

/-- What a branch condition reads of the machine. -/
structure SameBranch (s u : State) (c : Ch) : Prop where
  pcs : u.chans[c].pcs = s.chans[c].pcs
  dpar : u.chans[c].regs.dparEn = s.chans[c].regs.dparEn
  sr : u.chans[c].regs.srAct = s.chans[c].regs.srAct
  managed : u.chans[c].regs.srManaged = s.chans[c].regs.srManaged
  wick : u.wick = s.wick
  fresh : u.fresh = s.fresh

theorem branchTrue_fst {s u : State} {c : Ch} (h : SameBranch s u c) (x : Thread) (n : Nat) :
    (u.branchTrue c x n).1 = (s.branchTrue c x n).1 := by
  obtain ⟨hpcs, hdpar, hsr, hman, hwick, hfresh⟩ := h
  unfold State.branchTrue State.free
  dsimp only
  rw [hpcs, hdpar, hsr, hman, hwick, hfresh]
  split <;> try rfl
  split
  · split
    · rfl
    · split
      · rfl
      · rfl
  · rfl

theorem branchTrue_snd (s : State) (c : Ch) (x : Thread) (n : Nat) : ∃ f, (s.branchTrue c x n).2 = { s with fresh := f } := by
  unfold State.branchTrue State.free
  dsimp only
  split <;> try exact ⟨s.fresh, rfl⟩
  split
  · split
    · exact ⟨s.fresh, rfl⟩
    · split
      · exact ⟨_, rfl⟩
      · exact ⟨s.fresh, rfl⟩
  · exact ⟨s.fresh, rfl⟩

theorem branchStep_eq (s : State) (c : Ch) (x : Thread) (issued : Bool) : s.branchStep c x issued
    = (s.branchTrue c x (stepBcnd (s.chans[c].taper.word x))).2.finishStep c x issued
        (if (s.branchTrue c x (stepBcnd (s.chans[c].taper.word x))).1 then stepTgt (s.chans[c].taper.word x) else x.ptr + 1)
        (stepWcnt (s.chans[c].taper.word x)) := rfl

/-! ## The end of a step -/

/-- A thread after its step: it stands at the next address, its lease released or not (Table 6-6). -/
def Thread.after (x : Thread) (next : BitVec 10) (wait : BitVec 12) (release : Bool) : Thread :=
  { x with ptr := next, wait := wait, lease := if release then none else x.lease, owed := if release then [] else x.owed }

/-- The channel after a step of a thread that goes on. -/
def Channel.stepDone (h : Channel) (x y : Thread) (release counted : Bool) (top : Nat) : Channel :=
  let h1 : Channel := { h with
    taper := h.taper.put y
    cnt := { h.cnt with
      steps := bump h.cnt.steps
      indexed := if counted then addCounts h.cnt.indexed [(256 + top, 1)] else h.cnt.indexed } }
  if release then h1.carryOwed x else h1

theorem carryOwed_frame (h : Channel) (x : Thread) : h.carryOwed x = { h with pcs := (h.carryOwed x).pcs }
    ∧ ∀ p : Pc, (h.carryOwed x).pcs[p].calendar = h.pcs[p].calendar := by
  refine ⟨rfl, fun p => ?_⟩
  unfold Channel.carryOwed
  rw [Channel.updPc_at]
  split
  · exact List.foldlRecOn (motive := fun q : PseudoChannel => q.calendar = h.pcs[p].calendar) x.owed _ rfl fun q hq r _ => hq
  · rfl

/-- What a step leaves of its channel. -/
structure Stepped (h k : Channel) (y : Thread) (release counted : Bool) : Prop where
  taper : k.taper = h.taper.put y
  steps : k.cnt.steps = bump h.cnt.steps
  indexed : counted = false → k.cnt.indexed = h.cnt.indexed
  tsv : k.tsv = h.tsv
  calendar : ∀ p : Pc, k.pcs[p].calendar = h.pcs[p].calendar
  pcs : release = false → k.pcs = h.pcs
  regs : k.regs = h.regs
  intake : k.intake = h.intake

theorem stepped_stepDone (h : Channel) (x y : Thread) (release counted : Bool) (top : Nat) :
    Stepped h (h.stepDone x y release counted top) y release counted := by
  unfold Channel.stepDone
  dsimp only
  cases release with
  | false => exact ⟨rfl, rfl, fun hc => by rw [if_neg Bool.false_ne_true, hc]; rfl, rfl, fun _ => rfl, fun _ => rfl, rfl, rfl⟩
  | true =>
    rw [if_pos rfl]
    obtain ⟨heq, hcal⟩ := carryOwed_frame { h with
      taper := h.taper.put y
      cnt := { h.cnt with
        steps := bump h.cnt.steps
        indexed := if counted then addCounts h.cnt.indexed [(256 + top, 1)] else h.cnt.indexed } } x
    rw [heq]
    exact ⟨rfl, rfl, fun hc => by rw [hc]; rfl, rfl, hcal, fun e => absurd e (by decide), rfl, rfl⟩

/-- What a cycle of the Taper leaves of its threads (R149). -/
structure Cycled (f : Taper → Taper) : Prop where
  threads : ∀ t, (f t).threads = t.threads
  reported : ∀ t, (f t).reported = t.reported

theorem traceStep_eq (s : State) (c : Ch) (x : Thread) (on : Bool) (wait : BitVec 12) : ∃ f n, Cycled f
    ∧ s.traceStep c x on wait = ({ s with fresh := n } : State).updCh c (·.updTaper f) := by
  unfold State.traceStep
  dsimp only
  split
  · refine ⟨_, _, ?_, rfl⟩
    exact ⟨fun _ => rfl, fun _ => rfl⟩
  · refine ⟨_, s.fresh, ?_, rfl⟩
    exact ⟨fun _ => rfl, fun _ => rfl⟩

theorem raiseUrgent_none {s old : State} {c : Ch} (h : ∀ (p : Pc) (i : Fin 64), s.aboveLimit c p i = old.aboveLimit c p i) :
    s.raiseUrgent old c = s := by
  unfold State.raiseUrgent
  rw [if_neg]
  intro e
  obtain ⟨p, -, hp⟩ := List.any_eq_true.mp e
  obtain ⟨i, -, hi⟩ := List.any_eq_true.mp hp
  rw [h p i, Bool.and_not_self] at hi
  exact absurd hi (by decide)

/-- A raised cause leaves of a channel all but its causes. -/
theorem raiseUrgent_chan (s old : State) (c : Ch) : ∃ causes, (s.raiseUrgent old c).chans[c]
    = { s.chans[c] with regs := { s.chans[c].regs with causes := causes } } := (noted_raiseUrgent s old c).chan c

section
variable {s : State} {c : Ch} {x : Thread} (hend : (stepFlg (s.chans[c].taper.word x)).getLsbD 3 = false)
  (hlive : ∀ l, x.lease = some l → l.revoked = false) (issued : Bool) (next : BitVec 10) (wait : BitVec 12)
include hend hlive

/-- A step of a thread that goes on ends so. -/
theorem finishStep_eq : ∃ f n counted, Cycled f ∧ (issued = false → counted = false)
    ∧ s.finishStep c x issued next wait = (({ s with fresh := n } : State).updCh c (fun h => (h.updTaper f).stepDone x
        (x.after next wait ((stepFlg (s.chans[c].taper.word x)).getLsbD 2)) ((stepFlg (s.chans[c].taper.word x)).getLsbD 2) counted
        (tcmdTop (stepTcmd (s.chans[c].taper.word x))))).raiseUrgent s c := by
  obtain ⟨f, n, hf, htrace⟩ := traceStep_eq s c x
    (s.mgmt.lab && ((stepFlg (s.chans[c].taper.word x)).getLsbD 0 || s.chans[c].regs.mr13.getLsbD 1)) wait
  refine ⟨f, n, (stepFlg (s.chans[c].taper.word x)).getLsbD 1 && issued && tcmdTop (stepTcmd (s.chans[c].taper.word x)) != 0, hf,
    fun h => by rw [h, Bool.and_false]; rfl, ?_⟩
  unfold State.finishStep
  dsimp only
  rw [htrace, hend, Bool.false_or]
  refine congrArg (fun u : State => u.raiseUrgent s c) ((State.updCh_updCh ..).trans (congrArg (State.updCh _ c)
    (funext fun h => if_neg ?_)))
  intro e
  split at e
  · next l hl =>
    split at hl
    · cases hl
    · rw [hlive l hl] at e
      exact absurd e (by simp)
  · exact absurd e (by decide)

end

/-- What comes before the end of a step leaves of the machine and of the channel's threads. -/
structure Ahead (s u : State) (c : Ch) : Prop where
  only : channelOnly s u c
  active : u.chans[c].taper.active = s.chans[c].taper.active
  shadow : u.chans[c].taper.shadow = s.chans[c].taper.shadow
  threads : u.chans[c].taper.threads = s.chans[c].taper.threads
  steps : u.chans[c].cnt.steps = s.chans[c].cnt.steps

/-- What comes before the end of a step that leaves the memory. -/
structure Before (s u : State) (c : Ch) : Prop extends Ahead s u c where
  cells : u.cells = s.cells

theorem Ahead.trans {s u v : State} {c : Ch} (h : Ahead s u c) (h' : Ahead u v c) : Ahead s v c :=
  ⟨channelOnly_trans h.only h'.only, h'.active.trans h.active, h'.shadow.trans h.shadow, h'.threads.trans h.threads,
    h'.steps.trans h.steps⟩

theorem Before.trans {s u v : State} {c : Ch} (h : Before s u c) (h' : Before u v c) : Before s v c :=
  ⟨h.toAhead.trans h'.toAhead, h'.cells.trans h.cells⟩

theorem before_fresh (s : State) (c : Ch) (n : Nat) : Before s { s with fresh := n } c :=
  ⟨⟨channelOnly_fresh s c n, rfl, rfl, rfl, rfl⟩, rfl⟩

/-- A thread that stands where another stands, with the same lease. -/
structure SameStep (x y : Thread) : Prop where
  tid : y.tid = x.tid
  ptr : y.ptr = x.ptr
  oldBank : y.oldBank = x.oldBank
  lease : y.lease = x.lease

theorem SameStep.refl (x : Thread) : SameStep x x := ⟨rfl, rfl, rfl, rfl⟩

theorem Ahead.word {s u : State} {c : Ch} (h : Ahead s u c) {x y : Thread} (hx : SameStep x y) :
    u.chans[c].taper.word y = s.chans[c].taper.word x := by
  unfold Taper.word Taper.bankOf
  rw [h.active, h.shadow, hx.oldBank, hx.ptr]

theorem Ahead.find {s u : State} {c : Ch} (h : Ahead s u c) (tid : Nat) :
    u.chans[c].taper.find tid = s.chans[c].taper.find tid := by
  unfold Taper.find
  rw [h.threads]

/-- What the end of a step leaves of its channel. -/
structure Ended (h k : Channel) (release issued : Bool) : Prop where
  reported : k.taper.reported = h.taper.reported
  indexed : issued = false → k.cnt.indexed = h.cnt.indexed
  tsv : k.tsv = h.tsv
  calendar : ∀ p : Pc, k.pcs[p].calendar = h.pcs[p].calendar
  pcs : release = false → k.pcs = h.pcs
  causes : release = false → k.regs.causes = h.regs.causes

theorem aboveLimit_congr {s u : State} {c : Ch} (hpcs : u.chans[c].pcs = s.chans[c].pcs) (hregs : u.chans[c].regs = s.chans[c].regs)
    (hintake : u.chans[c].intake = s.chans[c].intake) (ht : u.thermal = s.thermal) (hd : u.dens = s.dens) (p : Pc) (i : Fin 64) :
    u.aboveLimit c p i = s.aboveLimit c p i := by
  unfold State.aboveLimit Channel.obliged State.limitRows State.advance
  rw [hpcs, hregs, hintake, ht, hd]

section
variable {s u : State} {c : Ch} {tid opc : Nat} {x y : Thread} (hst : stands s c tid opc x) (hu : Ahead s u c)
  (hy : SameStep x y) (issued : Bool) (next : BitVec 10) (wait : BitVec 12)
include hst hu hy

theorem finishStep_ended : channelOnly u (u.finishStep c y issued next wait) c
    ∧ (u.finishStep c y issued next wait).chans[c].taper.find tid
      = some (y.after next wait ((stepFlg (s.chans[c].taper.word x)).getLsbD 2))
    ∧ (u.finishStep c y issued next wait).chans[c].cnt.steps = bump u.chans[c].cnt.steps
    ∧ Ended u.chans[c] (u.finishStep c y issued next wait).chans[c] ((stepFlg (s.chans[c].taper.word x)).getLsbD 2) issued := by
  obtain ⟨hfind, -, -, hend, hlive⟩ := hst
  have hword := hu.word hy
  obtain ⟨f, n, counted, hf, hcounted, heq⟩ := finishStep_eq (s := u) (c := c) (x := y) (by rw [hword]; exact hend)
    (by rw [hy.lease]; exact hlive) issued next wait
  rw [hword] at heq
  have hstep := stepped_stepDone (u.chans[c].updTaper f) y (y.after next wait ((stepFlg (s.chans[c].taper.word x)).getLsbD 2))
    ((stepFlg (s.chans[c].taper.word x)).getLsbD 2) counted (tcmdTop (stepTcmd (s.chans[c].taper.word x)))
  have hself : (({ u with fresh := n } : State).updCh c (fun h => (h.updTaper f).stepDone y
      (y.after next wait ((stepFlg (s.chans[c].taper.word x)).getLsbD 2)) ((stepFlg (s.chans[c].taper.word x)).getLsbD 2) counted
      (tcmdTop (stepTcmd (s.chans[c].taper.word x))))).chans[c]
      = (u.chans[c].updTaper f).stepDone y (y.after next wait ((stepFlg (s.chans[c].taper.word x)).getLsbD 2))
          ((stepFlg (s.chans[c].taper.word x)).getLsbD 2) counted (tcmdTop (stepTcmd (s.chans[c].taper.word x))) := State.updCh_self ..
  have honly : channelOnly u (({ u with fresh := n } : State).updCh c (fun h => (h.updTaper f).stepDone y
      (y.after next wait ((stepFlg (s.chans[c].taper.word x)).getLsbD 2)) ((stepFlg (s.chans[c].taper.word x)).getLsbD 2) counted
      (tcmdTop (stepTcmd (s.chans[c].taper.word x))))) c := channelOnly_trans (channelOnly_fresh u c n) (channelOnly_updCh ..)
  have hthermal : (({ u with fresh := n } : State).updCh c (fun h => (h.updTaper f).stepDone y
      (y.after next wait ((stepFlg (s.chans[c].taper.word x)).getLsbD 2)) ((stepFlg (s.chans[c].taper.word x)).getLsbD 2) counted
      (tcmdTop (stepTcmd (s.chans[c].taper.word x))))).thermal = u.thermal := rfl
  have hdens : (({ u with fresh := n } : State).updCh c (fun h => (h.updTaper f).stepDone y
      (y.after next wait ((stepFlg (s.chans[c].taper.word x)).getLsbD 2)) ((stepFlg (s.chans[c].taper.word x)).getLsbD 2) counted
      (tcmdTop (stepTcmd (s.chans[c].taper.word x))))).dens = u.dens := rfl
  generalize ({ u with fresh := n } : State).updCh c _ = v at heq hself honly hthermal hdens
  rw [← hself] at hstep
  rw [heq]
  obtain ⟨causes, hchan⟩ := raiseUrgent_chan v u c
  refine ⟨channelOnly_trans honly (channelOnly_of_onlyChannel (State.raiseUrgent_onlyChannel v u c)), ?_, ?_, ?_⟩
  · rw [hchan]
    change v.chans[c].taper.find tid = _
    rw [hstep.taper]
    refine Taper.find_put (x := x) ?_ (hy.tid.trans (Taper.find_tid hfind))
    unfold Taper.find
    change (f u.chans[c].taper).threads.find? _ = _
    rw [hf.threads, hu.threads]
    exact hfind
  · rw [hchan]
    exact hstep.steps
  · have hsame (hrel : (stepFlg (s.chans[c].taper.word x)).getLsbD 2 = false) : v.raiseUrgent u c = v :=
      raiseUrgent_none (aboveLimit_congr (hstep.pcs hrel) hstep.regs hstep.intake hthermal hdens)
    refine ⟨?_, fun hi => ?_, ?_, fun p => ?_, fun hrel => ?_, fun hrel => ?_⟩
    · rw [hchan]
      change v.chans[c].taper.reported = _
      rw [hstep.taper]
      exact hf.reported _
    · rw [hchan]
      exact hstep.indexed (hcounted hi)
    · rw [hchan]
      exact hstep.tsv
    · rw [hchan]
      exact hstep.calendar p
    · rw [hchan]
      exact hstep.pcs hrel
    · rw [hsame hrel, hstep.regs]
      rfl

/-- A step of a thread that goes on, up to and with its end. -/
theorem step_goes : channelOnly s (u.finishStep c y issued next wait) c ∧ goesOn s (u.finishStep c y issued next wait) c tid next
    ∧ (u.finishStep c y issued next wait).chans[c].taper.find tid
      = some (y.after next wait ((stepFlg (s.chans[c].taper.word x)).getLsbD 2))
    ∧ Ended u.chans[c] (u.finishStep c y issued next wait).chans[c] ((stepFlg (s.chans[c].taper.word x)).getLsbD 2) issued := by
  obtain ⟨honly, hfind, hsteps, hended⟩ := finishStep_ended hst hu hy issued next wait
  refine ⟨channelOnly_trans hu.only honly, ⟨?_, ?_⟩, hfind, hended⟩
  · rw [hfind]
    rfl
  · rw [hsteps, hu.steps]

end

/-- A step that leaves the memory leaves it with its end too. -/
theorem finishStep_memKept {s u : State} {c : Ch} (hu : u.cells = s.cells) (y : Thread) (issued : Bool) (next : BitVec 10)
    (wait : BitVec 12) : memKept s (u.finishStep c y issued next wait) :=
  memKept_of_cells ((State.finishStep_cells ..).trans hu)

theorem step_ends {s u : State} {c : Ch} {tid opc : Nat} {x y : Thread} (hst : stands s c tid opc x) (hu : Before s u c)
    (hy : SameStep x y) (issued : Bool) (next : BitVec 10) (wait : BitVec 12) :
    memKept s (u.finishStep c y issued next wait) ∧ channelOnly s (u.finishStep c y issued next wait) c
    ∧ goesOn s (u.finishStep c y issued next wait) c tid next
    ∧ (u.finishStep c y issued next wait).chans[c].taper.find tid
      = some (y.after next wait ((stepFlg (s.chans[c].taper.word x)).getLsbD 2))
    ∧ Ended u.chans[c] (u.finishStep c y issued next wait).chans[c] ((stepFlg (s.chans[c].taper.word x)).getLsbD 2) issued :=
  ⟨finishStep_memKept hu.cells y issued next wait, step_goes hst hu.toAhead hy issued next wait⟩

/-! ## The opcodes of flow (R153) -/

section
variable {s : State} {c : Ch} {tid opc : Nat} {x : Thread}

theorem before_countWord (s : State) (c : Ch) (x : Thread) : Before s (s.updCh c (·.countWord x)) c := by
  refine ⟨⟨channelOnly_updCh .., ?_, ?_, ?_, ?_⟩, State.updCh_cells (Channel.countWord_cells ..)⟩ <;>
  · rw [State.updCh_self]
    rfl

theorem runStep_of_stands (hst : stands s c tid opc x) (body : State → Thread → BitVec 64 → State) :
    s.runStep c tid opc body = .next (body (s.updCh c (·.countWord x)) x (s.chans[c].taper.word x)) := by
  obtain ⟨hfind, hfault, hopc, -, -⟩ := hst
  unfold State.runStep
  rw [hfind]
  dsimp only
  rw [if_neg (by rw [hfault]; exact Bool.false_ne_true), if_pos hopc]

theorem sameBranch_countWord (s : State) (c : Ch) (x : Thread) : SameBranch s (s.updCh c (·.countWord x)) c := by
  refine ⟨?_, ?_, ?_, ?_, rfl, rfl⟩ <;>
  · rw [State.updCh_self]
    rfl

theorem before_branchTrue (s : State) (c : Ch) (x : Thread) (n : Nat) : Before s (s.branchTrue c x n).2 c := by
  obtain ⟨f, hf⟩ := branchTrue_snd s c x n
  rw [hf]
  exact before_fresh s c f

/-- A step that branches by BCND and is not an ISSUE. -/
theorem branch_ends {u : State} {y : Thread} (hst : stands s c tid opc x) (hu : Before s u c) (hy : SameStep x y) :
    memKept s (u.branchStep c y) ∧ channelOnly s (u.branchStep c y) c
    ∧ goesOn s (u.branchStep c y) c tid (if (u.branchTrue c y (stepBcnd (s.chans[c].taper.word x))).1
        then stepTgt (s.chans[c].taper.word x) else x.ptr + 1)
    ∧ (∃ w r, (u.branchStep c y).chans[c].taper.find tid = some (y.after (if (u.branchTrue c y
        (stepBcnd (s.chans[c].taper.word x))).1 then stepTgt (s.chans[c].taper.word x) else x.ptr + 1) w r))
    ∧ Ended u.chans[c] (u.branchStep c y).chans[c] ((stepFlg (s.chans[c].taper.word x)).getLsbD 2) false := by
  rw [branchStep_eq, hu.word hy, hy.ptr]
  obtain ⟨f, hf⟩ := branchTrue_snd u c y (stepBcnd (s.chans[c].taper.word x))
  obtain ⟨hmem, honly, hgoes, hfind, hended⟩ := step_ends hst (hu.trans (before_branchTrue u c y (stepBcnd (s.chans[c].taper.word x))))
    hy false (if (u.branchTrue c y (stepBcnd (s.chans[c].taper.word x))).1 then stepTgt (s.chans[c].taper.word x) else x.ptr + 1)
    (stepWcnt (s.chans[c].taper.word x))
  refine ⟨hmem, honly, hgoes, ⟨_, _, hfind⟩, ?_⟩
  have hchan : (u.branchTrue c y (stepBcnd (s.chans[c].taper.word x))).2.chans[c] = u.chans[c] := by rw [hf]
  rwa [hchan] at hended

end

end Sys2Proof.Machine

/-! # Steps of flow and report (Table 6-2, R153, R169) -/

namespace Sys2Proof.Machine

open Sys2Proof.Safety

section
variable {s : State} {c : Ch} {tid : Nat} {x : Thread}

/-! ## SETCNT, LOOP, CALL, RET, NOP -/

theorem setcnt_steps (hst : stands s c tid 3 x) : ∃ t, exec (.setcnt c tid) s = .next t ∧ memKept s t ∧ channelOnly s t c
    ∧ goesOn s t c tid (if (s.branchTrue c { x with loops := stepWcnt (s.chans[c].taper.word x) }
        (stepBcnd (s.chans[c].taper.word x))).1 then stepTgt (s.chans[c].taper.word x) else x.ptr + 1)
    ∧ (t.chans[c].taper.find tid).map (·.loops) = some (stepWcnt (s.chans[c].taper.word x)) := by
  have hexec : exec (.setcnt c tid) s = execSetcnt c tid s := rfl
  unfold execSetcnt at hexec
  rw [runStep_of_stands hst] at hexec
  dsimp only at hexec
  have hbranch := branchTrue_fst (sameBranch_countWord s c x) { x with loops := stepWcnt (s.chans[c].taper.word x) }
    (stepBcnd (s.chans[c].taper.word x))
  obtain ⟨hmem, honly, hgoes, hfind, -⟩ := step_ends hst ((before_countWord s c x).trans (before_branchTrue _ c
    { x with loops := stepWcnt (s.chans[c].taper.word x) } (stepBcnd (s.chans[c].taper.word x))))
    (y := { x with loops := stepWcnt (s.chans[c].taper.word x) }) ⟨rfl, rfl, rfl, rfl⟩ false
    (if (s.branchTrue c { x with loops := stepWcnt (s.chans[c].taper.word x) } (stepBcnd (s.chans[c].taper.word x))).1 then
      stepTgt (s.chans[c].taper.word x) else x.ptr + 1) 0
  rw [hbranch] at hexec
  exact ⟨_, hexec, hmem, honly, hgoes, by rw [hfind]; rfl⟩

theorem loop_steps (hst : stands s c tid 4 x) : ∃ t, exec (.loop c tid) s = .next t ∧ memKept s t ∧ channelOnly s t c
    ∧ goesOn s t c tid (if x.loops - 1 ≠ 0 then stepTgt (s.chans[c].taper.word x) else x.ptr + 1)
    ∧ (t.chans[c].taper.find tid).map (·.loops) = some (x.loops - 1) := by
  have hexec : exec (.loop c tid) s = execLoop c tid s := rfl
  unfold execLoop at hexec
  rw [runStep_of_stands hst] at hexec
  dsimp only at hexec
  obtain ⟨hmem, honly, hgoes, hfind, -⟩ := step_ends hst (before_countWord s c x) (y := { x with loops := x.loops - 1 })
    ⟨rfl, rfl, rfl, rfl⟩ false (if x.loops - 1 ≠ 0 then stepTgt (s.chans[c].taper.word x) else x.ptr + 1)
    (stepWcnt (s.chans[c].taper.word x))
  exact ⟨_, hexec, hmem, honly, hgoes, by rw [hfind]; rfl⟩

theorem call_steps (hst : stands s c tid 5 x) : ∃ t, exec (.call c tid) s = .next t ∧ memKept s t ∧ channelOnly s t c
    ∧ goesOn s t c tid (stepTgt (s.chans[c].taper.word x))
    ∧ (t.chans[c].taper.find tid).map (·.ret) = some (x.ptr + 1) := by
  have hexec : exec (.call c tid) s = execCall c tid s := rfl
  unfold execCall at hexec
  rw [runStep_of_stands hst] at hexec
  obtain ⟨hmem, honly, hgoes, hfind, -⟩ := step_ends hst (before_countWord s c x) (y := { x with ret := x.ptr + 1 })
    ⟨rfl, rfl, rfl, rfl⟩ false (stepTgt (s.chans[c].taper.word x)) (stepWcnt (s.chans[c].taper.word x))
  exact ⟨_, hexec, hmem, honly, hgoes, by rw [hfind]; rfl⟩

theorem ret_steps (hst : stands s c tid 6 x) : ∃ t, exec (.ret c tid) s = .next t ∧ memKept s t ∧ channelOnly s t c
    ∧ goesOn s t c tid x.ret := by
  have hexec : exec (.ret c tid) s = execRet c tid s := rfl
  unfold execRet at hexec
  rw [runStep_of_stands hst] at hexec
  obtain ⟨hmem, honly, hgoes, -, -⟩ := step_ends hst (before_countWord s c x) (.refl x) false x.ret
    (stepWcnt (s.chans[c].taper.word x))
  exact ⟨_, hexec, hmem, honly, hgoes⟩

theorem stepNop_steps (hst : stands s c tid 0 x) : ∃ t, exec (.stepNop c tid) s = .next t ∧ memKept s t ∧ channelOnly s t c
    ∧ goesOn s t c tid (if (s.branchTrue c x (stepBcnd (s.chans[c].taper.word x))).1 then stepTgt (s.chans[c].taper.word x)
        else x.ptr + 1)
    ∧ ((stepFlg (s.chans[c].taper.word x)).getLsbD 2 = false → t.chans[c].pcs = s.chans[c].pcs) := by
  have hexec : exec (.stepNop c tid) s = execStepNop c tid s := rfl
  unfold execStepNop at hexec
  rw [runStep_of_stands hst] at hexec
  obtain ⟨hmem, honly, hgoes, -, hended⟩ := branch_ends hst (before_countWord s c x) (.refl x)
  rw [branchTrue_fst (sameBranch_countWord s c x)] at hgoes
  exact ⟨_, hexec, hmem, honly, hgoes, fun hrel => (hended.pcs hrel).trans (sameBranch_countWord s c x).pcs⟩

/-! ## FETCH, COUNT, ALERT, REPORT -/

theorem before_scrubTaken (s : State) (c : Ch) (p : Pc) (rows : Nat) (x : Thread) : Before s (s.updPc c p (·.scrubTaken rows x)) c := by
  refine ⟨⟨channelOnly_updCh .., ?_, ?_, ?_, ?_⟩, State.updPc_cells (PseudoChannel.scrubTaken_cells ..)⟩ <;>
  · rw [State.updPc, State.updCh_self]
    rfl

theorem fetchAddr_countWord (rows source : Nat) : ((s.updCh c (·.countWord x)).chans[c]).fetchAddr rows x source
    = s.chans[c].fetchAddr rows x source := by
  rw [State.updCh_self]
  rfl

theorem fetch_steps (hst : stands s c tid 7 x) : ∃ t, exec (.fetch c tid) s = .next t ∧ memKept s t ∧ channelOnly s t c
    ∧ t.chans[c].cnt.steps = bump s.chans[c].cnt.steps
    ∧ (t.chans[c].taper.find tid).map (·.empty)
        = some (s.chans[c].fetchAddr s.rows x (tcmdAsrc (stepTcmd (s.chans[c].taper.word x)))).isNone
    ∧ (t.chans[c].taper.find tid).map (·.addr)
        = some ((s.chans[c].fetchAddr s.rows x (tcmdAsrc (stepTcmd (s.chans[c].taper.word x)))).getD x.addr) := by
  have hexec : exec (.fetch c tid) s = execFetch c tid s := rfl
  unfold execFetch at hexec
  rw [runStep_of_stands hst] at hexec
  dsimp only at hexec
  have hrows : (s.updCh c (·.countWord x)).rows = s.rows := rfl
  rw [hrows, fetchAddr_countWord] at hexec
  cases ha : s.chans[c].fetchAddr s.rows x (tcmdAsrc (stepTcmd (s.chans[c].taper.word x))) with
  | none =>
    rw [ha] at hexec
    obtain ⟨hmem, honly, ⟨-, hsteps⟩, ⟨wt, rl, hfind⟩, -⟩ := branch_ends hst (before_countWord s c x) (y := { x with empty := true })
      ⟨rfl, rfl, rfl, rfl⟩
    exact ⟨_, hexec, hmem, honly, hsteps, by rw [hfind]; rfl, by rw [hfind]; rfl⟩
  | some a =>
    rw [ha] at hexec
    have hu : Before s (if tcmdAsrc (stepTcmd (s.chans[c].taper.word x)) = 2 then
        (s.updCh c (·.countWord x)).updPc c x.addr.pc (·.scrubTaken s.rows x) else s.updCh c (·.countWord x)) c := by
      split
      · exact (before_countWord s c x).trans (before_scrubTaken ..)
      · exact before_countWord s c x
    obtain ⟨hmem, honly, ⟨-, hsteps⟩, ⟨wt, rl, hfind⟩, -⟩ := branch_ends hst hu (y := { x with addr := a, empty := false })
      ⟨rfl, rfl, rfl, rfl⟩
    exact ⟨_, hexec, hmem, honly, hsteps, by rw [hfind]; rfl, by rw [hfind]; rfl⟩

theorem count_steps (hst : stands s c tid 8 x) : ∃ t, exec (.count c tid) s = .next t ∧ memKept s t ∧ channelOnly s t c
    ∧ goesOn s t c tid (if (s.branchTrue c x (stepBcnd (s.chans[c].taper.word x))).1 then stepTgt (s.chans[c].taper.word x)
        else x.ptr + 1)
    ∧ t.chans[c].cnt.indexed = addCounts s.chans[c].cnt.indexed
        [(((stepTcmd (s.chans[c].taper.word x)).extractLsb' 0 8).toNat, 1)] := by
  have hexec : exec (.count c tid) s = execCount c tid s := rfl
  unfold execCount at hexec
  rw [runStep_of_stands hst] at hexec
  rw [State.updCh_updCh] at hexec
  generalize hn : ((stepTcmd (s.chans[c].taper.word x)).extractLsb' 0 8).toNat = n at hexec ⊢
  have hchan : (s.updCh c (fun h => (h.countWord x).updCnt (fun k => { k with indexed := addCounts k.indexed [(n, 1)] }))).chans[c]
      = (s.chans[c].countWord x).updCnt (fun k => { k with indexed := addCounts k.indexed [(n, 1)] }) := State.updCh_self ..
  have hu : Before s (s.updCh c (fun h => (h.countWord x).updCnt (fun k => { k with indexed := addCounts k.indexed [(n, 1)] }))) c :=
    ⟨⟨channelOnly_updCh .., by rw [hchan]; rfl, by rw [hchan]; rfl, by rw [hchan]; rfl, by rw [hchan]; rfl⟩,
      State.updCh_cells (by simp [Channel.updCnt])⟩
  have hsame : SameBranch s (s.updCh c (fun h => (h.countWord x).updCnt (fun k => { k with indexed := addCounts k.indexed [(n, 1)] }))) c :=
    ⟨by rw [hchan]; rfl, by rw [hchan]; rfl, by rw [hchan]; rfl, by rw [hchan]; rfl, rfl, rfl⟩
  generalize s.updCh c _ = u at hexec hchan hu hsame
  obtain ⟨hmem, honly, hgoes, -, hended⟩ := branch_ends hst hu (.refl x)
  rw [branchTrue_fst hsame] at hgoes
  exact ⟨_, hexec, hmem, honly, hgoes, (hended.indexed rfl).trans (by rw [hchan]; rfl)⟩

/-- The channel that an ALERT sets a cause in, where there is such a cause. -/
def Channel.alerted (h : Channel) (n : Nat) : Channel := if n < 10 then h.setCause n else h

theorem alerted_frame (h : Channel) (n : Nat) : h.alerted n = { h with regs := { h.regs with causes :=
    if n < 10 then h.regs.causes ||| (1#10 <<< n) else h.regs.causes } } := by
  unfold Channel.alerted
  split
  · rfl
  · rfl

theorem alert_steps (hst : stands s c tid 9 x) (hg : s.isGated c = false)
    (hrel : (stepFlg (s.chans[c].taper.word x)).getLsbD 2 = false) :
    ∃ t, exec (.alert c tid) s = .next t ∧ memKept s t ∧ channelOnly s t c
    ∧ goesOn s t c tid (if (s.branchTrue c x (stepBcnd (s.chans[c].taper.word x))).1 then stepTgt (s.chans[c].taper.word x)
        else x.ptr + 1)
    ∧ t.chans[c].regs.causes = (if ((stepTcmd (s.chans[c].taper.word x)).extractLsb' 0 4).toNat < 10
        then s.chans[c].regs.causes ||| (1#10 <<< ((stepTcmd (s.chans[c].taper.word x)).extractLsb' 0 4).toNat)
        else s.chans[c].regs.causes) := by
  have hexec : exec (.alert c tid) s = execAlert c tid s := rfl
  unfold execAlert at hexec
  rw [runStep_of_stands hst] at hexec
  dsimp only at hexec
  generalize hn : ((stepTcmd (s.chans[c].taper.word x)).extractLsb' 0 4).toNat = n at hexec ⊢
  have hset : (if n < 10 then (s.updCh c (·.countWord x)).setCause c n else s.updCh c (·.countWord x))
      = s.updCh c (fun h => (h.countWord x).alerted n) := by
    unfold Channel.alerted
    split
    · rw [State.setCause_eq (by exact hg), State.updCh_updCh]
    · rfl
  rw [hset] at hexec
  have hchan : (s.updCh c (fun h => (h.countWord x).alerted n)).chans[c] = (s.chans[c].countWord x).alerted n := State.updCh_self ..
  rw [alerted_frame] at hchan
  have hcells : (s.updCh c (fun h => (h.countWord x).alerted n)).cells = s.cells :=
    State.updCh_cells (by rw [alerted_frame]; exact Channel.countWord_cells s.chans[c] x)
  have hu : Before s (s.updCh c (fun h => (h.countWord x).alerted n)) c :=
    ⟨⟨channelOnly_updCh .., by rw [hchan]; rfl, by rw [hchan]; rfl, by rw [hchan]; rfl, by rw [hchan]; rfl⟩, hcells⟩
  have hsame : SameBranch s (s.updCh c (fun h => (h.countWord x).alerted n)) c :=
    ⟨by rw [hchan]; rfl, by rw [hchan]; rfl, by rw [hchan]; rfl, by rw [hchan]; rfl, rfl, rfl⟩
  generalize s.updCh c (fun h => (h.countWord x).alerted n) = u at hexec hchan hu hsame
  obtain ⟨hmem, honly, hgoes, -, hended⟩ := branch_ends hst hu (.refl x)
  rw [branchTrue_fst hsame] at hgoes
  exact ⟨_, hexec, hmem, honly, hgoes, (hended.causes hrel).trans (by rw [hchan]; rfl)⟩

theorem report_steps (hst : stands s c tid 10 x) : ∃ t, exec (.report c tid) s = .next t ∧ memKept s t ∧ channelOnly s t c
    ∧ goesOn s t c tid (if (s.branchTrue c x (stepBcnd (s.chans[c].taper.word x))).1 then stepTgt (s.chans[c].taper.word x)
        else x.ptr + 1)
    ∧ t.chans[c].taper.reported = (stepTcmd (s.chans[c].taper.word x)).extractLsb' 0 8
    ∧ (t.chans[c].taper.find tid).map (·.reported) = some true := by
  have hexec : exec (.report c tid) s = execReport c tid s := rfl
  unfold execReport at hexec
  rw [runStep_of_stands hst] at hexec
  rw [State.updCh_updCh] at hexec
  generalize (stepTcmd (s.chans[c].taper.word x)).extractLsb' 0 8 = n at hexec ⊢
  have hchan : (s.updCh c (fun h => (h.countWord x).updTaper (fun k => { k with reported := n }))).chans[c]
      = (s.chans[c].countWord x).updTaper (fun k => { k with reported := n }) := State.updCh_self ..
  have hu : Before s (s.updCh c (fun h => (h.countWord x).updTaper (fun k => { k with reported := n }))) c :=
    ⟨⟨channelOnly_updCh .., by rw [hchan]; rfl, by rw [hchan]; rfl, by rw [hchan]; rfl, by rw [hchan]; rfl⟩,
      State.updCh_cells (by simp [Channel.updTaper])⟩
  have hsame : SameBranch s (s.updCh c (fun h => (h.countWord x).updTaper (fun k => { k with reported := n }))) c :=
    ⟨by rw [hchan]; rfl, by rw [hchan]; rfl, by rw [hchan]; rfl, by rw [hchan]; rfl, rfl, rfl⟩
  generalize s.updCh c _ = u at hexec hchan hu hsame
  obtain ⟨hmem, honly, hgoes, ⟨wt, rl, hfind⟩, hended⟩ := branch_ends hst hu (y := { x with reported := true }) ⟨rfl, rfl, rfl, rfl⟩
  rw [branchTrue_fst hsame] at hgoes
  exact ⟨_, hexec, hmem, honly, hgoes, hended.reported.trans (by rw [hchan]; rfl), by rw [hfind]; rfl⟩

end

/-- Settles O20: each opcode by the step's end. -/
theorem taperFlowAndReportSteps : Obligations.TaperFlowAndReportSteps := by
  refine ⟨?_, ?_⟩
  · rintro c tid x s w rfl
    exact ⟨setcnt_steps, loop_steps, call_steps, ret_steps, stepNop_steps⟩
  · rintro c tid x s w rfl
    exact ⟨fetch_steps, count_steps, alert_steps, report_steps⟩

end Sys2Proof.Machine

/-! # Table banks, transfer images and leases (R16, R17, R129, R164, R169, R170, R177) -/

namespace Sys2Proof.Machine

open Sys2Proof.Safety

section
variable {s : State} {c : Ch}

/-! ## Swaps and drains (R169, R170) -/

/-- The machine whose swap has been reported. -/
def State.swapped (s : State) (c : Ch) : State :=
  let s1 := (s.updCh c (·.updTaper (·.swap))).event 13 0 (byteOf c.val)
  if s.chans[c].taper.shadow.signed then s1
  else s1.ledger 0x14 ([byteOf c.val] ++ natBytes 2 s.chans[c].taper.shadow.tver.toNat)

theorem swapped_cells : (s.swapped c).cells = s.cells := by simp [State.swapped, Channel.updTaper]

theorem swapped_taper : (s.swapped c).chans[c].taper = s.chans[c].taper.swap := by
  have h0 : ((s.updCh c (·.updTaper (·.swap))).event 13 0 (byteOf c.val)).chans[c].taper = s.chans[c].taper.swap := by
    change (s.updCh c (·.updTaper (·.swap))).chans[c].taper = _
    rw [State.updCh_self]
    rfl
  unfold State.swapped
  dsimp only
  split
  · exact h0
  · obtain ⟨causes, hledger⟩ := (noted_ledger ((s.updCh c (·.updTaper (·.swap))).event 13 0 (byteOf c.val)) 0x14
      ([byteOf c.val] ++ natBytes 2 s.chans[c].taper.shadow.tver.toNat)).chan c
    rw [hledger]
    exact h0

theorem tableSwap_swaps (harm : s.chans[c].taper.armed = true) (hver : s.chans[c].taper.shadow.verified = true)
    (hcomp : s.chans[c].taper.shadow.complete = true) (hb : s.chans[c].swapBoundary = true) (hw : s.wick.state ≠ .linkhold)
    (hstop : s.chans[c].taper.stopped = false) :
    ∃ t, exec (.tableSwap c) s = .next t ∧ memKept s t ∧ t.chans[c].taper.active = s.chans[c].taper.shadow
      ∧ t.chans[c].taper.armed = false
      ∧ (t.chans[c].taper.draining = true ↔ s.chans[c].taper.threads ≠ []) := by
  have hexec : exec (.tableSwap c) s = .next (s.swapped c) :=
    if_pos (by rw [harm, hver, hcomp, hb, hstop, bne_iff_ne.mpr hw]; rfl)
  refine ⟨_, hexec, memKept_of_cells swapped_cells, ?_, ?_, ?_⟩
  · rw [swapped_taper]
    rfl
  · rw [swapped_taper]
    rfl
  · rw [swapped_taper]
    unfold Taper.swap
    dsimp only
    cases s.chans[c].taper.threads with
    | nil => simp
    | cons x l => simp

theorem oldBankDrain_drains (hd : s.chans[c].taper.draining = true)
    (hall : (s.chans[c].taper.threads.all (fun x => !x.oldBank)) = true) :
    ∃ t, exec (.oldBankDrain c) s = .next t ∧ onlyChannel s t c ∧ memKept s t
      ∧ t.chans[c].taper.draining = false ∧ t.chans[c].taper.shadow.verified = false
      ∧ t.chans[c].taper.active = s.chans[c].taper.active := by
  have hexec : exec (.oldBankDrain c) s = .next (s.updCh c (·.updTaper (fun t =>
      { t with draining := false, shadow := { t.shadow with verified := false } }))) := if_pos (by rw [hd, hall]; rfl)
  refine ⟨_, hexec, onlyChannel_updCh .., memKept_of_cells (State.updCh_cells (Channel.updTaper_cells ..)), ?_, ?_, ?_⟩
  · rw [State.updCh_self]
    rfl
  · rw [State.updCh_self]
    rfl
  · rw [State.updCh_self]
    rfl

/-! ## The scan of the active bank (R177) -/

theorem scanned_single {h : Channel} {corrected : List (Fin 1088)} (bad : Option (Fin 1088)) (hne : corrected ≠ []) :
    (h.scanned corrected bad).taper.active.single.isEmpty = false := by
  obtain ⟨a, rest, rfl⟩ := List.exists_cons_of_ne_nil hne
  refine List.isEmpty_eq_false_iff_exists_mem.mpr ⟨a.val, List.mem_append.mpr ?_⟩
  by_cases ha : a.val ∈ h.taper.active.single
  · exact .inl ha
  · exact .inr (List.mem_filter.mpr ⟨List.mem_map.mpr ⟨a, List.mem_cons_self, rfl⟩, by simpa using ha⟩)

/-- A table is staged again, with the cause of an uncorrectable word. -/
def State.restaged (s : State) (c : Ch) (corrected : List (Fin 1088)) (bad : Option (Fin 1088)) : State :=
  let s2 := (s.updCh c (·.scanned corrected bad)).updCh c (·.updTaper (·.restage))
  if (s.chans[c].scanned corrected bad).taper.active.bad.isEmpty then s2 else s2.setCause c causeHealth

theorem restaged_frame (corrected : List (Fin 1088)) (bad : Option (Fin 1088)) :
    (s.restaged c corrected bad).cells = s.cells
    ∧ (s.restaged c corrected bad).chans[c].taper = (s.chans[c].scanned corrected bad).taper.restage
    ∧ (s.restaged c corrected bad).chans[c].cnt = (s.chans[c].scanned corrected bad).cnt := by
  have hcells : ((s.updCh c (·.scanned corrected bad)).updCh c (·.updTaper (·.restage))).cells = s.cells :=
    (State.updCh_cells (Channel.updTaper_cells ..)).trans (State.updCh_cells (Channel.scanned_cells ..))
  have hchan : ((s.updCh c (·.scanned corrected bad)).updCh c (·.updTaper (·.restage))).chans[c]
      = (s.chans[c].scanned corrected bad).updTaper (·.restage) := by rw [State.updCh_self, State.updCh_self]
  unfold State.restaged
  dsimp only
  split
  · exact ⟨hcells, by rw [hchan]; rfl, by rw [hchan]; rfl⟩
  · obtain ⟨causes, hset⟩ := (noted_setCause ((s.updCh c (·.scanned corrected bad)).updCh c (·.updTaper (·.restage))) c causeHealth).chan c
    exact ⟨(State.setCause_cells ..).trans hcells, by rw [hset, hchan]; rfl, by rw [hset, hchan]; rfl⟩

theorem exec_tableScan {corrected : List (Fin 1088)} {bad : Option (Fin 1088)} (hboot : s.power.booted = true) (hne : corrected ≠ [])
    (harm : s.chans[c].taper.armed = false) : exec (.tableScan c corrected bad) s
      = .next (if s.chans[c].taper.draining then (s.updCh c (·.scanned corrected bad)).updCh c (·.discardWrite)
        else s.restaged c corrected bad) := by
  have hscan : ((s.updCh c (·.scanned corrected bad)).chans[c]) = s.chans[c].scanned corrected bad := State.updCh_self ..
  have hgo : ¬ (((s.chans[c].scanned corrected bad).taper.active.single.isEmpty
      && (s.chans[c].scanned corrected bad).taper.active.bad.isEmpty) || (s.chans[c].scanned corrected bad).taper.armed) = true := by
    rw [scanned_single bad hne, Bool.false_and, Bool.false_or]
    change ¬ s.chans[c].taper.armed = true
    rw [harm]
    exact Bool.false_ne_true
  change execTableScan c corrected bad s = _
  unfold execTableScan
  dsimp only
  rw [if_neg (by rw [hboot]; decide), hscan, if_neg hgo]
  change (if s.chans[c].taper.draining then _ else _) = _
  split
  · rfl
  · rfl

theorem tableScan_restages {corrected : List (Fin 1088)} {bad : Option (Fin 1088)} (hboot : s.power.booted = true)
    (hne : corrected ≠ []) (harm : s.chans[c].taper.armed = false) :
    ∃ t, exec (.tableScan c corrected bad) s = .next t ∧ memKept s t
      ∧ t.chans[c].cnt.tableCe = bump s.chans[c].cnt.tableCe corrected.length
      ∧ (s.chans[c].taper.draining = false → t.chans[c].taper.armed = true
          ∧ t.chans[c].taper.shadow.verified = true ∧ t.chans[c].taper.shadow.bad = [])
      ∧ (s.chans[c].taper.draining = true → t.chans[c].taper.shadow = s.chans[c].taper.shadow
          ∧ t.chans[c].cnt.bankWrites = bump s.chans[c].cnt.bankWrites) := by
  have hexec := exec_tableScan (bad := bad) hboot hne harm
  cases hd : s.chans[c].taper.draining with
  | true =>
    rw [hd, if_pos rfl] at hexec
    have hchan : ((s.updCh c (·.scanned corrected bad)).updCh c (·.discardWrite)).chans[c]
        = (s.chans[c].scanned corrected bad).discardWrite := by rw [State.updCh_self, State.updCh_self]
    refine ⟨_, hexec, memKept_of_cells ((State.updCh_cells (Channel.discardWrite_cells _)).trans
      (State.updCh_cells (Channel.scanned_cells ..))), by rw [hchan]; rfl, fun e => absurd e (by decide), fun _ => ⟨?_, ?_⟩⟩
    · rw [hchan]
      rfl
    · rw [hchan]
      rfl
  | false =>
    rw [hd, if_neg Bool.false_ne_true] at hexec
    obtain ⟨hcells, htaper, hcnt⟩ := restaged_frame (s := s) (c := c) corrected bad
    refine ⟨_, hexec, memKept_of_cells hcells, by rw [hcnt]; rfl, fun _ => ?_, fun e => absurd e (by decide)⟩
    rw [htaper]
    exact ⟨rfl, rfl, rfl⟩

/-! ## Transfer images (R17) -/

theorem Taper.takeOldest_images {t : Taper} {n : Nat} {x : Transfer} {rest : List (Nat × Transfer)} (hi : t.images = (n, x) :: rest) :
    t.takeOldest.imageTaken = n ∧ (t.held = [] → t.takeOldest.images = rest)
      ∧ ∀ y more, t.held = y :: more → rest.length < 16 →
          t.takeOldest.images = rest ++ [(t.imageSeq + 1, y)] ∧ t.takeOldest.held = more := by
  cases hh : t.held with
  | nil =>
    rw [Taper.takeOldest_cons hi hh]
    exact ⟨rfl, fun _ => rfl, fun y more e => absurd e.symm (List.cons_ne_nil y more)⟩
  | cons z l =>
    have htake : t.takeOldest = ({ t with images := rest, imageTaken := n, held := l } : Taper).placeImage z := by
      unfold takeOldest
      rw [hi]
      dsimp only
      rw [hh]
      rfl
    rw [htake]
    refine ⟨?_, fun e => absurd e (List.cons_ne_nil z l), fun y more e hlen => ?_⟩
    · unfold placeImage
      split
      · rfl
      · rfl
    · obtain ⟨rfl, rfl⟩ := List.cons.inj e
      rw [Taper.placeImage_eq hlen]
      exact ⟨rfl, rfl⟩

theorem transferImageTake_takes {n : Nat} {p : Pc} {x : Option Inject} {rest : List (Nat × Transfer)}
    (hi : s.chans[c].taper.images = (n, .inject p x) :: rest) :
    ∃ t, exec (.transferImageTake c) s = .next t ∧ onlyChannel s t c ∧ memKept s t
      ∧ (s.chans[c].taper.held = [] → t.chans[c].taper.images = rest)
      ∧ (∀ y more, s.chans[c].taper.held = y :: more → rest.length < 16 →
          t.chans[c].taper.images = rest ++ [(s.chans[c].taper.imageSeq + 1, y)] ∧ t.chans[c].taper.held = more)
      ∧ t.chans[c].taper.imageTaken = n ∧ t.chans[c].pcs[p].inject = x := by
  have hexec : exec (.transferImageTake c) s
      = .next (s.updCh c (fun h => (h.updTaper (·.takeOldest)).updPc p (fun q => { q with inject := x }))) := by
    change execTransferImageTake c s = _
    unfold execTransferImageTake
    rw [hi]
    have htake (u : State) : u.takeImage c (.inject p x) = u.updPc c p (fun q => { q with inject := x }) := rfl
    exact congrArg Host.Outcome.next ((htake _).trans (State.updCh_updCh ..))
  have hchan : (s.updCh c (fun h => (h.updTaper (·.takeOldest)).updPc p (fun q => { q with inject := x }))).chans[c]
      = (s.chans[c].updTaper (·.takeOldest)).updPc p (fun q => { q with inject := x }) := State.updCh_self ..
  obtain ⟨htaken, hnil, hcons⟩ := Taper.takeOldest_images hi
  refine ⟨_, hexec, onlyChannel_updCh .., memKept_of_cells (State.updCh_cells ((Channel.updPc_cells (by exact rfl)).trans
    (Channel.updTaper_cells ..))), ?_, ?_, ?_, ?_⟩
  · rw [hchan]
    exact hnil
  · rw [hchan]
    exact hcons
  · rw [hchan]
    exact htaken
  · rw [hchan, Channel.updPc_self]

/-! ## The end of a lease (R129, R164) -/

/-- The Taper of a thread whose lease has ended. -/
def Taper.leaseEnded (t : Taper) (x : Thread) : Taper :=
  if (t.bankOf x).baltil then t.drop x.tid else t.put { x with lease := none, owed := [] }

theorem Taper.find_leaseEnded {t : Taper} {tid : Nat} {x y : Thread} (hx : t.find tid = some x)
    (h : (t.leaseEnded x).find tid = some y) : y.lease = none := by
  have htid := Taper.find_tid hx
  unfold leaseEnded at h
  split at h
  · have hmem : y ∈ t.threads.filter (fun z => z.tid != x.tid) := List.mem_of_find?_eq_some h
    have hne := (List.mem_filter.mp hmem).2
    rw [Taper.find_tid h, htid] at hne
    exact absurd hne (by simp)
  · rw [Taper.find_put hx (y := { x with lease := none, owed := [] }) htid] at h
    cases h
    rfl

theorem leaseEnd_ends {tid : Nat} {x : Thread} {l : Lease} (hx : s.chans[c].taper.find tid = some x) (hl : x.lease = some l)
    (hend : l.setEnd = true) :
    ∃ t, exec (.leaseEnd c tid) s = .next t ∧ memKept s t
      ∧ t.chans[c].pcs[x.addr.pc] = s.chans[c].pcs[x.addr.pc].carry x.owed
      ∧ ∀ y, t.chans[c].taper.find tid = some y → y.lease = none := by
  have htid := Taper.find_tid hx
  have hexec : exec (.leaseEnd c tid) s
      = .next ((s.updCh c (fun h => (h.carryOwed x).updTaper (·.leaseEnded x))).raiseUrgent s c) := by
    change execLeaseEnd c tid s = _
    unfold execLeaseEnd
    rw [hx]
    dsimp only
    rw [hl]
    dsimp only
    rw [if_neg (by rw [hend]; decide)]
    unfold Taper.leaseEnded
    rw [htid]
  have hchan : (s.updCh c (fun h => (h.carryOwed x).updTaper (·.leaseEnded x))).chans[c]
      = (s.chans[c].carryOwed x).updTaper (·.leaseEnded x) := State.updCh_self ..
  have hcells : (s.updCh c (fun h => (h.carryOwed x).updTaper (·.leaseEnded x))).cells = s.cells :=
    State.updCh_cells ((Channel.updTaper_cells ..).trans (Channel.carryOwed_cells ..))
  generalize s.updCh c _ = u at hexec hchan hcells
  obtain ⟨causes, hraise⟩ := raiseUrgent_chan u s c
  refine ⟨_, hexec, memKept_of_cells ((State.raiseUrgent_cells ..).trans hcells), ?_, fun y hy => ?_⟩
  · rw [hraise, hchan]
    change (s.chans[c].carryOwed x).pcs[x.addr.pc] = _
    unfold Channel.carryOwed
    rw [Channel.updPc_self]
  · rw [hraise, hchan] at hy
    exact Taper.find_leaseEnded hx hy

end

/-- Settles O22: each action by the Taper it leaves. -/
theorem taperTablesAndImages : Obligations.TaperTablesAndImages := by
  intro c s
  exact ⟨tableSwap_swaps, oldBankDrain_drains, fun corrected bad => tableScan_restages, fun n p x rest => transferImageTake_takes,
    fun tid x l => leaseEnd_ends⟩

end Sys2Proof.Machine

/-! # ISSUE and ISSUEIF (Table 6-2, R10, R121, R135, R156, R162, R166) -/

namespace Sys2Proof.Machine

open Sys2Proof.Safety

/-! ## What an action of a step leaves -/

/-- A channel that has acted for a thread: its Taper, its count of steps and what its pseudo-channels have posted are as before. -/
structure Acts (h k : Channel) : Prop where
  taper : k.taper = h.taper
  steps : k.cnt.steps = h.cnt.steps
  calendar : ∀ p : Pc, k.pcs[p].calendar = h.pcs[p].calendar

theorem Acts.refl (h : Channel) : Acts h h := ⟨rfl, rfl, fun _ => rfl⟩

theorem Acts.trans {h k m : Channel} (e : Acts h k) (e' : Acts k m) : Acts h m :=
  ⟨e'.taper.trans e.taper, e'.steps.trans e.steps, fun p => (e'.calendar p).trans (e.calendar p)⟩

theorem acts_updPc (h : Channel) (p : Pc) {f : PseudoChannel → PseudoChannel} (hf : (f h.pcs[p]).calendar = h.pcs[p].calendar) :
    Acts h (h.updPc p f) := by
  refine ⟨rfl, rfl, fun q => ?_⟩
  rw [Channel.updPc_at]
  split
  · next e =>
    subst e
    exact hf
  · rfl

theorem acts_postPre (h : Channel) (a : ThreadAddr) : Acts h (h.postPre a) := acts_updPc h a.pc rfl

theorem acts_postRequest (h : Channel) (p : Pc) (i : Fin 64) : Acts h (h.postRequest p i) := by
  unfold Channel.postRequest
  dsimp only
  split
  · exact Acts.trans (k := h.updPc p (fun q => q.updBank i (fun _ => (h.pcs[p].banks[i].postRfm h.th h.stamp).1))) (acts_updPc h p rfl)
      ⟨rfl, rfl, fun _ => rfl⟩
  · exact acts_updPc h p rfl

theorem cancelRow_calendar (q : PseudoChannel) (rows : Nat) (i : Fin 64) (row : Nat) (host : Bool) :
    (q.cancelRow rows i row host).calendar = q.calendar := by
  unfold PseudoChannel.cancelRow PseudoChannel.cancelWhere
  split
  · rfl
  · dsimp only
    split
    · rfl
    · rfl

theorem trackUnless_calendar (q : PseudoChannel) (rows : Nat) (i : Fin 64) (row : Nat) (b : Bool) :
    (if b then q else q.trackRefreshed rows i row).calendar = q.calendar := by
  cases b <;> rfl

theorem SameStep.trans {x y z : Thread} (h : SameStep x y) (h' : SameStep y z) : SameStep x z :=
  ⟨h'.tid.trans h.tid, h'.ptr.trans h.ptr, h'.oldBank.trans h.oldBank, h'.lease.trans h.lease⟩

theorem acts_rowDone (h : Channel) (rows : Nat) (x : Thread) (p : Pc) (i : Fin 64) (row : Nat) :
    Acts h (h.rowDone rows x p i row).1 ∧ SameStep x (h.rowDone rows x p i row).2 := by
  refine ⟨?_, ⟨rfl, rfl, rfl, rfl⟩⟩
  unfold Channel.rowDone
  dsimp only
  refine Acts.trans (acts_updPc h p ?_) (acts_postRequest _ p i)
  exact (cancelRow_calendar ..).trans (trackUnless_calendar ..)

theorem acts_srefExit (h : Channel) (rows : Nat) (mask : BitVec 4) : Acts h (h.srefExit rows mask) := by
  refine ⟨rfl, rfl, fun p => ?_⟩
  obtain ⟨d, sp, due, e, -⟩ := h.srefExit_pcs rows mask p p.isLt
  have hcal := congrArg PseudoChannel.calendar e
  exact hcal

/-- Soft repairs that wait write cells; where none waits, the memory stands. -/
theorem srefExit_cells_of_none {h : Channel} (rows : Nat) (mask : BitVec 4) (hnone : ∀ p : Pc, h.pcs[p].sparesDue = []) :
    (h.srefExit rows mask).cells = h.cells := by
  refine Vector.ext fun p hp => ?_
  unfold Channel.cells
  obtain ⟨d, sp, due, e, hd⟩ := h.srefExit_pcs rows mask p hp
  rw [Vector.getElem_map, Vector.getElem_map, e, hd (hnone ⟨p, hp⟩)]
  rfl

/-- A row refreshed in each of some banks. -/
theorem acts_rowsDone (h : Channel) (rows : Nat) (x : Thread) (p : Pc) (banks : List (Fin 64)) (row : Nat) :
    Acts h (banks.foldl (fun (acc : Channel × Thread) i => acc.1.rowDone rows acc.2 p i row) (h, x)).1
    ∧ SameStep x (banks.foldl (fun (acc : Channel × Thread) i => acc.1.rowDone rows acc.2 p i row) (h, x)).2
    ∧ (banks.foldl (fun (acc : Channel × Thread) i => acc.1.rowDone rows acc.2 p i row) (h, x)).1.cells = h.cells :=
  List.foldlRecOn (motive := fun acc : Channel × Thread => Acts h acc.1 ∧ SameStep x acc.2 ∧ acc.1.cells = h.cells) banks _
    ⟨.refl h, .refl x, rfl⟩ fun acc hacc i _ =>
    have hrow := acts_rowDone acc.1 rows acc.2 p i row
    ⟨hacc.1.trans hrow.1, hacc.2.1.trans hrow.2, (Channel.rowDone_cells ..).trans hacc.2.2⟩

/-- The effect of a TSV command (Table 6-3): of the cells only the end of self-refresh can change any. -/
theorem acts_tsvEffect (h : Channel) (rows sids : Nat) (x : Thread) (top : Nat) (all : Bool) (a : ThreadAddr) :
    Acts h (h.tsvEffect rows sids x top all a).1 ∧ SameStep x (h.tsvEffect rows sids x top all a).2
    ∧ (top ≠ 10 ∨ (∀ p : Pc, h.pcs[p].sparesDue = []) → (h.tsvEffect rows sids x top all a).1.cells = h.cells) := by
  have hpost : Acts h (if all then h.postPre a else h) ∧ (if all then h.postPre a else h).cells = h.cells := by
    split
    · exact ⟨acts_postPre h a, Channel.postPre_cells h a⟩
    · exact ⟨.refl h, rfl⟩
  have hrows (banks : List (Fin 64)) (b : Bool) (k : Channel × Thread)
      (hk : k = if b then banks.foldl (fun (acc : Channel × Thread) i => acc.1.rowDone rows acc.2 a.pc i a.row.toNat) (h, x) else (h, x)) :
      Acts h k.1 ∧ SameStep x k.2 ∧ (top ≠ 10 ∨ (∀ p : Pc, h.pcs[p].sparesDue = []) → k.1.cells = h.cells) := by
    subst hk
    split
    · obtain ⟨hacts, hsame, hcells⟩ := acts_rowsDone h rows x a.pc banks a.row.toNat
      exact ⟨hacts, hsame, fun _ => hcells⟩
    · exact ⟨.refl h, .refl x, fun _ => rfl⟩
  unfold Channel.tsvEffect
  dsimp only
  split
  · exact ⟨hpost.1, .refl x, fun _ => hpost.2⟩
  · exact ⟨hpost.1, .refl x, fun _ => hpost.2⟩
  · exact ⟨acts_postPre h a, .refl x, fun _ => Channel.postPre_cells h a⟩
  · exact ⟨.refl h, ⟨rfl, rfl, rfl, rfl⟩, fun _ => rfl⟩
  · exact ⟨.refl h, ⟨rfl, rfl, rfl, rfl⟩, fun _ => rfl⟩
  · refine ⟨.refl h, ?_, fun _ => rfl⟩
    dsimp only
    split
    · exact .refl x
    · exact ⟨rfl, rfl, rfl, rfl⟩
  · exact hrows _ _ _ rfl
  · exact hrows _ _ _ rfl
  · exact ⟨⟨rfl, rfl, fun _ => rfl⟩, .refl x, fun _ => rfl⟩
  · exact ⟨acts_srefExit .., .refl x, fun hc => srefExit_cells_of_none rows _ (hc.resolve_left (absurd rfl))⟩
  · exact ⟨.refl h, .refl x, fun _ => rfl⟩

/-! ## What an admitted step sends and posts -/

/-- The channel and the thread after the effect of a step's TSV command, where it is sent. -/
def Channel.commanded (h : Channel) (rows sids : Nat) (x : Thread) (t : BitVec 16) (a : ThreadAddr) : Channel × Thread :=
  if h.carries (tcmdTop t) then h.tsvEffect rows sids x (tcmdTop t) (tcmdX t) a else (h, x)

/-- The channel after a step's TSV command. -/
def Channel.framed (h : Channel) (rows sids : Nat) (x : Thread) (t : BitVec 16) (a : ThreadAddr) : Channel :=
  if h.carries (tcmdTop t) then (match tsvFrame (tcmdTop t) (tcmdX t) (tcmdSlot t) sids a with
    | some f => (h.commanded rows sids x t a).1.deliver rows f
    | none => (h.commanded rows sids x t a).1) else (h.commanded rows sids x t a).1

/-- The data path's actions on some pseudo-channels. -/
def Channel.dataActions (h : Channel) (ps : List Pc) (dop top : Nat) (x : Thread) (a : ThreadAddr) : Channel :=
  ps.foldl (fun (k : Channel) p => k.updPc p (·.dataAction dop top x a)) h

/-- The channel after an admitted ISSUE. -/
def Channel.issued (h : Channel) (rows sids : Nat) (x : Thread) (w : BitVec 64) : Channel :=
  (h.framed rows sids x (stepTcmd w) (h.stepAddr rows x (tcmdAsrc (stepTcmd w)))).dataActions
    (dpcTargets (dpcPcsel (stepDpc w)) (h.stepAddr rows x (tcmdAsrc (stepTcmd w))).pc) (dpcDop (stepDpc w)) (tcmdTop (stepTcmd w)) x
    (h.stepAddr rows x (tcmdAsrc (stepTcmd w)))

theorem issueAction_eq (s : State) (c : Ch) (x : Thread) (w : BitVec 64) : ∃ n chained late, s.issueAction c x w
    = (({ s with fresh := n } : State).updCh c (fun _ => s.chans[c].issued s.rows s.sids x w),
        { (s.chans[c].commanded s.rows s.sids x (stepTcmd w) (s.chans[c].stepAddr s.rows x (tcmdAsrc (stepTcmd w)))).2 with
          chained := chained, late := late }) := by
  unfold State.issueAction
  dsimp only
  split
  · exact ⟨s.fresh, _, _, rfl⟩
  · exact ⟨s.fresh + 1, _, _, rfl⟩

section
variable (h : Channel) (rows sids : Nat) (x : Thread)

theorem acts_commanded (t : BitVec 16) (a : ThreadAddr) : Acts h (h.commanded rows sids x t a).1
    ∧ SameStep x (h.commanded rows sids x t a).2
    ∧ (tcmdTop t ≠ 10 ∨ (∀ p : Pc, h.pcs[p].sparesDue = []) → (h.commanded rows sids x t a).1.cells = h.cells) := by
  unfold Channel.commanded
  split
  · exact acts_tsvEffect ..
  · exact ⟨.refl h, .refl x, fun _ => rfl⟩

/-- A command leaves as its frame, where the port carries it. -/
theorem acts_framed (t : BitVec 16) (a : ThreadAddr) : Acts h (h.framed rows sids x t a)
    ∧ (tcmdTop t ≠ 10 ∨ (∀ p : Pc, h.pcs[p].sparesDue = []) → (h.framed rows sids x t a).cells = h.cells)
    ∧ (h.carries (tcmdTop t) = true → ∀ f, tsvFrame (tcmdTop t) (tcmdX t) (tcmdSlot t) sids a = some f →
        (h.framed rows sids x t a).tsv.frame = f)
    ∧ (h.carries (tcmdTop t) = false → (h.framed rows sids x t a).tsv = h.tsv) := by
  obtain ⟨hacts, -, hcells⟩ := acts_commanded h rows sids x t a
  unfold Channel.framed
  split
  · next hsent =>
    split
    · next f hf =>
      refine ⟨hacts.trans ⟨rfl, rfl, fun _ => rfl⟩, fun hc => (Channel.deliver_cells ..).trans (hcells hc), fun _ g hg => ?_, fun hn => ?_⟩
      · rw [hf] at hg
        cases hg
        rfl
      · rw [hsent] at hn
        cases hn
    · next hf =>
      refine ⟨hacts, hcells, fun _ g hg => ?_, fun hn => ?_⟩
      · rw [hf] at hg
        cases hg
      · rw [hsent] at hn
        cases hn
  · next hsent =>
    refine ⟨hacts, hcells, fun hy => absurd hy hsent, fun _ => ?_⟩
    unfold Channel.commanded
    rw [if_neg hsent]

/-- What the data path's actions leave. -/
theorem dataActions_frame (ps : List Pc) (dop top : Nat) (a : ThreadAddr) :
    (h.dataActions ps dop top x a).taper = h.taper ∧ (h.dataActions ps dop top x a).cnt = h.cnt
    ∧ (h.dataActions ps dop top x a).tsv = h.tsv ∧ (h.dataActions ps dop top x a).cells = h.cells :=
  List.foldlRecOn (motive := fun k : Channel => k.taper = h.taper ∧ k.cnt = h.cnt ∧ k.tsv = h.tsv ∧ k.cells = h.cells) ps _
    ⟨rfl, rfl, rfl, rfl⟩ fun _ ⟨htaper, hcnt, htsv, hcells⟩ _ _ =>
    ⟨htaper, hcnt, htsv, (Channel.updPc_cells (PseudoChannel.dataAction_cells ..)).trans hcells⟩

/-- The action of a chain is posted in the pseudo-channel of the step's address. -/
theorem dataActions_posts (dop top : Nat) (a : ThreadAddr) (act : Posted) (hact : chainOf dop x a = some act) (h5 : dop ≠ 5)
    (h6 : dop ≠ 6) : (h.dataActions [a.pc] dop top x a).pcs[a.pc].calendar = h.pcs[a.pc].calendar ++ [act] := by
  unfold Channel.dataActions
  rw [List.foldl_cons, List.foldl_nil, Channel.updPc_at, if_pos rfl]
  unfold PseudoChannel.dataAction
  rw [if_neg h5, if_neg h6, hact]
  rfl

/-- What an admitted ISSUE does in its channel. -/
structure Issues (k : Channel) (t : BitVec 16) (dop sel : Nat) (a : ThreadAddr) : Prop where
  taper : k.taper = h.taper
  steps : k.cnt.steps = h.cnt.steps
  cells : tcmdTop t ≠ 10 ∨ (∀ p : Pc, h.pcs[p].sparesDue = []) → k.cells = h.cells
  sent : h.carries (tcmdTop t) = true → ∀ f, tsvFrame (tcmdTop t) (tcmdX t) (tcmdSlot t) sids a = some f → k.tsv.frame = f
  silent : h.carries (tcmdTop t) = false → k.tsv = h.tsv
  posts : sel = 0 → ∀ act, chainOf dop x a = some act → dop ≠ 5 → dop ≠ 6 →
    k.pcs[a.pc].calendar = h.pcs[a.pc].calendar ++ [act]

theorem issues_issued (w : BitVec 64) : Issues h sids x (h.issued rows sids x w) (stepTcmd w) (dpcDop (stepDpc w))
    (dpcPcsel (stepDpc w)) (h.stepAddr rows x (tcmdAsrc (stepTcmd w))) := by
  unfold Channel.issued
  generalize h.stepAddr rows x (tcmdAsrc (stepTcmd w)) = a
  obtain ⟨hacts, hcells, hsent, hsilent⟩ := acts_framed h rows sids x (stepTcmd w) a
  generalize h.framed rows sids x (stepTcmd w) a = k at hacts hcells hsent hsilent
  obtain ⟨htaper, hcnt, htsv, hkept⟩ := dataActions_frame k x (dpcTargets (dpcPcsel (stepDpc w)) a.pc) (dpcDop (stepDpc w))
    (tcmdTop (stepTcmd w)) a
  refine ⟨htaper.trans hacts.taper, ?_, fun hc => hkept.trans (hcells hc), fun hs f hf => ?_, fun hs => htsv.trans (hsilent hs),
    fun hsel act hact h5 h6 => ?_⟩
  · rw [hcnt]
    exact hacts.steps
  · rw [htsv]
    exact hsent hs f hf
  · rw [hsel]
    exact (dataActions_posts k x _ _ a act hact h5 h6).trans (congrArg (· ++ [act]) (hacts.calendar a.pc))

end

/-! ## A step with its lease -/

section
variable {s u : State} {c : Ch} {tid opc : Nat} {x : Thread}

/-- What the machine of a step that begins shares with the machine before it. -/
structure Begun (s u : State) (c : Ch) (x : Thread) : Prop extends Before s u c where
  chan : u.chans[c] = s.chans[c].countWord x
  layers : u.layers = s.layers
  dens : u.dens = s.dens

theorem begun_countWord (s : State) (c : Ch) (x : Thread) : Begun s (s.updCh c (·.countWord x)) c x :=
  ⟨before_countWord s c x, State.updCh_self .., rfl, rfl⟩

theorem Begun.branchTrue (hu : Begun s u c x) (n : Nat) : Begun s (u.branchTrue c x n).2 c x := by
  obtain ⟨f, hf⟩ := branchTrue_snd u c x n
  have hbefore := hu.toBefore.trans (before_branchTrue u c x n)
  rw [hf] at hbefore ⊢
  exact ⟨hbefore, hu.chan, hu.layers, hu.dens⟩

theorem Begun.rows (hu : Begun s u c x) : u.rows = s.rows := by
  unfold State.rows
  rw [hu.dens]

theorem Begun.sids (hu : Begun s u c x) : u.sids = s.sids := by
  unfold State.sids
  rw [hu.layers]

theorem Begun.forbidden (hu : Begun s u c x) (w : BitVec 64) : u.issueForbidden c x w = s.issueForbidden c x w := by
  unfold State.issueForbidden
  dsimp only
  rw [hu.chan, hu.rows]
  rfl

theorem Begun.waits (hu : Begun s u c x) (w : BitVec 64) : u.issueWaits c x w = s.issueWaits c x w := by
  unfold State.issueWaits
  rw [hu.chan, hu.rows]
  rfl

/-- A step that its lease does not cover (R166). -/
theorem refuseStep_spec (hst : stands s c tid opc x) (hu : Begun s u c x) : memKept s (u.refuseStep c x)
    ∧ goesOn s (u.refuseStep c x) c tid (x.ptr + 1)
    ∧ (u.refuseStep c x).chans[c].tsv = s.chans[c].tsv ∧ (u.refuseStep c x).chans[c].pcs = s.chans[c].pcs
    ∧ (u.refuseStep c x).chans[c].cnt.leaseRefused = bump s.chans[c].cnt.leaseRefused := by
  refine ⟨memKept_of_cells ((State.refuseStep_cells ..).trans hu.cells), ?_⟩
  unfold goesOn State.refuseStep
  rw [State.updCh_self, hu.chan]
  refine ⟨⟨?_, rfl⟩, rfl, rfl, rfl⟩
  have htid := Taper.find_tid hst.1
  have hfind := Taper.find_put (y := { x with ptr := x.ptr + 1, wait := 0 })
    (t := { (s.chans[c].countWord x).taper with cycles := (s.chans[c].countWord x).taper.cycles + 1 }) hst.1 htid
  exact congrArg (Option.map (·.ptr)) hfind

/-- The action of an admitted step: then its thread stands where it stood, and its channel has sent and posted. -/
theorem issueAction_spec (hu : Begun s u c x) (w : BitVec 64) : ∃ v y, u.issueAction c x w = (v, y) ∧ Ahead s v c ∧ SameStep x y
    ∧ (tcmdTop (stepTcmd w) ≠ 10 ∨ noRepairDue s c → v.cells = s.cells)
    ∧ Issues s.chans[c] s.sids x v.chans[c] (stepTcmd w) (dpcDop (stepDpc w)) (dpcPcsel (stepDpc w))
        (s.chans[c].stepAddr s.rows x (tcmdAsrc (stepTcmd w))) := by
  obtain ⟨n, chained, late, heq⟩ := issueAction_eq u c x w
  have hissues := issues_issued u.chans[c] u.rows u.sids x w
  have hsame := (acts_commanded u.chans[c] u.rows u.sids x (stepTcmd w) (u.chans[c].stepAddr u.rows x (tcmdAsrc (stepTcmd w)))).2.1
  rw [hu.chan, hu.rows, hu.sids] at hissues hsame heq
  have hbefore := hu.toBefore.trans (before_fresh u c n)
  have hself : (({ u with fresh := n } : State).updCh c (fun _ => (s.chans[c].countWord x).issued s.rows s.sids x w)).chans[c]
      = (s.chans[c].countWord x).issued s.rows s.sids x w := State.updCh_self ..
  have honly := channelOnly_updCh { u with fresh := n } c (fun _ => (s.chans[c].countWord x).issued s.rows s.sids x w)
  have hcells (hc : tcmdTop (stepTcmd w) ≠ 10 ∨ noRepairDue s c) :
      (({ u with fresh := n } : State).updCh c (fun _ => (s.chans[c].countWord x).issued s.rows s.sids x w)).cells = s.cells :=
    (State.updCh_cells ((hissues.cells hc).trans (congrArg Channel.cells hu.chan).symm)).trans hbefore.cells
  refine ⟨_, _, heq, ?_, ⟨hsame.tid, hsame.ptr, hsame.oldBank, hsame.lease⟩, hcells, ?_⟩
  · refine ⟨channelOnly_trans hbefore.only honly, ?_, ?_, ?_, ?_⟩ <;> rw [hself]
    · rw [hissues.taper]
      rfl
    · rw [hissues.taper]
      rfl
    · rw [hissues.taper]
      rfl
    · exact hissues.steps
  · rw [hself]
    exact ⟨hissues.taper, hissues.steps, fun hc => (hissues.cells hc).trans (Channel.countWord_cells ..), hissues.sent, hissues.silent,
      hissues.posts⟩

/-- What the end of an admitted step leaves as its action made it. -/
theorem issued_ends {v : State} {y : Thread} (hst : stands s c tid opc x) (hv : Ahead s v c) (hy : SameStep x y)
    (hcells : tcmdTop (stepTcmd (s.chans[c].taper.word x)) ≠ 10 ∨ noRepairDue s c → v.cells = s.cells) (next : BitVec 10)
    (wait : BitVec 12) :
    (tcmdTop (stepTcmd (s.chans[c].taper.word x)) ≠ 10 ∨ noRepairDue s c → memKept s (v.finishStep c y true next wait))
    ∧ goesOn s (v.finishStep c y true next wait) c tid next
    ∧ (v.finishStep c y true next wait).chans[c].tsv = v.chans[c].tsv
    ∧ ∀ p : Pc, (v.finishStep c y true next wait).chans[c].pcs[p].calendar = v.chans[c].pcs[p].calendar := by
  obtain ⟨-, hgoes, -, hended⟩ := step_goes hst hv hy true next wait
  exact ⟨fun hc => finishStep_memKept (hcells hc) y true next wait, hgoes, hended.tsv, hended.calendar⟩

/-- The step of an ISSUE, refused, tried again or admitted. -/
theorem issueStep_eq (s : State) (c : Ch) (x : Thread) (w : BitVec 64) (done : State → Thread → State) : s.issueStep c x w done
    = if s.issueForbidden c x w then s.refuseStep c x else if s.issueWaits c x w then s
      else done (s.issueAction c x w).1 (s.issueAction c x w).2 := rfl

end

section
variable {s : State} {c : Ch} {tid : Nat} {x : Thread}

/-- ISSUE (Table 6-2). -/
theorem exec_issue (hst : stands s c tid 1 x) (w : BitVec 64) (hw : w = s.chans[c].taper.word x) :
    ∃ t, exec (.issue c tid) s = .next t
      ∧ (tcmdTop (stepTcmd w) ≠ 10 ∨ noRepairDue s c → memKept s t)
      ∧ (s.issueForbidden c x w = true → goesOn s t c tid (x.ptr + 1)
          ∧ t.chans[c].tsv = s.chans[c].tsv ∧ t.chans[c].pcs = s.chans[c].pcs
          ∧ t.chans[c].cnt.leaseRefused = bump s.chans[c].cnt.leaseRefused)
      ∧ (s.issueForbidden c x w = false → s.issueWaits c x w = true →
          t.chans[c].taper = s.chans[c].taper ∧ t.chans[c].tsv = s.chans[c].tsv ∧ t.chans[c].pcs = s.chans[c].pcs)
      ∧ (s.issueForbidden c x w = false → s.issueWaits c x w = false →
          t.chans[c].cnt.steps = bump s.chans[c].cnt.steps
          ∧ (s.chans[c].carries (tcmdTop (stepTcmd w)) = true →
              ∀ f, tsvFrame (tcmdTop (stepTcmd w)) (tcmdX (stepTcmd w)) (tcmdSlot (stepTcmd w)) s.sids
                (s.chans[c].stepAddr s.rows x (tcmdAsrc (stepTcmd w))) = some f → t.chans[c].tsv.frame = f)
          ∧ (s.chans[c].carries (tcmdTop (stepTcmd w)) = false → t.chans[c].tsv = s.chans[c].tsv)
          ∧ (dpcPcsel (stepDpc w) = 0 → ∀ act,
              chainOf (dpcDop (stepDpc w)) x (s.chans[c].stepAddr s.rows x (tcmdAsrc (stepTcmd w))) = some act →
              dpcDop (stepDpc w) ≠ 5 → dpcDop (stepDpc w) ≠ 6 →
              t.chans[c].pcs[(s.chans[c].stepAddr s.rows x (tcmdAsrc (stepTcmd w))).pc].calendar
                = s.chans[c].pcs[(s.chans[c].stepAddr s.rows x (tcmdAsrc (stepTcmd w))).pc].calendar ++ [act])) := by
  have hexec : exec (.issue c tid) s = execIssue c tid s := rfl
  unfold execIssue at hexec
  rw [runStep_of_stands hst, ← hw] at hexec
  have hu := begun_countWord s c x
  rw [issueStep_eq, hu.forbidden, hu.waits] at hexec
  generalize s.updCh c (·.countWord x) = u at hexec hu
  refine ⟨_, hexec, ?_⟩
  by_cases hforbid : s.issueForbidden c x w = true
  · obtain ⟨hmem, hgoes, htsv, hpcs, hcount⟩ := refuseStep_spec hst hu
    rw [if_pos hforbid]
    exact ⟨fun _ => hmem, fun _ => ⟨hgoes, htsv, hpcs, hcount⟩, fun hn => absurd hforbid (by rw [hn]; decide),
      fun hn => absurd hforbid (by rw [hn]; decide)⟩
  · rw [if_neg hforbid]
    by_cases hwaits : s.issueWaits c x w = true
    · rw [if_pos hwaits]
      refine ⟨fun _ => memKept_of_cells hu.cells, fun hy => absurd hy hforbid, fun _ _ => ?_, fun _ hn => absurd hwaits
          (by rw [hn]; decide)⟩
      rw [hu.chan]
      exact ⟨rfl, rfl, rfl⟩
    · rw [if_neg hwaits]
      obtain ⟨v, y, heq, hv, hy, hcells, hissues⟩ := issueAction_spec hu w
      rw [heq, branchStep_eq]
      obtain ⟨f, hf⟩ := branchTrue_snd v c y (stepBcnd (v.chans[c].taper.word y))
      rw [hf]
      have hgo := issued_ends (v := { v with fresh := f }) hst (hv.trans (before_fresh v c f).toAhead) hy (by rw [← hw]; exact hcells)
        (if (v.branchTrue c y (stepBcnd (v.chans[c].taper.word y))).1 then stepTgt (v.chans[c].taper.word y) else y.ptr + 1)
        (stepWcnt (v.chans[c].taper.word y))
      rw [← hw] at hgo
      obtain ⟨hmem, ⟨-, hsteps⟩, htsv, hcal⟩ := hgo
      refine ⟨hmem, fun hn => absurd hn hforbid, fun _ hn => absurd hn hwaits, fun _ _ => ⟨hsteps, fun hs f hf => ?_, fun hs => ?_,
        fun hsel act hact h5 h6 => ?_⟩⟩
      · rw [htsv]
        exact hissues.sent hs f hf
      · rw [htsv]
        exact hissues.silent hs
      · rw [hcal]
        exact hissues.posts hsel act hact h5 h6

/-- ISSUEIF (Table 6-2). -/
theorem exec_issueif (hst : stands s c tid 2 x) (w : BitVec 64) (hw : w = s.chans[c].taper.word x) :
    ∃ t, exec (.issueif c tid) s = .next t
      ∧ (tcmdTop (stepTcmd w) ≠ 10 ∨ noRepairDue s c → memKept s t)
      ∧ ((s.branchTrue c x (stepBcnd w)).1 = true → s.issueForbidden c x w = false → s.issueWaits c x w = false →
          goesOn s t c tid (x.ptr + 1)
          ∧ (s.chans[c].carries (tcmdTop (stepTcmd w)) = true →
              ∀ f, tsvFrame (tcmdTop (stepTcmd w)) (tcmdX (stepTcmd w)) (tcmdSlot (stepTcmd w)) s.sids
                (s.chans[c].stepAddr s.rows x (tcmdAsrc (stepTcmd w))) = some f → t.chans[c].tsv.frame = f))
      ∧ ((s.branchTrue c x (stepBcnd w)).1 = false → goesOn s t c tid (stepTgt w) ∧ t.chans[c].tsv = s.chans[c].tsv) := by
  have hexec : exec (.issueif c tid) s = execIssueif c tid s := rfl
  unfold execIssueif at hexec
  rw [runStep_of_stands hst, ← hw] at hexec
  dsimp only at hexec
  have hu := (begun_countWord s c x).branchTrue (stepBcnd w)
  rw [issueStep_eq, hu.forbidden, hu.waits, branchTrue_fst (sameBranch_countWord s c x)] at hexec
  generalize ((s.updCh c (·.countWord x)).branchTrue c x (stepBcnd w)).2 = u at hexec hu
  refine ⟨_, hexec, ?_⟩
  by_cases hb : (s.branchTrue c x (stepBcnd w)).1 = true
  · rw [if_pos hb]
    by_cases hforbid : s.issueForbidden c x w = true
    · rw [if_pos hforbid]
      exact ⟨fun _ => (refuseStep_spec hst hu).1, fun _ hn => absurd hforbid (by rw [hn]; decide), fun hn => absurd hb (by rw [hn]; decide)⟩
    · rw [if_neg hforbid]
      by_cases hwaits : s.issueWaits c x w = true
      · rw [if_pos hwaits]
        exact ⟨fun _ => memKept_of_cells hu.cells, fun _ _ hn => absurd hwaits (by rw [hn]; decide),
          fun hn => absurd hb (by rw [hn]; decide)⟩
      · rw [if_neg hwaits]
        obtain ⟨v, y, heq, hv, hy, hcells, hissues⟩ := issueAction_spec hu w
        rw [heq]
        have hgo := issued_ends hst hv hy (by rw [← hw]; exact hcells) (x.ptr + 1) (stepWcnt w)
        rw [← hw] at hgo
        obtain ⟨hmem, hgoes, htsv, -⟩ := hgo
        refine ⟨hmem, fun _ _ _ => ⟨hgoes, fun hs f hf => ?_⟩, fun hn => absurd hb (by rw [hn]; decide)⟩
        rw [htsv]
        exact hissues.sent hs f hf
  · rw [if_neg hb]
    obtain ⟨hmem, -, hgoes, -, hended⟩ := step_ends hst hu.toBefore (.refl x) false (stepTgt w) 0
    refine ⟨fun _ => hmem, fun hy => absurd hy hb, fun _ => ⟨hgoes, hended.tsv.trans ?_⟩⟩
    rw [hu.chan]
    rfl

end

/-- Settles O21: ISSUE and ISSUEIF differ only in what follows the action of an admitted step; the action itself is taken apart into
the command's effect, its frame and the data path's actions. -/
theorem taperIssueSendsFrame : Obligations.TaperIssueSendsFrame := by
  unfold Obligations.TaperIssueSendsFrame
  intro c tid x s w hw
  exact ⟨fun hst => exec_issue hst w hw, fun hst => exec_issueif hst w hw⟩

end Sys2Proof.Machine
